-- ==== Sys2Proof/Word.lean ====
section
/-!
DEFINITION. Word.lean: the word types of the model. BAR0 registers are 32 bits wide, little-endian, bit 0 least
significant (R13). Everything that could need mending (bit fields, sign extension, byte order) is in
Machine/Bits.lean; this file holds the types only.
-/

namespace Sys2Proof

/-- A 32-bit register or table word (R13). -/
abbrev Word := BitVec 32

/-- A byte of a buffer, a packet or an engine memory. -/
abbrev Byte := BitVec 8

end Sys2Proof
end

