-- ==== Sys2Proof/Syntax.lean ====
section
/-!
DEFINITION. Syntax.lean: the commands of the block, one constructor per row of spec/opcode_table.json, with the row's
operands: who asks, which instance, what is written, and, for an event, what the module observes as it happens.
-/

namespace Sys2Proof

/-- Who asks for an access, identified by the path it uses (R24). -/
inductive Requester
  | host | i2c | dealer | field
  | eng (k : Fin 8)
  deriving DecidableEq, Repr

/-- The owner ID of a requester (R24). -/
def Requester.id : Requester → Nat
  | .host => 1
  | .i2c => 2
  | .dealer => 3
  | .field => 4
  | .eng k => 0x10 + k.val

/-- The figures that a stream's receiver has computed over a millisecond, with the averages its registers then show
(R156, R157, R149): SNR, EVM, BER, GMI and margin as averaged, margin, SNR and BER of the millisecond itself, DGD, PDL, the
frequency offset and its rate, all in the units of the registers. -/
structure Quality where
  snr : Nat
  evm : Nat
  ber : Nat
  gmi : Nat
  margin : Int
  margin1 : Int
  snr1 : Nat
  ber1 : Nat
  dgd : Nat
  pdl : Nat
  fo : Int
  foRate : Int
  deriving DecidableEq, Repr

/-- A received line frame or subcarrier frame as the framer sees it (R198, R201, R194): the offset and hypothesis tried
in SEARCH; the alignment bits there or, once held, at the held offset and hypothesis, with those at the offset before
and after; the frame's coded overhead bits (512, or 8 of a subcarrier frame); and, in Z400, the agreement's frame state
and whether its multiframe is locked. -/
structure FrameRx where
  off : Nat
  hyp : Nat
  word : Nat
  before : Nat
  after : Nat
  oh : List Bool
  zState : Nat
  zLock : Bool
  deriving DecidableEq, Repr

/-- An error that the SRAM patrol finds (R413): the page of the block, the address and unit, engine SRAM or not,
uncorrectable or not. -/
structure SramErr where
  page : Nat
  addr : Nat
  unit : Nat
  eng : Bool
  ue : Bool
  deriving DecidableEq, Repr

/-- A suit frame at its read-out time (R216, R222, R223): a word of it comes from errored line payload; its header word
under the map in use, the announced map and the previous map; received by its read-out time. -/
structure FrameCopy where
  line : Bool
  hdr : Nat
  hdrNext : Nat
  hdrPrev : Nat
  inTime : Bool
  deriving DecidableEq, Repr

/-- The slots of a suit record that carry its fields (R219): slots 128 + 4j, 129 + 4j and 130 + 4j. -/
structure SuitRecord where
  a : BitVec 64
  b : BitVec 64
  c : BitVec 64
  deriving DecidableEq, Repr

/-- Where the default program of a hub's cluster places the grant of a leaf, and how long it makes it (R254). -/
structure RoundGrant where
  leaf : Nat
  sc : Nat
  start : Nat
  len : Nat
  deriving DecidableEq, Repr

/-- A downstream map entry that the default program of a hub's cluster makes (R254, R255). -/
structure RoundFrames where
  leaf : Nat
  group : Nat
  first : Nat
  count : Nat
  deriving DecidableEq, Repr

/-- The figures of a received burst (R285): SNR, BER and power with the averages that the leaf's figures then show, in the
units of table LEAFQ; its codewords, uncorrectable ones, corrected bits, those that ran to the iteration limit, outer
corrections (R181). -/
structure BurstFigures where
  snr : Nat
  ber : Nat
  power : Int
  cw : Nat
  unc : Nat
  cor : Nat
  itmax : Nat
  outer : Nat
  deriving DecidableEq, Repr

/-- An action of a stack deal as DEAL_PREPARE carries it (R59): a register write or a block command. -/
inductive StackAct
  | write (a : BitVec 26) (v : Word)
  | cmd (page arg : Word) (code : Nat)
  deriving DecidableEq, Repr

/-- A Velaug block as received (R448, R452): its header, its 40 words, whether its codeword was corrected or uncorrectable,
and whether it is the last of its frame. -/
structure VlgBlock where
  header : BitVec 20
  words : List (BitVec 128)
  cor : Bool
  unc : Bool
  last : Bool
  deriving DecidableEq, Repr

/-- Which page's raw conditions a 10 µs sample takes (R202), with what a Velaug port sees at that instant: clock lock,
aligned lanes, and the peer's request for idle (R449, R450). -/
inductive DefectPage
  | lfr (c : Fin 4)
  | scb (c : Fin 4) (sc : Fin 64)
  | suit
  | cip (c : Fin 4)
  | dpl
  | vlg (p : Fin 4) (clk : Bool) (lanes : BitVec 8) (idle : Bool)
  deriving DecidableEq, Repr

/-- How a boot step ends (R483, R488): its cause (0 done) and the unit named in the record; the units that failed, of a
unit step; and what DDR_TRAIN finds (R401): pairs populated, bin, GB of a DIMM, ranks. -/
structure StepEnd where
  cause : Nat
  unit : Nat
  units : Nat
  pairs : Nat
  bin : Nat
  gb : Nat
  ranks : Nat
  deriving DecidableEq, Repr

/-- The registers that select a shaping profile or a subcarrier set (R99). -/
inductive ShapeReg
  | txdShape | txdScSel | fecShape
  deriving DecidableEq, Repr


/-- The commands and events of the HQ9640 (spec/opcode_table.json); each docstring is the row's own summary. -/
inductive Instr where
  /-- REGISTER_WRITE (R13): A BAR0 register write that has no row of its own sets the register as its access type allows, with the shared checks of size, ownership, power domain and soft reset applied. -/
  | registerWrite (src : Requester) (a : BitVec 26) (bytes : List Byte)
  /-- EMPTY_SLOT_ACCESS (R14): An access to a BAR0 slot that holds no page reads 0 or is ignored, and is counted in MGT.BAD_ACC_CNT with its address. -/
  | emptySlotAccess (a : BitVec 26) (write : Bool)
  /-- BAR2_WRITE (R11): A BAR2 write reaches engine memory, or is ignored and counted when it targets a closed cluster or a cluster that is loading. -/
  | bar2Write (a : BitVec 26) (bytes : List Byte)
  /-- ERR_CLR (R17): A write of PAGE_CTL.ERR_CLR clears ERR_CNT and ERR_LAST of the page. -/
  | errClr (src : Requester) (page : BitVec 14) (v : Word)
  /-- SRST (R20): A write of PAGE_CTL.SRST stops the block and returns its registers to reset values, or is refused with SRST_REFUSED while a deal is pending for the page. -/
  | srst (src : Requester) (page : BitVec 14) (v : Word)
  /-- SOFT_RESET_DONE (R20): The block soft reset completes within 10 µs, SRST_BUSY clears, and the block restarts under its own controls. -/
  | softResetDone (page : BitVec 14)
  /-- PAGE_ENABLE_WRITE (R21): A write of PAGE_CTL.EN holds the block idle or resumes it under its own controls, and is ignored on the pages whose EN is fixed. -/
  | pageEnableWrite (src : Requester) (page : BitVec 14) (v : Word)
  /-- INT_STAT_CLEAR (R30): A W1C write to INT_STAT clears event bits and updates the pending state, the group registers, INT_N and INT_FIRST. -/
  | intStatClear (src : Requester) (page : BitVec 14) (v : Word)
  /-- INT_FORCE (R21): A write of 1 to INT_FORCE sets the matching INT_STAT bit as if its event had occurred. -/
  | intForce (src : Requester) (page : BitVec 14) (v : Word)
  /-- INTERRUPT_EVENT (R30): A block event sets its INT_STAT bit; with INT_EN set, the group registers, INT_SUM, the MSI-X message and INT_N follow within 1 µs. -/
  | interruptEvent (page : BitVec 14) (n : Fin 32)
  /-- OWNER_WRITE (R24): A write of OWNER claims the page lock, releases it, or is refused with NOT_OWNER. -/
  | ownerWrite (src : Requester) (page : BitVec 14) (v : Word)
  /-- LOCK_BREAK (R25): A host write of MGT.LOCK_BREAK frees the OWNER lock of the named page and records LOCK_BROKEN there, or is refused. -/
  | lockBreak (src : Requester) (v : Word)
  /-- STAGED_WRITE (R43): A write to a page with DEAL_CTL.STAGE set goes to the staging shadow of the named deal, or is refused with NOT_STAGING or NOT_STAGEABLE. -/
  | stagedWrite (src : Requester) (a : BitVec 26) (v : Word)
  /-- WINDOW_READ (R27): A read of WIN_DATA0 copies the whole selected table entry into the read buffer, and AUTO_INC advances the index. -/
  | windowRead (src : Requester) (page : BitVec 14)
  /-- WINDOW_WRITE (R27): A write to a WIN_DATA word goes straight into the selected table entry, or is refused with WINDOW_RANGE beyond the table. -/
  | windowWrite (src : Requester) (page : BitVec 14) (w : Fin 16) (v : Word)
  /-- I2C_WRITE_TRANSFER (R31): An I²C write transfer carries an offset and optionally 4 data bytes, and is served within the I²C requester's access limits. -/
  | i2cWriteTransfer (bytes : List Byte)
  /-- I2C_READ_TRANSFER (R31): An I²C read transfer after an offset-only write returns 4 bytes of the addressed register. -/
  | i2cReadTransfer
  /-- NOW_LO_READ (R34): A read of TIME.NOW_LO latches NOW_HI and NOW_FRAC of the same instant. -/
  | nowLoRead (src : Requester)
  /-- STEP_GO (R35): A write of TIME.STEP_CMD.GO latches the step offset and starts a device-time step, or is refused with STEP_BUSY. -/
  | stepGo (src : Requester)
  /-- STEP_DONE (R36): The step takes effect in all islands at one instant, runs any ARMED deals it passed with STEPPED set, and closes open archive records. -/
  | stepDone
  /-- CAR_MF_NUM_READ (R39): A read of TIME.CARc_MF_NUM latches the multiframe number most recently started and its device time. -/
  | carMfNumRead (src : Requester) (c : Fin 4)
  /-- TX_MULTIFRAME_START (R39): A transmit multiframe starts on a carrier's timeline; marks are sent, and deals aligned to it or in LATE execute. -/
  | txMultiframeStart (c : Fin 4)
  /-- TX_LINE_FRAME_START (R112): A transmit line frame starts, at which a run chain, a fade or a deal aligned to FRAME takes effect. -/
  | txLineFrameStart (c : Fin 4) (clips : Nat)
  /-- DEAL_OPEN (R40): DEAL_CMD OPEN binds the selected ID to an entry in STAGING, or is refused with NO_SLOT, DEAL_STATE or ID_RESERVED. -/
  | dealOpen (src : Requester)
  /-- DEAL_ARM (R47): DEAL_CMD ARM runs the ordered checks and moves the deal to ARMED, LATE or REFUSED. -/
  | dealArm (src : Requester)
  /-- DEAL_CANCEL (R47): DEAL_CMD CANCEL discards the deal's actions and moves it to CANCELLED with reason HOST_CANCEL. -/
  | dealCancel (src : Requester)
  /-- DEAL_RELEASE (R47): DEAL_CMD RELEASE frees an entry in DONE, REFUSED or CANCELLED. -/
  | dealRelease (src : Requester)
  /-- CMD_CODE (R44): A write of CMD_CODE appends the block command formed from CMD_PAGE and CMD_ARG to the selected deal. -/
  | cmdCode (src : Requester) (code : Byte)
  /-- DEAL_EXECUTE (R50): A deal reaches its target and all its actions take effect together; actions on pages that are not ON are dropped. -/
  | dealExecute
  /-- MARK_RECEIVED (R56): A received deal mark binds a matching remote-triggered deal once MIN_MARKS agree, or raises MARK_UNMATCHED. -/
  | markReceived (c : Fin 4) (tag : Byte) (n : Word) (left : Nat)
  /-- NO_MARK (R56): A remote-triggered deal still unbound when device time reaches its backstop is refused with NO_MARK. -/
  | noMark (id : Byte)
  /-- SWAP_BANK (R44): The block command SWAP_BANK requests the named coefficient or anchor bank active on RXF, TXD, RXM, SNS or SCB. -/
  | swapBank (page : BitVec 14) (arg : Word)
  /-- KEY_ROLL_TX (R300): The block command KEY_ROLL_TX moves a transmit association to its ARMED sibling key, or is refused with NO_NEXT. -/
  | keyRollTx (c : Fin 4) (arg : Word)
  /-- KEY_ROLL_RX (R301): The block command KEY_ROLL_RX makes a receive association's sibling key current, or is refused with NO_NEXT. -/
  | keyRollRx (c : Fin 4) (arg : Word)
  /-- SUIT_RESIZE (R224): The block command SUIT_RESIZE checks a resize plan and starts the member protocol, queues it, or refuses it with PLAN_BAD. -/
  | suitResize (arg : Word) (others : List Nat)
  /-- GRANT_MAP_SWAP (R261): The block command GRANT_MAP_SWAP makes the other grant-map bank active at the next round boundary. -/
  | grantMapSwap (arg : Word)
  /-- PD_SET (R467): The block command PD_SET requests a state for a power domain after the deal's register actions. -/
  | pdSet (id : Byte) (args : List Word)
  /-- CALL (R521): The block command CALL requests a call from the DEAL source. -/
  | call
  /-- PULSE_REALIGN (R396): The block command PULSE_REALIGN moves the next pulse of a REFOUT to its next target. -/
  | pulseRealign (arg : Word)
  /-- DEAL_PREPARE (R59): A stack member receives a stack deal, opens and stages it, and answers ACCEPT or REJECT. -/
  | dealPrepare (id : Byte) (time : BitVec 64) (num : Word) (cfg : Word) (acts : List StackAct)
  /-- DEAL_ACCEPT (R59): The dealer receives a member's ACCEPT and sends COMMIT once every member has accepted. -/
  | dealAccept (pos : Fin 4) (id : Byte)
  /-- DEAL_REJECT (R59): The dealer receives a REJECT, cancels the deal on every member and refuses its own copy with STACK_REJECT. -/
  | dealReject (pos : Fin 4) (id : Byte) (reason : Fin 16)
  /-- DEAL_COMMIT (R59): A member receives COMMIT and applies ARM to the stack deal. -/
  | dealCommit (id : Byte)
  /-- DEAL_CANCEL_MSG (R59): A member receives DEAL_CANCEL and cancels the stack deal. -/
  | dealCancelMsg (id : Byte)
  /-- PREPARE_TIMEOUT (R59): A member has not replied within 1 ms, and the dealer cancels the stack deal on every member. -/
  | prepareTimeout (id : Byte)
  /-- LASER_COLD_START (R65): A LASER_CTL write that sets LASER_EN from 0 to 1 latches CH_N and enters WARMUP, or is refused with OUT_OF_BAND. -/
  | laserColdStart (src : Requester) (c : Fin 4) (v : Word)
  /-- LASER_DISABLE (R68): A write of LASER_EN = 0 shuts the SOA, turns the laser off and drops any queued tune. -/
  | laserDisable (src : Requester) (c : Fin 4) (v : Word)
  /-- TUNE_GO (R69): A TUNE_GO starts a channel change from LOCKED or HOLD, queues it during warm-up or tuning, or is refused. -/
  | tuneGo (src : Requester) (c : Fin 4) (v : Word)
  /-- TX_EN_WRITE (R74): A write of LASER_CTL.TX_EN allows or shuts the SOA, and is counted with TX_IN_MON in MON. -/
  | txEnWrite (src : Requester) (c : Fin 4) (v : Word)
  /-- FOLLOW_WRITE (R70): A write of LASER_CTL.FOLLOW starts or ends leaf follow of the hub's carrier. -/
  | followWrite (src : Requester) (c : Fin 4) (v : Word)
  /-- LASER_FINE_WRITE (R66): A write of LASER_FINE slews the laser to the new offset while LOCKED, stores it otherwise, or is refused with FINE_RANGE. -/
  | laserFineWrite (src : Requester) (c : Fin 4) (v : Word)
  /-- TX_PWR_SET_WRITE (R73): A write of TX_PWR_SET ramps the SOA to the new power, or is refused with PWR_RANGE. -/
  | txPwrSetWrite (src : Requester) (c : Fin 4) (v : Word)
  /-- TEC_SETTLED (R68): The TEC has settled and the laser leaves WARMUP for TUNING towards the latched CH_N. -/
  | tecSettled (c : Fin 4) (temp : Int) (cur : Nat)
  /-- TUNING_DONE (R68): The tuning sections are set and the laser enters LOCKING with its wavelength locker. -/
  | tuningDone (c : Fin 4) (err : Int)
  /-- LASER_LOCKED (R68): The locker error has stayed within ±150 MHz for 1 ms; the laser enters LOCKED, opens the SOA or serves a queued tune. -/
  | laserLocked (c : Fin 4) (err : Int)
  /-- LOCK_ATTEMPT_TIMEOUT (R68): No lock within 20 ms sends the laser back to TUNING on the first attempt and to FAULT on the second. -/
  | lockAttemptTimeout (c : Fin 4)
  /-- LASER_UNLOCK (R68): The locker error passes OFF_GRID in LOCKED; the SOA shuts within 10 µs and the laser enters HOLD. -/
  | laserUnlock (c : Fin 4) (err : Int)
  /-- HOLD_TIMEOUT (R68): The laser has not relocked within 100 ms of entering HOLD and enters FAULT. -/
  | holdTimeout (c : Fin 4)
  /-- TX_AT_TARGET (R73): The SOA ramp brings the power within 0.2 dB of TX_PWR_SET. -/
  | txAtTarget (c : Fin 4) (dbm : Int)
  /-- BIAS_LOOP_LOCKED (R71): A modulator bias loop converges and sets its MZM_STAT.LOCKED bit. -/
  | biasLoopLocked (c : Fin 4) (loop : Fin 6)
  /-- MZM_UNLOCK (R71): A bias loop that had lock loses it and raises MZM_UNLOCK while the SOA stays open. -/
  | mzmUnlock (c : Fin 4) (loop : Fin 6)
  /-- FOLLOW_OK (R70): The follow offset has stayed within ±50 MHz for 1 ms; FOLLOW_OK sets and the SOA may open. -/
  | followOk (c : Fin 4) (fine : Int)
  /-- FOLLOW_LOST (R70): The follow offset exceeds ±200 MHz or the fine range is exhausted; FOLLOW_OK clears and the SOA shuts. -/
  | followLost (c : Fin 4) (fine : Int)
  /-- RX_POWER_UPDATE (R76): The receive power monitors update every 10 µs and set or clear LOS_RAW and OVERLOAD. -/
  | rxPowerUpdate (c : Fin 4) (x : Int) (y : Int) (total : Int) (gain : Nat)
  /-- FG_CAL_GO (R81): FG_CAL_GO starts foreground calibration with the SOA shut, or is refused with FG_TX_ON. -/
  | fgCalGo (src : Requester) (c : Fin 4) (v : Word)
  /-- FG_CAL_DONE (R81): Foreground calibration ends with FG_DONE or with FG_FAIL and FAIL_MAP. -/
  | fgCalDone (c : Fin 4) (fail : Nat) (die : Int) (trims : List Word)
  /-- BG_CAL_UPDATE (R82): Background calibration moves each trim by at most one step and increments BG_CAL_CNT. -/
  | bgCalUpdate (c : Fin 4) (die : Int) (moves : List (Nat × Nat × Nat × Bool))
  /-- STORE_GO (R84): STORE_GO starts writing the trims in use as the stored calibration record through cluster 7. -/
  | storeGo (src : Requester) (c : Fin 4) (v : Word)
  /-- STORE_DONE (R84): The calibration record is written and STORED_VALID set, or the write fails with STORE_FAIL. -/
  | storeDone (c : Fin 4) (ok : Bool)
  /-- LOAD_STORED (R84): LOAD_STORED loads the stored record into the trims, or is refused with NO_STORED. -/
  | loadStored (src : Requester) (c : Fin 4) (v : Word)
  /-- CHECK_GO (R85): CHECK_GO starts the converter calibration check against the calibration tone. -/
  | checkGo (src : Requester) (c : Fin 4) (v : Word)
  /-- CHECK_DONE (R85): The calibration check reports the worst ENOB and sets CHECK_FAIL if a limit is missed. -/
  | checkDone (c : Fin 4) (enob : List Nat)
  /-- CAP_GO (R86): CAP_GO starts a raw sample capture, or is refused with NO_SCOPE outside a raw-converter session. -/
  | capGo (src : Requester) (c : Fin 4) (v : Word)
  /-- CAP_DONE (R86): The capture of 65,536 samples completes and CAP_DONE is raised. -/
  | capDone (c : Fin 4) (samples : List Word)
  /-- CLK_UNLOCK (R80): The converter sample-clock synthesiser loses lock; CLK_UNLOCK is raised and the SOA shuts until lock returns. -/
  | clkUnlock (c : Fin 4)
  /-- CLK_RELOCK (R80): The converter sample-clock synthesiser regains lock and the SOA may reopen. -/
  | clkRelock (c : Fin 4)
  /-- PROFILE_VALIDATE (R97): KMAX, VALID and H_EFF of a profile entry are computed within 10 µs of the last write to it. -/
  | profileValidate (c : Fin 4) (fec : Bool) (e : Fin 16)
  /-- PROFILE_SELECT (R99): A write of TXD_SHAPE.PROFILE, TXD_SC_SEL.SET or FEC_SHAPE.PROFILE selects a profile or set, or is refused with PROFILE_BAD. -/
  | profileSelect (src : Requester) (c : Fin 4) (reg : ShapeReg) (v : Word)
  /-- SHAPING_SWITCH (R100): A selected profile or subcarrier set takes effect at the first shaping group after the next multiframe start. -/
  | shapingSwitch (c : Fin 4) (rx : Bool)
  /-- TXD_SWAP_REQ (R110): A write of TXDc SWAP_REQ swaps the bank at once, starts a fade, queues the request, or refuses it with SWAP_LIVE. -/
  | txdSwapReq (src : Requester) (c : Fin 4) (v : Word)
  /-- TXD_FADE_END (R110): A transmit cross-fade completes and a queued swap request is served. -/
  | txdFadeEnd (c : Fin 4)
  /-- TX_RUN_WRITE (R112): A write of TXD_CTL.TX_RUN starts the chain at the next line frame boundary of the timeline, or holds the DAC inputs at zero. -/
  | txRunWrite (src : Requester) (c : Fin 4) (v : Word)
  /-- CD_BANK_WRITE (R119): A write of RXFc BANKb_CD starts the bank's computation, or is refused with BANK_BUSY, ACQ_BUSY, TRACK_ON or CD_RANGE. -/
  | cdBankWrite (src : Requester) (c : Fin 4) (b : Fin 2) (v : Word)
  /-- CD_BANK_READY (R119): A bank's coefficient computation ends, READY sets, and a request waiting for it is served. -/
  | cdBankReady (c : Fin 4) (b : Fin 2)
  /-- RXF_SWAP_REQ (R121): A write of RXFc SWAP_REQ swaps the bank, waits, or is refused with ACQ_BUSY or SWAP_LIVE. -/
  | rxfSwapReq (src : Requester) (c : Fin 4) (v : Word)
  /-- CD_BLOCK_BOUNDARY (R553): An equaliser block boundary arrives, at which a hard swap takes effect or a fade starts. -/
  | cdBlockBoundary (c : Fin 4)
  /-- CD_FADE_END (R122): An equaliser cross-fade completes; a waiting request is served and a deferred LOAD_MODE takes effect. -/
  | cdFadeEnd (c : Fin 4)
  /-- SCAN_GO (R127): CD_CTL.SCAN_GO starts a dispersion scan, or is refused with SCAN_BUSY. -/
  | scanGo (src : Requester) (c : Fin 4) (v : Word)
  /-- SCAN_DONE (R126): A scan ends with CD_EST and CONF, and a successful result may be loaded into the inactive bank. -/
  | scanDone (c : Fin 4) (est : Int) (conf : Nat)
  /-- RX_RUN_WRITE (R128): A write of RXF_CTL.RX_RUN starts acquisition in WAIT, or returns it to IDLE with the equaliser muted. -/
  | rxRunWrite (src : Requester) (c : Fin 4) (v : Word)
  /-- ACQ_TRY_START (R128): LOS_RAW has been 0 for 10 µs and 10 ms have passed since the last ACQ_FAIL, so acquisition tries the active bank. -/
  | acqTryStart (c : Fin 4)
  /-- ACQ_TRIAL_DONE (R128): A bank trial ends accepted or rejected, and acquisition moves to TIMING, TRY_ALT, SCAN or WAIT. -/
  | acqTrialDone (c : Fin 4) (best : Int) (conf : Nat)
  /-- TR_LOCK (R132): The timing loop meets its lock condition for 10 µs, and acquisition enters RUN with ACQ_DONE. -/
  | trLock (c : Fin 4) (ppm : Int)
  /-- TIMING_TIMEOUT (R128): No TR_LOCK within the TIMING limit sends acquisition to WAIT with ACQ_FAIL. -/
  | timingTimeout (c : Fin 4)
  /-- TR_LOCK_LOST (R128): The timing error exceeds 0.15 UI rms for 10 µs in RUN, and acquisition returns to TRY_ACTIVE. -/
  | trLockLost (c : Fin 4)
  /-- TR_SLIP (R134): The interpolator steps by one whole output sample; TR_SLIP_CNT counts it. -/
  | trSlip (c : Fin 4)
  /-- CD_MON_UPDATE (R129): CD_RESID and CD_MON update every 10 µs in RUN. -/
  | cdMonUpdate (c : Fin 4) (resid : Int) (ppm : Int)
  /-- TRACK_EVENT (R130): The residual dispersion has exceeded THR for HOLD; TRACK_EVENT is raised and tracking retargets the inactive bank. -/
  | trackEvent (c : Fin 4)
  /-- RXM_RUN_WRITE (R151): A write of RXM_CTL.RUN starts the receiver state machine or returns it to IDLE with taps cleared. -/
  | rxmRunWrite (src : Requester) (c : Fin 4) (v : Word)
  /-- COARSE_FREQ_DONE (R149): The coarse frequency estimate brings the offset within ±50 MHz, and the receiver enters BLIND with anchor taps. -/
  | coarseFreqDone (c : Fin 4) (sc : Option (Fin 64)) (mhz : Int)
  /-- BLIND_CONVERGED (R151): Blind adaptation converges and the receiver enters CONVERGE. -/
  | blindConverged (c : Fin 4) (sc : Option (Fin 64))
  /-- MIMO_FAIL (R151): BLIND does not converge or RECOVER does not end within 200 µs, and the receiver returns to START. -/
  | mimoFail (c : Fin 4) (sc : Option (Fin 64))
  /-- TRACK_SNR_LOSS (R151): The pilot SNR has stayed below threshold plus LOST_OFS for 20 µs in TRACK, and the receiver enters RECOVER. -/
  | trackSnrLoss (c : Fin 4) (sc : Option (Fin 64)) (snr : Int)
  /-- RECOVER_DONE (R151): The pilot SNR has reached threshold plus OFS for 2 µs in RECOVER, and the receiver returns to TRACK. -/
  | recoverDone (c : Fin 4) (sc : Option (Fin 64)) (snr : Int)
  /-- FREEZE_EXIT (R151): RXF returns to RUN and the frozen receiver continues in CONVERGE or restarts in START per FREEZE_MAX. -/
  | freezeExit (c : Fin 4) (sc : Option (Fin 64))
  /-- ADAPTATION_BLOCK (R140): Each 256-symbol block updates the MIMO taps from pilots, and from decisions while its quality gate is open. -/
  | adaptationBlock (c : Fin 4) (sc : Option (Fin 64)) (snr : Int) (slip : Bool) (adapted : List Word)
  /-- LEAK_START (R142): The gate has stayed closed for longer than IDLE and the stream starts leaking towards the anchor bank. -/
  | leakStart (c : Fin 4) (sc : Option (Fin 64))
  /-- ROTATION_UPDATE (R143): The rotation tracker updates its rotation every 32 symbols and reports the rotation rate. -/
  | rotationUpdate (c : Fin 4) (rate : Nat) (phase : Nat) (supp : Nat) (harm : List Word)
  /-- ROT_STAT_READ (R145): A read of ROT_STAT returns PEAK and resets it to the current RATE. -/
  | rotStatRead (src : Requester) (c : Fin 4)
  /-- HP_ENABLE_WRITE (R147): A write of HP_CFG.EN moves the predictor to SEARCH or to OFF with coefficients cleared. -/
  | hpEnableWrite (src : Requester) (c : Fin 4) (v : Word)
  /-- HP_SEARCH_DONE (R147): After 1 s of tracker rotation the predictor locks a frequency loop on a line in 45–65 Hz or searches again. -/
  | hpSearchDone (c : Fin 4) (freq : Nat) (amp : Nat)
  /-- HP_LOCK (R147): The fundamental has stayed within ±0.02 Hz for 2 s, and the predictor enters LOCKED and applies correction. -/
  | hpLock (c : Fin 4) (freq : Nat) (amp : Nat)
  /-- HP_LOCKING_TIMEOUT (R147): LOCKING has not met its condition within 10 s, and the predictor returns to SEARCH. -/
  | hpLockingTimeout (c : Fin 4)
  /-- HP_UNLOCK (R147): The fundamental has stayed below MIN_AMP/2 for 1 s, and the predictor enters HOLD. -/
  | hpUnlock (c : Fin 4) (amp : Nat)
  /-- HP_HOLD_TIMEOUT (R147): HOLD_MAX seconds pass in HOLD, and the predictor returns to SEARCH with coefficients cleared. -/
  | hpHoldTimeout (c : Fin 4)
  /-- HP_ADAPT_RESUME (R148): The rotation rate has stayed below ROT_THR for 10 ms, and predictor adaptation resumes. -/
  | hpAdaptResume (c : Fin 4)
  /-- CPR_SLIP (R150): A blind phase search slip is detected at a pilot and corrected from there onwards. -/
  | cprSlip (c : Fin 4) (sc : Option (Fin 64))
  /-- RXM_SWAP_REQ (R152): A write of RXMc SWAP_REQ swaps the anchor bank, starts a fade, queues the request, or refuses it. -/
  | rxmSwapReq (src : Requester) (c : Fin 4) (v : Word)
  /-- ANCHOR_FADE_END (R152): An anchor cross-fade completes and a queued swap is served. -/
  | anchorFadeEnd (c : Fin 4) (sc : Option (Fin 64))
  /-- ANCHOR_SAVE (R154): ANCHOR_CTL.SAVE copies the live taps into the inactive anchor bank, or is refused with NOT_TRACK or BANK_BUSY. -/
  | anchorSave (src : Requester) (c : Fin 4) (v : Word)
  /-- QUALITY_UPDATE (R156): Each 1 ms the receiver computes SNR, EVM, pre-FEC BER, GMI and margin, and SD_RAW and EXC_RAW are evaluated. -/
  | qualityUpdate (c : Fin 4) (sc : Option (Fin 64)) (q : Quality)
  /-- QUALITY_READ (R157): A read of Q_SNR or Q_BER returns the worst 1 ms value and resets it. -/
  | qualityRead (src : Requester) (c : Fin 4) (sc : Option (Fin 64)) (ber : Bool)
  /-- FEC_MODE_WRITE (R167): A write of FEC_MODE sets a mode change waiting or in effect, or is refused with MODE_MISMATCH or MODE_LIVE. -/
  | fecModeWrite (src : Requester) (c : Fin 4) (v : Word)
  /-- MODE_TAKE_EFFECT (R168): A waiting mode or receive-mode change takes effect at the next code-period start and raises MODE_DONE. -/
  | modeTakeEffect (c : Fin 4) (rx : Bool)
  /-- CODEWORD_DECODE (R179): A codeword is decoded by layered min-sum and the outer BCH, and the FEC counters are updated. -/
  | codewordDecode (c : Fin 4) (sc : Option (Fin 64)) (lam : List Int)
  /-- TV_GO (R185): TV_GO passes the stored test codewords through the decoder, or is refused with TV_BUSY. -/
  | tvGo (src : Requester) (c : Fin 4) (v : Word)
  /-- TV_DONE (R185): The decoder test run ends with TV_ERRS and TV_FAIL. -/
  | tvDone (c : Fin 4) (errs : Nat)
  /-- COUNTER_LO_READ (R186): A read of a 48-bit counter's LO register latches its HI register. -/
  | counterLoRead (src : Requester) (a : BitVec 26)
  /-- LINE_FRAME_RECEIVED (R199): A received line or subcarrier frame is tested against the FAW and its overhead, moving the framer state machine. -/
  | lineFrameReceived (c : Fin 4) (sc : Option (Fin 64)) (f : FrameRx)
  /-- RX_MFN_READ (R200): A read of RX_MFN latches RX_FN. -/
  | rxMfnRead (src : Requester) (c : Fin 4)
  /-- DEFECT_SAMPLE (R202): Each 10 µs the raw conditions are sampled and integrated into defects, raising DEF_SET or DEF_CLR. -/
  | defectSample (d : DefectPage)
  /-- PM_SECOND (R206): A device-time second completes and is judged ES, SES and unavailable, with counting delayed 10 s. -/
  | pmSecond (c : Fin 4) (sc : Option (Fin 64))
  /-- PM_BIN_CLOSE (R209): A 15-minute or 24-hour bin closes 10 s after its end and enters history. -/
  | pmBinClose (c : Fin 4) (sc : Option (Fin 64)) (day : Bool)
  /-- PM_CMD_CLR (R209): PM_CMD.CLR clears both current bins and marks them SUSPECT. -/
  | pmCmdClr (src : Requester) (c : Fin 4) (sc : Option (Fin 64)) (v : Word)
  /-- SUIT_RECORD_RECEIVED (R220): A suit record message received on two consecutive multiframes drives the resize and failure protocol. -/
  | suitRecordReceived (c : Fin 4) (r : SuitRecord)
  /-- TMF_RECEIVED (R221): A member's TMF is written into the deskew store by SSN and its skew measured. -/
  | tmfReceived (n : Fin 256) (k : Fin 16) (ssn : Word)
  /-- SUIT_FRAME_READOUT (R222): At its read-out time a suit frame is delivered, merged from the protection pair, or marked errored. -/
  | suitFrameReadout (n : Fin 256) (fa : FrameCopy) (fb : FrameCopy)
  /-- SUIT_ENABLE (R237): Setting EN of a suit entry activates its enabled members, or is refused with SOURCE_BUSY. -/
  | suitEnable (src : Requester) (n : Fin 256) (v : Word)
  /-- MEMBER_WRITE (R215): A member table write is accepted, or refused with TS_OVERLAP or MEMBER_ACTIVE. -/
  | memberWrite (src : Requester) (e : Fin 4096) (v : Word)
  /-- NO_READY (R225): The SSN reaches S − 8 without READY and the resize goes to ABORTING. -/
  | noReady (n : Fin 256)
  /-- RESIZE_DONE (R225): The SSN reaches S in COMMIT and the new map is used from TMF S. -/
  | resizeDone (n : Fin 256)
  /-- RESIZE_ABORT_END (R225): The SSN passes S in ABORTING, the old map is kept and RESIZE_FAIL is raised. -/
  | resizeAbortEnd (n : Fin 256)
  /-- MEMBER_DROP (R229): On a member failure the transmitter sends COMMIT with the drop map and enters DROP, or records LOA. -/
  | memberDrop (n : Fin 256)
  /-- DROP_DONE (R225): The SSN reaches the drop's S and the drop map is used. -/
  | dropDone (n : Fin 256)
  /-- PAIR_ENABLE (R234): Enabling a protection pair or deskew delay line is checked against budget and length, or refused. -/
  | pairEnable (src : Requester) (p : Fin 128) (v : Word)
  /-- HUB_RUN_WRITE (R247): A write of HUB_CTL.RUN starts or stops the hub or leaf function of a carrier. -/
  | hubRunWrite (src : Requester) (v : Word)
  /-- ROUND_START (R247): A downstream round begins; SC_CFG changes, map swaps and the next round's grants take effect. -/
  | roundStart (c : Fin 4) (ps : List RoundGrant) (fs : List RoundFrames)
  /-- UPSTREAM_ROUND_START (R269): An upstream round begins at the hub receiver; the burst gain steps and idle priors leak. -/
  | upstreamRoundStart (c : Fin 4) (gain : Nat)
  /-- GRANT_SUBMIT (R252): A write of GRANT_IN word 1 submits a grant that is checked and accepted or refused. -/
  | grantSubmit (src : Requester) (v : Word)
  /-- DMAP_SUBMIT (R255): A write of DMAP_IN word 2 submits a downstream map entry, or is refused with DMAP_OVERLAP. -/
  | dmapSubmit (src : Requester) (v : Word)
  /-- GRANT_END (R253): A grant's last slot ends at the hub; its store entry is released and the leaf's burst-loss raw condition is updated. -/
  | grantEnd (c : Fin 4) (sc : Fin 64) (start : Nat)
  /-- DISCOVERY_WINDOW (R256): Every PERIOD rounds a discovery window opens on the discovery group. -/
  | discoveryWindow (c : Fin 4)
  /-- DISC_DONE (R256): A discovery window ends. -/
  | discDone (c : Fin 4)
  /-- LEAF_PROVISION (R258): Writing word 0 of a leaf entry with PROV = 1 moves it from FREE to WAIT. -/
  | leafProvision (src : Requester) (n : Fin 4096) (v : Word)
  /-- LEAF_CMD_REMOVE (R258): LEAF_CMD REMOVE frees a leaf entry and sends DEREG REMOVE, or is refused with LEAF_FREE. -/
  | leafCmdRemove (src : Requester) (v : Word)
  /-- LEAF_LOST (R258): dBURST_LOSS of an ACTIVE leaf has been set for LOST_TIME and the entry enters LOST. -/
  | leafLost (n : Fin 4096)
  /-- LEAF_DROP_TIMEOUT (R258): DROP_TIME passes in LOST, and the entry returns to WAIT with DEREG RERANGE. -/
  | leafDropTimeout (n : Fin 4096)
  /-- DRAINED (R260): A removed shared group has received until its last round ended, releases its store entries and raises DRAINED. -/
  | drained (c : Fin 4) (sc : Fin 64)
  /-- ROUND_MSG (R249): A leaf receives a ROUND message with round number, RLEN and TEQ. -/
  | roundMsg (c : Fin 4) (sc : Fin 64) (m : BitVec 115)
  /-- GRANT_MSG (R251): A leaf receives a GRANT message and acts on a grant for the next round, or counts an RND mismatch. -/
  | grantMsg (c : Fin 4) (sc : Fin 64) (m : BitVec 115)
  /-- DMAP_MSG (R255): A leaf receives a DMAP message naming its downstream frames. -/
  | dmapMsg (c : Fin 4) (sc : Fin 64) (m : BitVec 115)
  /-- DISCOVER_MSG (R256): A leaf in DISCOVER receives DISCOVER and sends one HELLO burst in the window. -/
  | discoverMsg (c : Fin 4) (sc : Fin 64) (m : BitVec 115)
  /-- ASSIGN_MSG (R259): A leaf receives ASSIGN with its serial and takes leaf number, home and EqD. -/
  | assignMsg (c : Fin 4) (sc : Fin 64) (m : BitVec 115)
  /-- RANGE_MSG (R259): A leaf receives RANGE and takes the new EqD, entering ACTIVE when FINAL is set. -/
  | rangeMsg (c : Fin 4) (sc : Fin 64) (m : BitVec 115)
  /-- DEREG_MSG (R259): A leaf receives DEREG and returns to DISCOVER on RERANGE or enters REMOVED on REMOVE. -/
  | deregMsg (c : Fin 4) (sc : Fin 64) (m : BitVec 115)
  /-- SUIT_A_MSG (R249): A SUIT_A hub-channel message carries the first part of a suit record of a dedicated member. -/
  | suitAMsg (c : Fin 4) (sc : Fin 64) (m : BitVec 115)
  /-- SUIT_B_MSG (R249): A SUIT_B hub-channel message carries the second part of a suit record. -/
  | suitBMsg (c : Fin 4) (sc : Fin 64) (m : BitVec 115)
  /-- REPORT_MSG (R249): The hub receives a REPORT with a leaf's upstream backlog. -/
  | reportMsg (c : Fin 4) (m : BitVec 115)
  /-- HELLO_MSG (R257): The hub receives a HELLO, computes RTT and EqD, and moves a WAIT entry to RANGING or records an unknown serial. -/
  | helloMsg (c : Fin 4) (start : Nat) (m : BitVec 115)
  /-- LEAF_LISTEN_DONE (R259): A leaf in LISTEN finds a framed shared stream, a valid ROUND and FOLLOW_OK, and enters DISCOVER. -/
  | leafListenDone (c : Fin 4)
  /-- LEAF_BACKOFF (R259): No ASSIGN has come within 4 rounds of the window's end, and the leaf backs off for a random number of windows. -/
  | leafBackoff (c : Fin 4)
  /-- LEAF_HOLD_ENTRY (R259): A RANGING or ACTIVE leaf loses its home stream, ROUND or FOLLOW_OK and enters HOLD. -/
  | leafHoldEntry (c : Fin 4)
  /-- LEAF_HOLD_TIMEOUT (R259): HOLD_MAX passes in HOLD, and the leaf returns to LISTEN. -/
  | leafHoldTimeout (c : Fin 4)
  /-- LEAF_GRANT_START (R273): A leaf reaches the start time of one of its grants and sends its burst with the gate edges set. -/
  | leafGrantStart (c : Fin 4) (backlog : Nat)
  /-- BURST_DETECTION (R274): A detector declares a preamble, claims its subcarriers, freezes the gain and enters TRAIN, possibly capturing a reception. -/
  | burstDetection (c : Fin 4) (sc : Fin 64) (bond : Nat) (ago : Nat) (gain : Nat) (corr : Int)
  /-- BURST_TRAINING_DONE (R279): T2 has been received; the burst equaliser's taps are set and the receiver enters SYNC. -/
  | burstTrainingDone (c : Fin 4) (sc : Fin 64) (snr : Nat) (fit : List Word)
  /-- BURST_SYNC (R278): The sync word is found, the burst start located, and the receiver enters RECEIVE. -/
  | burstSync (c : Fin 4) (sc : Fin 64) (errs : Nat) (ago : Nat)
  /-- FALSE_DETECTION (R278): No sync within 192 symbols after the preamble end; the detection is dropped and the receiver re-arms. -/
  | falseDetection (c : Fin 4) (sc : Fin 64)
  /-- BURST_REPORT (R282): The report codeword is decoded and the burst classified as associated, stray, mismatched or unassociated. -/
  | burstReport (c : Fin 4) (sc : Fin 64) (coded : List Bool)
  /-- BURST_CLOSE (R278): An associated burst passes its end marker or grant end; the prior taps are updated and the receiver re-arms. -/
  | burstClose (c : Fin 4) (sc : Fin 64) (errs : Nat) (taps : List Word) (f : BurstFigures)
  /-- STR_SWAP_GO (R155): STR_ANCHOR_CTL.SWAP_GO requests an anchor bank of a dedicated stream, as R152 serves it. -/
  | strSwapGo (src : Requester) (c : Fin 4) (sc : Fin 64) (v : Word)
  /-- STR_ANCHOR_SAVE (R155): STR_ANCHOR_CTL.SAVE copies a dedicated stream's live taps into its inactive bank. -/
  | strAnchorSave (src : Requester) (c : Fin 4) (sc : Fin 64) (v : Word)
  /-- BURST_ANCHOR_SAVE (R290): SCBc.s ANCHOR_CTL.SAVE copies the prior taps into the anchor taps. -/
  | burstAnchorSave (src : Requester) (c : Fin 4) (sc : Fin 64) (v : Word)
  /-- CIP_LOCK_WRITE (R299): A write of CIP_LOCK claims or releases the key-load lock, or is refused with KEY_NOT_OWNER. -/
  | cipLockWrite (src : Requester) (c : Fin 4) (v : Word)
  /-- KEY_DATA_WRITE (R299): The lock holder buffers one key word, or the write is refused with KEY_LONG or KEY_NOT_OWNER. -/
  | keyDataWrite (src : Requester) (c : Fin 4) (v : Word)
  /-- KEY_SALT_WRITE (R299): The lock holder writes the salt for the next commit. -/
  | keySaltWrite (src : Requester) (c : Fin 4) (v : Word)
  /-- KEY_COMMIT (R297): KEY_COMMIT stores the buffered key and salt in a slot, which becomes LOADED, or is refused. -/
  | keyCommit (src : Requester) (c : Fin 4) (v : Word)
  /-- KEY_ARM (R297): KEY_CMD ARM moves a LOADED slot to ARMED when its sibling is not ARMED. -/
  | keyArm (src : Requester) (c : Fin 4) (v : Word)
  /-- KEY_DISARM (R297): KEY_CMD DISARM returns an ARMED slot to LOADED. -/
  | keyDisarm (src : Requester) (c : Fin 4) (v : Word)
  /-- KEY_ERASE (R297): KEY_CMD ERASE overwrites a LOADED or SPENT slot with zeros and frees it, or is refused with SLOT_BUSY. -/
  | keyErase (src : Requester) (c : Fin 4) (v : Word)
  /-- ASSOC_WRITE (R293): Writing EN of an association enables or disables it, or is refused with SUIT_LIVE, ASSOC_ELSEWHERE or CIP_FULL. -/
  | assocWrite (src : Requester) (c : Fin 4) (a : Fin 256) (v : Word)
  /-- RX_GRACE_EXPIRY (R297): RX_GRACE has passed since RX_KI left a DRAINING slot, which becomes SPENT. -/
  | rxGraceExpiry (c : Fin 4) (n : Fin 512)
  /-- UNIT_TRANSMIT (R304): A unit is encrypted and sent with the next UCTR, raising CTR_WARN, forcing a roll or halting traffic at the counter limits. -/
  | unitTransmit (c : Fin 4) (a : Fin 256) (fresh : Bool) (plain : List Byte)
  /-- UNIT_RECEIVED (R302): A received unit is delineated, checked for key, direction and replay, and decrypted into the kitty. -/
  | unitReceived (c : Fin 4) (a : Fin 256) (errored : Bool) (header : BitVec 128) (cipher : List Byte) (tag : BitVec 128)
  /-- UNIT_VERIFY (R309): A unit's tag is verified within 40 ns of its last byte and the unit is released or replaced by error fill. -/
  | unitVerify (c : Fin 4) (a : Fin 256)
  /-- CIP_PARITY (R312): A parity fault in the cipher state suppresses the unit, is reported DEGRADED and starts the known-answer test. -/
  | cipParity (c : Fin 4) (a : Fin 256) (tx : Bool)
  /-- KAT_GO (R313): CIP_CTL.KAT_GO starts the known-answer test. -/
  | katGo (src : Requester) (c : Fin 4) (v : Word)
  /-- KAT_DONE (R313): The known-answer test ends with KAT_PASS, or with KAT_FAIL and ENG_HALT. -/
  | katDone (c : Fin 4) (pass : Bool)
  /-- LANE_ENABLE (R319): Enabling a host lane at a rate is accepted, or refused with RATE_MIX or LANE_IN_PORT. -/
  | laneEnable (src : Requester) (l : Fin 48) (v : Word)
  /-- TRAIN_DONE (R322): Link training on a C2C lane ends and sets TRAIN_DONE. -/
  | trainDone (l : Fin 48) (ffe : Word)
  /-- TRAIN_FAIL (R322): Link training has not ended within 500 ms; the lane runs with the taps it reached. -/
  | trainFail (l : Fin 48) (ffe : Word)
  /-- PORT_ENABLE (R324): Setting PORT_CFG.EN enables a port, or is refused with PORT_ALIGN, RATE_BAD, LANE_TAKEN or SUIT_SHORT. -/
  | portEnable (src : Requester) (p : Fin 48) (v : Word)
  /-- ALIGN_STATUS_CHANGE (R327): A port gains or loses align status, raising LINK_UP or LINK_DOWN and putting its source in or out of fail. -/
  | alignStatusChange (p : Fin 48) (block : Bool) (am : Bool) (deskew : Bool)
  /-- PORT_FEC_WINDOW (R328): Each 1 ms the port's RS symbol errors set or clear HI_SER and FEC_DEGRADED. -/
  | portFecWindow (p : Fin 48) (sym : Nat) (corSym : Nat) (cor : Nat) (unc : Nat)
  /-- CAL_SWITCH (R329): A FlexE calendar switch takes effect at the overhead multiframe named by the protocol. -/
  | calSwitch (g : Fin 8)
  /-- FLEXE_SWITCH_WRITE (R329): A write of FLEXE_GRP SWITCH starts the calendar switch protocol of a group. -/
  | flexeSwitchWrite (src : Requester) (g : Fin 8) (v : Word)
  /-- FLEXO_GROUP_ENABLE (R330): Enabling a FLEXO_GRP entry is accepted, or refused with FLEXO_SIZE. -/
  | flexoGroupEnable (src : Requester) (e : Fin 3) (v : Word)
  /-- FRAME_INGRESS (R343): A frame from a MAP = 0 port is parsed, looked up and forwarded, dropped or sent to the slow path. -/
  | frameIngress (p : Fin 48) (bytes : List Byte) (fcsOk : Bool) (ddrOk : Bool)
  /-- TS_POP (R333): A read of TS_POP pops the oldest egress timestamp and latches its time registers. -/
  | tsPop (src : Requester) (p : Fin 48)
  /-- CLS_PROFILE_WRITE (R342): A key profile write is accepted, or refused with PROF_LONG or PROF_LIVE. -/
  | clsProfileWrite (src : Requester) (f : Fin 8) (w : Fin 2) (v : Word)
  /-- ENTRY_PUBLISH (R346): Setting VALID of an exact or ternary entry checks and publishes it whole, or refuses it with HASH_MISMATCH or DUP_KEY. -/
  | entryPublish (src : Requester) (tern : Bool) (e : Nat) (v : Word)
  /-- ACTION_REWRITE (R346): Word 11 of a valid entry is rewritten in one write and seen whole by later lookups. -/
  | actionRewrite (src : Requester) (tern : Bool) (e : Nat) (v : Word)
  /-- SLOW_PATH_RETURN (R348): Cluster 6 returns a slow-path frame with an action word, and it is forwarded or dropped. -/
  | slowPathReturn (id : Nat) (v : Word) (ddrOk : Bool)
  /-- PUNT_POP (R348): PUNT_POP discards the head frame of the punt queue. -/
  | puntPop (src : Requester)
  /-- PACKET_ADMIT (R350): A packet is admitted to its queue on die or in DDR, or dropped with DROP_OFF, DROP_TAIL or DROP_NOBUF. -/
  | packetAdmit (q : Nat) (bytes : List Byte) (ddrOk : Bool)
  /-- SCHEDULER_DECISION (R352): A set's scheduler picks the next class by strict priority and DRR within its shaper, or sends idle records. -/
  | schedulerDecision (g : Nat)
  /-- RECORD_RECEIVED (R354): A record found in a received stream delivers its packet to its queue, or a hunt or abort follows. -/
  | recordReceived (g : Nat) (bytes : List Byte) (errored : Bool) (next : Bool) (ddrOk : Bool)
  /-- FLUSH (R357): FLUSH.GO discards every packet of the named set. -/
  | flush (src : Requester) (v : Word)
  /-- SENSING_SAMPLE (R367): A preset outputs a decimated sample that is archived and passed to the detectors that watch it. -/
  | sensingSample (c : Fin 4) (ch : Fin 16) (p : Fin 4) (x : BitVec 16)
  /-- RECORD_WRITE (R369): A stream's open record is full and is written into the archive ring. -/
  | recordWrite (n : Byte)
  /-- RECORD_FLUSH_TIMEOUT (R369): A record has been open for FLUSH_CFG.MS and is written PARTIAL. -/
  | recordFlushTimeout (n : Byte)
  /-- FREEZE_CLOSE (R373): An open freeze closes at its end time plus group delay, or at once when the archive stops or free space falls below MIN_FREE. -/
  | freezeClose
  /-- FRZ_MANUAL (R372): FRZ_CMD.MANUAL requests a freeze with FRZ_MAN's PRE and POST. -/
  | frzManual (src : Requester)
  /-- FRZ_RELEASE (R375): FRZ_CMD.RELEASE frees a closed freeze, or is refused with FRZ_STATE. -/
  | frzRelease (src : Requester) (n : Fin 16)
  /-- ARCH_EN_WRITE (R369): A write of SNS_CTL.ARCH_EN starts or stops the archive writer, or is refused with NO_REGION. -/
  | archEnWrite (src : Requester) (v : Word)
  /-- RD_REC_WRITE (R376): A write of RD_REC starts copying an archive record into the read buffer, or is refused with RD_RANGE. -/
  | rdRecWrite (src : Requester) (v : Word)
  /-- RD_READY (R376): The record copy completes within 10 µs with its FROZEN, EMPTY and BAD_CRC flags. -/
  | rdReady (bad : Bool)
  /-- SEEK_GO (R376): SEEK_CMD.GO starts a search for the latest record of a stream at or before the seek time. -/
  | seekGo (src : Requester) (v : Word)
  /-- SEEK_DONE (R376): The seek ends with SEEK_RES or NOT_FOUND. -/
  | seekDone
  /-- SNS_SWAP_REQ (R365): A write of SNS SWAP_REQ swaps the coefficient bank, starts a fade, queues the request, or refuses it. -/
  | snsSwapReq (src : Requester) (v : Word)
  /-- SNS_FADE_END (R365): Every preset has completed its blend, the fade ends and a queued request is served. -/
  | snsFadeEnd
  /-- ACTIVITY_LOSS (R383): A reference shows no edge, sample or lock within its limit; ACT_OK clears, qualification is lost and the DPLL may switch or hold over. -/
  | activityLoss (k : Fin 14)
  /-- ACTIVITY_RETURN (R383): An edge or sample arrives after its cause has gone, and ACT_OK sets again. -/
  | activityReturn (k : Fin 14)
  /-- FREQUENCY_MEASURE (R383): Each 1 s the frequency monitor measures every reference and sets or clears FREQ_OK. -/
  | frequencyMeasure (offs : List Int)
  /-- DRIFT_EVALUATE (R384): Each 1 s the drift-rate monitor computes the slope and sets or clears DRIFTING. -/
  | driftEvaluate
  /-- HISTORY_SAMPLE (R390): Each 1 s a DPLL records its control value into its holdover history. -/
  | historySample (n : Fin 2) (ffo : Int) (pherr : Int)
  /-- QUALIFIED (R385): A reference's monitors have held for QUAL seconds and it becomes qualified, starting its wait-to-restore if needed. -/
  | qualified (k : Fin 14)
  /-- WTR_EXPIRY (R386): A reference's wait-to-restore timer runs out and it becomes eligible, possibly selected. -/
  | wtrExpiry (k : Fin 14)
  /-- DPLL_LOCKED (R391): Frequency and phase have held within limits for 10 s in ACQUIRE, and the DPLL enters LOCKED. -/
  | dpllLocked (n : Fin 2)
  /-- SLEW_DONE (R389): A DPLL-B slew completes, and deferred selections and controls take effect. -/
  | slewDone
  /-- DPLL_CTL_WRITE (R391): A write of Dd_CTL enables, forces, holds over or opens the loop, moving the DPLL state machine. -/
  | dpllCtlWrite (src : Requester) (n : Fin 2) (v : Word)
  /-- SW_PHERR_WRITE (R394): A write of SW_PHERR delivers one phase-error sample to DPLL-B's loop. -/
  | swPherrWrite (src : Requester) (v : Word)
  /-- SW_TIMEOUT (R383): No SW_PHERR sample has been written within SW_TO, and ACT_OK of SW clears. -/
  | swTimeout
  /-- FFO_SET_WRITE (R395): A write of FFO_SET sets the open-loop output within 1 µs, clamped to the slope limit. -/
  | ffoSetWrite (src : Requester) (n : Fin 2) (v : Word)
  /-- REALIGN (R396): A write of OUTk_CFG.REALIGN moves the next pulse of a REFOUT to its next target. -/
  | realign (src : Requester) (k : Fin 4) (v : Word)
  /-- REGION_ENABLE (R406): Setting EN of a memory region is checked and accepted or refused with REGION_REFUSED. -/
  | regionEnable (src : Requester) (r : Fin 11)
  /-- REGION_DISABLE (R407): Clearing EN of a region is accepted while its user is stopped, or refused with REGION_IN_USE. -/
  | regionDisable (src : Requester) (r : Fin 11)
  /-- DDR_ERROR (R412): An access finds a DDR error, which is corrected and written back or resets the owning island, and a row test is queued. -/
  | ddrError (a : Nat) (place : Nat) (row : Nat) (ue : Bool) (scrub : Bool)
  /-- SRAM_ERROR (R411): An access finds an SRAM error, which is corrected and written back or resets the owning island. -/
  | sramError (e : SramErr)
  /-- ROW_TEST (R414): The channel tests the failing row and classifies the error transient or lasting. -/
  | rowTest (n : Fin 16) (found : Bool)
  /-- SRAM_PATROL (R413): Every 10 s hardware patrols all on-die and engine SRAM. -/
  | sramPatrol (found : List SramErr)
  /-- SCRUB_GO (R417): SCRUB_CMD.GO starts a DDR scrub, or is refused with SCRUB_BUSY, SCRUB_RANGE, SCRUB_BW or MEM_OFF. -/
  | scrubGo (src : Requester) (v : Word)
  /-- SCRUB_ABORT (R417): SCRUB_CMD.ABORT ends the scrub with ABORTED set. -/
  | scrubAbort (src : Requester) (v : Word)
  /-- SCRUB_DONE (R417): The scrub ends and its summary is complete. -/
  | scrubDone
  /-- ENGINE_INSTRUCTION (R425): An engine issues an RV32IMC instruction and charges its cycles to the ledger classes. -/
  | engineInstruction (id : Fin 512) (extra : Nat)
  /-- CMAC (R427): CMAC adds the complex product of two packed operands to ACC. -/
  | cmac (id : Fin 512)
  /-- CMACJ (R427): CMACJ adds the product with the conjugate of the second operand to ACC. -/
  | cmacj (id : Fin 512)
  /-- CMUL (R427): CMUL sets ACC to the complex product of two packed operands. -/
  | cmul (id : Fin 512)
  /-- ACCRD (R428): ACCRD returns ACC shifted, rounded and saturated into a packed pair. -/
  | accrd (id : Fin 512)
  /-- MSEND (R429): MSEND sends a word to an engine or host mailbox and returns its status. -/
  | msend (id : Fin 512)
  /-- MRECV (R429): MRECV takes the next mailbox word, or waits up to its limit. -/
  | mrecv (id : Fin 512)
  /-- MAILBOX_DELIVERY (R429): A sent mailbox word reaches its destination FIFO 16 or 120 cycles after MSEND. -/
  | mailboxDelivery (sender : Fin 512) (dst : Fin 1024)
  /-- MRECV_END (R429): A waiting MRECV takes an arriving word or times out. -/
  | mrecvEnd (id : Fin 512)
  /-- WAITT (R430): WAITT waits until device time reaches its target. -/
  | waitt (id : Fin 512)
  /-- WAITT_END (R430): A waiting WAITT ends when the local time reaches the target or a mailbox word arrives. -/
  | waittEnd (id : Fin 512)
  /-- BRD (R431): BRD reads a BAR0 register as requester ENGk, or is denied for an owner program. -/
  | brd (id : Fin 512) (extra : Nat)
  /-- BWR (R431): BWR posts a BAR0 write as requester ENGk, or is denied for an owner program. -/
  | bwr (id : Fin 512) (extra : Nat)
  /-- ENGINE_TRAP (R425): An engine takes an exception or interrupt, or halts with ENG_FAULT when mtvec is 0. -/
  | engineTrap (id : Fin 512)
  /-- LOAD_GO (R432): CL_CTL.LOAD_GO starts loading an owner or vendor program, or is refused. -/
  | loadGo (src : Requester) (k : Fin 8) (v : Word)
  /-- LOAD_DONE (R432): The program load ends with LOADED, or with LOAD_FAIL and its cause. -/
  | loadDone (k : Fin 8)
  /-- HALT_WRITE (R432): A write of CL_CTL.HALT halts every engine, or releases them to start at ENTRY. -/
  | haltWrite (src : Requester) (k : Fin 8) (v : Word)
  /-- COUNTER_WRITE (R435): A write of word 0 of a COUNT entry sets a PMC at the next cycle. -/
  | counterWrite (src : Requester) (k : Fin 8) (e : Fin 576) (v : Word)
  /-- RESUME (R436): CL_CTL.RESUME restarts PMCs frozen by a call. -/
  | resume (src : Requester) (k : Fin 8) (v : Word)
  /-- LEG_RD (R437): CL_CTL.LEG_RD copies one engine's counters into table 2 one at a time. -/
  | legRd (src : Requester) (k : Fin 8) (v : Word)
  /-- TRACE_RECORD (R438): A sample has left the pipeline with its ledger strip full, and its record is written into the trace ring. -/
  | traceRecord (id : Fin 512)
  /-- HOST_MB_TX (R439): A write of HOST_MB_TX sends a word to the selected engine's FIFO, or is refused with MB_FULL. -/
  | hostMbTx (src : Requester) (k : Fin 8) (v : Word)
  /-- HOST_MB_RX (R439): A read of HOST_MB_RX pops the cluster's host FIFO and latches the sender. -/
  | hostMbRx (src : Requester) (k : Fin 8)
  /-- VLG_ENABLE (R450): A write of VLG_CTL.EN starts full training, or silences the port in DOWN. -/
  | vlgEnable (src : Requester) (p : Fin 4) (v : Word)
  /-- LINK_UP (R450): Training aligns every lane and decodes 16 frames, and the port enters LINKED. -/
  | linkUp (p : Fin 4)
  /-- VLG_TRAIN_TIMEOUT (R450): The port is not LINKED within 5 ms of clock lock; TRAIN_FAIL is raised and training restarts after 10 ms. -/
  | vlgTrainTimeout (p : Fin 4)
  /-- RETRAIN (R450): VLG_CTL.RETRAIN starts full training of a linked port. -/
  | retrain (src : Requester) (p : Fin 4) (v : Word)
  /-- IDLE_REQ_WRITE (R451): A write of IDLE_REQ asks for electrical idle, or leaves it, or is refused with IDLE_BUSY. -/
  | idleReqWrite (src : Requester) (p : Fin 4) (v : Word)
  /-- IDLE_EXIT_FAIL (R450): No alignment within 1 µs of the idle-exit burst sends the port to TRAIN. -/
  | idleExitFail (p : Fin 4)
  /-- VLG_BLOCK_RECEIVED (R452): A Velaug block is received and its TS words are inserted into the transit range or delivered. -/
  | vlgBlockReceived (p : Fin 4) (b : VlgBlock)
  /-- VLG_HELLO (R459): A HELLO received from a peer updates PEER and may join a dealer or flag a conflict. -/
  | vlgHello (p : Fin 4) (stack : Byte) (pos : Fin 4) (dealer : Bool) (serial : BitVec 48) (taken : Bool)
  /-- HELLO_SEND (R454): Every 100 µs each linked port sends HELLO. -/
  | helloSend
  /-- HEARTBEAT (R454): A heartbeat is received from the dealer or a member. -/
  | heartbeat (p : Fin 4)
  /-- HEARTBEAT_MISS (R459): Five dealer or member heartbeats are missed and the dealer or member is declared lost. -/
  | heartbeatMiss (p : Fin 4)
  /-- DEALER_LOST (R459): A member loses its dealer; it becomes ORPHAN, cancels stack deals and frees DEALER locks. -/
  | dealerLost
  /-- TIME_MSG (R455): A member receives the dealer's TIME and replies TIME_RPT. -/
  | timeMsg (p : Fin 4) (t1 : BitVec 80) (t2 : BitVec 80) (t3 : BitVec 80)
  /-- TIME_RPT (R455): The dealer receives TIME_RPT and replies TIME_END. -/
  | timeRpt (p : Fin 4) (t2 : BitVec 80) (t3 : BitVec 80) (t4 : BitVec 80)
  /-- TIME_END (R455): A member receives TIME_END, computes the link delay and feeds the VLG reference. -/
  | timeEnd (p : Fin 4) (t4 : BitVec 80)
  /-- STACK_CALL (R456): A member receives a stack CALL and latches its shadows at T, or at once if late. -/
  | stackCall (p : Fin 4) (number : BitVec 16) (t : BitVec 64)
  /-- CALL_REQ (R456): The dealer receives a member's CALL_REQ and issues a stack call. -/
  | callReq (p : Fin 4)
  /-- MGMT_GO (R457): A dealer write of MGMT_CMD.GO sends a management access to a member, or is refused with MGMT_BUSY. -/
  | mgmtGo (src : Requester) (v : Word)
  /-- MGMT_RD (R457): A member performs a management read as requester DEALER and replies. -/
  | mgmtRd (p : Fin 4) (ofs : BitVec 26)
  /-- MGMT_WR (R457): A member performs a management write as requester DEALER and replies. -/
  | mgmtWr (p : Fin 4) (ofs : BitVec 26) (v : Word)
  /-- MGMT_RSP (R457): The dealer receives a management reply into MGMT_STAT and MGMT_DATA. -/
  | mgmtRsp (p : Fin 4) (data : Word) (denied : Bool)
  /-- MGMT_TIMEOUT (R457): No management reply within 20 µs; MGMT_STAT reports TIMEOUT. -/
  | mgmtTimeout
  /-- SUIT_REC (R453): A forwarded suit record crosses the link for a remote member. -/
  | suitRec (p : Fin 4) (r : SuitRecord)
  /-- LEAVE (R458): A LEAVE message is received and the sender has left the stack. -/
  | leave (p : Fin 4)
  /-- MEMBER_GONE (R458): The dealer reports a position gone and members treat it as left. -/
  | memberGone (p : Fin 4) (pos : Fin 4)
  /-- MEMBER_LOST (R458): The dealer declares a member gone and sends MEMBER_GONE. -/
  | memberLost (p : Fin 4)
  /-- STACK_ENABLE (R459): A write of STACK_CFG.EN starts or stops the stack function. -/
  | stackEnable (src : Requester) (v : Word)
  /-- LEAVE_GO (R461): LEAVE.GO sends LEAVE and returns the module to ALONE. -/
  | leaveGo (src : Requester)
  /-- DEALER_WRITE (R459): Writing DEALER = 1 in ORPHAN makes the module a dealer. -/
  | dealerWrite (src : Requester) (v : Word)
  /-- TRANSIT_ENABLE (R453): Enabling a transit entry is accepted, or refused with VLG_FULL or TS_OVERLAP. -/
  | transitEnable (src : Requester) (p : Fin 4) (e : Fin 32) (v : Word)
  /-- PD_REQ (R467): A write of PD_REQ requests a domain state, which is served, held, queued or refused. -/
  | pdReq (src : Requester) (v : Word)
  /-- QUIESCE_DONE (R471): Every transfer in flight has completed and the domain's entry to RET or OFF proceeds. -/
  | quiesceDone (d : Fin 80)
  /-- QUIESCE_TIMEOUT (R471): A transfer is still in flight at QUIESCE_TO; the entry is aborted with TRANSFER_BUSY. -/
  | quiesceTimeout (d : Fin 80) (blocker : Byte)
  /-- PD_TRANSITION_DONE (R472): A domain transition completes; held and queued requests are served and NCAR and supply may change. -/
  | pdTransitionDone (d : Fin 80)
  /-- AVS_ATTEMPT_END (R473): An AVSBus attempt succeeds or fails, completing the operation or starting the next attempt. -/
  | avsAttemptEnd (ack : Option Nat)
  /-- SLEEP (R475): WAKE_CMD with SLEEP enters wake-only, or is refused with SLEEP_REFUSED. -/
  | sleep (src : Requester) (v : Word)
  /-- WAKE (R476): WAKE_CMD with WAKE over I²C ends wake-only and starts the module. -/
  | wake (src : Requester) (v : Word)
  /-- WAKE_N (R476): WAKE_N held low for 10 µs ends wake-only and starts the module. -/
  | wakeN
  /-- THERMAL (R508): PWR_TEMP reaches THERM_LIM; THERMAL_HIGH is raised and a DEGRADED error reported. -/
  | thermal (deg : Int)
  /-- RESET_N_RELEASE (R482): RESET_N is released with every rail valid and a start begins. -/
  | resetNRelease
  /-- RESET_N_ASSERT (R536): RESET_N low for 1 µs or more during operation acts as a device reset. -/
  | resetNAssert
  /-- PERST (R536): PERST# asserted after RESET_N release resets the PCI Express endpoint only. -/
  | perst
  /-- RAIL_LOSS (R533): A rail leaves its valid window or the junction reaches 112 °C; SOAs shut and the module is held in reset. -/
  | railLoss (aon : Bool)
  /-- BOOT_STEP_END (R483): A boot step completes or fails, updates its record entry and counts, and the next step or a restart follows. -/
  | bootStepEnd (e : StepEnd)
  /-- BOOT_STEP_TIMEOUT (R482): A boot step exceeds its limit and fails with cause TIMEOUT. -/
  | bootStepTimeout (units : Nat)
  /-- BOOT_RESTART (R484): 10 ms after a failed module step a boot restart resets every island but the always-on island and runs a start. -/
  | bootRestart
  /-- RESTART (R484): BOOT_CMD.RESTART makes a boot restart, also leaving a halt. -/
  | restart (src : Requester) (v : Word)
  /-- SET_PREF (R491): BOOT_CMD.SET_PREF selects the preferred slot, or is refused with NOT_VERIFIED. -/
  | setPref (src : Requester) (v : Word)
  /-- BOOT_CLR (R485): A write of BOOT_CLR clears the level, count and units of the named steps for the next start. -/
  | bootClr (src : Requester) (v : Word)
  /-- FLASH_ERASE (R491): FL_CMD ERASE erases a 64 KiB sector, or is refused with FL_RANGE or FL_BUSY. -/
  | flashErase (src : Requester) (v : Word)
  /-- FLASH_PROGRAM (R491): FL_CMD PROGRAM writes the 256-byte page buffer, or is refused with FL_RANGE or FL_BUSY. -/
  | flashProgram (src : Requester) (v : Word)
  /-- FLASH_VERIFY (R491): FL_CMD VERIFY checks a slot as SIG_VERIFY would. -/
  | flashVerify (src : Requester) (v : Word)
  /-- FL_DONE (R491): A flash command completes, setting DONE, ERR or VERIFY_OK. -/
  | flDone (ok : Bool)
  /-- SVN_COMMIT (R492): SEC_CMD.SVN_COMMIT burns SVN fuses up to the booted image's SVN. -/
  | svnCommit (src : Requester) (v : Word)
  /-- PROVISION (R498): SEC_CMD.PROVISION burns the owner key hash and the provisioning fuse, closing every scope. -/
  | provision (src : Requester) (v : Word)
  /-- ATT_GO (R495): ATT_CMD.GO starts an attestation request, or is refused with SIGN_BUSY or RNG_FAIL. -/
  | attGo (src : Requester) (v : Word)
  /-- ATT_DONE (R494): The signature index is committed and the signed report is placed in window table 2, or the request fails. -/
  | attDone (ok : Bool)
  /-- CHAL_GO (R499): CHAL_CMD.GO draws a 256-bit nonce for the requested scopes, or is refused with LOCKOUT. -/
  | chalGo (src : Requester) (v : Word)
  /-- TOKEN_GO (R499): CHAL_CMD.TOKEN_GO starts verification of a token, or is refused with SIGN_BUSY or NO_CHAL. -/
  | tokenGo (src : Requester) (v : Word)
  /-- TOKEN_VERIFY_END (R499): Token verification ends with GRANTED or TOKEN_FAIL, and lockout after sixteen failures. -/
  | tokenVerifyEnd
  /-- NONCE_EXPIRY (R499): A pending nonce expires after 60 s. -/
  | nonceExpiry
  /-- CLOSE (R500): CHAL_CMD.CLOSE closes every open scope. -/
  | close (src : Requester) (v : Word)
  /-- RNG_DATA_READ (R497): A read of RNG_DATA returns 32 random bits, or 0 and a count after a health failure. -/
  | rngDataRead (src : Requester)
  /-- RNG_HEALTH_FAIL (R497): The TRNG fails a health test; RNG_OK clears and RNG_FAIL is raised. -/
  | rngHealthFail
  /-- MEAS_READ (R502): A read of MEAS returns 4 bytes of the measurement and advances. -/
  | measRead (src : Requester)
  /-- ERROR_REPORT (R509): A detected error is classed, escalated if needed and entered in its island's queue. -/
  | errorReport (source : Fin 17) (page : BitVec 14) (addr : BitVec 41) (unit : Byte) (loc : Nat)
  /-- WATCHDOG (R508): Cluster 7 misses its 10 ms heartbeat and a DEVICE_FATAL error is reported. -/
  | watchdog
  /-- ISLAND_RESET (R515): An island reset begins, discarding its deal actions and freeing its locks. -/
  | islandReset (n : Fin 25)
  /-- RESET_DONE (R515): The island reset ends with SRAM refilled and configuration reapplied, and RESET_DONE is raised. -/
  | resetDone (n : Fin 25)
  /-- DEVICE_RESET (R516): A DEVICE_FATAL error resets the module after its call and DF_LAST copy, and a start follows. -/
  | deviceReset
  /-- ISL_CTL_RESET (R517): ISL_CTL with KEY and RESET makes an island reset, or is refused with MGT_ISLAND or BAD_KEY. -/
  | islCtlReset (src : Requester) (v : Word)
  /-- ISL_CTL_RELEASE (R518): ISL_CTL with KEY and RELEASE takes a failed island out of reset, or is refused with NOT_FAILED. -/
  | islCtlRelease (src : Requester) (v : Word)
  /-- Q_POP (R513): Q_POP removes the oldest record of the selected island's queue. -/
  | qPop (src : Requester)
  /-- SELF_TEST_END (R519): A targeted self-test ends and classifies its error transient or lasting. -/
  | selfTestEnd (seq : BitVec 16) (lasting : Bool)
  /-- SELF_TEST_TIMEOUT (R519): A test has waited 100 ms for a busy unit and ends with TIMEOUT, counted lasting. -/
  | selfTestTimeout (seq : BitVec 16)
  /-- ENG_CHECK (R520): After an ESRAM_UE island reset each engine runs the ROM check and failing engines stay in FAULT. -/
  | engCheck (k : Fin 8) (failed : BitVec 64)
  /-- CALL_CMD_GO (R521): CALL_CMD.GO requests a call from the REG source. -/
  | callCmdGo (src : Requester) (v : Word)
  /-- CALL_IN_EDGE (R524): An accepted edge on CALL_IN is time-stamped and requests a call. -/
  | callInEdge (rising : Bool) (held : Nat) (t : BitVec 64)
  /-- CALL_ISSUE (R522): A call is issued, joins later requests within 1 µs, latches every participating page's shadows and is logged. -/
  | callIssue
  /-- MSIX_TABLE_WRITE (R550): A write to the MSI-X table or pending bit array in BAR4 sets a vector's address, data or mask, and unmasking a vector with its pending bit set sends its message. -/
  | msixTableWrite (a : BitVec 14) (v : Word)
  /-- DIST_LOST (R33): An island's local copy of device time leaves, or returns within, ±1 ns of the master, so TIME_STAT.DIST_OK changes and DIST_LOST is raised. -/
  | distLost (ok : Bool)
  /-- CDR_LOCK_LOSS (R334): A host lane's receiver loses or regains CDR lock, so LOL_CNT is incremented and the lane's LOL interrupt is raised. -/
  | cdrLockLoss (l : Fin 48) (lock : Bool) (sig : Bool) (adapted : Bool) (snr : Nat)
  /-- PLL_UNLOCK (R334): A quad's transmit PLL loses or regains lock, so QUAD_STAT.PLL_LOCK changes and PLL_UNLOCK is raised. -/
  | pllUnlock (q : Fin 12) (lock : Bool)
  /-- FAULT_RECEIVED (R335): A port begins or stops receiving local-fault or remote-fault ordered sets, so PORT_STAT.RX_LF or RX_RF changes and RX_LF or RX_RF is raised. -/
  | faultReceived (p : Fin 48) (remote : Bool) (on : Bool)
  /-- TEMP_HIGH (R422): A DIMM's temperature crosses DDR_TEMP_LIM or 85 °C, which raises TEMP_HIGH or doubles refresh with REF2X. -/
  | tempHigh (n : Fin 16) (t : Int)
  /-- LEAF_GRANT_END (R273): A leaf reaches the end of one of its grants, so its burst ends and its SOA gate falls within 8 ns. -/
  | leafGrantEnd (c : Fin 4)
  /-- CALL_OUT_PULSE_END (R524): WIDTH µs after the last call's T, the CALL_OUT pulse ends and the pin returns low. -/
  | callOutPulseEnd
  /-- RAILS_VALID (R533): Every rail has been within its valid window for 10 ms and the junction is below 95 °C with RESET_N high, so a start begins. -/
  | railsValid
  /-- PERST_RELEASE (R536): PERST# is released, and the endpoint trains and accepts configuration requests within 100 ms. -/
  | perstRelease
  deriving DecidableEq, Repr

end Sys2Proof
end

