-- ==== Sys2Proof/Machine/Bits.lean ====
section
/-!
DEFINITION. Machine/Bits.lean: bit fields of register words, two's-complement readings, byte order and checksums'
byte helpers. A field is named once (a `Fld`), by the offset of its register in its page and the bits it takes.
-/

namespace Sys2Proof.Machine

/-- A field of a register: the register's offset in its page, the lowest bit, the width. -/
structure Fld where
  off : Nat
  lo : Nat
  w : Nat
  deriving DecidableEq, Repr

/-- The value of bits `lo` up to `lo + w - 1` of a word. -/
def bitsGet (v : Word) (lo w : Nat) : Nat := v.toNat / 2 ^ lo % 2 ^ w

/-- The word with ones at bits `lo` up to `lo + w - 1`. -/
def maskAt (lo w : Nat) : Word := BitVec.ofNat 32 ((2 ^ w - 1) * 2 ^ lo)

/-- The word with bits `lo` up to `lo + w - 1` replaced by the low bits of `x`. -/
def bitsPut (v : Word) (lo w x : Nat) : Word :=
  (v &&& ~~~ maskAt lo w) ||| BitVec.ofNat 32 (x % 2 ^ w * 2 ^ lo)

/-- The two's-complement reading of the low `w` bits of a number. -/
def sx (w x : Nat) : Int :=
  if x % 2 ^ w < 2 ^ (w - 1) then (x % 2 ^ w : Nat) else ((x % 2 ^ w : Nat) : Int) - (2 ^ w : Nat)

/-- The low `w` bits of the two's-complement code of an integer. -/
def tc (w : Nat) (i : Int) : Nat := (i % (2 ^ w : Nat)).toNat

/-- An integer clamped to the two's-complement range of `w` bits. -/
def clampS (w : Nat) (i : Int) : Int :=
  max (-(2 ^ (w - 1) : Nat)) (min ((2 ^ (w - 1) : Nat) - 1) i)

/-- A counter of `w` bits that saturates at its highest value. -/
def satAdd (w x n : Nat) : Nat := min (2 ^ w - 1) (x + n)

/-- Bit `i` of a number. -/
def bitOf (x i : Nat) : Bool := x / 2 ^ i % 2 == 1

/-- The number with bit `i` set to `b`. -/
def setBit (x i : Nat) (b : Bool) : Nat :=
  if bitOf x i then (if b then x else x - 2 ^ i) else (if b then x + 2 ^ i else x)

/-- 0 or 1. -/
def b2n (b : Bool) : Nat := if b then 1 else 0

/-- Number of ones among the low `n` bits. -/
def popCount (n x : Nat) : Nat := ((List.range n).filter (bitOf x)).length

/-- The low `n` bytes of a number, lowest byte first (little-endian, R13). -/
def bytesLE (n x : Nat) : List Byte := (List.range n).map fun i => BitVec.ofNat 8 (x / 256 ^ i)

/-- The low `n` bytes of a number, highest byte first (big-endian). -/
def bytesBE (n x : Nat) : List Byte := (bytesLE n x).reverse

/-- The number whose bytes are listed lowest first. -/
def ofBytesLE : List Byte → Nat
  | [] => 0
  | b :: bs => b.toNat + 256 * ofBytesLE bs

/-- The number whose bytes are listed highest first. -/
def ofBytesBE (l : List Byte) : Nat := ofBytesLE l.reverse

/-- Serial-number order with a half-range window (R37): `N` lies ahead of the current number `C`. -/
def serialAhead (n N C : Nat) : Bool :=
  let d := (N + 2 ^ n - C % 2 ^ n) % 2 ^ n
  decide (1 ≤ d ∧ d ≤ 2 ^ (n - 1) - 1)

/-- Serial-number order: the distance `(N − C) mod 2^n` (R37). -/
def serialDist (n N C : Nat) : Nat := (N + 2 ^ n - C % 2 ^ n) % 2 ^ n

end Sys2Proof.Machine
end

