-- ==== Sys2Proof/Machine/Crypt.lean ====
section
/-!
DEFINITION. Machine/Crypt.lean: the algorithms that the spec takes by the name of their standard: SHA-256 and HSS/LMS
signatures (R490, R493, R496: RFC 8554 with LMS_SHA256_M32_H10 and LMOTS_SHA256_N32_W4), AES-256-GCM (R304). PRESUMED from
those standards (log 3).
-/

namespace Sys2Proof.Machine

/-! ### SHA-256 (FIPS 180-4) -/

/-- The `i`-th of the words of `w` bits packed in numbers of 256 bits, the first the most significant. -/
def packed (l : List Nat) (w i : Nat) : Nat := (l.getD (i * w / 256) 0) >>> (256 - w - i * w % 256) % 2 ^ w

/-- Rotation of a 32-bit word to the right. -/
def rotr (n x : Nat) : Nat := (x >>> n) ||| (x <<< (32 - n)) % 2 ^ 32

/-- The round constants, eight to a number. -/
def shaK : List Nat :=
  [0x428a2f9871374491b5c0fbcfe9b5dba53956c25b59f111f1923f82a4ab1c5ed5,
   0xd807aa9812835b01243185be550c7dc372be5d7480deb1fe9bdc06a7c19bf174,
   0xe49b69c1efbe47860fc19dc6240ca1cc2de92c6f4a7484aa5cb0a9dc76f988da,
   0x983e5152a831c66db00327c8bf597fc7c6e00bf3d5a7914706ca635114292967,
   0x27b70a852e1b21384d2c6dfc53380d13650a7354766a0abb81c2c92e92722c85,
   0xa2bfe8a1a81a664bc24b8b70c76c51a3d192e819d6990624f40e3585106aa070,
   0x19a4c1161e376c082748774c34b0bcb5391c0cb34ed8aa4a5b9cca4f682e6ff3,
   0x748f82ee78a5636f84c878148cc7020890befffaa4506cebbef9a3f7c67178f2]

/-- The message schedule, newest word first, extended by a number of words. -/
def shaExtend : Nat → List Nat → List Nat
  | 0, l => l
  | n + 1, l =>
    let x := l.getD 14 0
    let y := l.getD 1 0
    let s0 := rotr 7 x ^^^ rotr 18 x ^^^ x >>> 3
    let s1 := rotr 17 y ^^^ rotr 19 y ^^^ y >>> 10
    shaExtend n ((s1 + l.getD 6 0 + s0 + l.getD 15 0) % 2 ^ 32 :: l)

/-- One round: the state is eight words in one number, `a` the most significant. -/
def shaRound (h k w : Nat) : Nat :=
  let at' (i : Nat) : Nat := h >>> (224 - 32 * i) % 2 ^ 32
  let e := at' 4
  let a := at' 0
  let ch := e &&& at' 5 ^^^ (2 ^ 32 - 1 - e) &&& at' 6
  let t1 := at' 7 + (rotr 6 e ^^^ rotr 11 e ^^^ rotr 25 e) + ch + k + w
  let t2 := (rotr 2 a ^^^ rotr 13 a ^^^ rotr 22 a) + (a &&& at' 1 ^^^ a &&& at' 2 ^^^ at' 1 &&& at' 2)
  ((t1 + t2) % 2 ^ 32) <<< 224 + (h >>> 160) <<< 128 + ((at' 3 + t1) % 2 ^ 32) <<< 96 + (h >>> 32) % 2 ^ 96

/-- The words of two states added one by one. -/
def shaAdd (a b : Nat) : Nat :=
  (List.range 8).foldl (fun n i => n * 2 ^ 32 + (a >>> (224 - 32 * i) + b >>> (224 - 32 * i)) % 2 ^ 32) 0

/-- A block of 64 bytes is taken into the state. -/
def shaBlock (h : Nat) (m : List Byte) : Nat :=
  let n := ofBytesLE m.reverse
  let w := shaExtend 48 ((List.range 16).map fun i => n >>> (32 * i) % 2 ^ 32)
  shaAdd h (w.reverse.zipIdx.foldl (fun s p => shaRound s (packed shaK 32 p.2) p.1) h)

/-- A list in runs of `n`, of which it has no more than `k`. -/
def chunks {α : Type} (n : Nat) : Nat → List α → List (List α)
  | 0, _ => []
  | _, [] => []
  | k + 1, l => l.take n :: chunks n k (l.drop n)

/-- SHA-256 (R490, R496). -/
@[irreducible] def sha256 (m : List Byte) : BitVec 256 :=
  let p := m ++ [0x80] ++ List.replicate ((119 - m.length % 64) % 64) 0 ++ bytesBE 8 (8 * m.length)
  BitVec.ofNat 256 ((chunks 64 p.length p).foldl shaBlock
    0x6a09e667bb67ae853c6ef372a54ff53a510e527f9b05688c1f83d9ab5be0cd19)

/-! ### HSS/LMS (RFC 8554) -/

/-- The hash of bytes, as bytes. -/
def hashBytes (m : List Byte) : List Byte := bytesBE 32 (sha256 m).toNat

/-- A number that bytes give, the first the most significant. -/
def numBE (l : List Byte) : Nat := ofBytesLE l.reverse

/-- A Winternitz chain of LMOTS_SHA256_N32_W4 is walked `n` steps on from step `j`. -/
def otsChain (id q : List Byte) (i : Nat) : Nat → Nat → List Byte → List Byte
  | 0, _, y => y
  | n + 1, j, y => otsChain id q i n (j + 1) (hashBytes (id ++ q ++ bytesBE 2 i ++ bytesBE 1 j ++ y))

/-- The digits of a message's hash and of their checksum: 67 of 4 bits. -/
def otsDigits (h : List Byte) : List Nat :=
  let d := h.flatMap fun b => [b.toNat / 16, b.toNat % 16]
  let c := (d.map fun x => 15 - x).sum * 16
  d ++ [c / 4096 % 16, c / 256 % 16, c / 16 % 16]

/-- The one-time public key that a signature of a message leads to (RFC 8554, 4.6). -/
def otsKey (id q msg sig : List Byte) : List Byte :=
  let c := (sig.drop 4).take 32
  let y := chunks 32 67 (sig.drop 36)
  let h := hashBytes (id ++ q ++ [0x81, 0x81] ++ c ++ msg)
  hashBytes (id ++ q ++ [0x80, 0x80] ++
    ((otsDigits h).zip y).zipIdx.flatMap fun p => otsChain id q p.2 (15 - p.1.1) p.1.1 p.1.2)

/-- The root that a path from a leaf leads to, from node number `r`. -/
def lmsRoot (id : List Byte) : List (List Byte) → Nat → List Byte → List Byte
  | [], _, t => t
  | n :: l, r, t => lmsRoot id l (r / 2) (hashBytes (id ++ bytesBE 4 (r / 2) ++ [0x83, 0x83]
      ++ (if r % 2 = 1 then n ++ t else t ++ n)))

/-- A message carries an LMS signature under a public key of 56 bytes (RFC 8554, 5.4), of the types of R490. -/
def lmsVerify (pub msg sig : List Byte) : Bool :=
  let id := (pub.drop 8).take 16
  let q := sig.take 4
  let ots := (sig.drop 4).take 2180
  let t := hashBytes (id ++ bytesBE 4 (1024 + numBE q) ++ [0x82, 0x82] ++ otsKey id q msg ots)
  pub.length == 56 && numBE (pub.take 4) == 6 && numBE ((pub.drop 4).take 4) == 3
    && sig.length == 2508 && numBE (ots.take 4) == 3 && numBE ((sig.drop 2184).take 4) == 6 && decide (numBE q < 1024)
    && lmsRoot id (chunks 32 10 (sig.drop 2188)) (1024 + numBE q) t == pub.drop 24

/-- A message carries an HSS signature of two levels (5,076 bytes) under a public key of 60 bytes (R490). -/
@[irreducible] def hssVerify (key msg sig : List Byte) : Bool :=
  let mid := (sig.drop 2512).take 56
  key.length == 60 && sig.length == 5076 && numBE (key.take 4) == 2 && numBE (sig.take 4) == 1
    && lmsVerify (key.drop 4) mid ((sig.drop 4).take 2508) && lmsVerify mid msg (sig.drop 2568)

/-! ### AES-256 (FIPS 197) -/

/-- The S-box, 32 bytes to a number. -/
def aesBox : List Nat :=
  [0x637c777bf26b6fc53001672bfed7ab76ca82c97dfa5947f0add4a2af9ca472c0,
   0xb7fd9326363ff7cc34a5e5f171d8311504c723c31896059a071280e2eb27b275,
   0x09832c1a1b6e5aa0523bd6b329e32f8453d100ed20fcb15b6acbbe394a4c58cf,
   0xd0efaafb434d338545f9027f503c9fa851a3408f929d38f5bcb6da2110fff3d2,
   0xcd0c13ec5f974417c4a77e3d645d197360814fdc222a908846eeb814de5e0bdb,
   0xe0323a0a4906245cc2d3ac629195e479e7c8376d8dd54ea96c56f4ea657aae08,
   0xba78252e1ca6b4c6e8dd741f4bbd8b8a703eb5664803f60e613557b986c11d9e,
   0xe1f8981169d98e949b1e87e9ce5528df8ca1890dbfe6426841992d0fb054bb16]

/-- The S-box applied to each of the `n` bytes of a number. -/
def subBytes (n x : Nat) : Nat :=
  (List.range n).foldl (fun s i => s * 256 + packed aesBox 8 (x >>> (8 * (n - 1 - i)) % 256)) 0

/-- Twice an element of GF(2^8). -/
def xtime (a : Nat) : Nat := if a < 128 then 2 * a else 2 * a ^^^ 0x11b

/-- The key schedule, newest word first: word `i`, from 8 on. -/
def aesExpand : Nat → Nat → List Nat → List Nat
  | 0, _, l => l
  | n + 1, i, l =>
    let t := l.getD 0 0
    let u := if i % 8 = 0 then subBytes 4 (t % 2 ^ 24 * 256 + t / 2 ^ 24) ^^^ 2 ^ (23 + i / 8)
      else if i % 8 = 4 then subBytes 4 t else t
    aesExpand n (i + 1) ((l.getD 7 0 ^^^ u) :: l)

/-- The 15 round keys of a key. -/
def aesKeys (key : Nat) : List Nat :=
  (chunks 4 15 (aesExpand 52 8 ((List.range 8).map fun i => key >>> (32 * i) % 2 ^ 32)).reverse).map fun k =>
    k.foldl (fun n w => n * 2 ^ 32 + w) 0

/-- ShiftRows: byte `r + 4 c` comes from byte `r + 4 (c + r)`. -/
def shiftRows (x : Nat) : Nat :=
  (List.range 16).foldl (fun s i => s * 256 + x >>> (8 * (15 - (i % 4 + 4 * ((i / 4 + i % 4) % 4)))) % 256) 0

/-- MixColumns. -/
def mixColumns (x : Nat) : Nat :=
  let b (c r : Nat) : Nat := x >>> (8 * (15 - 4 * c - r % 4)) % 256
  (List.range 16).foldl (fun s i =>
    let c := i / 4
    let r := i % 4
    s * 256 + (xtime (b c r) ^^^ xtime (b c (r + 1)) ^^^ b c (r + 1) ^^^ b c (r + 2) ^^^ b c (r + 3))) 0

/-- The rounds after the first key addition; the last leaves MixColumns out. -/
def aesRounds : List Nat → Nat → Nat
  | [], x => x
  | [k], x => shiftRows (subBytes 16 x) ^^^ k
  | k :: l, x => aesRounds l (mixColumns (shiftRows (subBytes 16 x)) ^^^ k)

/-- AES-256 of a block under round keys. -/
def aesBlock (ks : List Nat) (x : Nat) : Nat := aesRounds (ks.drop 1) (x ^^^ ks.getD 0 0)

/-! ### GCM (NIST SP 800-38D) -/

/-- The product in GF(2^128), bit 0 the most significant. -/
def gcmMul (x y : Nat) : Nat :=
  ((List.range 128).foldl (fun (s : Nat × Nat) i =>
    (if x.testBit (127 - i) then s.1 ^^^ s.2 else s.1, if s.2 % 2 = 1 then s.2 / 2 ^^^ 0xe1 <<< 120 else s.2 / 2)) (0, y)).1

/-- A run of at most 16 bytes as a block, zeros after it. -/
def gcmPad (l : List Byte) : Nat := numBE l * 256 ^ (16 - l.length)

/-- GHASH over the associated data, the ciphertext and their lengths. -/
def ghash (h : Nat) (aad c : List Byte) : Nat :=
  (((chunks 16 aad.length aad ++ chunks 16 c.length c).map gcmPad) ++ [8 * aad.length * 2 ^ 64 + 8 * c.length]).foldl
    (fun y x => gcmMul (y ^^^ x) h) 0

/-- The keystream of counter mode applied, from counter 2 on. -/
def gcmCtr (ks : List Nat) (iv : Nat) (m : List Byte) : List Byte :=
  (chunks 16 m.length m).zipIdx.flatMap fun p =>
    (p.1.zip (bytesBE 16 (aesBlock ks (iv * 2 ^ 32 + p.2 + 2)))).map fun q => q.1 ^^^ q.2

/-- The tag of a ciphertext. -/
def gcmTag (ks : List Nat) (iv : Nat) (aad c : List Byte) : BitVec 128 :=
  BitVec.ofNat 128 (ghash (aesBlock ks 0) aad c ^^^ aesBlock ks (iv * 2 ^ 32 + 1))

/-- AES-256-GCM encryption (R304): key, IV, associated data, plaintext; ciphertext and tag. -/
@[irreducible] def gcmSeal (key : BitVec 256) (iv : BitVec 96) (aad m : List Byte) : List Byte × BitVec 128 :=
  let ks := aesKeys key.toNat
  let c := gcmCtr ks iv.toNat m
  (c, gcmTag ks iv.toNat aad c)

/-- AES-256-GCM decryption (R302, R309): key, IV, associated data, ciphertext; plaintext and the tag that the data should
carry. -/
@[irreducible] def gcmOpen (key : BitVec 256) (iv : BitVec 96) (aad c : List Byte) : List Byte × BitVec 128 :=
  let ks := aesKeys key.toNat
  (gcmCtr ks iv.toNat c, gcmTag ks iv.toNat aad c)

end Sys2Proof.Machine
end

