-- ==== Sys2Proof/Config.lean ====
section
/-!
DEFINITION. Config.lean: what one module or one implementation fixes, and the values the spec leaves free. Every
constant here is opaque: nothing can be proved of its value, so a statement holds whatever it is.
-/

namespace Sys2Proof.Config

/-- Free values (UNVERIFIED, safe; log 1): the value of an unpredictable or unstated result, taken from a counter that
each use advances, so that two uses are not known to agree (R6). -/
opaque freeWord : Nat → Word

/-- The number that stands for a reserved encoding where a number is needed (UNVERIFIED, safe; log 1). -/
opaque openNat : Nat → Nat

/-- The 48-bit serial of the module (HUB.SERIAL_LO/HI, "per module"; log 2). -/
opaque serial : BitVec 48

/-- The device ID, bytes 4i to 4i + 3 (SEC.DEV_ID0–3, "per module"; log 2). -/
opaque devId : Fin 4 → Word

/-- Words 0–14 of the module's 60-byte HSS public key (R493; log 2). -/
opaque devKey : Nat → Word

/-- The fused AVS_VTABn steps above 650 mV (R473: 650–750 mV, not falling with n; log 2). -/
opaque avsFuse : Nat → Nat

/-- The level sampled on the DEALER_SEL pin (R444, R536; log 2). -/
opaque dealerSel : Bool

/-- The SHA-256 of the vendor's key, as fused (R490; log 2). -/
opaque vendorHash : BitVec 256

/-- HSS/LMS signing with the module's own key at (q0, q1) (R493–R495): index, message bytes → signature bytes. The private key
is the module's own (log 2). -/
opaque hssSign : Nat → Nat → List Byte → List Byte

/-- The random bits of the DRBG (R497), by draw number (log 1). -/
opaque rng : Nat → Word

/-- The factory coefficients of the TXEQ and sensing filters (R109, R364), by table index (log 2). -/
opaque factoryTxeq : Nat → Word
opaque factoryFir : Nat → Word

/-- The value at which the LDPC decoder holds a bit's sum: its width is not stated (R179; log 2). -/
opaque softSum : Int → Int

/-- The decoding of a CFEC codeword of the OIF 400ZR agreement (R184), from its decoder inputs: bits corrected, and
whether it failed (log 2). -/
opaque cfec : List Int → Nat × Bool

/-- The stored minimum VERSION of a cluster's owner programs (R432, R489: kept in flash, and no rule changes it; log 2). -/
opaque ownerMin : Nat → Nat

/-- The parts of the image that a slot of the flash holds, whose layout is not stated (R490; log 2): from the slot and the
bytes written over what the module was shipped with, its signer's key, the signed message, the signature, its SVN and its
version. -/
opaque imageParts : Nat → List (Nat × Byte) → Option (List Byte × List Byte × List Byte × Nat × Nat)

/-- The SHA-256 of the boot ROM (R496; log 2). -/
opaque romHash : BitVec 256

/-- The SHA-256 of a part of the image that a slot holds (R496): slot, bytes written over what was shipped, kind 3 the
configuration section, 0x10 + k the vendor program of cluster k (log 2). -/
opaque itemHash : Nat → List (Nat × Byte) → Nat → BitVec 256

/-- The carriers that the configuration section of a slot's image configures, and the CH_N that it names for each (R482): the
image's layout is not stated (log 2). -/
opaque imageCarrier : Nat → List (Nat × Byte) → Nat → Bool
opaque imageCh : Nat → List (Nat × Byte) → Nat → Nat

/-- The levels that the board gives the GPIO pins at a tick, 0 where nothing drives one (R542; log 1), and the level at the
WAKE_N pin (R478; log 1). -/
opaque boardGpio : Nat → BitVec 8
opaque wakePin : Nat → Bool

/-- The factory calibration of a Velaug port's delay, in ps (R455; log 2). -/
opaque vlgCal : Nat → Int

end Sys2Proof.Config
end

