-- ==== Sys2Proof/Machine/Code.lean ====
section
/-!
DEFINITION. Machine/Code.lean: the codes and sequences of the line, on lists of bits, first bit first: checksums, BCH
codes (R172, R191), the LDPC code and its decoder (R171, R173, R174, R179), soft metrics (R178), the distribution
matcher and labels (R94–R97), codeword groups (R176, R177), pilots (R102), the scrambler (R195), and the words of
frames and bursts (R190, R196, R271).
-/

namespace Sys2Proof.Machine

/-- The bits of a number, most significant first. -/
def bitsOf (n x : Nat) : List Bool := (List.range n).map fun i => bitOf x (n - 1 - i)

/-- The number whose bits are listed most significant first. -/
def bitsNum (l : List Bool) : Nat := l.foldl (fun a b => 2 * a + b2n b) 0

/-- How many places two bit lists differ in. -/
def hamming (a b : List Bool) : Nat := ((a.zip b).filter fun p => p.1 != p.2).length

/-! ### Checksums -/

/-- A CRC of `w` bits, register first, over bits most significant first: polynomial without its top term (R191). -/
def crcBits (w poly init : Nat) (l : List Bool) : Nat :=
  l.foldl (fun r b =>
    let fb := bitOf r (w - 1) != b
    let r' := r * 2 % 2 ^ w
    if fb then r' ^^^ poly else r') init

/-- The CRC-16 of R191: x^16 + x^12 + x^5 + 1, register 0xFFFF, no inversion. -/
def crc16 (l : List Bool) : Nat := crcBits 16 0x1021 0xFFFF l

/-! ### BCH codes -/

/-- A binary BCH code: the field GF(2^m) with its primitive polynomial, the errors corrected, the length of the full
code and of the shortened one. -/
structure Bch where
  m : Nat
  poly : Nat
  t : Nat
  n : Nat
  deriving DecidableEq, Repr

/-- Product in the field. -/
def Bch.mul (g : Bch) (a b : Nat) : Nat :=
  (List.range g.m).foldl (fun acc i =>
    let d := acc * 2
    let d := if bitOf d g.m then d ^^^ g.poly else d
    if bitOf b (g.m - 1 - i) then d ^^^ a else d) 0

/-- A power of α. -/
def Bch.alpha (g : Bch) (e : Nat) : Nat :=
  -- square and multiply over the bits of e mod 2^m − 1
  (bitsOf g.m (e % (2 ^ g.m - 1))).foldl (fun acc b =>
    let sq := g.mul acc acc
    if b then g.mul sq 2 else sq) 1

/-- The inverse of a non-zero element: its power 2^m − 2. -/
def Bch.inv (g : Bch) (a : Nat) : Nat :=
  (bitsOf g.m (2 ^ g.m - 2)).foldl (fun acc b =>
    let sq := g.mul acc acc
    if b then g.mul sq a else sq) 1

/-- The cyclotomic coset of an exponent. -/
def Bch.coset (g : Bch) (e : Nat) : List Nat :=
  ((List.range g.m).map fun i => e * 2 ^ i % (2 ^ g.m - 1)).eraseDups

/-- The exponents whose minimal polynomials make up the generator: the least of each coset of α, α³, …, α^(2t−1). -/
def Bch.leaders (g : Bch) : List Nat :=
  ((List.range g.t).map fun i => (g.coset (2 * i + 1)).foldl min (2 ^ g.m)).eraseDups

/-- Product of a polynomial (lowest degree first) and (x + root). -/
def Bch.mulRoot (g : Bch) (p : List Nat) (root : Nat) : List Nat :=
  (List.zip (0 :: p) (p ++ [0])).map fun q => q.1 ^^^ g.mul q.2 root

/-- The generator, lowest degree first. Its coefficients are 0 and 1. -/
def Bch.gen (g : Bch) : List Bool :=
  ((g.leaders.flatMap g.coset).foldl (fun p e => g.mulRoot p (g.alpha e)) [1]).map (· != 0)

/-- Parity bits, highest degree first: the remainder of the message times x^deg (R172). -/
def Bch.parity (g : Bch) (msg : List Bool) : List Bool :=
  let gen := g.gen
  let d := gen.length - 1
  let tail := gen.take d
  -- the register holds the remainder, lowest degree first
  (msg.foldl (fun r b =>
    let fb := r.getLast?.getD false != b
    let sh := false :: r.dropLast
    if fb then (sh.zip tail).map fun p => p.1 != p.2 else sh) (List.replicate d false)).reverse

/-- The codeword of a message: systematic. -/
def Bch.encode (g : Bch) (msg : List Bool) : List Bool := msg ++ g.parity msg

/-- Syndrome j of a received word: its value at α^j, the first bit being the highest coefficient. -/
def Bch.syndrome (g : Bch) (r : List Bool) (j : Nat) : Nat :=
  let a := g.alpha j
  r.foldl (fun acc b => g.mul acc a ^^^ b2n b) 0

/-- The state of the search for the error locator: locator, previous locator, its discrepancy, length, shift. -/
structure Bch.Search where
  c : List Nat
  p : List Nat
  d : Nat
  l : Nat
  sh : Nat

/-- One step of the search: syndrome number `i` with the ones before it. -/
def Bch.searchStep (g : Bch) (syn : List Nat) (q : Bch.Search) (i : Nat) : Bch.Search :=
  let disc := (List.range (q.l + 1)).foldl (fun acc k => acc ^^^ g.mul (q.c.getD k 0) (syn.getD (i - k) 0)) 0
  if disc = 0 then { q with sh := q.sh + 1 }
  else
    let f := g.mul disc (g.inv q.d)
    let shifted := List.replicate q.sh 0 ++ q.p.map (g.mul f)
    let n := max q.c.length shifted.length
    let c' := (List.range n).map fun k => q.c.getD k 0 ^^^ shifted.getD k 0
    if 2 * q.l ≤ i then { c := c', p := q.c, d := disc, l := i + 1 - q.l, sh := 1 }
    else { q with c := c', sh := q.sh + 1 }

/-- The places of the errors in a received word, when at most t are found there; none when more are detected. -/
def Bch.errors (g : Bch) (r : List Bool) : Option (List Nat) :=
  let syn := (List.range (2 * g.t)).map fun j => g.syndrome r (j + 1)
  if syn.all (· == 0) then some []
  else
    let q := (List.range (2 * g.t)).foldl (g.searchStep syn) { c := [1], p := [1], d := 1, l := 0, sh := 1 }
    let n := r.length
    -- a place i holds the coefficient of x^(n−1−i); the locator is zero at the inverse of its power of α
    let at' (i : Nat) : Nat :=
      let x := g.alpha (2 ^ g.m - 1 - (n - 1 - i) % (2 ^ g.m - 1))
      q.c.reverse.foldl (fun acc co => g.mul acc x ^^^ co) 0
    let roots := (List.range n).filter fun i => at' i == 0
    if q.l ≤ g.t ∧ roots.length = q.l then some roots else none

/-- A bit list with some places inverted. -/
def flipAt (l : List Bool) (e : List Nat) : List Bool := l.mapIdx fun i b => if e.contains i then !b else b

/-! ### The overhead code (R191) -/

/-- The BCH code of length 255 over GF(2^8), t = 18. -/
def ohBch : Bch := { m := 8, poly := 0x11D, t := 18, n := 255 }

/-- The extended codeword of 131 information bits: 255 bits and an even-parity bit. -/
def ohCodeword (info : List Bool) : List Bool :=
  let c := ohBch.encode info
  c ++ [c.foldl (· != ·) false]

/-- The information bits of a received word of 256 bits: at most 18 of its bits, the parity bit among them, are in
error (DEDUCED: "within t" counts over all 256 bits). -/
def ohDecode (w : List Bool) : Option (List Bool) :=
  match ohBch.errors (w.take 255) with
  | none => none
  | some e =>
    let c := flipAt (w.take 255) e
    let par := c.foldl (· != ·) false
    if e.length + b2n (w.getD 255 false != par) ≤ 18 then some (c.take 131) else none

/-- 246 content bits and their CRC. -/
def ohInfo (content : List Bool) : List Bool := content ++ bitsOf 16 (crc16 content)

/-- The 512 coded bits of an overhead field: bit 2t is bit t of codeword A, bit 2t + 1 bit t of B. -/
def ohEncode (info : List Bool) : List Bool :=
  ((ohCodeword (info.take 131)).zip (ohCodeword ((info.drop 131).take 131))).flatMap fun p => [p.1, p.2]

/-- The 246 content bits of a received overhead field, if it is valid: both codewords decode and the CRC checks. -/
def ohField (coded : List Bool) : Option (List Bool) :=
  let pick (k : Nat) := (List.range 256).map fun t => coded.getD (2 * t + k) false
  match ohDecode (pick 0), ohDecode (pick 1) with
  | some a, some b =>
    let i := a ++ b
    if bitsNum (i.drop 246) = crc16 (i.take 246) then some (i.take 246) else none
  | _, _ => none

/-- The 115 content bits of a subcarrier codeword, if it decodes and its CRC checks (R197). -/
def scField (coded : List Bool) : Option (List Bool) :=
  match ohDecode coded with
  | some i => if bitsNum (i.drop 115) = crc16 (i.take 115) then some (i.take 115) else none
  | none => none

/-- The coded bits of a subcarrier codeword with given content (R197). -/
def scEncode (content : List Bool) : List Bool := ohCodeword (content ++ bitsOf 16 (crc16 content))

/-! ### The LDPC code (R171, R173, R174) -/

/-- The parameters of one code rate (R171). -/
structure Ldpc where
  r : Nat
  kb : Nat
  t : Nat
  d4 : Nat
  a : Nat
  b : Nat
  c : Nat
  deriving DecidableEq, Repr

def ldpc800 : Ldpc := { r := 15, kb := 65, t := 17, d4 := 30, a := 5, b := 11, c := 3 }
def ldpc833 : Ldpc := { r := 13, kb := 67, t := 6, d4 := 26, a := 4, b := 9, c := 2 }
def ldpc868 : Ldpc := { r := 10, kb := 70, t := 9, d4 := 20, a := 3, b := 7, c := 5 }

/-- The outer code of a rate: k_in bits, t errors (R172). -/
def Ldpc.outer (q : Ldpc) : Bch := { m := 15, poly := 0x8003, t := q.t, n := q.kb * 256 }

/-- The information bits of a codeword: k = k_in − 15 t. -/
def Ldpc.k (q : Ldpc) : Nat := q.kb * 256 - 15 * q.t

/-- The information block (i, j) is non-zero (R173). -/
def Ldpc.on (q : Ldpc) (i j : Nat) : Bool :=
  i == j % q.r || i == (j + q.a) % q.r || i == (j + q.b) % q.r || (decide (j < q.d4) && i == (j + q.c) % q.r)

/-- The shift of block (i, j) (R173). -/
def Ldpc.shift (i j : Nat) : Nat := (53 * i * (2 * j + 1) + 7 * j * (j + 1)) % 256

/-- The places of a codeword that check z of row i covers: information blocks, then the staircase (R174). -/
def Ldpc.row (q : Ldpc) (i z : Nat) : List Nat :=
  (((List.range q.kb).filter (q.on i)).map fun j => j * 256 + (z + Ldpc.shift i j) % 256)
    ++ (if i = 0 then [] else [(q.kb + i - 1) * 256 + z]) ++ [(q.kb + i) * 256 + z]

/-- The parity of an outer codeword: p_0 = s_0, p_i = s_i xor p_(i−1) (R174). -/
def Ldpc.parity (q : Ldpc) (u : Array Bool) : List Bool :=
  let s (i z : Nat) : Bool := ((List.range q.kb).filter (q.on i)).foldl
    (fun acc j => acc != u.getD (j * 256 + (z + Ldpc.shift i j) % 256) false) false
  ((List.range q.r).foldl (fun (st : List Bool × List (List Bool)) i =>
    let p := (List.range 256).map fun z => (s i z) != st.1.getD z false
    (p, p :: st.2)) ([], [])).2.reverse.flatten

/-- The codeword bit sequence of an outer codeword: [u ‖ p_0 ‖ … ‖ p_(r−1)] (R174). -/
def Ldpc.encode (q : Ldpc) (u : List Bool) : List Bool := u ++ q.parity u.toArray

/-- The codeword of k information bits. -/
def Ldpc.codeword (q : Ldpc) (info : List Bool) : List Bool := q.encode (q.outer.encode info)

/-! ### Soft metrics and decoding (R178, R179) -/

/-- A value in steps of 0.25, held in 6 bits. -/
def sat6 (x : Int) : Int := clampS 6 x

/-- The decoder's input from a log-likelihood ratio in 2^−16 and SM_CFG.SCALE: nearest step of 0.25, a half rounded up,
saturated (R178). -/
def softIn (scale : Nat) (lam : Int) : Int := sat6 ((lam * (scale : Int) + 2 ^ 19) / 2 ^ 20)

/-- The factor 3/4, truncated towards zero to the nearest step (R179). -/
def norm34 (x : Int) : Int := (3 * x).tdiv 4

/-- One check of one layer: the messages from its bits, the least two magnitudes and the sign of the others give each
bit's new message. The width in which a bit's sum is held is not stated. -/
def Ldpc.check (q : Ldpc) (i : Nat) (st : Array Int × Array (List Int)) (z : Nat) : Array Int × Array (List Int) :=
  let idx := q.row i z
  let old := st.2.getD (i * 256 + z) []
  let t := idx.mapIdx fun k b => sat6 (st.1.getD b 0 - old.getD k 0)
  let new := t.mapIdx fun k _ =>
    let others := t.eraseIdx k
    let mag := others.foldl (fun a x => min a (x.natAbs : Int)) 32
    let neg := others.foldl (fun a x => a != decide (x < 0)) false
    sat6 (norm34 (if neg then -mag else mag))
  ((idx.zip (t.zip new)).foldl (fun l p => l.setIfInBounds p.1 (Config.softSum (p.2.1 + p.2.2))) st.1,
   st.2.setIfInBounds (i * 256 + z) new)

/-- One iteration: every layer once, in ascending order. -/
def Ldpc.iterate (q : Ldpc) (st : Array Int × Array (List Int)) : Array Int × Array (List Int) :=
  (List.range q.r).foldl (fun s i => (List.range 256).foldl (q.check i) s) st

/-- Every check is satisfied by the hard decisions. -/
def Ldpc.satisfied (q : Ldpc) (l : Array Int) : Bool :=
  (List.range q.r).all fun i => (List.range 256).all fun z =>
    (q.row i z).foldl (fun a b => a != decide (l.getD b 0 < 0)) false == false

/-- Iterations up to a limit, with early stop or without: sums, iterations used, checks satisfied at the end. -/
def Ldpc.run (q : Ldpc) (early : Bool) : Nat → Nat → Array Int × Array (List Int) → Array Int × Nat × Bool
  | 0, used, st => (st.1, used, q.satisfied st.1)
  | n + 1, used, st =>
    let st' := q.iterate st
    if early ∧ q.satisfied st'.1 then (st'.1, used + 1, true) else Ldpc.run q early n (used + 1) st'

/-- What the decoding of a codeword comes to: iterations used, whether they all passed without satisfying the checks,
uncorrectable, bits corrected by the outer decoder, code bits that differed from the hard decisions of the input, the
information bits. -/
structure Decoded where
  iters : Nat
  itmax : Bool
  unc : Bool
  outer : Nat
  cor : Nat
  info : List Bool
  deriving DecidableEq, Repr

/-- Decodes a codeword from its 20,480 decoder inputs (R179, R181). -/
def Ldpc.decode (q : Ldpc) (maxIt : Nat) (early : Bool) (inp : List Int) : Decoded :=
  let (l, used, ok) := q.run early maxIt 0 (inp.toArray, Array.replicate (q.r * 256) [])
  let u := (List.range (q.kb * 256)).map fun b => decide (l.getD b 0 < 0)
  let hard := inp.map fun x => decide (x < 0)
  match q.outer.errors u with
  | none => { iters := used, itmax := !ok, unc := true, outer := 0, cor := 0, info := u.take q.k }
  | some e =>
    let u' := flipAt u e
    { iters := used, itmax := !ok, unc := false, outer := e.length, cor := hamming hard (q.encode u'), info := u'.take q.k }

/-! ### Shaping (R94–R97) and groups (R176, R177) -/

/-- n! -/
def fact (n : Nat) : Nat := (List.range n).foldl (fun a i => a * (i + 1)) 1

/-- n! over the product of the factorials of the counts. -/
def multinomial (n : Nat) (comp : List Nat) : Nat := fact n / (comp.map fact).foldl (· * ·) 1

/-- The amplitude chosen next: the first whose sequences reach the rank, with the rank left below it (R96). -/
def matchPick (n : Nat) (comp : List Nat) : List Nat → Nat → Option (Nat × Nat)
  | [], _ => none
  | a :: as, r =>
    if comp.getD a 0 = 0 then matchPick n comp as r
    else
      let c := multinomial (n - 1) (comp.set a (comp.getD a 0 - 1))
      if r < c then some (a, r) else matchPick n comp as (r - c)

/-- The sequence of a rank among those of a composition, in ascending lexicographic order; amplitudes are numbered
0 to 3 for 1 to 7 (R96). -/
def matchSeq : Nat → List Nat → Nat → List Nat
  | 0, _, _ => []
  | n + 1, comp, r =>
    match matchPick (n + 1) comp (List.range comp.length) r with
    | none => []
    | some (a, r') => a :: matchSeq n (comp.set a (comp.getD a 0 - 1)) r'

/-- The rank of a sequence: what the dematcher computes (R96). -/
def rankSeq (comp : List Nat) : List Nat → Nat
  | [] => 0
  | a :: as =>
    ((List.range a).filter fun b => comp.getD b 0 != 0).foldl
        (fun acc b => acc + multinomial as.length (comp.set b (comp.getD b 0 - 1))) 0
      + rankSeq (comp.set a (comp.getD a 0 - 1)) as

/-- The amplitude label bits of amplitude 2a + 1: four amplitudes, or two (R95). -/
def ampLabel (four : Bool) (a : Nat) : List Bool :=
  if four then (match a with
    | 0 => [true, false]
    | 1 => [true, true]
    | 2 => [false, true]
    | _ => [false, false])
  else [a == 0]

/-- The label position of code bit t in QPSK and uniform 16QAM (R176). -/
def codePos (t : Nat) : Nat := 7919 * t % 20480

/-- The label bits of a QPSK or uniform 16QAM group from its codeword (R176). -/
def groupUniform (c : List Bool) : List Bool :=
  let a := c.toArray
  -- position q holds the code bit t with 7919 t = q (mod 20,480); 7919 · 7919⁻¹ = 1
  (List.range 20480).map fun p => a.getD (p * 16399 % 20480) false

/-- A PCS group: from the framer's bits, one composition and matcher input K, the amplitude of each dimension and its
sign bit (R177). -/
def groupShaped (q : Ldpc) (four : Bool) (comp : List Nat) (k : Nat) (bits : List Bool) : List (Nat × Bool) :=
  let nd := if four then 20480 else 10240
  let g := if four then 3 else 1
  let nb := nd / 1024
  let blocks := (List.range nb).map fun b => matchSeq 1024 comp (bitsNum ((bits.drop (b * k)).take k))
  let amps := blocks.flatten
  let ampBits := amps.flatMap (ampLabel four)
  let m := ampBits ++ (bits.drop (nb * k)).take (g * q.k - ampBits.length)
  let words := (List.range g).map fun i => q.codeword ((m.drop (i * q.k)).take q.k)
  let s := (m.drop ampBits.length ++ words.flatMap fun w => w.drop q.k).toArray
  (List.range nd).map fun j => (amps.getD j 0, s.getD (7919 * j % nd) false)

/-! ### Sequences (R102, R190, R195, R196, R271) -/

/-- The output bits of a shift register of w stages, s0 at bit 0, output and feedback at the top stage with one tap. -/
def lfsr (w tap : Nat) : Nat → Nat → List Bool
  | 0, _ => []
  | n + 1, s =>
    let out := bitOf s (w - 1)
    out :: lfsr w tap n (s * 2 % 2 ^ w + b2n (out != bitOf s tap))

/-- Bits b(2k) and b(2k + 1) of n pilots (R102): a bit of 1 makes the component negative. -/
def pilotBits (n seed : Nat) : List Bool := lfsr 11 8 (2 * n) seed

/-- The pilot seeds: X and Y of a carrier, or of a subcarrier (R102). -/
def pilotSeed (y : Bool) (sub : Option Nat) : Nat :=
  (if y then 0x2C7 else 0x5A3) ^^^ (match sub with | none => 0 | some s => s * 16)

/-- The scrambling sequence from the start of a code period or burst (R195). -/
def scramble (n : Nat) : List Bool := lfsr 31 27 n (2 ^ 31 - 1)

/-- FAW_X ‖ FAW_Y, SFAW and SMFAW (R190, R196). -/
def fawWord : Nat := 0x6B1E93C40F72A5D83C69E0B417FA4C2D * 2 ^ 128 + 0x92D46A0FE13B7C58A90E46D3BF21587C
def sfawWord : Nat := 0xB21E
def smfawWord : Nat := 0xB2E1

/-- How many of the low w bits of two numbers differ. -/
def bitDiff (w a b : Nat) : Nat := popCount w (a ^^^ b)

/-- PRE16 and SYNC of a burst, X then Y (R271). -/
def preX : Nat := 0x1E4BD278
def preY : Nat := 0x8D63B91C
def syncX : Nat := 0xF3A05C961B7E4D28
def syncY : Nat := 0x0C5FA369E481B2D7

/-- SYNC as 128 bits. -/
def syncWord : Nat := syncX * 2 ^ 64 + syncY

end Sys2Proof.Machine
end

