-- ==== Sys2Proof/Machine/RegDev.lean ====
section
/-!
DEFINITION. Machine/RegDev.lean: the registers of the pages MGT, BOOT, SEC, PWR, ERR, SNAP, TIME, DPL as the spec
tables give them: each register's offset, each field's place, and one row a register (offset, bits that software
writes, bits that trigger an action when 1 is written, the reset value, whether deals can stage it).
-/

namespace Sys2Proof.Machine

/-- One register of a page: its offset; the bits a write sets (RW); the bits whose writing triggers (W1S, WO); the
reset value; whether it has a staging shadow (R43). A register with neither kind of writable bit is RO. -/
structure RegRow where
  off : Nat
  rw : Word
  w1 : Word
  rst : Word
  stage : Bool
  deriving DecidableEq, Repr

/-! ### MGT (R29) -/

def MGT.INT_SUM : Nat := 0x100
def MGT.INT_SUM_GRP : Fld := ⟨MGT.INT_SUM, 0, 18⟩
def MGT.INTN_EN : Nat := 0x104
def MGT.INTN_EN_GRP : Fld := ⟨MGT.INTN_EN, 0, 18⟩
def MGT.BAD_ACC_CNT : Nat := 0x108
def MGT.BAD_ACC_CNT_COUNT : Fld := ⟨MGT.BAD_ACC_CNT, 0, 32⟩
def MGT.BAD_ACC_ADDR : Nat := 0x10C
def MGT.BAD_ACC_ADDR_BAR2 : Fld := ⟨MGT.BAD_ACC_ADDR, 31, 1⟩
def MGT.BAD_ACC_ADDR_ADDR : Fld := ⟨MGT.BAD_ACC_ADDR, 0, 26⟩
def MGT.LOCK_BREAK : Nat := 0x110
def MGT.LOCK_BREAK_PAGE : Fld := ⟨MGT.LOCK_BREAK, 0, 32⟩
def MGT.I2C_ADDR : Nat := 0x114
def MGT.I2C_ADDR_ADDR : Fld := ⟨MGT.I2C_ADDR, 0, 7⟩
def MGT.GPIO_DIR : Nat := 0x140
def MGT.GPIO_DIR_OUT : Fld := ⟨MGT.GPIO_DIR, 0, 8⟩
def MGT.GPIO_OUT : Nat := 0x144
def MGT.GPIO_OUT_LEVEL : Fld := ⟨MGT.GPIO_OUT, 0, 8⟩
def MGT.GPIO_IN : Nat := 0x148
def MGT.GPIO_IN_LEVEL : Fld := ⟨MGT.GPIO_IN, 0, 8⟩
def MGT.GPIO_OD : Nat := 0x14C
def MGT.GPIO_OD_OD : Fld := ⟨MGT.GPIO_OD, 0, 8⟩

def MGT.rows0 : List RegRow := [
  ⟨0x100, 0x0, 0x0, 0x0, false⟩,
  ⟨0x104, 0x3FFFF, 0x0, 0x3FFFF, false⟩,
  ⟨0x108, 0x0, 0x0, 0x0, false⟩,
  ⟨0x10C, 0x0, 0x0, 0x0, false⟩,
  ⟨0x110, 0x0, 0xFFFFFFFF, 0x0, false⟩,
  ⟨0x114, 0x7F, 0x0, 0x5C, false⟩,
  ⟨0x140, 0xFF, 0x0, 0x0, false⟩,
  ⟨0x144, 0xFF, 0x0, 0x0, false⟩,
  ⟨0x148, 0x0, 0x0, 0x0, false⟩,
  ⟨0x14C, 0xFF, 0x0, 0x0, false⟩]

/-- The registers of MGT (R29). -/
def MGT.rows : List RegRow := MGT.rows0

/-! ### BOOT (R501) -/

def BOOT.BOOT_STAT : Nat := 0x100
def BOOT.BOOT_STAT_HALTED : Fld := ⟨BOOT.BOOT_STAT, 31, 1⟩
def BOOT.BOOT_STAT_DONE : Fld := ⟨BOOT.BOOT_STAT, 30, 1⟩
def BOOT.BOOT_STAT_STEP : Fld := ⟨BOOT.BOOT_STAT, 24, 4⟩
def BOOT.BOOT_STAT_SLOT : Fld := ⟨BOOT.BOOT_STAT, 20, 1⟩
def BOOT.BOOT_STAT_START_NUM : Fld := ⟨BOOT.BOOT_STAT, 8, 8⟩
def BOOT.BOOT_STAT_CAUSE : Fld := ⟨BOOT.BOOT_STAT, 0, 8⟩
def BOOT.BOOT_FB : Nat := 0x104
def BOOT.BOOT_FAILS : Nat := 0x108
def BOOT.FB_UNIT : Nat := 0x10C
def BOOT.BOOT_CMD : Nat := 0x110
def BOOT.BOOT_CMD_KEY : Fld := ⟨BOOT.BOOT_CMD, 16, 16⟩
def BOOT.BOOT_CMD_PREF : Fld := ⟨BOOT.BOOT_CMD, 8, 1⟩
def BOOT.BOOT_CMD_RESTART : Fld := ⟨BOOT.BOOT_CMD, 2, 1⟩
def BOOT.BOOT_CMD_SET_PREF : Fld := ⟨BOOT.BOOT_CMD, 1, 1⟩
def BOOT.BOOT_CLR : Nat := 0x114
def BOOT.BOOT_CLR_STEPS : Fld := ⟨BOOT.BOOT_CLR, 0, 12⟩
def BOOT.SLOT_STAT : Nat := 0x118
def BOOT.SLOT_STAT_B_OK : Fld := ⟨BOOT.SLOT_STAT, 9, 1⟩
def BOOT.SLOT_STAT_A_OK : Fld := ⟨BOOT.SLOT_STAT, 8, 1⟩
def BOOT.SLOT_STAT_PREF : Fld := ⟨BOOT.SLOT_STAT, 0, 1⟩
def BOOT.IMG_VER : Nat := 0x11C
def BOOT.BOOT_TIME : Nat := 0x120
def BOOT.BOOT_TIME_MS : Fld := ⟨BOOT.BOOT_TIME, 0, 24⟩
def BOOT.REC_HEAD : Nat := 0x124
def BOOT.REC_HEAD_IDX : Fld := ⟨BOOT.REC_HEAD, 0, 5⟩
def BOOT.FL_ADDR : Nat := 0x130
def BOOT.FL_ADDR_ADDR : Fld := ⟨BOOT.FL_ADDR, 8, 18⟩
def BOOT.FL_CMD : Nat := 0x134
def BOOT.FL_CMD_SLOT : Fld := ⟨BOOT.FL_CMD, 8, 1⟩
def BOOT.FL_CMD_CMD : Fld := ⟨BOOT.FL_CMD, 0, 2⟩
def BOOT.FL_STAT : Nat := 0x138
def BOOT.FL_STAT_VERIFY_OK : Fld := ⟨BOOT.FL_STAT, 3, 1⟩
def BOOT.FL_STAT_ERR : Fld := ⟨BOOT.FL_STAT, 2, 1⟩
def BOOT.FL_STAT_DONE : Fld := ⟨BOOT.FL_STAT, 1, 1⟩
def BOOT.FL_STAT_BUSY : Fld := ⟨BOOT.FL_STAT, 0, 1⟩
def BOOT.REC_W0 (i : Nat) : Nat := 0x200 + 0x8 * i
def BOOT.REC_W1 (i : Nat) : Nat := 0x204 + 0x8 * i

def BOOT.rows0 : List RegRow := [
  ⟨0x100, 0x0, 0x0, 0x0, false⟩,
  ⟨0x104, 0x0, 0x0, 0x0, false⟩,
  ⟨0x108, 0x0, 0x0, 0x0, false⟩,
  ⟨0x10C, 0x0, 0x0, 0x0, false⟩,
  ⟨0x110, 0x0, 0xFFFF0106, 0x0, false⟩,
  ⟨0x114, 0x0, 0xFFF, 0x0, false⟩,
  ⟨0x118, 0x0, 0x0, 0x0, false⟩,
  ⟨0x11C, 0x0, 0x0, 0x0, false⟩,
  ⟨0x120, 0x0, 0x0, 0x0, false⟩,
  ⟨0x124, 0x0, 0x0, 0x0, false⟩,
  ⟨0x130, 0x3FFFF00, 0x0, 0x0, false⟩,
  ⟨0x134, 0x0, 0x103, 0x0, false⟩,
  ⟨0x138, 0x0, 0x0, 0x0, false⟩,
  ⟨0x200, 0x0, 0x0, 0x0, false⟩,
  ⟨0x204, 0x0, 0x0, 0x0, false⟩,
  ⟨0x208, 0x0, 0x0, 0x0, false⟩,
  ⟨0x20C, 0x0, 0x0, 0x0, false⟩,
  ⟨0x210, 0x0, 0x0, 0x0, false⟩,
  ⟨0x214, 0x0, 0x0, 0x0, false⟩,
  ⟨0x218, 0x0, 0x0, 0x0, false⟩,
  ⟨0x21C, 0x0, 0x0, 0x0, false⟩,
  ⟨0x220, 0x0, 0x0, 0x0, false⟩,
  ⟨0x224, 0x0, 0x0, 0x0, false⟩,
  ⟨0x228, 0x0, 0x0, 0x0, false⟩,
  ⟨0x22C, 0x0, 0x0, 0x0, false⟩,
  ⟨0x230, 0x0, 0x0, 0x0, false⟩,
  ⟨0x234, 0x0, 0x0, 0x0, false⟩,
  ⟨0x238, 0x0, 0x0, 0x0, false⟩,
  ⟨0x23C, 0x0, 0x0, 0x0, false⟩,
  ⟨0x240, 0x0, 0x0, 0x0, false⟩,
  ⟨0x244, 0x0, 0x0, 0x0, false⟩,
  ⟨0x248, 0x0, 0x0, 0x0, false⟩,
  ⟨0x24C, 0x0, 0x0, 0x0, false⟩,
  ⟨0x250, 0x0, 0x0, 0x0, false⟩,
  ⟨0x254, 0x0, 0x0, 0x0, false⟩,
  ⟨0x258, 0x0, 0x0, 0x0, false⟩,
  ⟨0x25C, 0x0, 0x0, 0x0, false⟩,
  ⟨0x260, 0x0, 0x0, 0x0, false⟩,
  ⟨0x264, 0x0, 0x0, 0x0, false⟩,
  ⟨0x268, 0x0, 0x0, 0x0, false⟩]

def BOOT.rows1 : List RegRow := [
  ⟨0x26C, 0x0, 0x0, 0x0, false⟩,
  ⟨0x270, 0x0, 0x0, 0x0, false⟩,
  ⟨0x274, 0x0, 0x0, 0x0, false⟩,
  ⟨0x278, 0x0, 0x0, 0x0, false⟩,
  ⟨0x27C, 0x0, 0x0, 0x0, false⟩,
  ⟨0x280, 0x0, 0x0, 0x0, false⟩,
  ⟨0x284, 0x0, 0x0, 0x0, false⟩,
  ⟨0x288, 0x0, 0x0, 0x0, false⟩,
  ⟨0x28C, 0x0, 0x0, 0x0, false⟩,
  ⟨0x290, 0x0, 0x0, 0x0, false⟩,
  ⟨0x294, 0x0, 0x0, 0x0, false⟩,
  ⟨0x298, 0x0, 0x0, 0x0, false⟩,
  ⟨0x29C, 0x0, 0x0, 0x0, false⟩,
  ⟨0x2A0, 0x0, 0x0, 0x0, false⟩,
  ⟨0x2A4, 0x0, 0x0, 0x0, false⟩,
  ⟨0x2A8, 0x0, 0x0, 0x0, false⟩,
  ⟨0x2AC, 0x0, 0x0, 0x0, false⟩,
  ⟨0x2B0, 0x0, 0x0, 0x0, false⟩,
  ⟨0x2B4, 0x0, 0x0, 0x0, false⟩,
  ⟨0x2B8, 0x0, 0x0, 0x0, false⟩,
  ⟨0x2BC, 0x0, 0x0, 0x0, false⟩,
  ⟨0x2C0, 0x0, 0x0, 0x0, false⟩,
  ⟨0x2C4, 0x0, 0x0, 0x0, false⟩,
  ⟨0x2C8, 0x0, 0x0, 0x0, false⟩,
  ⟨0x2CC, 0x0, 0x0, 0x0, false⟩,
  ⟨0x2D0, 0x0, 0x0, 0x0, false⟩,
  ⟨0x2D4, 0x0, 0x0, 0x0, false⟩,
  ⟨0x2D8, 0x0, 0x0, 0x0, false⟩,
  ⟨0x2DC, 0x0, 0x0, 0x0, false⟩,
  ⟨0x2E0, 0x0, 0x0, 0x0, false⟩,
  ⟨0x2E4, 0x0, 0x0, 0x0, false⟩,
  ⟨0x2E8, 0x0, 0x0, 0x0, false⟩,
  ⟨0x2EC, 0x0, 0x0, 0x0, false⟩,
  ⟨0x2F0, 0x0, 0x0, 0x0, false⟩,
  ⟨0x2F4, 0x0, 0x0, 0x0, false⟩,
  ⟨0x2F8, 0x0, 0x0, 0x0, false⟩,
  ⟨0x2FC, 0x0, 0x0, 0x0, false⟩]

/-- The registers of BOOT (R501). -/
def BOOT.rows : List RegRow := BOOT.rows0 ++ BOOT.rows1

/-! ### SEC (R502) -/

def SEC.SEC_STAT : Nat := 0x100
def SEC.SEC_STAT_LOCKOUT : Fld := ⟨SEC.SEC_STAT, 10, 1⟩
def SEC.SEC_STAT_CHAL_PENDING : Fld := ⟨SEC.SEC_STAT, 9, 1⟩
def SEC.SEC_STAT_SIGN_BUSY : Fld := ⟨SEC.SEC_STAT, 8, 1⟩
def SEC.SEC_STAT_SESSION : Fld := ⟨SEC.SEC_STAT, 4, 3⟩
def SEC.SEC_STAT_RNG_OK : Fld := ⟨SEC.SEC_STAT, 1, 1⟩
def SEC.SEC_STAT_PROVISIONED : Fld := ⟨SEC.SEC_STAT, 0, 1⟩
def SEC.DEV_ID (i : Nat) : Nat := 0x104 + 0x4 * i
def SEC.FUSE_CNT : Nat := 0x114
def SEC.FUSE_CNT_SVN : Fld := ⟨SEC.FUSE_CNT, 16, 7⟩
def SEC.FUSE_CNT_TOP : Fld := ⟨SEC.FUSE_CNT, 0, 11⟩
def SEC.LMS_IDX : Nat := 0x118
def SEC.LMS_IDX_Q0 : Fld := ⟨SEC.LMS_IDX, 16, 10⟩
def SEC.LMS_IDX_Q1 : Fld := ⟨SEC.LMS_IDX, 0, 10⟩
def SEC.RNG_DATA : Nat := 0x11C
def SEC.CHAL_CMD : Nat := 0x120
def SEC.CHAL_CMD_CLOSE : Fld := ⟨SEC.CHAL_CMD, 10, 1⟩
def SEC.CHAL_CMD_TOKEN_GO : Fld := ⟨SEC.CHAL_CMD, 9, 1⟩
def SEC.CHAL_CMD_GO : Fld := ⟨SEC.CHAL_CMD, 8, 1⟩
def SEC.CHAL_CMD_SCOPE : Fld := ⟨SEC.CHAL_CMD, 0, 3⟩
def SEC.CHAL_STAT : Nat := 0x124
def SEC.CHAL_STAT_FAILS : Fld := ⟨SEC.CHAL_STAT, 4, 4⟩
def SEC.CHAL_NONCE (i : Nat) : Nat := 0x128 + 0x4 * i
def SEC.SEC_CMD : Nat := 0x148
def SEC.SEC_CMD_KEY : Fld := ⟨SEC.SEC_CMD, 16, 16⟩
def SEC.SEC_CMD_PROVISION : Fld := ⟨SEC.SEC_CMD, 1, 1⟩
def SEC.SEC_CMD_SVN_COMMIT : Fld := ⟨SEC.SEC_CMD, 0, 1⟩
def SEC.ATT_CMD : Nat := 0x14C
def SEC.ATT_CMD_GO : Fld := ⟨SEC.ATT_CMD, 0, 1⟩
def SEC.ATT_STAT : Nat := 0x150
def SEC.ATT_STAT_CAUSE : Fld := ⟨SEC.ATT_STAT, 8, 8⟩
def SEC.ATT_STAT_FAIL : Fld := ⟨SEC.ATT_STAT, 1, 1⟩
def SEC.ATT_STAT_DONE : Fld := ⟨SEC.ATT_STAT, 0, 1⟩
def SEC.MLOG_N : Nat := 0x154
def SEC.MLOG_N_OVF : Fld := ⟨SEC.MLOG_N, 7, 1⟩
def SEC.MLOG_N_COUNT : Fld := ⟨SEC.MLOG_N, 0, 7⟩
def SEC.MEAS : Nat := 0x158

def SEC.rows0 : List RegRow := [
  ⟨0x100, 0x0, 0x0, 0x0, false⟩,
  ⟨0x104, 0x0, 0x0, 0x0, false⟩,
  ⟨0x108, 0x0, 0x0, 0x0, false⟩,
  ⟨0x10C, 0x0, 0x0, 0x0, false⟩,
  ⟨0x110, 0x0, 0x0, 0x0, false⟩,
  ⟨0x114, 0x0, 0x0, 0x0, false⟩,
  ⟨0x118, 0x0, 0x0, 0x0, false⟩,
  ⟨0x11C, 0x0, 0x0, 0x0, false⟩,
  ⟨0x120, 0x0, 0x707, 0x0, false⟩,
  ⟨0x124, 0x0, 0x0, 0x0, false⟩,
  ⟨0x128, 0x0, 0x0, 0x0, false⟩,
  ⟨0x12C, 0x0, 0x0, 0x0, false⟩,
  ⟨0x130, 0x0, 0x0, 0x0, false⟩,
  ⟨0x134, 0x0, 0x0, 0x0, false⟩,
  ⟨0x138, 0x0, 0x0, 0x0, false⟩,
  ⟨0x13C, 0x0, 0x0, 0x0, false⟩,
  ⟨0x140, 0x0, 0x0, 0x0, false⟩,
  ⟨0x144, 0x0, 0x0, 0x0, false⟩,
  ⟨0x148, 0x0, 0xFFFF0003, 0x0, false⟩,
  ⟨0x14C, 0x0, 0x1, 0x0, false⟩,
  ⟨0x150, 0x0, 0x0, 0x0, false⟩,
  ⟨0x154, 0x0, 0x0, 0x0, false⟩,
  ⟨0x158, 0x0, 0x0, 0x0, false⟩]

/-- The registers of SEC (R502). -/
def SEC.rows : List RegRow := SEC.rows0

/-! ### PWR (R478) -/

def PWR.PD_REQ : Nat := 0x100
def PWR.PD_REQ_STATE : Fld := ⟨PWR.PD_REQ, 8, 2⟩
def PWR.PD_REQ_DOMAIN : Fld := ⟨PWR.PD_REQ, 0, 8⟩
def PWR.PWR_STAT : Nat := 0x104
def PWR.PWR_STAT_BUSY_CNT : Fld := ⟨PWR.PWR_STAT, 16, 8⟩
def PWR.PWR_STAT_NCAR : Fld := ⟨PWR.PWR_STAT, 8, 3⟩
def PWR.PWR_STAT_AVS_BUSY : Fld := ⟨PWR.PWR_STAT, 5, 1⟩
def PWR.PWR_STAT_FULL : Fld := ⟨PWR.PWR_STAT, 4, 1⟩
def PWR.PWR_CFG : Nat := 0x108
def PWR.PWR_CFG_QUIESCE_TO : Fld := ⟨PWR.PWR_CFG, 16, 10⟩
def PWR.PWR_CFG_THERM_LIM : Fld := ⟨PWR.PWR_CFG, 0, 8⟩
def PWR.AVS_VTAB (i : Nat) : Nat := 0x10C + 0x4 * i
def PWR.AVS_VTAB_MV (i : Nat) : Fld := ⟨PWR.AVS_VTAB i, 0, 10⟩
def PWR.AVS_STAT : Nat := 0x118
def PWR.AVS_STAT_VNOW : Fld := ⟨PWR.AVS_STAT, 16, 10⟩
def PWR.AVS_STAT_ATTEMPTS : Fld := ⟨PWR.AVS_STAT, 12, 4⟩
def PWR.AVS_STAT_VTARGET : Fld := ⟨PWR.AVS_STAT, 0, 10⟩
def PWR.AVS_ERR_CNT : Nat := 0x11C
def PWR.AVS_ERR_CNT_COUNT : Fld := ⟨PWR.AVS_ERR_CNT, 0, 32⟩
def PWR.STATE_MAP (i : Nat) : Nat := 0x130 + 0x4 * i
def PWR.PWR_TEMP : Nat := 0x150
def PWR.PWR_TEMP_DEG : Fld := ⟨PWR.PWR_TEMP, 0, 16⟩
def PWR.WAKE_CMD : Nat := 0x154
def PWR.WAKE_CMD_KEY : Fld := ⟨PWR.WAKE_CMD, 16, 16⟩
def PWR.WAKE_CMD_WAKE : Fld := ⟨PWR.WAKE_CMD, 1, 1⟩
def PWR.WAKE_CMD_SLEEP : Fld := ⟨PWR.WAKE_CMD, 0, 1⟩
def PWR.WAKE_STAT : Nat := 0x158
def PWR.WAKE_STAT_REASON : Fld := ⟨PWR.WAKE_STAT, 8, 2⟩
def PWR.WAKE_STAT_WAKE_N : Fld := ⟨PWR.WAKE_STAT, 1, 1⟩
def PWR.WAKE_STAT_WOKE : Fld := ⟨PWR.WAKE_STAT, 0, 1⟩

def PWR.rows0 : List RegRow := [
  ⟨0x100, 0x0, 0x3FF, 0x0, false⟩,
  ⟨0x104, 0x0, 0x0, 0x0, false⟩,
  ⟨0x108, 0x3FF00FF, 0x0, 0x640064, false⟩,
  ⟨0x10C, 0x3FF, 0x0, 0x0, false⟩,
  ⟨0x110, 0x3FF, 0x0, 0x0, false⟩,
  ⟨0x114, 0x3FF, 0x0, 0x0, false⟩,
  ⟨0x118, 0x0, 0x0, 0x0, false⟩,
  ⟨0x11C, 0x0, 0x0, 0x0, false⟩,
  ⟨0x130, 0x0, 0x0, 0x0, false⟩,
  ⟨0x134, 0x0, 0x0, 0x0, false⟩,
  ⟨0x138, 0x0, 0x0, 0x0, false⟩,
  ⟨0x13C, 0x0, 0x0, 0x0, false⟩,
  ⟨0x140, 0x0, 0x0, 0x0, false⟩,
  ⟨0x150, 0x0, 0x0, 0x0, false⟩,
  ⟨0x154, 0x0, 0xFFFF0003, 0x0, false⟩,
  ⟨0x158, 0x0, 0x0, 0x2, false⟩]

/-- The registers of PWR (R478). -/
def PWR.rows : List RegRow := PWR.rows0

/-! ### ERR (R526) -/

def ERR.PEND_G (i : Nat) : Nat := 0x100 + 0x4 * i
def ERR.PEND_G_PAGE (i : Nat) : Fld := ⟨ERR.PEND_G i, 0, 32⟩
def ERR.GRP_VEC (i : Nat) : Nat := 0x180 + 0x4 * i
def ERR.GRP_VEC_EN (i : Nat) : Fld := ⟨ERR.GRP_VEC i, 8, 1⟩
def ERR.GRP_VEC_VEC (i : Nat) : Fld := ⟨ERR.GRP_VEC i, 0, 8⟩
def ERR.ERR_CFG : Nat := 0x200
def ERR.ERR_CFG_CALL_LEVEL : Fld := ⟨ERR.ERR_CFG, 0, 3⟩
def ERR.ISL_BUSY : Nat := 0x204
def ERR.ISL_BUSY_MAP : Fld := ⟨ERR.ISL_BUSY, 0, 25⟩
def ERR.ISL_FAILED : Nat := 0x208
def ERR.ISL_FAILED_MAP : Fld := ⟨ERR.ISL_FAILED, 0, 25⟩
def ERR.ISL_QPEND : Nat := 0x20C
def ERR.ISL_QPEND_MAP : Fld := ⟨ERR.ISL_QPEND, 0, 25⟩
def ERR.CLASS_CNT (i : Nat) : Nat := 0x210 + 0x4 * i
def ERR.ESC_CNT : Nat := 0x224
def ERR.ESC_CNT_COUNT : Fld := ⟨ERR.ESC_CNT, 0, 32⟩
def ERR.QOVF_CNT : Nat := 0x228
def ERR.QOVF_CNT_COUNT : Fld := ⟨ERR.QOVF_CNT, 0, 32⟩
def ERR.Q_SEL : Nat := 0x230
def ERR.Q_SEL_ISLAND : Fld := ⟨ERR.Q_SEL, 0, 5⟩
def ERR.Q_STAT : Nat := 0x234
def ERR.Q_STAT_DEPTH : Fld := ⟨ERR.Q_STAT, 0, 4⟩
def ERR.Q_POP : Nat := 0x238
def ERR.Q_POP_POP : Fld := ⟨ERR.Q_POP, 0, 1⟩
def ERR.ISL_CTL : Nat := 0x240
def ERR.ISL_CTL_KEY : Fld := ⟨ERR.ISL_CTL, 16, 16⟩
def ERR.ISL_CTL_RELEASE : Fld := ⟨ERR.ISL_CTL, 12, 1⟩
def ERR.ISL_CTL_RESET : Fld := ⟨ERR.ISL_CTL, 8, 1⟩
def ERR.ISL_CTL_ISLAND : Fld := ⟨ERR.ISL_CTL, 0, 5⟩
def ERR.SEQ : Nat := 0x244
def ERR.SEQ_NEXT : Fld := ⟨ERR.SEQ, 0, 16⟩
def ERR.DF_LAST (i : Nat) : Nat := 0x260 + 0x4 * i

def ERR.rows0 : List RegRow := [
  ⟨0x100, 0x0, 0x0, 0x0, false⟩,
  ⟨0x104, 0x0, 0x0, 0x0, false⟩,
  ⟨0x108, 0x0, 0x0, 0x0, false⟩,
  ⟨0x10C, 0x0, 0x0, 0x0, false⟩,
  ⟨0x110, 0x0, 0x0, 0x0, false⟩,
  ⟨0x114, 0x0, 0x0, 0x0, false⟩,
  ⟨0x118, 0x0, 0x0, 0x0, false⟩,
  ⟨0x11C, 0x0, 0x0, 0x0, false⟩,
  ⟨0x120, 0x0, 0x0, 0x0, false⟩,
  ⟨0x124, 0x0, 0x0, 0x0, false⟩,
  ⟨0x128, 0x0, 0x0, 0x0, false⟩,
  ⟨0x12C, 0x0, 0x0, 0x0, false⟩,
  ⟨0x130, 0x0, 0x0, 0x0, false⟩,
  ⟨0x134, 0x0, 0x0, 0x0, false⟩,
  ⟨0x138, 0x0, 0x0, 0x0, false⟩,
  ⟨0x13C, 0x0, 0x0, 0x0, false⟩,
  ⟨0x140, 0x0, 0x0, 0x0, false⟩,
  ⟨0x144, 0x0, 0x0, 0x0, false⟩,
  ⟨0x180, 0x1FF, 0x0, 0x100, false⟩,
  ⟨0x184, 0x1FF, 0x0, 0x101, false⟩,
  ⟨0x188, 0x1FF, 0x0, 0x102, false⟩,
  ⟨0x18C, 0x1FF, 0x0, 0x103, false⟩,
  ⟨0x190, 0x1FF, 0x0, 0x104, false⟩,
  ⟨0x194, 0x1FF, 0x0, 0x105, false⟩,
  ⟨0x198, 0x1FF, 0x0, 0x106, false⟩,
  ⟨0x19C, 0x1FF, 0x0, 0x107, false⟩,
  ⟨0x1A0, 0x1FF, 0x0, 0x108, false⟩,
  ⟨0x1A4, 0x1FF, 0x0, 0x109, false⟩,
  ⟨0x1A8, 0x1FF, 0x0, 0x10A, false⟩,
  ⟨0x1AC, 0x1FF, 0x0, 0x10B, false⟩,
  ⟨0x1B0, 0x1FF, 0x0, 0x10C, false⟩,
  ⟨0x1B4, 0x1FF, 0x0, 0x10D, false⟩,
  ⟨0x1B8, 0x1FF, 0x0, 0x10E, false⟩,
  ⟨0x1BC, 0x1FF, 0x0, 0x10F, false⟩,
  ⟨0x1C0, 0x1FF, 0x0, 0x110, false⟩,
  ⟨0x1C4, 0x1FF, 0x0, 0x111, false⟩,
  ⟨0x200, 0x7, 0x0, 0x3, false⟩,
  ⟨0x204, 0x0, 0x0, 0x0, false⟩,
  ⟨0x208, 0x0, 0x0, 0x0, false⟩,
  ⟨0x20C, 0x0, 0x0, 0x0, false⟩]

def ERR.rows1 : List RegRow := [
  ⟨0x210, 0x0, 0x0, 0x0, false⟩,
  ⟨0x214, 0x0, 0x0, 0x0, false⟩,
  ⟨0x218, 0x0, 0x0, 0x0, false⟩,
  ⟨0x21C, 0x0, 0x0, 0x0, false⟩,
  ⟨0x220, 0x0, 0x0, 0x0, false⟩,
  ⟨0x224, 0x0, 0x0, 0x0, false⟩,
  ⟨0x228, 0x0, 0x0, 0x0, false⟩,
  ⟨0x230, 0x1F, 0x0, 0x0, false⟩,
  ⟨0x234, 0x0, 0x0, 0x0, false⟩,
  ⟨0x238, 0x0, 0x1, 0x0, false⟩,
  ⟨0x240, 0x0, 0xFFFF111F, 0x0, false⟩,
  ⟨0x244, 0x0, 0x0, 0x0, false⟩,
  ⟨0x260, 0x0, 0x0, 0x0, false⟩,
  ⟨0x264, 0x0, 0x0, 0x0, false⟩,
  ⟨0x268, 0x0, 0x0, 0x0, false⟩,
  ⟨0x26C, 0x0, 0x0, 0x0, false⟩,
  ⟨0x270, 0x0, 0x0, 0x0, false⟩,
  ⟨0x274, 0x0, 0x0, 0x0, false⟩,
  ⟨0x278, 0x0, 0x0, 0x0, false⟩]

/-- The registers of ERR (R526). -/
def ERR.rows : List RegRow := ERR.rows0 ++ ERR.rows1

/-! ### SNAP (R529) -/

def SNAP.CALL_CMD : Nat := 0x100
def SNAP.CALL_CMD_GO : Fld := ⟨SNAP.CALL_CMD, 0, 1⟩
def SNAP.CALL_LAST : Nat := 0x104
def SNAP.CALL_LAST_NUM : Fld := ⟨SNAP.CALL_LAST, 0, 16⟩
def SNAP.CALL_T_LO : Nat := 0x108
def SNAP.CALL_T_HI : Nat := 0x10C
def SNAP.CALL_SRC : Nat := 0x110
def SNAP.CALL_SRC_SRC : Fld := ⟨SNAP.CALL_SRC, 0, 7⟩
def SNAP.CALL_IN_CFG : Nat := 0x114
def SNAP.CALL_IN_CFG_MIN_W : Fld := ⟨SNAP.CALL_IN_CFG, 8, 8⟩
def SNAP.CALL_IN_CFG_EDGE : Fld := ⟨SNAP.CALL_IN_CFG, 1, 1⟩
def SNAP.CALL_IN_CFG_EN : Fld := ⟨SNAP.CALL_IN_CFG, 0, 1⟩
def SNAP.CALL_OUT_CFG : Nat := 0x118
def SNAP.CALL_OUT_CFG_WIDTH : Fld := ⟨SNAP.CALL_OUT_CFG, 8, 8⟩
def SNAP.CALL_OUT_CFG_EN : Fld := ⟨SNAP.CALL_OUT_CFG, 0, 1⟩
def SNAP.CALL_IN_T_LO : Nat := 0x11C
def SNAP.CALL_IN_T_HI : Nat := 0x120
def SNAP.CALL_CNT : Nat := 0x124
def SNAP.CALL_CNT_COUNT : Fld := ⟨SNAP.CALL_CNT, 0, 32⟩
def SNAP.MERGE_CNT : Nat := 0x128
def SNAP.MERGE_CNT_COUNT : Fld := ⟨SNAP.MERGE_CNT, 0, 32⟩
def SNAP.SRC_EN : Nat := 0x12C
def SNAP.SRC_EN_SRC : Fld := ⟨SNAP.SRC_EN, 0, 7⟩

def SNAP.rows0 : List RegRow := [
  ⟨0x100, 0x0, 0x1, 0x0, false⟩,
  ⟨0x104, 0x0, 0x0, 0x0, false⟩,
  ⟨0x108, 0x0, 0x0, 0x0, false⟩,
  ⟨0x10C, 0x0, 0x0, 0x0, false⟩,
  ⟨0x110, 0x0, 0x0, 0x0, false⟩,
  ⟨0x114, 0xFF03, 0x0, 0xA00, false⟩,
  ⟨0x118, 0xFF01, 0x0, 0xA00, false⟩,
  ⟨0x11C, 0x0, 0x0, 0x0, false⟩,
  ⟨0x120, 0x0, 0x0, 0x0, false⟩,
  ⟨0x124, 0x0, 0x0, 0x0, false⟩,
  ⟨0x128, 0x0, 0x0, 0x0, false⟩,
  ⟨0x12C, 0x7F, 0x0, 0x7F, false⟩]

/-- The registers of SNAP (R529). -/
def SNAP.rows : List RegRow := SNAP.rows0

/-! ### TIME (R61) -/

def TIME.NOW_LO : Nat := 0x100
def TIME.NOW_LO_NS : Fld := ⟨TIME.NOW_LO, 0, 32⟩
def TIME.NOW_HI : Nat := 0x104
def TIME.NOW_HI_NS : Fld := ⟨TIME.NOW_HI, 0, 32⟩
def TIME.NOW_FRAC : Nat := 0x108
def TIME.NOW_FRAC_FRAC : Fld := ⟨TIME.NOW_FRAC, 0, 16⟩
def TIME.STEP_LO : Nat := 0x10C
def TIME.STEP_LO_OFS : Fld := ⟨TIME.STEP_LO, 0, 32⟩
def TIME.STEP_HI : Nat := 0x110
def TIME.STEP_HI_OFS : Fld := ⟨TIME.STEP_HI, 0, 32⟩
def TIME.STEP_CMD : Nat := 0x114
def TIME.STEP_CMD_BUSY : Fld := ⟨TIME.STEP_CMD, 1, 1⟩
def TIME.STEP_CMD_GO : Fld := ⟨TIME.STEP_CMD, 0, 1⟩
def TIME.TIME_STAT : Nat := 0x118
def TIME.TIME_STAT_TL_VALID : Fld := ⟨TIME.TIME_STAT, 4, 4⟩
def TIME.TIME_STAT_DIST_OK : Fld := ⟨TIME.TIME_STAT, 0, 1⟩
def TIME.CAR_MF_NUM (i : Nat) : Nat := 0x120 + 0x10 * i
def TIME.CAR_MF_TLO (i : Nat) : Nat := 0x124 + 0x10 * i
def TIME.CAR_MF_THI (i : Nat) : Nat := 0x128 + 0x10 * i
def TIME.MARK_CFG : Nat := 0x160
def TIME.MARK_CFG_MIN_MARKS : Fld := ⟨TIME.MARK_CFG, 8, 4⟩
def TIME.MARK_CFG_LEAD : Fld := ⟨TIME.MARK_CFG, 0, 8⟩
def TIME.DEAL_SEL : Nat := 0x180
def TIME.DEAL_SEL_ID : Fld := ⟨TIME.DEAL_SEL, 0, 8⟩
def TIME.DEAL_CMD : Nat := 0x184
def TIME.DEAL_CMD_CMD : Fld := ⟨TIME.DEAL_CMD, 0, 3⟩
def TIME.DEAL_TIME_LO : Nat := 0x188
def TIME.DEAL_TIME_HI : Nat := 0x18C
def TIME.DEAL_NUM : Nat := 0x190
def TIME.DEAL_CFG : Nat := 0x194
def TIME.DEAL_CFG_TAG : Fld := ⟨TIME.DEAL_CFG, 16, 8⟩
def TIME.DEAL_CFG_STACK : Fld := ⟨TIME.DEAL_CFG, 8, 1⟩
def TIME.DEAL_CFG_TRIG_MARK : Fld := ⟨TIME.DEAL_CFG, 7, 1⟩
def TIME.DEAL_CFG_LINE_LOCK : Fld := ⟨TIME.DEAL_CFG, 6, 1⟩
def TIME.DEAL_CFG_EXEC_IF_LATE : Fld := ⟨TIME.DEAL_CFG, 5, 1⟩
def TIME.DEAL_CFG_TGT_NUM : Fld := ⟨TIME.DEAL_CFG, 4, 1⟩
def TIME.DEAL_CFG_CARRIER : Fld := ⟨TIME.DEAL_CFG, 2, 2⟩
def TIME.DEAL_CFG_ALIGN : Fld := ⟨TIME.DEAL_CFG, 0, 2⟩
def TIME.DEAL_STAT : Nat := 0x198
def TIME.DEAL_STAT_FLAGS : Fld := ⟨TIME.DEAL_STAT, 24, 4⟩
def TIME.DEAL_STAT_REASON : Fld := ⟨TIME.DEAL_STAT, 16, 4⟩
def TIME.DEAL_STAT_NUM_ACT : Fld := ⟨TIME.DEAL_STAT, 4, 7⟩
def TIME.DEAL_STAT_STATE : Fld := ⟨TIME.DEAL_STAT, 0, 3⟩
def TIME.DEAL_EXEC_LO : Nat := 0x1A0
def TIME.DEAL_EXEC_HI : Nat := 0x1A4
def TIME.DEAL_EXEC_NUM : Nat := 0x1A8
def TIME.CMD_PAGE : Nat := 0x1B0
def TIME.CMD_ARG : Nat := 0x1B4
def TIME.CMD_CODE : Nat := 0x1B8
def TIME.DEAL_SUM : Nat := 0x1C0
def TIME.DEAL_SUM_FREE : Fld := ⟨TIME.DEAL_SUM, 8, 6⟩
def TIME.DEAL_SUM_PENDING : Fld := ⟨TIME.DEAL_SUM, 0, 6⟩
def TIME.COMMIT_LEAD : Nat := 0x1C4
def TIME.COMMIT_LEAD_NS : Fld := ⟨TIME.COMMIT_LEAD, 0, 32⟩

def TIME.rows0 : List RegRow := [
  ⟨0x100, 0x0, 0x0, 0x0, false⟩,
  ⟨0x104, 0x0, 0x0, 0x0, false⟩,
  ⟨0x108, 0x0, 0x0, 0x0, false⟩,
  ⟨0x10C, 0xFFFFFFFF, 0x0, 0x0, false⟩,
  ⟨0x110, 0xFFFFFFFF, 0x0, 0x0, false⟩,
  ⟨0x114, 0x0, 0x1, 0x0, false⟩,
  ⟨0x118, 0x0, 0x0, 0x0, false⟩,
  ⟨0x120, 0x0, 0x0, 0x0, false⟩,
  ⟨0x124, 0x0, 0x0, 0x0, false⟩,
  ⟨0x128, 0x0, 0x0, 0x0, false⟩,
  ⟨0x130, 0x0, 0x0, 0x0, false⟩,
  ⟨0x134, 0x0, 0x0, 0x0, false⟩,
  ⟨0x138, 0x0, 0x0, 0x0, false⟩,
  ⟨0x140, 0x0, 0x0, 0x0, false⟩,
  ⟨0x144, 0x0, 0x0, 0x0, false⟩,
  ⟨0x148, 0x0, 0x0, 0x0, false⟩,
  ⟨0x150, 0x0, 0x0, 0x0, false⟩,
  ⟨0x154, 0x0, 0x0, 0x0, false⟩,
  ⟨0x158, 0x0, 0x0, 0x0, false⟩,
  ⟨0x160, 0xFFF, 0x0, 0x240, false⟩,
  ⟨0x180, 0xFF, 0x0, 0x0, false⟩,
  ⟨0x184, 0x0, 0x7, 0x0, false⟩,
  ⟨0x188, 0xFFFFFFFF, 0x0, 0x0, false⟩,
  ⟨0x18C, 0xFFFFFFFF, 0x0, 0x0, false⟩,
  ⟨0x190, 0xFFFFFFFF, 0x0, 0x0, false⟩,
  ⟨0x194, 0xFF00FF, 0x0, 0x0, false⟩,
  ⟨0x198, 0x0, 0x0, 0x0, false⟩,
  ⟨0x1A0, 0x0, 0x0, 0x0, false⟩,
  ⟨0x1A4, 0x0, 0x0, 0x0, false⟩,
  ⟨0x1A8, 0x0, 0x0, 0x0, false⟩,
  ⟨0x1B0, 0xFFFFFFFF, 0x0, 0x0, false⟩,
  ⟨0x1B4, 0xFFFFFFFF, 0x0, 0x0, false⟩,
  ⟨0x1B8, 0x0, 0xFF, 0x0, false⟩,
  ⟨0x1C0, 0x0, 0x0, 0x2000, false⟩,
  ⟨0x1C4, 0xFFFFFFFF, 0x0, 0x186A0, false⟩]

/-- The registers of TIME (R61). -/
def TIME.rows : List RegRow := TIME.rows0

/-! ### DPL (R397) -/

def DPL.D_CTL (i : Nat) : Nat := 0x100 + 0x40 * i
def DPL.D_CTL_STACK_HOLD (i : Nat) : Fld := ⟨DPL.D_CTL i, 16, 1⟩
def DPL.D_CTL_ACQ_BW (i : Nat) : Fld := ⟨DPL.D_CTL i, 12, 3⟩
def DPL.D_CTL_BW (i : Nat) : Fld := ⟨DPL.D_CTL i, 8, 3⟩
def DPL.D_CTL_FORCE_REF (i : Nat) : Fld := ⟨DPL.D_CTL i, 4, 4⟩
def DPL.D_CTL_FORCE_HO (i : Nat) : Fld := ⟨DPL.D_CTL i, 3, 1⟩
def DPL.D_CTL_LOOP_OPEN (i : Nat) : Fld := ⟨DPL.D_CTL i, 2, 1⟩
def DPL.D_CTL_REVERTIVE (i : Nat) : Fld := ⟨DPL.D_CTL i, 1, 1⟩
def DPL.D_CTL_EN (i : Nat) : Fld := ⟨DPL.D_CTL i, 0, 1⟩
def DPL.D_SLOPE (i : Nat) : Nat := 0x104 + 0x40 * i
def DPL.D_SLOPE_NS_S (i : Nat) : Fld := ⟨DPL.D_SLOPE i, 0, 17⟩
def DPL.D_HO (i : Nat) : Nat := 0x108 + 0x40 * i
def DPL.D_HO_GUARD (i : Nat) : Fld := ⟨DPL.D_HO i, 16, 12⟩
def DPL.D_HO_WIN (i : Nat) : Fld := ⟨DPL.D_HO i, 0, 12⟩
def DPL.D_STAT (i : Nat) : Nat := 0x10C + 0x40 * i
def DPL.D_STAT_PH_BIG (i : Nat) : Fld := ⟨DPL.D_STAT i, 11, 1⟩
def DPL.D_STAT_HIST_FROZEN (i : Nat) : Fld := ⟨DPL.D_STAT i, 10, 1⟩
def DPL.D_STAT_HO_SHORT (i : Nat) : Fld := ⟨DPL.D_STAT i, 9, 1⟩
def DPL.D_STAT_SLEWING (i : Nat) : Fld := ⟨DPL.D_STAT i, 8, 1⟩
def DPL.D_STAT_SEL (i : Nat) : Fld := ⟨DPL.D_STAT i, 4, 4⟩
def DPL.D_STAT_STATE (i : Nat) : Fld := ⟨DPL.D_STAT i, 0, 3⟩
def DPL.D_FFO (i : Nat) : Nat := 0x110 + 0x40 * i
def DPL.D_HO_FFO (i : Nat) : Nat := 0x114 + 0x40 * i
def DPL.D_FFO_SET (i : Nat) : Nat := 0x118 + 0x40 * i
def DPL.D_PHERR (i : Nat) : Nat := 0x11C + 0x40 * i
def DPL.D_SLEW_REM (i : Nat) : Nat := 0x120 + 0x40 * i
def DPL.D_SWITCH_CNT (i : Nat) : Nat := 0x124 + 0x40 * i
def DPL.MON_CFG : Nat := 0x180
def DPL.MON_CFG_ACCEPT : Fld := ⟨DPL.MON_CFG, 16, 16⟩
def DPL.MON_CFG_REJECT : Fld := ⟨DPL.MON_CFG, 0, 16⟩
def DPL.DRIFT_CFG : Nat := 0x184
def DPL.DRIFT_CFG_WIN : Fld := ⟨DPL.DRIFT_CFG, 16, 8⟩
def DPL.DRIFT_CFG_LIM : Fld := ⟨DPL.DRIFT_CFG, 0, 16⟩
def DPL.QUAL_CFG : Nat := 0x188
def DPL.QUAL_CFG_QUAL : Fld := ⟨DPL.QUAL_CFG, 16, 8⟩
def DPL.QUAL_CFG_WTR : Fld := ⟨DPL.QUAL_CFG, 0, 16⟩
def DPL.DEF_TIME : Nat := 0x18C
def DPL.SW_PHERR : Nat := 0x190
def DPL.SW_CFG : Nat := 0x194
def DPL.SW_CFG_SW_TO : Fld := ⟨DPL.SW_CFG, 0, 8⟩
def DPL.REF_SUM : Nat := 0x198
def DPL.REF_SUM_QUAL : Fld := ⟨DPL.REF_SUM, 16, 14⟩
def DPL.REF_SUM_DREF : Fld := ⟨DPL.REF_SUM, 0, 14⟩
def DPL.REF_CFG (i : Nat) : Nat := 0x200 + 0x20 * i
def DPL.REF_CFG_SRC_SEL (i : Nat) : Fld := ⟨DPL.REF_CFG i, 16, 6⟩
def DPL.REF_CFG_PPS (i : Nat) : Fld := ⟨DPL.REF_CFG i, 9, 1⟩
def DPL.REF_CFG_DRIFT_ACT (i : Nat) : Fld := ⟨DPL.REF_CFG i, 8, 1⟩
def DPL.REF_CFG_PRIO_B (i : Nat) : Fld := ⟨DPL.REF_CFG i, 4, 4⟩
def DPL.REF_CFG_PRIO_A (i : Nat) : Fld := ⟨DPL.REF_CFG i, 0, 4⟩
def DPL.REF_NOM (i : Nat) : Nat := 0x204 + 0x20 * i
def DPL.REF_NOM_KHZ (i : Nat) : Fld := ⟨DPL.REF_NOM i, 0, 20⟩
def DPL.REF_STAT (i : Nat) : Nat := 0x208 + 0x20 * i
def DPL.REF_STAT_WTR_REM (i : Nat) : Fld := ⟨DPL.REF_STAT i, 16, 12⟩
def DPL.REF_STAT_DREF_RAW (i : Nat) : Fld := ⟨DPL.REF_STAT i, 6, 1⟩
def DPL.REF_STAT_DREF (i : Nat) : Fld := ⟨DPL.REF_STAT i, 5, 1⟩
def DPL.REF_STAT_ELIGIBLE (i : Nat) : Fld := ⟨DPL.REF_STAT i, 4, 1⟩
def DPL.REF_STAT_QUALIFIED (i : Nat) : Fld := ⟨DPL.REF_STAT i, 3, 1⟩
def DPL.REF_STAT_DRIFTING (i : Nat) : Fld := ⟨DPL.REF_STAT i, 2, 1⟩
def DPL.REF_STAT_FREQ_OK (i : Nat) : Fld := ⟨DPL.REF_STAT i, 1, 1⟩
def DPL.REF_STAT_ACT_OK (i : Nat) : Fld := ⟨DPL.REF_STAT i, 0, 1⟩
def DPL.REF_MON (i : Nat) : Nat := 0x20C + 0x20 * i
def DPL.REF_MON_SLOPE (i : Nat) : Fld := ⟨DPL.REF_MON i, 16, 16⟩
def DPL.REF_MON_FOFS (i : Nat) : Fld := ⟨DPL.REF_MON i, 0, 16⟩
def DPL.REF_DLY (i : Nat) : Nat := 0x210 + 0x20 * i
def DPL.OUT_CFG (i : Nat) : Nat := 0x400 + 0x20 * i
def DPL.OUT_CFG_REALIGN (i : Nat) : Fld := ⟨DPL.OUT_CFG i, 31, 1⟩
def DPL.OUT_CFG_WIDTH (i : Nat) : Fld := ⟨DPL.OUT_CFG i, 8, 8⟩
def DPL.OUT_CFG_CARRIER (i : Nat) : Fld := ⟨DPL.OUT_CFG i, 4, 2⟩
def DPL.OUT_CFG_SRC (i : Nat) : Fld := ⟨DPL.OUT_CFG i, 0, 3⟩
def DPL.OUT_FREQ (i : Nat) : Nat := 0x404 + 0x20 * i
def DPL.OUT_FREQ_KHZ (i : Nat) : Fld := ⟨DPL.OUT_FREQ i, 0, 20⟩
def DPL.OUT_OFS (i : Nat) : Nat := 0x408 + 0x20 * i
def DPL.OUT_STAT (i : Nat) : Nat := 0x40C + 0x20 * i
def DPL.OUT_STAT_MISALIGNED (i : Nat) : Fld := ⟨DPL.OUT_STAT i, 0, 1⟩
def DPL.OUT_MIS (i : Nat) : Nat := 0x410 + 0x20 * i

def DPL.rows0 : List RegRow := [
  ⟨0x100, 0x177FF, 0x0, 0x143F1, true⟩,
  ⟨0x104, 0x1FFFF, 0x0, 0x1D4C, false⟩,
  ⟨0x108, 0xFFF0FFF, 0x0, 0x780258, false⟩,
  ⟨0x10C, 0x0, 0x0, 0xF0, false⟩,
  ⟨0x110, 0x0, 0x0, 0x0, false⟩,
  ⟨0x114, 0x0, 0x0, 0x0, false⟩,
  ⟨0x118, 0xFFFFFFFF, 0x0, 0x0, false⟩,
  ⟨0x11C, 0x0, 0x0, 0x0, false⟩,
  ⟨0x120, 0x0, 0x0, 0x0, false⟩,
  ⟨0x124, 0x0, 0x0, 0x0, false⟩,
  ⟨0x140, 0x177FF, 0x0, 0x131F1, true⟩,
  ⟨0x144, 0x1FFFF, 0x0, 0x1D4C, false⟩,
  ⟨0x148, 0xFFF0FFF, 0x0, 0x780258, false⟩,
  ⟨0x14C, 0x0, 0x0, 0xF0, false⟩,
  ⟨0x150, 0x0, 0x0, 0x0, false⟩,
  ⟨0x154, 0x0, 0x0, 0x0, false⟩,
  ⟨0x158, 0xFFFFFFFF, 0x0, 0x0, false⟩,
  ⟨0x15C, 0x0, 0x0, 0x0, false⟩,
  ⟨0x160, 0x0, 0x0, 0x0, false⟩,
  ⟨0x164, 0x0, 0x0, 0x0, false⟩,
  ⟨0x180, 0xFFFFFFFF, 0x0, 0x23282EE0, false⟩,
  ⟨0x184, 0xFFFFFF, 0x0, 0x3C0032, false⟩,
  ⟨0x188, 0xFFFFFF, 0x0, 0xA012C, false⟩,
  ⟨0x18C, 0xFFFFFFFF, 0x0, 0x400A800A, false⟩,
  ⟨0x190, 0x0, 0xFFFFFFFF, 0x0, false⟩,
  ⟨0x194, 0xFF, 0x0, 0x14, false⟩,
  ⟨0x198, 0x0, 0x0, 0x0, false⟩,
  ⟨0x200, 0x3F03FF, 0x0, 0x100, false⟩,
  ⟨0x204, 0xFFFFF, 0x0, 0x2710, false⟩,
  ⟨0x208, 0x0, 0x0, 0x40, false⟩,
  ⟨0x20C, 0x0, 0x0, 0x0, false⟩,
  ⟨0x210, 0xFFFFFFFF, 0x0, 0x0, false⟩,
  ⟨0x220, 0x3F03FF, 0x0, 0x100, false⟩,
  ⟨0x224, 0xFFFFF, 0x0, 0x2710, false⟩,
  ⟨0x228, 0x0, 0x0, 0x40, false⟩,
  ⟨0x22C, 0x0, 0x0, 0x0, false⟩,
  ⟨0x230, 0xFFFFFFFF, 0x0, 0x0, false⟩,
  ⟨0x240, 0x3F03FF, 0x0, 0x100, false⟩,
  ⟨0x244, 0xFFFFF, 0x0, 0x2710, false⟩,
  ⟨0x248, 0x0, 0x0, 0x40, false⟩]

def DPL.rows1 : List RegRow := [
  ⟨0x24C, 0x0, 0x0, 0x0, false⟩,
  ⟨0x250, 0xFFFFFFFF, 0x0, 0x0, false⟩,
  ⟨0x260, 0x3F03FF, 0x0, 0x100, false⟩,
  ⟨0x264, 0xFFFFF, 0x0, 0x2710, false⟩,
  ⟨0x268, 0x0, 0x0, 0x40, false⟩,
  ⟨0x26C, 0x0, 0x0, 0x0, false⟩,
  ⟨0x270, 0xFFFFFFFF, 0x0, 0x0, false⟩,
  ⟨0x280, 0x3F03FF, 0x0, 0x100, false⟩,
  ⟨0x284, 0xFFFFF, 0x0, 0x2710, false⟩,
  ⟨0x288, 0x0, 0x0, 0x40, false⟩,
  ⟨0x28C, 0x0, 0x0, 0x0, false⟩,
  ⟨0x290, 0xFFFFFFFF, 0x0, 0x0, false⟩,
  ⟨0x2A0, 0x3F03FF, 0x0, 0x100, false⟩,
  ⟨0x2A4, 0xFFFFF, 0x0, 0x2710, false⟩,
  ⟨0x2A8, 0x0, 0x0, 0x40, false⟩,
  ⟨0x2AC, 0x0, 0x0, 0x0, false⟩,
  ⟨0x2B0, 0xFFFFFFFF, 0x0, 0x0, false⟩,
  ⟨0x2C0, 0x3F03FF, 0x0, 0x100, false⟩,
  ⟨0x2C4, 0xFFFFF, 0x0, 0x2710, false⟩,
  ⟨0x2C8, 0x0, 0x0, 0x40, false⟩,
  ⟨0x2CC, 0x0, 0x0, 0x0, false⟩,
  ⟨0x2D0, 0xFFFFFFFF, 0x0, 0x0, false⟩,
  ⟨0x2E0, 0x3F03FF, 0x0, 0x100, false⟩,
  ⟨0x2E4, 0xFFFFF, 0x0, 0x2710, false⟩,
  ⟨0x2E8, 0x0, 0x0, 0x40, false⟩,
  ⟨0x2EC, 0x0, 0x0, 0x0, false⟩,
  ⟨0x2F0, 0xFFFFFFFF, 0x0, 0x0, false⟩,
  ⟨0x300, 0x3F03FF, 0x0, 0x100, false⟩,
  ⟨0x304, 0xFFFFF, 0x0, 0x2710, false⟩,
  ⟨0x308, 0x0, 0x0, 0x40, false⟩,
  ⟨0x30C, 0x0, 0x0, 0x0, false⟩,
  ⟨0x310, 0xFFFFFFFF, 0x0, 0x0, false⟩,
  ⟨0x320, 0x3F03FF, 0x0, 0x100, false⟩,
  ⟨0x324, 0xFFFFF, 0x0, 0x2710, false⟩,
  ⟨0x328, 0x0, 0x0, 0x40, false⟩,
  ⟨0x32C, 0x0, 0x0, 0x0, false⟩,
  ⟨0x330, 0xFFFFFFFF, 0x0, 0x0, false⟩,
  ⟨0x340, 0x3F03FF, 0x0, 0x100, false⟩,
  ⟨0x344, 0xFFFFF, 0x0, 0x2710, false⟩,
  ⟨0x348, 0x0, 0x0, 0x40, false⟩]

def DPL.rows2 : List RegRow := [
  ⟨0x34C, 0x0, 0x0, 0x0, false⟩,
  ⟨0x350, 0xFFFFFFFF, 0x0, 0x0, false⟩,
  ⟨0x360, 0x3F03FF, 0x0, 0x100, false⟩,
  ⟨0x364, 0xFFFFF, 0x0, 0x2710, false⟩,
  ⟨0x368, 0x0, 0x0, 0x40, false⟩,
  ⟨0x36C, 0x0, 0x0, 0x0, false⟩,
  ⟨0x370, 0xFFFFFFFF, 0x0, 0x0, false⟩,
  ⟨0x380, 0x3F03FF, 0x0, 0x100, false⟩,
  ⟨0x384, 0xFFFFF, 0x0, 0x2710, false⟩,
  ⟨0x388, 0x0, 0x0, 0x40, false⟩,
  ⟨0x38C, 0x0, 0x0, 0x0, false⟩,
  ⟨0x390, 0xFFFFFFFF, 0x0, 0x0, false⟩,
  ⟨0x3A0, 0x3F03FF, 0x0, 0x100, false⟩,
  ⟨0x3A4, 0xFFFFF, 0x0, 0x2710, false⟩,
  ⟨0x3A8, 0x0, 0x0, 0x40, false⟩,
  ⟨0x3AC, 0x0, 0x0, 0x0, false⟩,
  ⟨0x3B0, 0xFFFFFFFF, 0x0, 0x0, false⟩,
  ⟨0x400, 0xFF37, 0x80000000, 0x6400, true⟩,
  ⟨0x404, 0xFFFFF, 0x0, 0x2710, false⟩,
  ⟨0x408, 0xFFFFFFFF, 0x0, 0x0, false⟩,
  ⟨0x40C, 0x0, 0x0, 0x0, false⟩,
  ⟨0x410, 0x0, 0x0, 0x0, false⟩,
  ⟨0x420, 0xFF37, 0x80000000, 0x6400, true⟩,
  ⟨0x424, 0xFFFFF, 0x0, 0x2710, false⟩,
  ⟨0x428, 0xFFFFFFFF, 0x0, 0x0, false⟩,
  ⟨0x42C, 0x0, 0x0, 0x0, false⟩,
  ⟨0x430, 0x0, 0x0, 0x0, false⟩,
  ⟨0x440, 0xFF37, 0x80000000, 0x6400, true⟩,
  ⟨0x444, 0xFFFFF, 0x0, 0x2710, false⟩,
  ⟨0x448, 0xFFFFFFFF, 0x0, 0x0, false⟩,
  ⟨0x44C, 0x0, 0x0, 0x0, false⟩,
  ⟨0x450, 0x0, 0x0, 0x0, false⟩,
  ⟨0x460, 0xFF37, 0x80000000, 0x6400, true⟩,
  ⟨0x464, 0xFFFFF, 0x0, 0x2710, false⟩,
  ⟨0x468, 0xFFFFFFFF, 0x0, 0x0, false⟩,
  ⟨0x46C, 0x0, 0x0, 0x0, false⟩,
  ⟨0x470, 0x0, 0x0, 0x0, false⟩]

/-- The registers of DPL (R397). -/
def DPL.rows : List RegRow := DPL.rows0 ++ DPL.rows1 ++ DPL.rows2

end Sys2Proof.Machine
end

