-- ==== Sys2Proof/Machine/RegCar.lean ====
section
/-!
DEFINITION. Machine/RegCar.lean: the registers of the pages OPT, CNV, TXD, RXF, RXM, FEC, LFR, CIP, SCB as the spec
tables give them: each register's offset, each field's place, and one row a register (offset, bits that software
writes, bits that trigger an action when 1 is written, the reset value, whether deals can stage it).
-/

namespace Sys2Proof.Machine

/-! ### OPT (R87) -/

def OPT.LASER_CTL : Nat := 0x100
def OPT.LASER_CTL_TUNE_GO : Fld := ⟨OPT.LASER_CTL, 8, 1⟩
def OPT.LASER_CTL_FOLLOW : Fld := ⟨OPT.LASER_CTL, 2, 1⟩
def OPT.LASER_CTL_TX_EN : Fld := ⟨OPT.LASER_CTL, 1, 1⟩
def OPT.LASER_CTL_LASER_EN : Fld := ⟨OPT.LASER_CTL, 0, 1⟩
def OPT.LASER_FREQ : Nat := 0x104
def OPT.LASER_FREQ_CH_N : Fld := ⟨OPT.LASER_FREQ, 0, 16⟩
def OPT.LASER_FINE : Nat := 0x108
def OPT.LASER_FINE_MHZ : Fld := ⟨OPT.LASER_FINE, 0, 14⟩
def OPT.LASER_SLEW : Nat := 0x10C
def OPT.LASER_SLEW_RATE : Fld := ⟨OPT.LASER_SLEW, 0, 10⟩
def OPT.LASER_GUARD : Nat := 0x110
def OPT.LASER_GUARD_OFF_GRID : Fld := ⟨OPT.LASER_GUARD, 0, 12⟩
def OPT.LASER_STAT : Nat := 0x114
def OPT.LASER_STAT_FREQ_ERR : Fld := ⟨OPT.LASER_STAT, 16, 16⟩
def OPT.LASER_STAT_TUNE_FAULT : Fld := ⟨OPT.LASER_STAT, 5, 1⟩
def OPT.LASER_STAT_FOLLOW_OK : Fld := ⟨OPT.LASER_STAT, 4, 1⟩
def OPT.LASER_STAT_QUEUED : Fld := ⟨OPT.LASER_STAT, 3, 1⟩
def OPT.LASER_STAT_STATE : Fld := ⟨OPT.LASER_STAT, 0, 3⟩
def OPT.LASER_CUR : Nat := 0x118
def OPT.LASER_CUR_FINE_NOW : Fld := ⟨OPT.LASER_CUR, 16, 14⟩
def OPT.LASER_CUR_CH_N : Fld := ⟨OPT.LASER_CUR, 0, 16⟩
def OPT.LASER_MON : Nat := 0x11C
def OPT.LASER_MON_TEC_TEMP : Fld := ⟨OPT.LASER_MON, 16, 16⟩
def OPT.LASER_MON_LD_CUR : Fld := ⟨OPT.LASER_MON, 0, 16⟩
def OPT.TX_PWR_SET : Nat := 0x130
def OPT.TX_PWR_SET_DBM : Fld := ⟨OPT.TX_PWR_SET, 0, 8⟩
def OPT.TX_RAMP : Nat := 0x134
def OPT.TX_RAMP_RATE : Fld := ⟨OPT.TX_RAMP, 0, 7⟩
def OPT.TX_PWR_MON : Nat := 0x138
def OPT.TX_PWR_MON_SOA_OPEN : Fld := ⟨OPT.TX_PWR_MON, 17, 1⟩
def OPT.TX_PWR_MON_AT_TARGET : Fld := ⟨OPT.TX_PWR_MON, 16, 1⟩
def OPT.TX_PWR_MON_DBM : Fld := ⟨OPT.TX_PWR_MON, 0, 16⟩
def OPT.MZM_CTL : Nat := 0x13C
def OPT.MZM_CTL_BIAS_HOLD : Fld := ⟨OPT.MZM_CTL, 1, 1⟩
def OPT.MZM_CTL_BIAS_EN : Fld := ⟨OPT.MZM_CTL, 0, 1⟩
def OPT.MZM_STAT : Nat := 0x140
def OPT.MZM_STAT_LOCKED : Fld := ⟨OPT.MZM_STAT, 0, 6⟩
def OPT.RX_PWR_X : Nat := 0x150
def OPT.RX_PWR_X_DBM : Fld := ⟨OPT.RX_PWR_X, 0, 16⟩
def OPT.RX_PWR_Y : Nat := 0x154
def OPT.RX_PWR_Y_DBM : Fld := ⟨OPT.RX_PWR_Y, 0, 16⟩
def OPT.RX_PWR_TOT : Nat := 0x158
def OPT.RX_PWR_TOT_DBM : Fld := ⟨OPT.RX_PWR_TOT, 0, 16⟩
def OPT.LOS_CFG : Nat := 0x15C
def OPT.LOS_CFG_HYST : Fld := ⟨OPT.LOS_CFG, 16, 4⟩
def OPT.LOS_CFG_THR : Fld := ⟨OPT.LOS_CFG, 0, 12⟩
def OPT.RX_STAT : Nat := 0x160
def OPT.RX_STAT_GAIN : Fld := ⟨OPT.RX_STAT, 24, 6⟩
def OPT.RX_STAT_AGC_FROZEN : Fld := ⟨OPT.RX_STAT, 2, 1⟩
def OPT.RX_STAT_OVERLOAD : Fld := ⟨OPT.RX_STAT, 1, 1⟩
def OPT.RX_STAT_LOS_RAW : Fld := ⟨OPT.RX_STAT, 0, 1⟩
def OPT.TIA_CTL : Nat := 0x164
def OPT.TIA_CTL_MAN_GAIN : Fld := ⟨OPT.TIA_CTL, 8, 6⟩
def OPT.TIA_CTL_AGC_FREEZE : Fld := ⟨OPT.TIA_CTL, 1, 1⟩
def OPT.TIA_CTL_AGC_EN : Fld := ⟨OPT.TIA_CTL, 0, 1⟩

def OPT.rows0 : List RegRow := [
  ⟨0x100, 0x7, 0x100, 0x0, true⟩,
  ⟨0x104, 0xFFFF, 0x0, 0x0, false⟩,
  ⟨0x108, 0x3FFF, 0x0, 0x0, true⟩,
  ⟨0x10C, 0x3FF, 0x0, 0xA, false⟩,
  ⟨0x110, 0xFFF, 0x0, 0x9C4, false⟩,
  ⟨0x114, 0x0, 0x0, 0x0, false⟩,
  ⟨0x118, 0x0, 0x0, 0x0, false⟩,
  ⟨0x11C, 0x0, 0x0, 0x0, false⟩,
  ⟨0x130, 0xFF, 0x0, 0xB0, true⟩,
  ⟨0x134, 0x7F, 0x0, 0xA, false⟩,
  ⟨0x138, 0x0, 0x0, 0x8000, false⟩,
  ⟨0x13C, 0x3, 0x0, 0x1, false⟩,
  ⟨0x140, 0x0, 0x0, 0x0, false⟩,
  ⟨0x150, 0x0, 0x0, 0x8000, false⟩,
  ⟨0x154, 0x0, 0x0, 0x8000, false⟩,
  ⟨0x158, 0x0, 0x0, 0x8000, false⟩,
  ⟨0x15C, 0xF0FFF, 0x0, 0x20F1A, false⟩,
  ⟨0x160, 0x0, 0x0, 0x1, false⟩,
  ⟨0x164, 0x3F03, 0x0, 0x2001, false⟩]

/-- The registers of OPT (R87). -/
def OPT.rows : List RegRow := OPT.rows0

/-! ### CNV (R88) -/

def CNV.CNV_CTL : Nat := 0x100
def CNV.CNV_CTL_CHECK_GO : Fld := ⟨CNV.CNV_CTL, 11, 1⟩
def CNV.CNV_CTL_LOAD_STORED : Fld := ⟨CNV.CNV_CTL, 10, 1⟩
def CNV.CNV_CTL_STORE_GO : Fld := ⟨CNV.CNV_CTL, 9, 1⟩
def CNV.CNV_CTL_FG_CAL_GO : Fld := ⟨CNV.CNV_CTL, 8, 1⟩
def CNV.CNV_CTL_FG_FORCE : Fld := ⟨CNV.CNV_CTL, 3, 1⟩
def CNV.CNV_CTL_BG_CAL_EN : Fld := ⟨CNV.CNV_CTL, 2, 1⟩
def CNV.CNV_CTL_DAC_EN : Fld := ⟨CNV.CNV_CTL, 1, 1⟩
def CNV.CNV_CTL_ADC_EN : Fld := ⟨CNV.CNV_CTL, 0, 1⟩
def CNV.CNV_STAT : Nat := 0x104
def CNV.CNV_STAT_FAIL_MAP : Fld := ⟨CNV.CNV_STAT, 16, 8⟩
def CNV.CNV_STAT_BG_ACTIVE : Fld := ⟨CNV.CNV_STAT, 10, 1⟩
def CNV.CNV_STAT_CLK_LOCKED : Fld := ⟨CNV.CNV_STAT, 9, 1⟩
def CNV.CNV_STAT_CHECK_FAIL : Fld := ⟨CNV.CNV_STAT, 8, 1⟩
def CNV.CNV_STAT_STORED_IN_USE : Fld := ⟨CNV.CNV_STAT, 7, 1⟩
def CNV.CNV_STAT_STORED_VALID : Fld := ⟨CNV.CNV_STAT, 6, 1⟩
def CNV.CNV_STAT_FG_FAIL : Fld := ⟨CNV.CNV_STAT, 5, 1⟩
def CNV.CNV_STAT_FG_DONE : Fld := ⟨CNV.CNV_STAT, 4, 1⟩
def CNV.CNV_STAT_CAL_STATE : Fld := ⟨CNV.CNV_STAT, 0, 2⟩
def CNV.CNV_TEMP : Nat := 0x108
def CNV.CNV_TEMP_STORED : Fld := ⟨CNV.CNV_TEMP, 16, 16⟩
def CNV.CNV_TEMP_DIE : Fld := ⟨CNV.CNV_TEMP, 0, 16⟩
def CNV.ADC_SKEW (i : Nat) : Nat := 0x110 + 0x4 * i
def CNV.ADC_SKEW_PS (i : Nat) : Fld := ⟨CNV.ADC_SKEW i, 0, 12⟩
def CNV.DAC_SKEW (i : Nat) : Nat := 0x120 + 0x4 * i
def CNV.DAC_SKEW_PS (i : Nat) : Fld := ⟨CNV.DAC_SKEW i, 0, 12⟩
def CNV.ADC_GAIN (i : Nat) : Nat := 0x130 + 0x4 * i
def CNV.ADC_GAIN_DB (i : Nat) : Fld := ⟨CNV.ADC_GAIN i, 0, 10⟩
def CNV.DAC_GAIN (i : Nat) : Nat := 0x140 + 0x4 * i
def CNV.DAC_GAIN_DB (i : Nat) : Fld := ⟨CNV.DAC_GAIN i, 0, 10⟩
def CNV.CHECK_RES : Nat := 0x150
def CNV.CHECK_RES_LANE : Fld := ⟨CNV.CHECK_RES, 16, 3⟩
def CNV.CHECK_RES_ENOB : Fld := ⟨CNV.CHECK_RES, 0, 16⟩
def CNV.CHECK_LIMIT : Nat := 0x154
def CNV.CHECK_LIMIT_DAC_LIM : Fld := ⟨CNV.CHECK_LIMIT, 16, 16⟩
def CNV.CHECK_LIMIT_ADC_LIM : Fld := ⟨CNV.CHECK_LIMIT, 0, 16⟩
def CNV.BG_CAL_CNT : Nat := 0x158
def CNV.BG_CAL_CNT_COUNT : Fld := ⟨CNV.BG_CAL_CNT, 0, 32⟩
def CNV.CAP_CTL : Nat := 0x160
def CNV.CAP_CTL_LANE : Fld := ⟨CNV.CAP_CTL, 8, 3⟩
def CNV.CAP_CTL_CAP_DONE : Fld := ⟨CNV.CAP_CTL, 1, 1⟩
def CNV.CAP_CTL_CAP_GO : Fld := ⟨CNV.CAP_CTL, 0, 1⟩

def CNV.rows0 : List RegRow := [
  ⟨0x100, 0xF, 0xF00, 0x4, false⟩,
  ⟨0x104, 0x0, 0x0, 0x0, false⟩,
  ⟨0x108, 0x0, 0x0, 0x0, false⟩,
  ⟨0x110, 0xFFF, 0x0, 0x0, false⟩,
  ⟨0x114, 0xFFF, 0x0, 0x0, false⟩,
  ⟨0x118, 0xFFF, 0x0, 0x0, false⟩,
  ⟨0x11C, 0xFFF, 0x0, 0x0, false⟩,
  ⟨0x120, 0xFFF, 0x0, 0x0, false⟩,
  ⟨0x124, 0xFFF, 0x0, 0x0, false⟩,
  ⟨0x128, 0xFFF, 0x0, 0x0, false⟩,
  ⟨0x12C, 0xFFF, 0x0, 0x0, false⟩,
  ⟨0x130, 0x3FF, 0x0, 0x0, false⟩,
  ⟨0x134, 0x3FF, 0x0, 0x0, false⟩,
  ⟨0x138, 0x3FF, 0x0, 0x0, false⟩,
  ⟨0x13C, 0x3FF, 0x0, 0x0, false⟩,
  ⟨0x140, 0x3FF, 0x0, 0x0, false⟩,
  ⟨0x144, 0x3FF, 0x0, 0x0, false⟩,
  ⟨0x148, 0x3FF, 0x0, 0x0, false⟩,
  ⟨0x14C, 0x3FF, 0x0, 0x0, false⟩,
  ⟨0x150, 0x0, 0x0, 0x0, false⟩,
  ⟨0x154, 0xFFFFFFFF, 0x0, 0x1F40226, false⟩,
  ⟨0x158, 0x0, 0x0, 0x0, false⟩,
  ⟨0x160, 0x700, 0x1, 0x0, false⟩]

/-- The registers of CNV (R88). -/
def CNV.rows : List RegRow := CNV.rows0

/-! ### TXD (R113) -/

def TXD.TXD_CTL : Nat := 0x100
def TXD.TXD_CTL_LOAD_MODE : Fld := ⟨TXD.TXD_CTL, 3, 1⟩
def TXD.TXD_CTL_TXEQ_EN : Fld := ⟨TXD.TXD_CTL, 2, 1⟩
def TXD.TXD_CTL_PRECOMP_EN : Fld := ⟨TXD.TXD_CTL, 1, 1⟩
def TXD.TXD_CTL_TX_RUN : Fld := ⟨TXD.TXD_CTL, 0, 1⟩
def TXD.TXD_STAT : Nat := 0x104
def TXD.TXD_STAT_SET_NOW : Fld := ⟨TXD.TXD_STAT, 6, 1⟩
def TXD.TXD_STAT_ACTIVE : Fld := ⟨TXD.TXD_STAT, 5, 1⟩
def TXD.TXD_STAT_QBANK : Fld := ⟨TXD.TXD_STAT, 4, 1⟩
def TXD.TXD_STAT_QUEUED : Fld := ⟨TXD.TXD_STAT, 3, 1⟩
def TXD.TXD_STAT_FADING : Fld := ⟨TXD.TXD_STAT, 2, 1⟩
def TXD.TXD_STAT_STOPPED : Fld := ⟨TXD.TXD_STAT, 1, 1⟩
def TXD.TXD_STAT_RUNNING : Fld := ⟨TXD.TXD_STAT, 0, 1⟩
def TXD.TXD_SHAPE : Nat := 0x108
def TXD.TXD_SHAPE_PROFILE_NOW : Fld := ⟨TXD.TXD_SHAPE, 16, 4⟩
def TXD.TXD_SHAPE_PROFILE : Fld := ⟨TXD.TXD_SHAPE, 0, 4⟩
def TXD.TXD_SC_SEL : Nat := 0x10C
def TXD.TXD_SC_SEL_SET : Fld := ⟨TXD.TXD_SC_SEL, 0, 1⟩
def TXD.FADE_CFG : Nat := 0x110
def TXD.FADE_CFG_LEN : Fld := ⟨TXD.FADE_CFG, 0, 12⟩
def TXD.PILOT_CFG : Nat := 0x114
def TXD.PILOT_CFG_BOOST : Fld := ⟨TXD.PILOT_CFG, 0, 5⟩
def TXD.CLIP_CFG : Nat := 0x118
def TXD.CLIP_CFG_LEVEL : Fld := ⟨TXD.CLIP_CFG, 0, 8⟩
def TXD.CLIP_CNT : Nat := 0x11C
def TXD.CLIP_CNT_COUNT : Fld := ⟨TXD.CLIP_CNT, 0, 32⟩
def TXD.BANK0_CD : Nat := 0x120
def TXD.BANK0_CD_PS : Fld := ⟨TXD.BANK0_CD, 0, 21⟩
def TXD.BANK1_CD : Nat := 0x124
def TXD.BANK1_CD_PS : Fld := ⟨TXD.BANK1_CD, 0, 21⟩
def TXD.SWAP_REQ : Nat := 0x128
def TXD.SWAP_REQ_BANK : Fld := ⟨TXD.SWAP_REQ, 0, 1⟩
def TXD.SHAPE_STAT : Nat := 0x130
def TXD.SHAPE_STAT_H_NOW : Fld := ⟨TXD.SHAPE_STAT, 0, 16⟩
def TXD.SWAP_CNT : Nat := 0x134
def TXD.SWAP_CNT_COUNT : Fld := ⟨TXD.SWAP_CNT, 0, 32⟩

def TXD.rows0 : List RegRow := [
  ⟨0x100, 0xF, 0x0, 0x4, false⟩,
  ⟨0x104, 0x0, 0x0, 0x2, false⟩,
  ⟨0x108, 0xF, 0x0, 0x0, true⟩,
  ⟨0x10C, 0x1, 0x0, 0x0, true⟩,
  ⟨0x110, 0xFFF, 0x0, 0x100, false⟩,
  ⟨0x114, 0x1F, 0x0, 0x0, true⟩,
  ⟨0x118, 0xFF, 0x0, 0x69, false⟩,
  ⟨0x11C, 0x0, 0x0, 0x0, false⟩,
  ⟨0x120, 0x1FFFFF, 0x0, 0x0, true⟩,
  ⟨0x124, 0x1FFFFF, 0x0, 0x0, true⟩,
  ⟨0x128, 0x0, 0x1, 0x0, false⟩,
  ⟨0x130, 0x0, 0x0, 0x0, false⟩,
  ⟨0x134, 0x0, 0x0, 0x0, false⟩]

/-- The registers of TXD (R113). -/
def TXD.rows : List RegRow := TXD.rows0

/-! ### RXF (R135) -/

def RXF.RXF_CTL : Nat := 0x100
def RXF.RXF_CTL_MON_AS : Fld := ⟨RXF.RXF_CTL, 8, 4⟩
def RXF.RXF_CTL_RX_RUN : Fld := ⟨RXF.RXF_CTL, 0, 1⟩
def RXF.CD_CTL : Nat := 0x104
def RXF.CD_CTL_SCAN_GO : Fld := ⟨RXF.CD_CTL, 8, 1⟩
def RXF.CD_CTL_SCAN_LOAD : Fld := ⟨RXF.CD_CTL, 4, 1⟩
def RXF.CD_CTL_ACQ_SCAN_EN : Fld := ⟨RXF.CD_CTL, 3, 1⟩
def RXF.CD_CTL_TRACK_EN : Fld := ⟨RXF.CD_CTL, 2, 1⟩
def RXF.CD_CTL_ALT_EN : Fld := ⟨RXF.CD_CTL, 1, 1⟩
def RXF.CD_CTL_LOAD_MODE : Fld := ⟨RXF.CD_CTL, 0, 1⟩
def RXF.CD_STAT : Nat := 0x108
def RXF.CD_STAT_RANGE1 : Fld := ⟨RXF.CD_STAT, 11, 1⟩
def RXF.CD_STAT_RANGE0 : Fld := ⟨RXF.CD_STAT, 10, 1⟩
def RXF.CD_STAT_QHARD : Fld := ⟨RXF.CD_STAT, 9, 1⟩
def RXF.CD_STAT_HELD : Fld := ⟨RXF.CD_STAT, 8, 1⟩
def RXF.CD_STAT_READY1 : Fld := ⟨RXF.CD_STAT, 7, 1⟩
def RXF.CD_STAT_READY0 : Fld := ⟨RXF.CD_STAT, 6, 1⟩
def RXF.CD_STAT_ACTIVE : Fld := ⟨RXF.CD_STAT, 5, 1⟩
def RXF.CD_STAT_QBANK : Fld := ⟨RXF.CD_STAT, 4, 1⟩
def RXF.CD_STAT_QUEUED : Fld := ⟨RXF.CD_STAT, 3, 1⟩
def RXF.CD_STAT_FADING : Fld := ⟨RXF.CD_STAT, 2, 1⟩
def RXF.CD_STAT_STOPPED : Fld := ⟨RXF.CD_STAT, 1, 1⟩
def RXF.CD_STAT_RUNNING : Fld := ⟨RXF.CD_STAT, 0, 1⟩
def RXF.FADE_CFG : Nat := 0x10C
def RXF.FADE_CFG_LEN : Fld := ⟨RXF.FADE_CFG, 0, 12⟩
def RXF.BANK0_CD : Nat := 0x110
def RXF.BANK0_CD_PS : Fld := ⟨RXF.BANK0_CD, 0, 20⟩
def RXF.BANK1_CD : Nat := 0x114
def RXF.BANK1_CD_PS : Fld := ⟨RXF.BANK1_CD, 0, 20⟩
def RXF.SWAP_REQ : Nat := 0x118
def RXF.SWAP_REQ_HARD : Fld := ⟨RXF.SWAP_REQ, 1, 1⟩
def RXF.SWAP_REQ_BANK : Fld := ⟨RXF.SWAP_REQ, 0, 1⟩
def RXF.CD_MON : Nat := 0x11C
def RXF.CD_MON_VALID : Fld := ⟨RXF.CD_MON, 31, 1⟩
def RXF.CD_MON_PS : Fld := ⟨RXF.CD_MON, 0, 20⟩
def RXF.CD_RESID : Nat := 0x120
def RXF.CD_RESID_PS : Fld := ⟨RXF.CD_RESID, 0, 16⟩
def RXF.TRACK_CFG : Nat := 0x124
def RXF.TRACK_CFG_HOLD : Fld := ⟨RXF.TRACK_CFG, 16, 8⟩
def RXF.TRACK_CFG_THR : Fld := ⟨RXF.TRACK_CFG, 0, 12⟩
def RXF.SCAN_MIN : Nat := 0x128
def RXF.SCAN_MIN_PS : Fld := ⟨RXF.SCAN_MIN, 0, 20⟩
def RXF.SCAN_MAX : Nat := 0x12C
def RXF.SCAN_MAX_PS : Fld := ⟨RXF.SCAN_MAX, 0, 20⟩
def RXF.SCAN_CFG : Nat := 0x130
def RXF.SCAN_CFG_CONF_MIN : Fld := ⟨RXF.SCAN_CFG, 24, 8⟩
def RXF.SCAN_CFG_AVG : Fld := ⟨RXF.SCAN_CFG, 20, 4⟩
def RXF.SCAN_CFG_FINE : Fld := ⟨RXF.SCAN_CFG, 12, 8⟩
def RXF.SCAN_CFG_COARSE : Fld := ⟨RXF.SCAN_CFG, 0, 12⟩
def RXF.SCAN_RES : Nat := 0x134
def RXF.SCAN_RES_CD_EST : Fld := ⟨RXF.SCAN_RES, 0, 20⟩
def RXF.SCAN_STAT : Nat := 0x138
def RXF.SCAN_STAT_CONF : Fld := ⟨RXF.SCAN_STAT, 8, 8⟩
def RXF.SCAN_STAT_DONE : Fld := ⟨RXF.SCAN_STAT, 3, 1⟩
def RXF.SCAN_STAT_FAIL : Fld := ⟨RXF.SCAN_STAT, 2, 1⟩
def RXF.SCAN_STAT_STATE : Fld := ⟨RXF.SCAN_STAT, 0, 2⟩
def RXF.ACQ_STAT : Nat := 0x13C
def RXF.ACQ_STAT_FAILS : Fld := ⟨RXF.ACQ_STAT, 8, 8⟩
def RXF.ACQ_STAT_STATE : Fld := ⟨RXF.ACQ_STAT, 0, 3⟩
def RXF.ALT_CFG : Nat := 0x140
def RXF.ALT_CFG_TOL : Fld := ⟨RXF.ALT_CFG, 0, 12⟩
def RXF.TR_CTL : Nat := 0x144
def RXF.TR_CTL_MODE : Fld := ⟨RXF.TR_CTL, 4, 2⟩
def RXF.TR_CTL_BW : Fld := ⟨RXF.TR_CTL, 0, 3⟩
def RXF.TR_STAT : Nat := 0x148
def RXF.TR_STAT_PPM : Fld := ⟨RXF.TR_STAT, 16, 16⟩
def RXF.TR_STAT_RANGE : Fld := ⟨RXF.TR_STAT, 2, 1⟩
def RXF.TR_STAT_HOLDING : Fld := ⟨RXF.TR_STAT, 1, 1⟩
def RXF.TR_STAT_LOCK : Fld := ⟨RXF.TR_STAT, 0, 1⟩
def RXF.TR_SLIP_CNT : Nat := 0x14C
def RXF.TR_SLIP_CNT_COUNT : Fld := ⟨RXF.TR_SLIP_CNT, 0, 32⟩
def RXF.SWAP_CNT : Nat := 0x150
def RXF.SWAP_CNT_COUNT : Fld := ⟨RXF.SWAP_CNT, 0, 32⟩
def RXF.REFUSE_CNT : Nat := 0x154
def RXF.REFUSE_CNT_COUNT : Fld := ⟨RXF.REFUSE_CNT, 0, 32⟩

def RXF.rows0 : List RegRow := [
  ⟨0x100, 0xF01, 0x0, 0x0, true⟩,
  ⟨0x104, 0x1F, 0x100, 0x18, true⟩,
  ⟨0x108, 0x0, 0x0, 0xC2, false⟩,
  ⟨0x10C, 0xFFF, 0x0, 0x100, true⟩,
  ⟨0x110, 0xFFFFF, 0x0, 0x0, true⟩,
  ⟨0x114, 0xFFFFF, 0x0, 0x0, true⟩,
  ⟨0x118, 0x0, 0x3, 0x0, false⟩,
  ⟨0x11C, 0x0, 0x0, 0x0, false⟩,
  ⟨0x120, 0x0, 0x0, 0x0, false⟩,
  ⟨0x124, 0xFF0FFF, 0x0, 0xA0064, false⟩,
  ⟨0x128, 0xFFFFF, 0x0, 0x0, false⟩,
  ⟨0x12C, 0xFFFFF, 0x0, 0x0, false⟩,
  ⟨0x130, 0xFFFFFFFF, 0x0, 0x802141F4, false⟩,
  ⟨0x134, 0x0, 0x0, 0x0, false⟩,
  ⟨0x138, 0x0, 0x0, 0x0, false⟩,
  ⟨0x13C, 0x0, 0x0, 0x0, false⟩,
  ⟨0x140, 0xFFF, 0x0, 0x12C, false⟩,
  ⟨0x144, 0x37, 0x0, 0x2, true⟩,
  ⟨0x148, 0x0, 0x0, 0x0, false⟩,
  ⟨0x14C, 0x0, 0x0, 0x0, false⟩,
  ⟨0x150, 0x0, 0x0, 0x0, false⟩,
  ⟨0x154, 0x0, 0x0, 0x0, false⟩]

/-- The registers of RXF (R135). -/
def RXF.rows : List RegRow := RXF.rows0

/-! ### RXM (R158) -/

def RXM.RXM_CTL : Nat := 0x100
def RXM.RXM_CTL_AUTO : Fld := ⟨RXM.RXM_CTL, 2, 1⟩
def RXM.RXM_CTL_RUN : Fld := ⟨RXM.RXM_CTL, 0, 1⟩
def RXM.RXM_STAT : Nat := 0x104
def RXM.RXM_STAT_FAILS : Fld := ⟨RXM.RXM_STAT, 8, 8⟩
def RXM.RXM_STAT_PILOT_MODE : Fld := ⟨RXM.RXM_STAT, 7, 1⟩
def RXM.RXM_STAT_LEAKING : Fld := ⟨RXM.RXM_STAT, 6, 1⟩
def RXM.RXM_STAT_GATE_OPEN : Fld := ⟨RXM.RXM_STAT, 5, 1⟩
def RXM.RXM_STAT_LOCK : Fld := ⟨RXM.RXM_STAT, 4, 1⟩
def RXM.RXM_STAT_STATE : Fld := ⟨RXM.RXM_STAT, 0, 3⟩
def RXM.MIMO_ADAPT : Nat := 0x108
def RXM.MIMO_ADAPT_MU : Fld := ⟨RXM.MIMO_ADAPT, 0, 5⟩
def RXM.ROT_CFG : Nat := 0x10C
def RXM.ROT_CFG_UNWIND : Fld := ⟨RXM.ROT_CFG, 16, 4⟩
def RXM.ROT_CFG_KI : Fld := ⟨RXM.ROT_CFG, 8, 4⟩
def RXM.ROT_CFG_KP : Fld := ⟨RXM.ROT_CFG, 0, 4⟩
def RXM.ROT_THR : Nat := 0x110
def RXM.ROT_THR_RATE : Fld := ⟨RXM.ROT_THR, 0, 16⟩
def RXM.ROT_STAT : Nat := 0x114
def RXM.ROT_STAT_PEAK : Fld := ⟨RXM.ROT_STAT, 16, 16⟩
def RXM.ROT_STAT_RATE : Fld := ⟨RXM.ROT_STAT, 0, 16⟩
def RXM.HP_CFG : Nat := 0x118
def RXM.HP_CFG_MIN_AMP : Fld := ⟨RXM.HP_CFG, 24, 8⟩
def RXM.HP_CFG_MU : Fld := ⟨RXM.HP_CFG, 16, 5⟩
def RXM.HP_CFG_NHARM : Fld := ⟨RXM.HP_CFG, 8, 6⟩
def RXM.HP_CFG_PLL_BW : Fld := ⟨RXM.HP_CFG, 1, 2⟩
def RXM.HP_CFG_EN : Fld := ⟨RXM.HP_CFG, 0, 1⟩
def RXM.HP_CFG2 : Nat := 0x11C
def RXM.HP_CFG2_HOLD_MAX : Fld := ⟨RXM.HP_CFG2, 8, 8⟩
def RXM.HP_CFG2_STREAM : Fld := ⟨RXM.HP_CFG2, 0, 6⟩
def RXM.HP_STAT : Nat := 0x120
def RXM.HP_STAT_FREQ : Fld := ⟨RXM.HP_STAT, 16, 16⟩
def RXM.HP_STAT_ADAPT_FROZEN : Fld := ⟨RXM.HP_STAT, 3, 1⟩
def RXM.HP_STAT_STATE : Fld := ⟨RXM.HP_STAT, 0, 3⟩
def RXM.HP_PHASE : Nat := 0x124
def RXM.HP_PHASE_SUPP : Fld := ⟨RXM.HP_PHASE, 16, 16⟩
def RXM.HP_PHASE_PHASE : Fld := ⟨RXM.HP_PHASE, 0, 16⟩
def RXM.FO_EST : Nat := 0x128
def RXM.FO_EST_RATE : Fld := ⟨RXM.FO_EST, 16, 16⟩
def RXM.FO_EST_MHZ : Fld := ⟨RXM.FO_EST, 0, 16⟩
def RXM.CPR_CFG : Nat := 0x12C
def RXM.CPR_CFG_WIN : Fld := ⟨RXM.CPR_CFG, 8, 6⟩
def RXM.CPR_CFG_NTEST : Fld := ⟨RXM.CPR_CFG, 0, 2⟩
def RXM.CPR_SLIP_CNT : Nat := 0x130
def RXM.CPR_SLIP_CNT_COUNT : Fld := ⟨RXM.CPR_SLIP_CNT, 0, 32⟩
def RXM.GATE_CFG : Nat := 0x134
def RXM.GATE_CFG_LOST_OFS : Fld := ⟨RXM.GATE_CFG, 16, 10⟩
def RXM.GATE_CFG_OFS : Fld := ⟨RXM.GATE_CFG, 0, 10⟩
def RXM.GATE_CNT : Nat := 0x138
def RXM.GATE_CNT_COUNT : Fld := ⟨RXM.GATE_CNT, 0, 32⟩
def RXM.ANCHOR_CTL : Nat := 0x13C
def RXM.ANCHOR_CTL_SAVE : Fld := ⟨RXM.ANCHOR_CTL, 1, 1⟩
def RXM.ANCHOR_CTL_LOAD_MODE : Fld := ⟨RXM.ANCHOR_CTL, 0, 1⟩
def RXM.ANCHOR_STAT : Nat := 0x140
def RXM.ANCHOR_STAT_STOPPED : Fld := ⟨RXM.ANCHOR_STAT, 4, 1⟩
def RXM.ANCHOR_STAT_QBANK : Fld := ⟨RXM.ANCHOR_STAT, 3, 1⟩
def RXM.ANCHOR_STAT_QUEUED : Fld := ⟨RXM.ANCHOR_STAT, 2, 1⟩
def RXM.ANCHOR_STAT_FADING : Fld := ⟨RXM.ANCHOR_STAT, 1, 1⟩
def RXM.ANCHOR_STAT_ACTIVE : Fld := ⟨RXM.ANCHOR_STAT, 0, 1⟩
def RXM.ANCHOR_CFG : Nat := 0x144
def RXM.ANCHOR_CFG_FREEZE_MAX : Fld := ⟨RXM.ANCHOR_CFG, 24, 8⟩
def RXM.ANCHOR_CFG_LEAK : Fld := ⟨RXM.ANCHOR_CFG, 16, 5⟩
def RXM.ANCHOR_CFG_IDLE : Fld := ⟨RXM.ANCHOR_CFG, 0, 16⟩
def RXM.FADE_CFG : Nat := 0x148
def RXM.FADE_CFG_LEN : Fld := ⟨RXM.FADE_CFG, 0, 12⟩
def RXM.SWAP_REQ : Nat := 0x14C
def RXM.SWAP_REQ_BANK : Fld := ⟨RXM.SWAP_REQ, 0, 1⟩
def RXM.DGD_PDL : Nat := 0x150
def RXM.DGD_PDL_PDL : Fld := ⟨RXM.DGD_PDL, 16, 16⟩
def RXM.DGD_PDL_DGD : Fld := ⟨RXM.DGD_PDL, 0, 16⟩
def RXM.Q_CFG : Nat := 0x154
def RXM.Q_CFG_AVG : Fld := ⟨RXM.Q_CFG, 0, 2⟩
def RXM.Q_SNR : Nat := 0x158
def RXM.Q_SNR_SNR_LOW : Fld := ⟨RXM.Q_SNR, 16, 16⟩
def RXM.Q_SNR_SNR : Fld := ⟨RXM.Q_SNR, 0, 16⟩
def RXM.Q_EVM : Nat := 0x15C
def RXM.Q_EVM_EVM : Fld := ⟨RXM.Q_EVM, 0, 16⟩
def RXM.Q_BER : Nat := 0x160
def RXM.Q_BER_BER_WORST : Fld := ⟨RXM.Q_BER, 16, 16⟩
def RXM.Q_BER_BER : Fld := ⟨RXM.Q_BER, 0, 16⟩
def RXM.Q_GMI : Nat := 0x164
def RXM.Q_GMI_GMI : Fld := ⟨RXM.Q_GMI, 0, 16⟩
def RXM.Q_MARGIN : Nat := 0x168
def RXM.Q_MARGIN_VALID : Fld := ⟨RXM.Q_MARGIN, 31, 1⟩
def RXM.Q_MARGIN_DB : Fld := ⟨RXM.Q_MARGIN, 0, 16⟩
def RXM.SWAP_CNT : Nat := 0x16C
def RXM.SWAP_CNT_COUNT : Fld := ⟨RXM.SWAP_CNT, 0, 32⟩
def RXM.REFUSE_CNT : Nat := 0x170
def RXM.REFUSE_CNT_COUNT : Fld := ⟨RXM.REFUSE_CNT, 0, 32⟩

def RXM.rows0 : List RegRow := [
  ⟨0x100, 0x5, 0x0, 0x4, true⟩,
  ⟨0x104, 0x0, 0x0, 0x0, false⟩,
  ⟨0x108, 0x1F, 0x0, 0xC, true⟩,
  ⟨0x10C, 0xF0F0F, 0x0, 0xD0903, true⟩,
  ⟨0x110, 0xFFFF, 0x0, 0x32, false⟩,
  ⟨0x114, 0x0, 0x0, 0x0, false⟩,
  ⟨0x118, 0xFF1F3F07, 0x0, 0xA0E2802, true⟩,
  ⟨0x11C, 0xFF3F, 0x0, 0xA00, false⟩,
  ⟨0x120, 0x0, 0x0, 0x0, false⟩,
  ⟨0x124, 0x0, 0x0, 0x0, false⟩,
  ⟨0x128, 0x0, 0x0, 0x0, false⟩,
  ⟨0x12C, 0x3F03, 0x0, 0x1801, false⟩,
  ⟨0x130, 0x0, 0x0, 0x0, false⟩,
  ⟨0x134, 0x3FF03FF, 0x0, 0x3C403E2, true⟩,
  ⟨0x138, 0x0, 0x0, 0x0, false⟩,
  ⟨0x13C, 0x1, 0x2, 0x0, true⟩,
  ⟨0x140, 0x0, 0x0, 0x10, false⟩,
  ⟨0x144, 0xFF1FFFFF, 0x0, 0x32100064, false⟩,
  ⟨0x148, 0xFFF, 0x0, 0x100, true⟩,
  ⟨0x14C, 0x0, 0x1, 0x0, false⟩,
  ⟨0x150, 0x0, 0x0, 0x0, false⟩,
  ⟨0x154, 0x3, 0x0, 0x2, false⟩,
  ⟨0x158, 0x0, 0x0, 0x0, false⟩,
  ⟨0x15C, 0x0, 0x0, 0x0, false⟩,
  ⟨0x160, 0x0, 0x0, 0x0, false⟩,
  ⟨0x164, 0x0, 0x0, 0x0, false⟩,
  ⟨0x168, 0x0, 0x0, 0x0, false⟩,
  ⟨0x16C, 0x0, 0x0, 0x0, false⟩,
  ⟨0x170, 0x0, 0x0, 0x0, false⟩]

/-- The registers of RXM (R158). -/
def RXM.rows : List RegRow := RXM.rows0

/-! ### FEC (R186) -/

def FEC.FEC_MODE : Nat := 0x100
def FEC.FEC_MODE_RX_PEND : Fld := ⟨FEC.FEC_MODE, 25, 1⟩
def FEC.FEC_MODE_TX_PEND : Fld := ⟨FEC.FEC_MODE, 24, 1⟩
def FEC.FEC_MODE_RX_MODE_NOW : Fld := ⟨FEC.FEC_MODE, 20, 4⟩
def FEC.FEC_MODE_MODE_NOW : Fld := ⟨FEC.FEC_MODE, 16, 4⟩
def FEC.FEC_MODE_PARTNER : Fld := ⟨FEC.FEC_MODE, 12, 2⟩
def FEC.FEC_MODE_REGEN_AS : Fld := ⟨FEC.FEC_MODE, 8, 4⟩
def FEC.FEC_MODE_RX_MODE : Fld := ⟨FEC.FEC_MODE, 4, 4⟩
def FEC.FEC_MODE_MODE : Fld := ⟨FEC.FEC_MODE, 0, 4⟩
def FEC.FEC_CTL : Nat := 0x104
def FEC.FEC_CTL_MAX_IT : Fld := ⟨FEC.FEC_CTL, 8, 5⟩
def FEC.FEC_CTL_EARLY_STOP : Fld := ⟨FEC.FEC_CTL, 2, 1⟩
def FEC.FEC_CTL_ENC_EN : Fld := ⟨FEC.FEC_CTL, 1, 1⟩
def FEC.FEC_CTL_DEC_EN : Fld := ⟨FEC.FEC_CTL, 0, 1⟩
def FEC.FEC_SHAPE : Nat := 0x108
def FEC.FEC_SHAPE_PROFILE_NOW : Fld := ⟨FEC.FEC_SHAPE, 16, 4⟩
def FEC.FEC_SHAPE_PROFILE : Fld := ⟨FEC.FEC_SHAPE, 0, 4⟩
def FEC.SM_CFG : Nat := 0x10C
def FEC.SM_CFG_SCALE : Fld := ⟨FEC.SM_CFG, 0, 8⟩
def FEC.DEC_IT : Nat := 0x110
def FEC.DEC_IT_MAX : Fld := ⟨FEC.DEC_IT, 16, 5⟩
def FEC.DEC_IT_AVG : Fld := ⟨FEC.DEC_IT, 0, 16⟩
def FEC.FEC_STAT : Nat := 0x114
def FEC.FEC_STAT_REGEN_OK : Fld := ⟨FEC.FEC_STAT, 11, 1⟩
def FEC.FEC_STAT_CODE_PHASE : Fld := ⟨FEC.FEC_STAT, 8, 3⟩
def FEC.FEC_STAT_PHASE_LOCK : Fld := ⟨FEC.FEC_STAT, 4, 1⟩
def FEC.FEC_STAT_EXC_RAW : Fld := ⟨FEC.FEC_STAT, 3, 1⟩
def FEC.FEC_STAT_SD_RAW : Fld := ⟨FEC.FEC_STAT, 2, 1⟩
def FEC.FEC_STAT_ENC_RUN : Fld := ⟨FEC.FEC_STAT, 1, 1⟩
def FEC.FEC_STAT_DEC_RUN : Fld := ⟨FEC.FEC_STAT, 0, 1⟩
def FEC.FEC_DOM : Nat := 0x118
def FEC.FEC_DOM_MISS : Fld := ⟨FEC.FEC_DOM, 16, 11⟩
def FEC.FEC_DOM_REQ : Fld := ⟨FEC.FEC_DOM, 0, 11⟩
def FEC.THR_BER : Nat := 0x11C
def FEC.THR_BER_BER : Fld := ⟨FEC.THR_BER, 0, 16⟩
def FEC.SD_CFG : Nat := 0x120
def FEC.SD_CFG_EXC_THR : Fld := ⟨FEC.SD_CFG, 16, 16⟩
def FEC.SD_CFG_SD_MARGIN : Fld := ⟨FEC.SD_CFG, 0, 16⟩
def FEC.CW_LO : Nat := 0x128
def FEC.CW_HI : Nat := 0x12C
def FEC.COR_LO : Nat := 0x130
def FEC.COR_HI : Nat := 0x134
def FEC.UNC_LO : Nat := 0x138
def FEC.UNC_HI : Nat := 0x13C
def FEC.ITMAX_LO : Nat := 0x140
def FEC.ITMAX_HI : Nat := 0x144
def FEC.OUTC : Nat := 0x148
def FEC.OUTC_COUNT : Fld := ⟨FEC.OUTC, 0, 32⟩
def FEC.TV_CTL : Nat := 0x14C
def FEC.TV_CTL_TV_ERRS : Fld := ⟨FEC.TV_CTL, 8, 8⟩
def FEC.TV_CTL_TV_FAIL : Fld := ⟨FEC.TV_CTL, 2, 1⟩
def FEC.TV_CTL_TV_DONE : Fld := ⟨FEC.TV_CTL, 1, 1⟩
def FEC.TV_CTL_TV_GO : Fld := ⟨FEC.TV_CTL, 0, 1⟩

def FEC.rows0 : List RegRow := [
  ⟨0x100, 0x3FFF, 0x0, 0xBB00BB, true⟩,
  ⟨0x104, 0x1F07, 0x0, 0x1204, true⟩,
  ⟨0x108, 0xF, 0x0, 0x0, true⟩,
  ⟨0x10C, 0xFF, 0x0, 0x40, false⟩,
  ⟨0x110, 0x0, 0x0, 0x0, false⟩,
  ⟨0x114, 0x0, 0x0, 0x0, false⟩,
  ⟨0x118, 0x0, 0x0, 0x9B, false⟩,
  ⟨0x11C, 0x0, 0x0, 0x0, false⟩,
  ⟨0x120, 0xFFFFFFFF, 0x0, 0x10064, false⟩,
  ⟨0x128, 0x0, 0x0, 0x0, false⟩,
  ⟨0x12C, 0x0, 0x0, 0x0, false⟩,
  ⟨0x130, 0x0, 0x0, 0x0, false⟩,
  ⟨0x134, 0x0, 0x0, 0x0, false⟩,
  ⟨0x138, 0x0, 0x0, 0x0, false⟩,
  ⟨0x13C, 0x0, 0x0, 0x0, false⟩,
  ⟨0x140, 0x0, 0x0, 0x0, false⟩,
  ⟨0x144, 0x0, 0x0, 0x0, false⟩,
  ⟨0x148, 0x0, 0x0, 0x0, false⟩,
  ⟨0x14C, 0x0, 0x1, 0x0, false⟩]

/-- The registers of FEC (R186). -/
def FEC.rows : List RegRow := FEC.rows0

/-! ### LFR (R210) -/

def LFR.LFR_CTL : Nat := 0x100
def LFR.LFR_CTL_RDI_AUTO : Fld := ⟨LFR.LFR_CTL, 5, 1⟩
def LFR.LFR_CTL_BDI_AUTO : Fld := ⟨LFR.LFR_CTL, 4, 1⟩
def LFR.LFR_CTL_RDI_FORCE : Fld := ⟨LFR.LFR_CTL, 3, 1⟩
def LFR.LFR_CTL_BDI_FORCE : Fld := ⟨LFR.LFR_CTL, 2, 1⟩
def LFR.LFR_CTL_FR_EN : Fld := ⟨LFR.LFR_CTL, 0, 1⟩
def LFR.FR_STAT : Nat := 0x104
def LFR.FR_STAT_OFFSET : Fld := ⟨LFR.FR_STAT, 16, 14⟩
def LFR.FR_STAT_HYP : Fld := ⟨LFR.FR_STAT, 8, 3⟩
def LFR.FR_STAT_MF_LOCK : Fld := ⟨LFR.FR_STAT, 4, 1⟩
def LFR.FR_STAT_OH_VALID : Fld := ⟨LFR.FR_STAT, 3, 1⟩
def LFR.FR_STAT_STATE : Fld := ⟨LFR.FR_STAT, 0, 2⟩
def LFR.FR_CFG : Nat := 0x108
def LFR.FR_CFG_SFAW_TOL : Fld := ⟨LFR.FR_CFG, 8, 4⟩
def LFR.FR_CFG_FAW_TOL : Fld := ⟨LFR.FR_CFG, 0, 7⟩
def LFR.DEF_STAT : Nat := 0x10C
def LFR.DEF_STAT_RAW : Fld := ⟨LFR.DEF_STAT, 16, 8⟩
def LFR.DEF_STAT_DEF : Fld := ⟨LFR.DEF_STAT, 0, 8⟩
def LFR.DEF_TIME (i : Nat) : Nat := 0x110 + 0x4 * i
def LFR.DEF_TIME_SET (i : Nat) : Fld := ⟨LFR.DEF_TIME i, 16, 16⟩
def LFR.DEF_TIME_CLR (i : Nat) : Fld := ⟨LFR.DEF_TIME i, 0, 16⟩
def LFR.OH_ERR_CNT : Nat := 0x130
def LFR.OH_ERR_CNT_COUNT : Fld := ⟨LFR.OH_ERR_CNT, 0, 32⟩
def LFR.OOF_CNT : Nat := 0x134
def LFR.OOF_CNT_COUNT : Fld := ⟨LFR.OOF_CNT, 0, 32⟩
def LFR.ADJ_CNT : Nat := 0x138
def LFR.ADJ_CNT_COUNT : Fld := ⟨LFR.ADJ_CNT, 0, 32⟩
def LFR.RX_MFN : Nat := 0x13C
def LFR.RX_MFN_MFN : Fld := ⟨LFR.RX_MFN, 0, 32⟩
def LFR.RX_FN : Nat := 0x140
def LFR.RX_FN_FN : Fld := ⟨LFR.RX_FN, 0, 8⟩
def LFR.REI_RX : Nat := 0x144
def LFR.REI_RX_VALID : Fld := ⟨LFR.REI_RX, 16, 1⟩
def LFR.REI_RX_COUNT : Fld := ⟨LFR.REI_RX, 0, 16⟩
def LFR.PM_CFG : Nat := 0x148
def LFR.PM_CFG_PM_EN : Fld := ⟨LFR.PM_CFG, 31, 1⟩
def LFR.PM_CFG_SES_THR : Fld := ⟨LFR.PM_CFG, 24, 7⟩
def LFR.PM_CFG_DAY_OFS : Fld := ⟨LFR.PM_CFG, 0, 17⟩
def LFR.PM_STAT : Nat := 0x14C
def LFR.PM_STAT_UAS_FE : Fld := ⟨LFR.PM_STAT, 9, 1⟩
def LFR.PM_STAT_UAS_NE : Fld := ⟨LFR.PM_STAT, 8, 1⟩
def LFR.PM_STAT_N24 : Fld := ⟨LFR.PM_STAT, 6, 2⟩
def LFR.PM_STAT_N15 : Fld := ⟨LFR.PM_STAT, 0, 6⟩
def LFR.PM_CMD : Nat := 0x150
def LFR.PM_CMD_CLR : Fld := ⟨LFR.PM_CMD, 0, 1⟩

def LFR.rows0 : List RegRow := [
  ⟨0x100, 0x3D, 0x0, 0x30, true⟩,
  ⟨0x104, 0x0, 0x0, 0x0, false⟩,
  ⟨0x108, 0xF7F, 0x0, 0x318, false⟩,
  ⟨0x10C, 0x0, 0x0, 0x0, false⟩,
  ⟨0x110, 0xFFFFFFFF, 0x0, 0x54001, false⟩,
  ⟨0x114, 0xFFFFFFFF, 0x0, 0xA4001, false⟩,
  ⟨0x118, 0xFFFFFFFF, 0x0, 0x40034003, false⟩,
  ⟨0x11C, 0xFFFFFFFF, 0x0, 0x40034003, false⟩,
  ⟨0x120, 0xFFFFFFFF, 0x0, 0x400A4064, false⟩,
  ⟨0x124, 0xFFFFFFFF, 0x0, 0x4001400A, false⟩,
  ⟨0x128, 0xFFFFFFFF, 0x0, 0xA000A, false⟩,
  ⟨0x12C, 0xFFFFFFFF, 0x0, 0x4001400A, false⟩,
  ⟨0x130, 0x0, 0x0, 0x0, false⟩,
  ⟨0x134, 0x0, 0x0, 0x0, false⟩,
  ⟨0x138, 0x0, 0x0, 0x0, false⟩,
  ⟨0x13C, 0x0, 0x0, 0x0, false⟩,
  ⟨0x140, 0x0, 0x0, 0x0, false⟩,
  ⟨0x144, 0x0, 0x0, 0x0, false⟩,
  ⟨0x148, 0xFF01FFFF, 0x0, 0x8F000000, false⟩,
  ⟨0x14C, 0x0, 0x0, 0x0, false⟩,
  ⟨0x150, 0x0, 0x1, 0x0, false⟩]

/-- The registers of LFR (R210). -/
def LFR.rows : List RegRow := LFR.rows0

/-! ### CIP (R314) -/

def CIP.CIP_LOCK : Nat := 0x100
def CIP.CIP_LOCK_ID : Fld := ⟨CIP.CIP_LOCK, 0, 8⟩
def CIP.KEY_DATA : Nat := 0x104
def CIP.KEY_DATA_WORD : Fld := ⟨CIP.KEY_DATA, 0, 32⟩
def CIP.KEY_SALT : Nat := 0x108
def CIP.KEY_SALT_SALT : Fld := ⟨CIP.KEY_SALT, 0, 32⟩
def CIP.KEY_COMMIT : Nat := 0x10C
def CIP.KEY_COMMIT_SLOT : Fld := ⟨CIP.KEY_COMMIT, 0, 9⟩
def CIP.KEY_CMD : Nat := 0x110
def CIP.KEY_CMD_CMD : Fld := ⟨CIP.KEY_CMD, 16, 2⟩
def CIP.KEY_CMD_SLOT : Fld := ⟨CIP.KEY_CMD, 0, 9⟩
def CIP.KEY_STAT : Nat := 0x114
def CIP.KEY_STAT_REF_OWNER : Fld := ⟨CIP.KEY_STAT, 24, 8⟩
def CIP.KEY_STAT_REF_CODE : Fld := ⟨CIP.KEY_STAT, 16, 8⟩
def CIP.KEY_STAT_REF_SLOT : Fld := ⟨CIP.KEY_STAT, 4, 9⟩
def CIP.KEY_STAT_WCNT : Fld := ⟨CIP.KEY_STAT, 0, 4⟩
def CIP.RX_GRACE : Nat := 0x118
def CIP.RX_GRACE_MS : Fld := ⟨CIP.RX_GRACE, 0, 10⟩
def CIP.AUTH_CFG : Nat := 0x11C
def CIP.AUTH_CFG_AUTH_WIN : Fld := ⟨CIP.AUTH_CFG, 16, 16⟩
def CIP.AUTH_CFG_AUTH_THR : Fld := ⟨CIP.AUTH_CFG, 0, 16⟩
def CIP.CIP_CTL : Nat := 0x120
def CIP.CIP_CTL_KAT_GO : Fld := ⟨CIP.CIP_CTL, 1, 1⟩
def CIP.CIP_CTL_ENG_EN : Fld := ⟨CIP.CIP_CTL, 0, 1⟩
def CIP.CIP_STAT : Nat := 0x124
def CIP.CIP_STAT_TS_USED : Fld := ⟨CIP.CIP_STAT, 16, 9⟩
def CIP.CIP_STAT_NASSOC : Fld := ⟨CIP.CIP_STAT, 8, 8⟩
def CIP.CIP_STAT_ENG_HALT : Fld := ⟨CIP.CIP_STAT, 3, 1⟩
def CIP.CIP_STAT_KAT_FAIL : Fld := ⟨CIP.CIP_STAT, 2, 1⟩
def CIP.CIP_STAT_KAT_PASS : Fld := ⟨CIP.CIP_STAT, 1, 1⟩
def CIP.CIP_STAT_KAT_RUN : Fld := ⟨CIP.CIP_STAT, 0, 1⟩
def CIP.PAR_CNT : Nat := 0x128
def CIP.PAR_CNT_COUNT : Fld := ⟨CIP.PAR_CNT, 0, 32⟩
def CIP.ASSOC_SEL : Nat := 0x12C
def CIP.ASSOC_SEL_ID : Fld := ⟨CIP.ASSOC_SEL, 0, 8⟩
def CIP.ASSOC_STAT : Nat := 0x130
def CIP.ASSOC_STAT_TX_HALT : Fld := ⟨CIP.ASSOC_STAT, 8, 1⟩
def CIP.ASSOC_STAT_WARN : Fld := ⟨CIP.ASSOC_STAT, 7, 1⟩
def CIP.ASSOC_STAT_AUTH_RAW : Fld := ⟨CIP.ASSOC_STAT, 6, 1⟩
def CIP.ASSOC_STAT_KEY_RAW : Fld := ⟨CIP.ASSOC_STAT, 5, 1⟩
def CIP.ASSOC_STAT_DAUTH : Fld := ⟨CIP.ASSOC_STAT, 4, 1⟩
def CIP.ASSOC_STAT_DKEY : Fld := ⟨CIP.ASSOC_STAT, 3, 1⟩
def CIP.ASSOC_STAT_RX_SYNC : Fld := ⟨CIP.ASSOC_STAT, 2, 1⟩
def CIP.ASSOC_STAT_RX_KI : Fld := ⟨CIP.ASSOC_STAT, 1, 1⟩
def CIP.ASSOC_STAT_TX_KI : Fld := ⟨CIP.ASSOC_STAT, 0, 1⟩
def CIP.TX_UCTR_LO : Nat := 0x134
def CIP.TX_UCTR_HI : Nat := 0x138
def CIP.UNIT_LO : Nat := 0x13C
def CIP.UNIT_HI : Nat := 0x140
def CIP.TAG_FAIL_CNT : Nat := 0x144
def CIP.TAG_FAIL_CNT_COUNT : Fld := ⟨CIP.TAG_FAIL_CNT, 0, 32⟩
def CIP.LOST_CNT : Nat := 0x148
def CIP.LOST_CNT_COUNT : Fld := ⟨CIP.LOST_CNT, 0, 32⟩
def CIP.KEY_MISS_CNT : Nat := 0x14C
def CIP.KEY_MISS_CNT_COUNT : Fld := ⟨CIP.KEY_MISS_CNT, 0, 32⟩
def CIP.REPLAY_CNT : Nat := 0x150
def CIP.REPLAY_CNT_COUNT : Fld := ⟨CIP.REPLAY_CNT, 0, 32⟩
def CIP.EARLY_CNT : Nat := 0x154
def CIP.EARLY_CNT_COUNT : Fld := ⟨CIP.EARLY_CNT, 0, 32⟩
def CIP.DEF_TIME0 : Nat := 0x160
def CIP.DEF_TIME1 : Nat := 0x164
def CIP.KEY_SUM (i : Nat) : Nat := 0x180 + 0x4 * i
def CIP.AUTH_SUM (i : Nat) : Nat := 0x1A0 + 0x4 * i

def CIP.rows0 : List RegRow := [
  ⟨0x100, 0xFF, 0x0, 0x0, false⟩,
  ⟨0x104, 0x0, 0xFFFFFFFF, 0x0, false⟩,
  ⟨0x108, 0x0, 0xFFFFFFFF, 0x0, false⟩,
  ⟨0x10C, 0x0, 0x1FF, 0x0, false⟩,
  ⟨0x110, 0x0, 0x301FF, 0x0, false⟩,
  ⟨0x114, 0x0, 0x0, 0x0, false⟩,
  ⟨0x118, 0x3FF, 0x0, 0x1E, false⟩,
  ⟨0x11C, 0xFFFFFFFF, 0x0, 0x3E80004, false⟩,
  ⟨0x120, 0x1, 0x2, 0x0, false⟩,
  ⟨0x124, 0x0, 0x0, 0x0, false⟩,
  ⟨0x128, 0x0, 0x0, 0x0, false⟩,
  ⟨0x12C, 0xFF, 0x0, 0x0, false⟩,
  ⟨0x130, 0x0, 0x0, 0x0, false⟩,
  ⟨0x134, 0x0, 0x0, 0x0, false⟩,
  ⟨0x138, 0x0, 0x0, 0x0, false⟩,
  ⟨0x13C, 0x0, 0x0, 0x0, false⟩,
  ⟨0x140, 0x0, 0x0, 0x0, false⟩,
  ⟨0x144, 0x0, 0x0, 0x0, false⟩,
  ⟨0x148, 0x0, 0x0, 0x0, false⟩,
  ⟨0x14C, 0x0, 0x0, 0x0, false⟩,
  ⟨0x150, 0x0, 0x0, 0x0, false⟩,
  ⟨0x154, 0x0, 0x0, 0x0, false⟩,
  ⟨0x160, 0xFFFFFFFF, 0x0, 0x800A, false⟩,
  ⟨0x164, 0xFFFFFFFF, 0x0, 0x8064, false⟩,
  ⟨0x180, 0x0, 0x0, 0x0, false⟩,
  ⟨0x184, 0x0, 0x0, 0x0, false⟩,
  ⟨0x188, 0x0, 0x0, 0x0, false⟩,
  ⟨0x18C, 0x0, 0x0, 0x0, false⟩,
  ⟨0x190, 0x0, 0x0, 0x0, false⟩,
  ⟨0x194, 0x0, 0x0, 0x0, false⟩,
  ⟨0x198, 0x0, 0x0, 0x0, false⟩,
  ⟨0x19C, 0x0, 0x0, 0x0, false⟩,
  ⟨0x1A0, 0x0, 0x0, 0x0, false⟩,
  ⟨0x1A4, 0x0, 0x0, 0x0, false⟩,
  ⟨0x1A8, 0x0, 0x0, 0x0, false⟩,
  ⟨0x1AC, 0x0, 0x0, 0x0, false⟩,
  ⟨0x1B0, 0x0, 0x0, 0x0, false⟩,
  ⟨0x1B4, 0x0, 0x0, 0x0, false⟩,
  ⟨0x1B8, 0x0, 0x0, 0x0, false⟩,
  ⟨0x1BC, 0x0, 0x0, 0x0, false⟩]

/-- The registers of CIP (R314). -/
def CIP.rows : List RegRow := CIP.rows0

/-! ### SCB (R265, R289) -/

def SCB.SC_CFG : Nat := 0x100
def SCB.SC_CFG_LEAF : Fld := ⟨SCB.SC_CFG, 8, 11⟩
def SCB.SC_CFG_GROUP : Fld := ⟨SCB.SC_CFG, 2, 2⟩
def SCB.SC_CFG_ROLE : Fld := ⟨SCB.SC_CFG, 0, 2⟩
def SCB.SC_STAT : Nat := 0x104
def SCB.SC_STAT_LEAVES : Fld := ⟨SCB.SC_STAT, 8, 8⟩
def SCB.SC_STAT_DISC : Fld := ⟨SCB.SC_STAT, 3, 1⟩
def SCB.SC_STAT_DRAINING : Fld := ⟨SCB.SC_STAT, 2, 1⟩
def SCB.SC_STAT_ROLE_NOW : Fld := ⟨SCB.SC_STAT, 0, 2⟩
def SCB.GRANT_CNT : Nat := 0x108
def SCB.GRANT_CNT_COUNT : Fld := ⟨SCB.GRANT_CNT, 0, 32⟩
def SCB.SLOT_CNT : Nat := 0x10C
def SCB.SLOT_CNT_COUNT : Fld := ⟨SCB.SLOT_CNT, 0, 32⟩
def SCB.BRX_CFG : Nat := 0x110
def SCB.BRX_CFG_DET_THR : Fld := ⟨SCB.BRX_CFG, 24, 8⟩
def SCB.BRX_CFG_CAP_MARGIN : Fld := ⟨SCB.BRX_CFG, 16, 4⟩
def SCB.BRX_CFG_SYNC_TOL : Fld := ⟨SCB.BRX_CFG, 8, 6⟩
def SCB.BRX_CFG_SMOOTH : Fld := ⟨SCB.BRX_CFG, 4, 2⟩
def SCB.BRX_CFG_BRX_EN : Fld := ⟨SCB.BRX_CFG, 0, 1⟩
def SCB.BRX_TRK : Nat := 0x114
def SCB.BRX_TRK_IDLE_ROUNDS : Fld := ⟨SCB.BRX_TRK, 24, 8⟩
def SCB.BRX_TRK_LEAK : Fld := ⟨SCB.BRX_TRK, 16, 5⟩
def SCB.BRX_TRK_BMU : Fld := ⟨SCB.BRX_TRK, 8, 5⟩
def SCB.BRX_TRK_TRAIN_MIN : Fld := ⟨SCB.BRX_TRK, 0, 8⟩
def SCB.BRX_GATE : Nat := 0x118
def SCB.BRX_GATE_G64 : Fld := ⟨SCB.BRX_GATE, 16, 8⟩
def SCB.BRX_GATE_G16 : Fld := ⟨SCB.BRX_GATE, 8, 8⟩
def SCB.BRX_GATE_GQ : Fld := ⟨SCB.BRX_GATE, 0, 8⟩
def SCB.ASSOC_CFG : Nat := 0x11C
def SCB.ASSOC_CFG_ASSOC_FAR : Fld := ⟨SCB.ASSOC_CFG, 16, 13⟩
def SCB.ASSOC_CFG_ASSOC_WIN : Fld := ⟨SCB.ASSOC_CFG, 0, 10⟩
def SCB.RX_SC : Nat := 0x120
def SCB.RX_SC_PROFILE : Fld := ⟨SCB.RX_SC, 8, 4⟩
def SCB.RX_SC_FORMAT : Fld := ⟨SCB.RX_SC, 0, 2⟩
def SCB.BRX_STAT : Nat := 0x124
def SCB.BRX_STAT_LEAF : Fld := ⟨SCB.BRX_STAT, 20, 11⟩
def SCB.BRX_STAT_GAIN : Fld := ⟨SCB.BRX_STAT, 12, 8⟩
def SCB.BRX_STAT_WIDTH : Fld := ⟨SCB.BRX_STAT, 8, 2⟩
def SCB.BRX_STAT_BSTATE : Fld := ⟨SCB.BRX_STAT, 0, 3⟩
def SCB.BURST_CNT : Nat := 0x128
def SCB.BURST_CNT_COUNT : Fld := ⟨SCB.BURST_CNT, 0, 32⟩
def SCB.MISS_CNT : Nat := 0x12C
def SCB.MISS_CNT_COUNT : Fld := ⟨SCB.MISS_CNT, 0, 32⟩
def SCB.COLL_CNT : Nat := 0x130
def SCB.COLL_CNT_COUNT : Fld := ⟨SCB.COLL_CNT, 0, 32⟩
def SCB.CAPTURE_CNT : Nat := 0x134
def SCB.CAPTURE_CNT_COUNT : Fld := ⟨SCB.CAPTURE_CNT, 0, 32⟩
def SCB.FALSE_CNT : Nat := 0x138
def SCB.FALSE_CNT_COUNT : Fld := ⟨SCB.FALSE_CNT, 0, 32⟩
def SCB.STRAY_CNT : Nat := 0x13C
def SCB.STRAY_CNT_COUNT : Fld := ⟨SCB.STRAY_CNT, 0, 32⟩
def SCB.UNASSOC_CNT : Nat := 0x140
def SCB.UNASSOC_CNT_COUNT : Fld := ⟨SCB.UNASSOC_CNT, 0, 32⟩
def SCB.MISMATCH_CNT : Nat := 0x144
def SCB.MISMATCH_CNT_COUNT : Fld := ⟨SCB.MISMATCH_CNT, 0, 32⟩
def SCB.END_ERR_CNT : Nat := 0x148
def SCB.END_ERR_CNT_COUNT : Fld := ⟨SCB.END_ERR_CNT, 0, 32⟩
def SCB.ANCHOR_CTL : Nat := 0x14C
def SCB.ANCHOR_CTL_SAVE : Fld := ⟨SCB.ANCHOR_CTL, 0, 1⟩
def SCB.STR_STAT : Nat := 0x150
def SCB.STR_STAT_MF_LOCK : Fld := ⟨SCB.STR_STAT, 10, 1⟩
def SCB.STR_STAT_FR_STATE : Fld := ⟨SCB.STR_STAT, 8, 2⟩
def SCB.STR_STAT_LEAKING : Fld := ⟨SCB.STR_STAT, 6, 1⟩
def SCB.STR_STAT_GATE_OPEN : Fld := ⟨SCB.STR_STAT, 5, 1⟩
def SCB.STR_STAT_LOCK : Fld := ⟨SCB.STR_STAT, 4, 1⟩
def SCB.STR_STAT_STATE : Fld := ⟨SCB.STR_STAT, 0, 3⟩
def SCB.DEF_STAT : Nat := 0x154
def SCB.DEF_STAT_RAW : Fld := ⟨SCB.DEF_STAT, 16, 7⟩
def SCB.DEF_STAT_DEF : Fld := ⟨SCB.DEF_STAT, 0, 7⟩
def SCB.DEF_TIME (i : Nat) : Nat := 0x158 + 0x4 * i
def SCB.Q_SNR : Nat := 0x174
def SCB.Q_BER : Nat := 0x178
def SCB.Q_GMI : Nat := 0x17C
def SCB.Q_GMI_GMI : Fld := ⟨SCB.Q_GMI, 0, 16⟩
def SCB.Q_MARGIN : Nat := 0x180
def SCB.OOF_CNT : Nat := 0x184
def SCB.OOF_CNT_COUNT : Fld := ⟨SCB.OOF_CNT, 0, 32⟩
def SCB.CW_LO : Nat := 0x188
def SCB.CW_HI : Nat := 0x18C
def SCB.UNC_LO : Nat := 0x190
def SCB.UNC_HI : Nat := 0x194
def SCB.STR_ANCHOR_CTL : Nat := 0x198
def SCB.STR_ANCHOR_CTL_SWAP_GO : Fld := ⟨SCB.STR_ANCHOR_CTL, 3, 1⟩
def SCB.STR_ANCHOR_CTL_SWAP_BANK : Fld := ⟨SCB.STR_ANCHOR_CTL, 2, 1⟩
def SCB.STR_ANCHOR_CTL_SAVE : Fld := ⟨SCB.STR_ANCHOR_CTL, 1, 1⟩
def SCB.STR_ANCHOR_CTL_LOAD_MODE : Fld := ⟨SCB.STR_ANCHOR_CTL, 0, 1⟩
def SCB.STR_ANCHOR_STAT : Nat := 0x19C
def SCB.STR_ANCHOR_STAT_STOPPED : Fld := ⟨SCB.STR_ANCHOR_STAT, 4, 1⟩
def SCB.STR_ANCHOR_STAT_QBANK : Fld := ⟨SCB.STR_ANCHOR_STAT, 3, 1⟩
def SCB.STR_ANCHOR_STAT_QUEUED : Fld := ⟨SCB.STR_ANCHOR_STAT, 2, 1⟩
def SCB.STR_ANCHOR_STAT_FADING : Fld := ⟨SCB.STR_ANCHOR_STAT, 1, 1⟩
def SCB.STR_ANCHOR_STAT_ACTIVE : Fld := ⟨SCB.STR_ANCHOR_STAT, 0, 1⟩

def SCB.rows0 : List RegRow := [
  ⟨0x100, 0x7FF0F, 0x0, 0x0, true⟩,
  ⟨0x104, 0x0, 0x0, 0x0, false⟩,
  ⟨0x108, 0x0, 0x0, 0x0, false⟩,
  ⟨0x10C, 0x0, 0x0, 0x0, false⟩,
  ⟨0x110, 0xFF0F3F31, 0x0, 0x80060C20, true⟩,
  ⟨0x114, 0xFF1F1FFF, 0x0, 0x10040A3C, true⟩,
  ⟨0x118, 0xFFFFFF, 0x0, 0x967A3A, true⟩,
  ⟨0x11C, 0x1FFF03FF, 0x0, 0xFA00040, false⟩,
  ⟨0x120, 0xF03, 0x0, 0x0, true⟩,
  ⟨0x124, 0x0, 0x0, 0x0, false⟩,
  ⟨0x128, 0x0, 0x0, 0x0, false⟩,
  ⟨0x12C, 0x0, 0x0, 0x0, false⟩,
  ⟨0x130, 0x0, 0x0, 0x0, false⟩,
  ⟨0x134, 0x0, 0x0, 0x0, false⟩,
  ⟨0x138, 0x0, 0x0, 0x0, false⟩,
  ⟨0x13C, 0x0, 0x0, 0x0, false⟩,
  ⟨0x140, 0x0, 0x0, 0x0, false⟩,
  ⟨0x144, 0x0, 0x0, 0x0, false⟩,
  ⟨0x148, 0x0, 0x0, 0x0, false⟩,
  ⟨0x14C, 0x0, 0x1, 0x0, false⟩,
  ⟨0x150, 0x0, 0x0, 0x0, false⟩,
  ⟨0x154, 0x0, 0x0, 0x0, false⟩,
  ⟨0x158, 0xFFFFFFFF, 0x0, 0x40034003, false⟩,
  ⟨0x15C, 0xFFFFFFFF, 0x0, 0x40034003, false⟩,
  ⟨0x160, 0xFFFFFFFF, 0x0, 0x400A4064, false⟩,
  ⟨0x164, 0xFFFFFFFF, 0x0, 0x4001400A, false⟩,
  ⟨0x168, 0xFFFFFFFF, 0x0, 0xA000A, false⟩,
  ⟨0x16C, 0xFFFFFFFF, 0x0, 0x4001400A, false⟩,
  ⟨0x170, 0xFFFFFFFF, 0x0, 0x40014001, false⟩,
  ⟨0x174, 0x0, 0x0, 0x0, false⟩,
  ⟨0x178, 0x0, 0x0, 0x0, false⟩,
  ⟨0x17C, 0x0, 0x0, 0x0, false⟩,
  ⟨0x180, 0x0, 0x0, 0x0, false⟩,
  ⟨0x184, 0x0, 0x0, 0x0, false⟩,
  ⟨0x188, 0x0, 0x0, 0x0, false⟩,
  ⟨0x18C, 0x0, 0x0, 0x0, false⟩,
  ⟨0x190, 0x0, 0x0, 0x0, false⟩,
  ⟨0x194, 0x0, 0x0, 0x0, false⟩,
  ⟨0x198, 0x1, 0xE, 0x0, false⟩,
  ⟨0x19C, 0x0, 0x0, 0x10, false⟩]

/-- The registers of SCB (R265, R289). -/
def SCB.rows : List RegRow := SCB.rows0

end Sys2Proof.Machine
end

