-- ==== Sys2Proof/Machine/RegNet.lean ====
section
/-!
DEFINITION. Machine/RegNet.lean: the registers of the pages HUB, SUIT, SNS, MEM, HSL, ETH, CLS, QMG, TSH, DDR, ENG, VLG as the spec
tables give them: each register's offset, each field's place, and one row a register (offset, bits that software
writes, bits that trigger an action when 1 is written, the reset value, whether deals can stage it).
-/

namespace Sys2Proof.Machine

/-! ### HUB (R263) -/

def HUB.HUB_CTL : Nat := 0x100
def HUB.HUB_CTL_RUN : Fld := ⟨HUB.HUB_CTL, 0, 4⟩
def HUB.GRANT_USED : Nat := 0x104
def HUB.GRANT_USED_COUNT : Fld := ⟨HUB.GRANT_USED, 0, 14⟩
def HUB.GRANT_REF_CNT : Nat := 0x108
def HUB.GRANT_REF_CNT_COUNT : Fld := ⟨HUB.GRANT_REF_CNT, 0, 32⟩
def HUB.GRANT_REF_LAST : Nat := 0x10C
def HUB.GRANT_REF_LAST_CAR : Fld := ⟨HUB.GRANT_REF_LAST, 4, 2⟩
def HUB.GRANT_REF_LAST_REASON : Fld := ⟨HUB.GRANT_REF_LAST, 0, 4⟩
def HUB.SERIAL_LO : Nat := 0x110
def HUB.SERIAL_HI : Nat := 0x114
def HUB.LEAF_CMD : Nat := 0x118
def HUB.LEAF_CMD_CMD : Fld := ⟨HUB.LEAF_CMD, 16, 2⟩
def HUB.LEAF_CMD_LEAF : Fld := ⟨HUB.LEAF_CMD, 0, 12⟩
def HUB.UNK_SER_LO : Nat := 0x11C
def HUB.UNK_SER_HI : Nat := 0x120
def HUB.UNK_SER_HI_CAR : Fld := ⟨HUB.UNK_SER_HI, 16, 2⟩
def HUB.UNK_SER_HI_SER : Fld := ⟨HUB.UNK_SER_HI, 0, 16⟩
def HUB.CAR_CFG (i : Nat) : Nat := 0x140 + 0x20 * i
def HUB.CAR_CFG_RAND_MAX (i : Nat) : Fld := ⟨HUB.CAR_CFG i, 22, 10⟩
def HUB.CAR_CFG_MIN_LEN (i : Nat) : Fld := ⟨HUB.CAR_CFG i, 16, 6⟩
def HUB.CAR_CFG_REF_SC (i : Nat) : Fld := ⟨HUB.CAR_CFG i, 8, 6⟩
def HUB.CAR_CFG_RLEN (i : Nat) : Fld := ⟨HUB.CAR_CFG i, 0, 3⟩
def HUB.CAR_TEQ (i : Nat) : Nat := 0x144 + 0x20 * i
def HUB.CAR_TEQ_TEQ (i : Nat) : Fld := ⟨HUB.CAR_TEQ i, 0, 24⟩
def HUB.CAR_RND (i : Nat) : Nat := 0x148 + 0x20 * i
def HUB.CAR_RND_RND (i : Nat) : Fld := ⟨HUB.CAR_RND i, 0, 32⟩
def HUB.CAR_DISC (i : Nat) : Nat := 0x14C + 0x20 * i
def HUB.CAR_DISC_PERIOD (i : Nat) : Fld := ⟨HUB.CAR_DISC i, 16, 16⟩
def HUB.CAR_DISC_SC (i : Nat) : Fld := ⟨HUB.CAR_DISC i, 8, 6⟩
def HUB.CAR_DISC_NROUNDS (i : Nat) : Fld := ⟨HUB.CAR_DISC i, 0, 6⟩
def HUB.CAR_RTTMIN (i : Nat) : Nat := 0x150 + 0x20 * i
def HUB.CAR_RTTMIN_RTT (i : Nat) : Fld := ⟨HUB.CAR_RTTMIN i, 0, 24⟩
def HUB.RANGE_CFG (i : Nat) : Nat := 0x154 + 0x20 * i
def HUB.RANGE_CFG_DROP_TIME (i : Nat) : Fld := ⟨HUB.RANGE_CFG i, 24, 8⟩
def HUB.RANGE_CFG_LOST_TIME (i : Nat) : Fld := ⟨HUB.RANGE_CFG i, 16, 8⟩
def HUB.RANGE_CFG_TRACK_THR (i : Nat) : Fld := ⟨HUB.RANGE_CFG i, 8, 8⟩
def HUB.RANGE_CFG_RANGE_TOL (i : Nat) : Fld := ⟨HUB.RANGE_CFG i, 0, 8⟩
def HUB.MAP_STAT (i : Nat) : Nat := 0x158 + 0x20 * i
def HUB.MAP_STAT_PENDING (i : Nat) : Fld := ⟨HUB.MAP_STAT i, 1, 1⟩
def HUB.MAP_STAT_ACTIVE (i : Nat) : Fld := ⟨HUB.MAP_STAT i, 0, 1⟩
def HUB.LEAF_NUM (i : Nat) : Nat := 0x15C + 0x20 * i
def HUB.LEAF_NUM_PROV (i : Nat) : Fld := ⟨HUB.LEAF_NUM i, 16, 12⟩
def HUB.LEAF_NUM_ACTIVE (i : Nat) : Fld := ⟨HUB.LEAF_NUM i, 0, 12⟩
def HUB.LEAF_STAT (i : Nat) : Nat := 0x1C0 + 0x10 * i
def HUB.LEAF_STAT_HOME (i : Nat) : Fld := ⟨HUB.LEAF_STAT i, 16, 6⟩
def HUB.LEAF_STAT_LEAF (i : Nat) : Fld := ⟨HUB.LEAF_STAT i, 4, 11⟩
def HUB.LEAF_STAT_STATE (i : Nat) : Fld := ⟨HUB.LEAF_STAT i, 0, 3⟩
def HUB.LEAF_EQD (i : Nat) : Nat := 0x1C4 + 0x10 * i
def HUB.LEAF_EQD_EQD (i : Nat) : Fld := ⟨HUB.LEAF_EQD i, 0, 24⟩
def HUB.LEAF_CFG (i : Nat) : Nat := 0x1C8 + 0x10 * i
def HUB.LEAF_CFG_HOLD_MAX (i : Nat) : Fld := ⟨HUB.LEAF_CFG i, 8, 8⟩
def HUB.LEAF_CFG_BACKOFF (i : Nat) : Fld := ⟨HUB.LEAF_CFG i, 0, 4⟩
def HUB.LEAF_CNT (i : Nat) : Nat := 0x1CC + 0x10 * i
def HUB.LEAF_CNT_RND_MISS (i : Nat) : Fld := ⟨HUB.LEAF_CNT i, 0, 32⟩

def HUB.rows0 : List RegRow := [
  ⟨0x100, 0xF, 0x0, 0x0, false⟩,
  ⟨0x104, 0x0, 0x0, 0x0, false⟩,
  ⟨0x108, 0x0, 0x0, 0x0, false⟩,
  ⟨0x10C, 0x0, 0x0, 0x0, false⟩,
  ⟨0x110, 0x0, 0x0, 0x0, false⟩,
  ⟨0x114, 0x0, 0x0, 0x0, false⟩,
  ⟨0x118, 0x0, 0x30FFF, 0x0, false⟩,
  ⟨0x11C, 0x0, 0x0, 0x0, false⟩,
  ⟨0x120, 0x0, 0x0, 0x0, false⟩,
  ⟨0x140, 0xFFFF3F07, 0x0, 0x80160003, true⟩,
  ⟨0x144, 0xFFFFFF, 0x0, 0x802C80, false⟩,
  ⟨0x148, 0x0, 0x0, 0x0, false⟩,
  ⟨0x14C, 0xFFFF3F3F, 0x0, 0x4000011, true⟩,
  ⟨0x150, 0xFFFFFF, 0x0, 0x0, false⟩,
  ⟨0x154, 0xFFFFFFFF, 0x0, 0xA321008, true⟩,
  ⟨0x158, 0x0, 0x0, 0x0, false⟩,
  ⟨0x15C, 0x0, 0x0, 0x0, false⟩,
  ⟨0x160, 0xFFFF3F07, 0x0, 0x80160003, true⟩,
  ⟨0x164, 0xFFFFFF, 0x0, 0x802C80, false⟩,
  ⟨0x168, 0x0, 0x0, 0x0, false⟩,
  ⟨0x16C, 0xFFFF3F3F, 0x0, 0x4000011, true⟩,
  ⟨0x170, 0xFFFFFF, 0x0, 0x0, false⟩,
  ⟨0x174, 0xFFFFFFFF, 0x0, 0xA321008, true⟩,
  ⟨0x178, 0x0, 0x0, 0x0, false⟩,
  ⟨0x17C, 0x0, 0x0, 0x0, false⟩,
  ⟨0x180, 0xFFFF3F07, 0x0, 0x80160003, true⟩,
  ⟨0x184, 0xFFFFFF, 0x0, 0x802C80, false⟩,
  ⟨0x188, 0x0, 0x0, 0x0, false⟩,
  ⟨0x18C, 0xFFFF3F3F, 0x0, 0x4000011, true⟩,
  ⟨0x190, 0xFFFFFF, 0x0, 0x0, false⟩,
  ⟨0x194, 0xFFFFFFFF, 0x0, 0xA321008, true⟩,
  ⟨0x198, 0x0, 0x0, 0x0, false⟩,
  ⟨0x19C, 0x0, 0x0, 0x0, false⟩,
  ⟨0x1A0, 0xFFFF3F07, 0x0, 0x80160003, true⟩,
  ⟨0x1A4, 0xFFFFFF, 0x0, 0x802C80, false⟩,
  ⟨0x1A8, 0x0, 0x0, 0x0, false⟩,
  ⟨0x1AC, 0xFFFF3F3F, 0x0, 0x4000011, true⟩,
  ⟨0x1B0, 0xFFFFFF, 0x0, 0x0, false⟩,
  ⟨0x1B4, 0xFFFFFFFF, 0x0, 0xA321008, true⟩,
  ⟨0x1B8, 0x0, 0x0, 0x0, false⟩]

def HUB.rows1 : List RegRow := [
  ⟨0x1BC, 0x0, 0x0, 0x0, false⟩,
  ⟨0x1C0, 0x0, 0x0, 0x0, false⟩,
  ⟨0x1C4, 0x0, 0x0, 0x0, false⟩,
  ⟨0x1C8, 0xFF0F, 0x0, 0x3208, false⟩,
  ⟨0x1CC, 0x0, 0x0, 0x0, false⟩,
  ⟨0x1D0, 0x0, 0x0, 0x0, false⟩,
  ⟨0x1D4, 0x0, 0x0, 0x0, false⟩,
  ⟨0x1D8, 0xFF0F, 0x0, 0x3208, false⟩,
  ⟨0x1DC, 0x0, 0x0, 0x0, false⟩,
  ⟨0x1E0, 0x0, 0x0, 0x0, false⟩,
  ⟨0x1E4, 0x0, 0x0, 0x0, false⟩,
  ⟨0x1E8, 0xFF0F, 0x0, 0x3208, false⟩,
  ⟨0x1EC, 0x0, 0x0, 0x0, false⟩,
  ⟨0x1F0, 0x0, 0x0, 0x0, false⟩,
  ⟨0x1F4, 0x0, 0x0, 0x0, false⟩,
  ⟨0x1F8, 0xFF0F, 0x0, 0x3208, false⟩,
  ⟨0x1FC, 0x0, 0x0, 0x0, false⟩]

/-- The registers of HUB (R263). -/
def HUB.rows : List RegRow := HUB.rows0 ++ HUB.rows1

/-! ### SUIT (R236) -/

def SUIT.SUIT_SEL : Nat := 0x104
def SUIT.SUIT_SEL_ID : Fld := ⟨SUIT.SUIT_SEL, 0, 8⟩
def SUIT.SUIT_STAT : Nat := 0x108
def SUIT.SUIT_STAT_MAP_VER : Fld := ⟨SUIT.SUIT_STAT, 28, 4⟩
def SUIT.SUIT_STAT_NEXT_VER : Fld := ⟨SUIT.SUIT_STAT, 24, 4⟩
def SUIT.SUIT_STAT_RSTATE : Fld := ⟨SUIT.SUIT_STAT, 20, 3⟩
def SUIT.SUIT_STAT_RESULT : Fld := ⟨SUIT.SUIT_STAT, 16, 4⟩
def SUIT.SUIT_STAT_QUEUED : Fld := ⟨SUIT.SUIT_STAT, 15, 1⟩
def SUIT.SUIT_STAT_DDR : Fld := ⟨SUIT.SUIT_STAT, 14, 1⟩
def SUIT.SUIT_STAT_DEGRADED : Fld := ⟨SUIT.SUIT_STAT, 13, 1⟩
def SUIT.SUIT_STAT_LOA : Fld := ⟨SUIT.SUIT_STAT, 12, 1⟩
def SUIT.SUIT_STAT_LOA_RAW : Fld := ⟨SUIT.SUIT_STAT, 11, 1⟩
def SUIT.SUIT_STAT_TS_NOW : Fld := ⟨SUIT.SUIT_STAT, 0, 9⟩
def SUIT.SKEW : Nat := 0x10C
def SUIT.SKEW_VALID : Fld := ⟨SUIT.SKEW, 31, 1⟩
def SUIT.SKEW_SKEW : Fld := ⟨SUIT.SKEW, 0, 24⟩
def SUIT.ERRF_CNT : Nat := 0x110
def SUIT.ERRF_CNT_COUNT : Fld := ⟨SUIT.ERRF_CNT, 0, 32⟩
def SUIT.HDR_ERR_CNT : Nat := 0x114
def SUIT.HDR_ERR_CNT_COUNT : Fld := ⟨SUIT.HDR_ERR_CNT, 0, 32⟩
def SUIT.RESIZE_CNT : Nat := 0x118
def SUIT.RESIZE_CNT_COUNT : Fld := ⟨SUIT.RESIZE_CNT, 0, 32⟩
def SUIT.SUIT_CFG : Nat := 0x11C
def SUIT.SUIT_CFG_RESIZE_LEAD : Fld := ⟨SUIT.SUIT_CFG, 0, 12⟩
def SUIT.DEF_TIME : Nat := 0x120
def SUIT.DEF_TIME_SET : Fld := ⟨SUIT.DEF_TIME, 16, 16⟩
def SUIT.DEF_TIME_CLR : Fld := ⟨SUIT.DEF_TIME, 0, 16⟩
def SUIT.LOA_SUM (i : Nat) : Nat := 0x130 + 0x4 * i

def SUIT.rows0 : List RegRow := [
  ⟨0x104, 0xFF, 0x0, 0x0, false⟩,
  ⟨0x108, 0x0, 0x0, 0x0, false⟩,
  ⟨0x10C, 0x0, 0x0, 0x0, false⟩,
  ⟨0x110, 0x0, 0x0, 0x0, false⟩,
  ⟨0x114, 0x0, 0x0, 0x0, false⟩,
  ⟨0x118, 0x0, 0x0, 0x0, false⟩,
  ⟨0x11C, 0xFFF, 0x0, 0x200, true⟩,
  ⟨0x120, 0xFFFFFFFF, 0x0, 0xA400A, false⟩,
  ⟨0x130, 0x0, 0x0, 0x0, false⟩,
  ⟨0x134, 0x0, 0x0, 0x0, false⟩,
  ⟨0x138, 0x0, 0x0, 0x0, false⟩,
  ⟨0x13C, 0x0, 0x0, 0x0, false⟩,
  ⟨0x140, 0x0, 0x0, 0x0, false⟩,
  ⟨0x144, 0x0, 0x0, 0x0, false⟩,
  ⟨0x148, 0x0, 0x0, 0x0, false⟩,
  ⟨0x14C, 0x0, 0x0, 0x0, false⟩]

/-- The registers of SUIT (R236). -/
def SUIT.rows : List RegRow := SUIT.rows0

/-! ### SNS (R377) -/

def SNS.SNS_CTL : Nat := 0x100
def SNS.SNS_CTL_LOAD_MODE : Fld := ⟨SNS.SNS_CTL, 2, 1⟩
def SNS.SNS_CTL_ARCH_EN : Fld := ⟨SNS.SNS_CTL, 1, 1⟩
def SNS.SNS_CTL_RUN : Fld := ⟨SNS.SNS_CTL, 0, 1⟩
def SNS.SNS_STAT : Nat := 0x104
def SNS.SNS_STAT_NSTREAM : Fld := ⟨SNS.SNS_STAT, 16, 9⟩
def SNS.SNS_STAT_NFRZ : Fld := ⟨SNS.SNS_STAT, 8, 5⟩
def SNS.SNS_STAT_NO_REGION : Fld := ⟨SNS.SNS_STAT, 7, 1⟩
def SNS.SNS_STAT_ARCH_ON : Fld := ⟨SNS.SNS_STAT, 6, 1⟩
def SNS.SNS_STAT_ACTIVE : Fld := ⟨SNS.SNS_STAT, 5, 1⟩
def SNS.SNS_STAT_QBANK : Fld := ⟨SNS.SNS_STAT, 4, 1⟩
def SNS.SNS_STAT_QUEUED : Fld := ⟨SNS.SNS_STAT, 3, 1⟩
def SNS.SNS_STAT_FADING : Fld := ⟨SNS.SNS_STAT, 2, 1⟩
def SNS.SNS_STAT_STOPPED : Fld := ⟨SNS.SNS_STAT, 1, 1⟩
def SNS.SNS_STAT_RUNNING : Fld := ⟨SNS.SNS_STAT, 0, 1⟩
def SNS.FADE_CFG : Nat := 0x108
def SNS.FADE_CFG_LEN : Fld := ⟨SNS.FADE_CFG, 0, 12⟩
def SNS.SWAP_REQ : Nat := 0x10C
def SNS.SWAP_REQ_BANK : Fld := ⟨SNS.SWAP_REQ, 0, 1⟩
def SNS.ARCH_SIZE : Nat := 0x110
def SNS.ARCH_SIZE_MIB : Fld := ⟨SNS.ARCH_SIZE, 0, 21⟩
def SNS.ARCH_RATE : Nat := 0x114
def SNS.ARCH_RATE_KIBS : Fld := ⟨SNS.ARCH_RATE, 0, 20⟩
def SNS.ARCH_DEPTH : Nat := 0x118
def SNS.ARCH_DEPTH_S : Fld := ⟨SNS.ARCH_DEPTH, 0, 32⟩
def SNS.WR_SEQ : Nat := 0x11C
def SNS.WR_SEQ_SEQ : Fld := ⟨SNS.WR_SEQ, 0, 32⟩
def SNS.FLUSH_CFG : Nat := 0x120
def SNS.FLUSH_CFG_MS : Fld := ⟨SNS.FLUSH_CFG, 0, 16⟩
def SNS.FRZ_CFG : Nat := 0x124
def SNS.FRZ_CFG_FRZ_MAX : Fld := ⟨SNS.FRZ_CFG, 16, 16⟩
def SNS.FRZ_CFG_ON_CALL : Fld := ⟨SNS.FRZ_CFG, 8, 1⟩
def SNS.FRZ_CFG_MIN_FREE : Fld := ⟨SNS.FRZ_CFG, 0, 8⟩
def SNS.FRZ_MAN : Nat := 0x128
def SNS.FRZ_MAN_POST : Fld := ⟨SNS.FRZ_MAN, 16, 16⟩
def SNS.FRZ_MAN_PRE : Fld := ⟨SNS.FRZ_MAN, 0, 16⟩
def SNS.FRZ_CMD : Nat := 0x12C
def SNS.FRZ_CMD_MANUAL : Fld := ⟨SNS.FRZ_CMD, 9, 1⟩
def SNS.FRZ_CMD_RELEASE : Fld := ⟨SNS.FRZ_CMD, 8, 1⟩
def SNS.FRZ_CMD_SLOT : Fld := ⟨SNS.FRZ_CMD, 0, 4⟩
def SNS.RD_REC : Nat := 0x130
def SNS.RD_REC_POS : Fld := ⟨SNS.RD_REC, 0, 32⟩
def SNS.RD_STAT : Nat := 0x134
def SNS.RD_STAT_BAD_CRC : Fld := ⟨SNS.RD_STAT, 3, 1⟩
def SNS.RD_STAT_EMPTY : Fld := ⟨SNS.RD_STAT, 2, 1⟩
def SNS.RD_STAT_FROZEN : Fld := ⟨SNS.RD_STAT, 1, 1⟩
def SNS.RD_STAT_READY : Fld := ⟨SNS.RD_STAT, 0, 1⟩
def SNS.SEEK_LO : Nat := 0x138
def SNS.SEEK_HI : Nat := 0x13C
def SNS.SEEK_CMD : Nat := 0x140
def SNS.SEEK_CMD_GO : Fld := ⟨SNS.SEEK_CMD, 31, 1⟩
def SNS.SEEK_CMD_ANY : Fld := ⟨SNS.SEEK_CMD, 8, 1⟩
def SNS.SEEK_CMD_STREAM : Fld := ⟨SNS.SEEK_CMD, 0, 8⟩
def SNS.SEEK_RES : Nat := 0x144
def SNS.SEEK_RES_POS : Fld := ⟨SNS.SEEK_RES, 0, 32⟩
def SNS.SEEK_STAT : Nat := 0x148
def SNS.SEEK_STAT_NOT_FOUND : Fld := ⟨SNS.SEEK_STAT, 1, 1⟩
def SNS.SEEK_STAT_DONE : Fld := ⟨SNS.SEEK_STAT, 0, 1⟩
def SNS.EVT_CNT : Nat := 0x14C
def SNS.EVT_CNT_COUNT : Fld := ⟨SNS.EVT_CNT, 0, 32⟩
def SNS.CALL_REQ_CNT : Nat := 0x150
def SNS.CALL_REQ_CNT_COUNT : Fld := ⟨SNS.CALL_REQ_CNT, 0, 32⟩
def SNS.FRZ_REF_CNT : Nat := 0x154
def SNS.FRZ_REF_CNT_COUNT : Fld := ⟨SNS.FRZ_REF_CNT, 0, 32⟩
def SNS.GAP_CNT : Nat := 0x158
def SNS.GAP_CNT_COUNT : Fld := ⟨SNS.GAP_CNT, 0, 32⟩
def SNS.REFUSE_CNT : Nat := 0x15C
def SNS.REFUSE_CNT_COUNT : Fld := ⟨SNS.REFUSE_CNT, 0, 32⟩

def SNS.rows0 : List RegRow := [
  ⟨0x100, 0x7, 0x0, 0x0, true⟩,
  ⟨0x104, 0x0, 0x0, 0x2, false⟩,
  ⟨0x108, 0xFFF, 0x0, 0x40, true⟩,
  ⟨0x10C, 0x0, 0x1, 0x0, false⟩,
  ⟨0x110, 0x0, 0x0, 0x0, false⟩,
  ⟨0x114, 0x0, 0x0, 0x0, false⟩,
  ⟨0x118, 0x0, 0x0, 0x0, false⟩,
  ⟨0x11C, 0x0, 0x0, 0x0, false⟩,
  ⟨0x120, 0xFFFF, 0x0, 0x3E8, false⟩,
  ⟨0x124, 0xFFFF01FF, 0x0, 0xE100020, false⟩,
  ⟨0x128, 0xFFFFFFFF, 0x0, 0x2580BB8, false⟩,
  ⟨0x12C, 0x0, 0x30F, 0x0, false⟩,
  ⟨0x130, 0xFFFFFFFF, 0x0, 0x0, false⟩,
  ⟨0x134, 0x0, 0x0, 0x0, false⟩,
  ⟨0x138, 0xFFFFFFFF, 0x0, 0x0, false⟩,
  ⟨0x13C, 0xFFFFFFFF, 0x0, 0x0, false⟩,
  ⟨0x140, 0x0, 0x800001FF, 0x0, false⟩,
  ⟨0x144, 0x0, 0x0, 0x0, false⟩,
  ⟨0x148, 0x0, 0x0, 0x0, false⟩,
  ⟨0x14C, 0x0, 0x0, 0x0, false⟩,
  ⟨0x150, 0x0, 0x0, 0x0, false⟩,
  ⟨0x154, 0x0, 0x0, 0x0, false⟩,
  ⟨0x158, 0x0, 0x0, 0x0, false⟩,
  ⟨0x15C, 0x0, 0x0, 0x0, false⟩]

/-- The registers of SNS (R377). -/
def SNS.rows : List RegRow := SNS.rows0

/-! ### MEM (R419) -/

def MEM.MEM_STAT : Nat := 0x100
def MEM.MEM_STAT_NO_DDR : Fld := ⟨MEM.MEM_STAT, 31, 1⟩
def MEM.MEM_STAT_FILL_DONE : Fld := ⟨MEM.MEM_STAT, 30, 1⟩
def MEM.MEM_STAT_TRAINED : Fld := ⟨MEM.MEM_STAT, 29, 1⟩
def MEM.MEM_STAT_NCH : Fld := ⟨MEM.MEM_STAT, 16, 5⟩
def MEM.MEM_STAT_BIN : Fld := ⟨MEM.MEM_STAT, 8, 3⟩
def MEM.MEM_STAT_DIMM_GB : Fld := ⟨MEM.MEM_STAT, 0, 8⟩
def MEM.INSTALLED : Nat := 0x104
def MEM.INSTALLED_MIB : Fld := ⟨MEM.INSTALLED, 0, 22⟩
def MEM.USABLE : Nat := 0x108
def MEM.USABLE_MIB : Fld := ⟨MEM.USABLE, 0, 22⟩
def MEM.BUDGET : Nat := 0x10C
def MEM.BUDGET_TOTAL : Fld := ⟨MEM.BUDGET, 16, 16⟩
def MEM.BUDGET_RESERVED : Fld := ⟨MEM.BUDGET, 0, 16⟩
def MEM.MEM_CFG : Nat := 0x110
def MEM.MEM_CFG_MAX_BIN : Fld := ⟨MEM.MEM_CFG, 0, 3⟩
def MEM.CE_CNT : Nat := 0x114
def MEM.CE_CNT_COUNT : Fld := ⟨MEM.CE_CNT, 0, 32⟩
def MEM.UE_CNT : Nat := 0x118
def MEM.UE_CNT_COUNT : Fld := ⟨MEM.UE_CNT, 0, 32⟩
def MEM.LAST_CE_LO : Nat := 0x11C
def MEM.LAST_CE_HI : Nat := 0x120
def MEM.LAST_UE_LO : Nat := 0x124
def MEM.LAST_UE_HI : Nat := 0x128
def MEM.SCRUB_BASE : Nat := 0x130
def MEM.SCRUB_BASE_MIB : Fld := ⟨MEM.SCRUB_BASE, 0, 22⟩
def MEM.SCRUB_LEN : Nat := 0x134
def MEM.SCRUB_LEN_MIB : Fld := ⟨MEM.SCRUB_LEN, 0, 22⟩
def MEM.SCRUB_RATE : Nat := 0x138
def MEM.SCRUB_RATE_MBS : Fld := ⟨MEM.SCRUB_RATE, 0, 20⟩
def MEM.SCRUB_CMD : Nat := 0x13C
def MEM.SCRUB_CMD_ABORT : Fld := ⟨MEM.SCRUB_CMD, 1, 1⟩
def MEM.SCRUB_CMD_GO : Fld := ⟨MEM.SCRUB_CMD, 0, 1⟩
def MEM.SCRUB_STAT : Nat := 0x140
def MEM.SCRUB_STAT_ABORTED : Fld := ⟨MEM.SCRUB_STAT, 3, 1⟩
def MEM.SCRUB_STAT_UNC_SEEN : Fld := ⟨MEM.SCRUB_STAT, 2, 1⟩
def MEM.SCRUB_STAT_DONE : Fld := ⟨MEM.SCRUB_STAT, 1, 1⟩
def MEM.SCRUB_STAT_BUSY : Fld := ⟨MEM.SCRUB_STAT, 0, 1⟩
def MEM.SCR_WORDS_LO : Nat := 0x144
def MEM.SCR_WORDS_HI : Nat := 0x148
def MEM.SCR_CORR : Nat := 0x14C
def MEM.SCR_UNC : Nat := 0x150
def MEM.SCR_REMAP : Nat := 0x154
def MEM.SCR_FIRST_LO : Nat := 0x158
def MEM.SCR_FIRST_HI : Nat := 0x15C
def MEM.SCR_LAST_LO : Nat := 0x160
def MEM.SCR_LAST_HI : Nat := 0x164
def MEM.REPAIR_CFG : Nat := 0x170
def MEM.REPAIR_CFG_HPPR_EN : Fld := ⟨MEM.REPAIR_CFG, 0, 1⟩
def MEM.REPAIR_STAT : Nat := 0x174
def MEM.REPAIR_STAT_SPARE_LEFT : Fld := ⟨MEM.REPAIR_STAT, 0, 10⟩

def MEM.rows0 : List RegRow := [
  ⟨0x100, 0x0, 0x0, 0x0, false⟩,
  ⟨0x104, 0x0, 0x0, 0x0, false⟩,
  ⟨0x108, 0x0, 0x0, 0x0, false⟩,
  ⟨0x10C, 0x0, 0x0, 0x0, false⟩,
  ⟨0x110, 0x7, 0x0, 0x4, false⟩,
  ⟨0x114, 0x0, 0x0, 0x0, false⟩,
  ⟨0x118, 0x0, 0x0, 0x0, false⟩,
  ⟨0x11C, 0x0, 0x0, 0x0, false⟩,
  ⟨0x120, 0x0, 0x0, 0x0, false⟩,
  ⟨0x124, 0x0, 0x0, 0x0, false⟩,
  ⟨0x128, 0x0, 0x0, 0x0, false⟩,
  ⟨0x130, 0x3FFFFF, 0x0, 0x0, false⟩,
  ⟨0x134, 0x3FFFFF, 0x0, 0x0, false⟩,
  ⟨0x138, 0xFFFFF, 0x0, 0x3E8, false⟩,
  ⟨0x13C, 0x0, 0x3, 0x0, false⟩,
  ⟨0x140, 0x0, 0x0, 0x0, false⟩,
  ⟨0x144, 0x0, 0x0, 0x0, false⟩,
  ⟨0x148, 0x0, 0x0, 0x0, false⟩,
  ⟨0x14C, 0x0, 0x0, 0x0, false⟩,
  ⟨0x150, 0x0, 0x0, 0x0, false⟩,
  ⟨0x154, 0x0, 0x0, 0x0, false⟩,
  ⟨0x158, 0x0, 0x0, 0x0, false⟩,
  ⟨0x15C, 0x0, 0x0, 0x0, false⟩,
  ⟨0x160, 0x0, 0x0, 0x0, false⟩,
  ⟨0x164, 0x0, 0x0, 0x0, false⟩,
  ⟨0x170, 0x1, 0x0, 0x1, false⟩,
  ⟨0x174, 0x0, 0x0, 0x0, false⟩]

/-- The registers of MEM (R419). -/
def MEM.rows : List RegRow := MEM.rows0

/-! ### HSL (R334) -/

def HSL.LANE_CTL (i : Nat) : Nat := 0x100 + 0x20 * i
def HSL.LANE_CTL_LOOP (i : Nat) : Fld := ⟨HSL.LANE_CTL i, 9, 1⟩
def HSL.LANE_CTL_REACH (i : Nat) : Fld := ⟨HSL.LANE_CTL i, 8, 1⟩
def HSL.LANE_CTL_POL_RX (i : Nat) : Fld := ⟨HSL.LANE_CTL i, 7, 1⟩
def HSL.LANE_CTL_POL_TX (i : Nat) : Fld := ⟨HSL.LANE_CTL i, 6, 1⟩
def HSL.LANE_CTL_TRAIN_EN (i : Nat) : Fld := ⟨HSL.LANE_CTL i, 5, 1⟩
def HSL.LANE_CTL_PRECODE_RX (i : Nat) : Fld := ⟨HSL.LANE_CTL i, 4, 1⟩
def HSL.LANE_CTL_PRECODE_TX (i : Nat) : Fld := ⟨HSL.LANE_CTL i, 3, 1⟩
def HSL.LANE_CTL_RATE (i : Nat) : Fld := ⟨HSL.LANE_CTL i, 1, 2⟩
def HSL.LANE_CTL_EN (i : Nat) : Fld := ⟨HSL.LANE_CTL i, 0, 1⟩
def HSL.TX_FFE (i : Nat) : Nat := 0x104 + 0x20 * i
def HSL.TX_FFE_MAIN (i : Nat) : Fld := ⟨HSL.TX_FFE i, 24, 7⟩
def HSL.TX_FFE_POST1 (i : Nat) : Fld := ⟨HSL.TX_FFE i, 16, 6⟩
def HSL.TX_FFE_PRE1 (i : Nat) : Fld := ⟨HSL.TX_FFE i, 8, 6⟩
def HSL.TX_FFE_PRE2 (i : Nat) : Fld := ⟨HSL.TX_FFE i, 0, 6⟩
def HSL.LANE_STAT (i : Nat) : Nat := 0x108 + 0x20 * i
def HSL.LANE_STAT_SNR (i : Nat) : Fld := ⟨HSL.LANE_STAT i, 16, 16⟩
def HSL.LANE_STAT_ADAPTED (i : Nat) : Fld := ⟨HSL.LANE_STAT i, 4, 1⟩
def HSL.LANE_STAT_TRAIN_FAIL (i : Nat) : Fld := ⟨HSL.LANE_STAT i, 3, 1⟩
def HSL.LANE_STAT_TRAIN_DONE (i : Nat) : Fld := ⟨HSL.LANE_STAT i, 2, 1⟩
def HSL.LANE_STAT_CDR_LOCK (i : Nat) : Fld := ⟨HSL.LANE_STAT i, 1, 1⟩
def HSL.LANE_STAT_SIG_DET (i : Nat) : Fld := ⟨HSL.LANE_STAT i, 0, 1⟩
def HSL.LOL_CNT (i : Nat) : Nat := 0x10C + 0x20 * i
def HSL.LOL_CNT_COUNT (i : Nat) : Fld := ⟨HSL.LOL_CNT i, 0, 32⟩
def HSL.QUAD_STAT : Nat := 0x180
def HSL.QUAD_STAT_PLL_LOCK : Fld := ⟨HSL.QUAD_STAT, 0, 1⟩

def HSL.rows0 : List RegRow := [
  ⟨0x100, 0x3FF, 0x0, 0x0, false⟩,
  ⟨0x104, 0x3F3F3F, 0x0, 0x40000000, false⟩,
  ⟨0x108, 0x0, 0x0, 0x0, false⟩,
  ⟨0x10C, 0x0, 0x0, 0x0, false⟩,
  ⟨0x120, 0x3FF, 0x0, 0x0, false⟩,
  ⟨0x124, 0x3F3F3F, 0x0, 0x40000000, false⟩,
  ⟨0x128, 0x0, 0x0, 0x0, false⟩,
  ⟨0x12C, 0x0, 0x0, 0x0, false⟩,
  ⟨0x140, 0x3FF, 0x0, 0x0, false⟩,
  ⟨0x144, 0x3F3F3F, 0x0, 0x40000000, false⟩,
  ⟨0x148, 0x0, 0x0, 0x0, false⟩,
  ⟨0x14C, 0x0, 0x0, 0x0, false⟩,
  ⟨0x160, 0x3FF, 0x0, 0x0, false⟩,
  ⟨0x164, 0x3F3F3F, 0x0, 0x40000000, false⟩,
  ⟨0x168, 0x0, 0x0, 0x0, false⟩,
  ⟨0x16C, 0x0, 0x0, 0x0, false⟩,
  ⟨0x180, 0x0, 0x0, 0x0, false⟩]

/-- The registers of HSL (R334). -/
def HSL.rows : List RegRow := HSL.rows0

/-! ### ETH (R335) -/

def ETH.PORT_CFG : Nat := 0x100
def ETH.PORT_CFG_GROUP : Fld := ⟨ETH.PORT_CFG, 16, 3⟩
def ETH.PORT_CFG_TYPE : Fld := ⟨ETH.PORT_CFG, 4, 3⟩
def ETH.PORT_CFG_MAP : Fld := ⟨ETH.PORT_CFG, 1, 1⟩
def ETH.PORT_CFG_EN : Fld := ⟨ETH.PORT_CFG, 0, 1⟩
def ETH.PORT_STAT : Nat := 0x104
def ETH.PORT_STAT_EGR_FILL : Fld := ⟨ETH.PORT_STAT, 9, 1⟩
def ETH.PORT_STAT_SRC_FAIL : Fld := ⟨ETH.PORT_STAT, 8, 1⟩
def ETH.PORT_STAT_FEC_DEGRADED : Fld := ⟨ETH.PORT_STAT, 7, 1⟩
def ETH.PORT_STAT_HI_SER : Fld := ⟨ETH.PORT_STAT, 6, 1⟩
def ETH.PORT_STAT_RX_RF : Fld := ⟨ETH.PORT_STAT, 5, 1⟩
def ETH.PORT_STAT_RX_LF : Fld := ⟨ETH.PORT_STAT, 4, 1⟩
def ETH.PORT_STAT_DESKEW_OK : Fld := ⟨ETH.PORT_STAT, 3, 1⟩
def ETH.PORT_STAT_AM_LOCK : Fld := ⟨ETH.PORT_STAT, 2, 1⟩
def ETH.PORT_STAT_BLOCK_LOCK : Fld := ⟨ETH.PORT_STAT, 1, 1⟩
def ETH.PORT_STAT_LINK_UP : Fld := ⟨ETH.PORT_STAT, 0, 1⟩
def ETH.FEC_DEG_CFG : Nat := 0x108
def ETH.FEC_DEG_CFG_THR : Fld := ⟨ETH.FEC_DEG_CFG, 0, 32⟩
def ETH.COR_LO : Nat := 0x110
def ETH.COR_HI : Nat := 0x114
def ETH.UNC_LO : Nat := 0x118
def ETH.UNC_HI : Nat := 0x11C
def ETH.SYM_LO : Nat := 0x120
def ETH.SYM_HI : Nat := 0x124
def ETH.PTP_CFG : Nat := 0x140
def ETH.PTP_CFG_TRANSPORT : Fld := ⟨ETH.PTP_CFG, 2, 3⟩
def ETH.PTP_CFG_ONE_STEP : Fld := ⟨ETH.PTP_CFG, 1, 1⟩
def ETH.PTP_CFG_TS_EN : Fld := ⟨ETH.PTP_CFG, 0, 1⟩
def ETH.TX_ASYM : Nat := 0x144
def ETH.RX_ASYM : Nat := 0x148
def ETH.TS_POP : Nat := 0x150
def ETH.TS_POP_VALID : Fld := ⟨ETH.TS_POP, 31, 1⟩
def ETH.TS_POP_MSG : Fld := ⟨ETH.TS_POP, 24, 4⟩
def ETH.TS_POP_SEQ : Fld := ⟨ETH.TS_POP, 0, 16⟩
def ETH.TS_NS_LO : Nat := 0x154
def ETH.TS_NS_HI : Nat := 0x158
def ETH.TS_FRAC : Nat := 0x15C
def ETH.TS_DROP_CNT : Nat := 0x160
def ETH.TS_DROP_CNT_COUNT : Fld := ⟨ETH.TS_DROP_CNT, 0, 32⟩
def ETH.TS_FILL : Nat := 0x164
def ETH.TS_FILL_COUNT : Fld := ⟨ETH.TS_FILL, 0, 7⟩

def ETH.rows0 : List RegRow := [
  ⟨0x100, 0x70073, 0x0, 0x0, false⟩,
  ⟨0x104, 0x0, 0x0, 0x0, false⟩,
  ⟨0x108, 0xFFFFFFFF, 0x0, 0x1000, false⟩,
  ⟨0x110, 0x0, 0x0, 0x0, false⟩,
  ⟨0x114, 0x0, 0x0, 0x0, false⟩,
  ⟨0x118, 0x0, 0x0, 0x0, false⟩,
  ⟨0x11C, 0x0, 0x0, 0x0, false⟩,
  ⟨0x120, 0x0, 0x0, 0x0, false⟩,
  ⟨0x124, 0x0, 0x0, 0x0, false⟩,
  ⟨0x140, 0x1F, 0x0, 0x1C, false⟩,
  ⟨0x144, 0xFFFFFFFF, 0x0, 0x0, false⟩,
  ⟨0x148, 0xFFFFFFFF, 0x0, 0x0, false⟩,
  ⟨0x150, 0x0, 0x0, 0x0, false⟩,
  ⟨0x154, 0x0, 0x0, 0x0, false⟩,
  ⟨0x158, 0x0, 0x0, 0x0, false⟩,
  ⟨0x15C, 0x0, 0x0, 0x0, false⟩,
  ⟨0x160, 0x0, 0x0, 0x0, false⟩,
  ⟨0x164, 0x0, 0x0, 0x0, false⟩]

/-- The registers of ETH (R335). -/
def ETH.rows : List RegRow := ETH.rows0

/-! ### CLS (R355) -/

def CLS.CLS_CTL : Nat := 0x100
def CLS.CLS_CTL_SLOW_TO : Fld := ⟨CLS.CLS_CTL, 1, 1⟩
def CLS.CLS_CTL_EN : Fld := ⟨CLS.CLS_CTL, 0, 1⟩
def CLS.PORT_SEL : Nat := 0x104
def CLS.PORT_SEL_PORT : Fld := ⟨CLS.PORT_SEL, 0, 6⟩
def CLS.PORT_CFG : Nat := 0x108
def CLS.PORT_CFG_PROFILE : Fld := ⟨CLS.PORT_CFG, 4, 3⟩
def CLS.PORT_CFG_L3_PARSE : Fld := ⟨CLS.PORT_CFG, 0, 1⟩
def CLS.MISS_ACTION : Nat := 0x10C
def CLS.SLOW_RATE : Nat := 0x110
def CLS.SLOW_RATE_FPS : Fld := ⟨CLS.SLOW_RATE, 0, 24⟩
def CLS.EX_USED : Nat := 0x114
def CLS.EX_USED_COUNT : Fld := ⟨CLS.EX_USED, 0, 19⟩
def CLS.TERN_USED : Nat := 0x118
def CLS.TERN_USED_COUNT : Fld := ⟨CLS.TERN_USED, 0, 14⟩
def CLS.HIT_EX_CNT : Nat := 0x11C
def CLS.HIT_EX_CNT_COUNT : Fld := ⟨CLS.HIT_EX_CNT, 0, 32⟩
def CLS.HIT_TN_CNT : Nat := 0x120
def CLS.HIT_TN_CNT_COUNT : Fld := ⟨CLS.HIT_TN_CNT, 0, 32⟩
def CLS.MISS_CNT : Nat := 0x124
def CLS.MISS_CNT_COUNT : Fld := ⟨CLS.MISS_CNT, 0, 32⟩
def CLS.SLOW_CNT : Nat := 0x128
def CLS.SLOW_CNT_COUNT : Fld := ⟨CLS.SLOW_CNT, 0, 32⟩
def CLS.SLOW_DROP_CNT : Nat := 0x12C
def CLS.SLOW_DROP_CNT_COUNT : Fld := ⟨CLS.SLOW_DROP_CNT, 0, 32⟩
def CLS.PUNT_STAT : Nat := 0x130
def CLS.PUNT_STAT_VALID : Fld := ⟨CLS.PUNT_STAT, 31, 1⟩
def CLS.PUNT_STAT_REASON : Fld := ⟨CLS.PUNT_STAT, 28, 3⟩
def CLS.PUNT_STAT_PORT : Fld := ⟨CLS.PUNT_STAT, 16, 6⟩
def CLS.PUNT_STAT_LEN : Fld := ⟨CLS.PUNT_STAT, 0, 14⟩
def CLS.PUNT_POP : Nat := 0x134
def CLS.PUNT_POP_POP : Fld := ⟨CLS.PUNT_POP, 0, 1⟩
def CLS.PUNT_FILL : Nat := 0x138
def CLS.PUNT_FILL_KIB : Fld := ⟨CLS.PUNT_FILL, 0, 11⟩
def CLS.DROP_ACT_CNT : Nat := 0x13C
def CLS.DROP_ACT_CNT_COUNT : Fld := ⟨CLS.DROP_ACT_CNT, 0, 32⟩

def CLS.rows0 : List RegRow := [
  ⟨0x100, 0x3, 0x0, 0x0, false⟩,
  ⟨0x104, 0x3F, 0x0, 0x0, false⟩,
  ⟨0x108, 0x71, 0x0, 0x1, false⟩,
  ⟨0x10C, 0xFFFFFFFF, 0x0, 0x1, false⟩,
  ⟨0x110, 0xFFFFFF, 0x0, 0xF4240, false⟩,
  ⟨0x114, 0x0, 0x0, 0x0, false⟩,
  ⟨0x118, 0x0, 0x0, 0x0, false⟩,
  ⟨0x11C, 0x0, 0x0, 0x0, false⟩,
  ⟨0x120, 0x0, 0x0, 0x0, false⟩,
  ⟨0x124, 0x0, 0x0, 0x0, false⟩,
  ⟨0x128, 0x0, 0x0, 0x0, false⟩,
  ⟨0x12C, 0x0, 0x0, 0x0, false⟩,
  ⟨0x130, 0x0, 0x0, 0x0, false⟩,
  ⟨0x134, 0x0, 0x1, 0x0, false⟩,
  ⟨0x138, 0x0, 0x0, 0x0, false⟩,
  ⟨0x13C, 0x0, 0x0, 0x0, false⟩]

/-- The registers of CLS (R355). -/
def CLS.rows : List RegRow := CLS.rows0

/-! ### QMG (R357) -/

def QMG.QMG_CTL : Nat := 0x100
def QMG.QMG_CTL_OVF_EN : Fld := ⟨QMG.QMG_CTL, 1, 1⟩
def QMG.QMG_CTL_EN : Fld := ⟨QMG.QMG_CTL, 0, 1⟩
def QMG.BUF_STAT : Nat := 0x104
def QMG.BUF_STAT_ONDIE : Fld := ⟨QMG.BUF_STAT, 0, 16⟩
def QMG.OVF_STAT : Nat := 0x108
def QMG.OVF_STAT_USED : Fld := ⟨QMG.OVF_STAT, 0, 18⟩
def QMG.OVF_SIZE : Nat := 0x10C
def QMG.OVF_SIZE_MIB : Fld := ⟨QMG.OVF_SIZE, 0, 18⟩
def QMG.SET_SEL : Nat := 0x110
def QMG.SET_SEL_SET : Fld := ⟨QMG.SET_SEL, 0, 13⟩
def QMG.SET_BKLOG : Nat := 0x114
def QMG.SET_BKLOG_UNITS : Fld := ⟨QMG.SET_BKLOG, 0, 32⟩
def QMG.DROP_TAIL : Nat := 0x118
def QMG.DROP_TAIL_COUNT : Fld := ⟨QMG.DROP_TAIL, 0, 32⟩
def QMG.DROP_OFF : Nat := 0x11C
def QMG.DROP_OFF_COUNT : Fld := ⟨QMG.DROP_OFF, 0, 32⟩
def QMG.DROP_NOBUF : Nat := 0x120
def QMG.DROP_NOBUF_COUNT : Fld := ⟨QMG.DROP_NOBUF, 0, 32⟩
def QMG.DROP_FCS : Nat := 0x124
def QMG.DROP_FCS_COUNT : Fld := ⟨QMG.DROP_FCS, 0, 32⟩
def QMG.ABORT_CNT : Nat := 0x128
def QMG.ABORT_CNT_COUNT : Fld := ⟨QMG.ABORT_CNT, 0, 32⟩
def QMG.RX_HUNT_CNT : Nat := 0x12C
def QMG.RX_HUNT_CNT_COUNT : Fld := ⟨QMG.RX_HUNT_CNT, 0, 32⟩
def QMG.FLUSH : Nat := 0x130
def QMG.FLUSH_GO : Fld := ⟨QMG.FLUSH, 31, 1⟩
def QMG.FLUSH_SET : Fld := ⟨QMG.FLUSH, 0, 13⟩
def QMG.FLUSH_CNT : Nat := 0x134
def QMG.FLUSH_CNT_COUNT : Fld := ⟨QMG.FLUSH_CNT, 0, 32⟩

def QMG.rows0 : List RegRow := [
  ⟨0x100, 0x3, 0x0, 0x0, false⟩,
  ⟨0x104, 0x0, 0x0, 0x0, false⟩,
  ⟨0x108, 0x0, 0x0, 0x0, false⟩,
  ⟨0x10C, 0x0, 0x0, 0x0, false⟩,
  ⟨0x110, 0x1FFF, 0x0, 0x0, false⟩,
  ⟨0x114, 0x0, 0x0, 0x0, false⟩,
  ⟨0x118, 0x0, 0x0, 0x0, false⟩,
  ⟨0x11C, 0x0, 0x0, 0x0, false⟩,
  ⟨0x120, 0x0, 0x0, 0x0, false⟩,
  ⟨0x124, 0x0, 0x0, 0x0, false⟩,
  ⟨0x128, 0x0, 0x0, 0x0, false⟩,
  ⟨0x12C, 0x0, 0x0, 0x0, false⟩,
  ⟨0x130, 0x0, 0x80001FFF, 0x0, false⟩,
  ⟨0x134, 0x0, 0x0, 0x0, false⟩]

/-- The registers of QMG (R357). -/
def QMG.rows : List RegRow := QMG.rows0

/-! ### TSH (R238) -/

def TSH.TSH_CFG : Nat := 0x100
def TSH.TSH_CFG_GUARD : Fld := ⟨TSH.TSH_CFG, 0, 8⟩
def TSH.TSH_STAT : Nat := 0x104
def TSH.TSH_STAT_TS_LIMIT : Fld := ⟨TSH.TSH_STAT, 16, 9⟩
def TSH.TSH_STAT_TS_USED : Fld := ⟨TSH.TSH_STAT, 0, 9⟩
def TSH.PAIR_SEL : Nat := 0x108
def TSH.PAIR_SEL_PAIR : Fld := ⟨TSH.PAIR_SEL, 0, 7⟩
def TSH.PAIR_STAT : Nat := 0x10C
def TSH.PAIR_STAT_DEPTH_EXC : Fld := ⟨TSH.PAIR_STAT, 6, 1⟩
def TSH.PAIR_STAT_PAIR_FAIL : Fld := ⟨TSH.PAIR_STAT, 5, 1⟩
def TSH.PAIR_STAT_LATE : Fld := ⟨TSH.PAIR_STAT, 4, 1⟩
def TSH.PAIR_STAT_SEL : Fld := ⟨TSH.PAIR_STAT, 3, 1⟩
def TSH.PAIR_STAT_B_OK : Fld := ⟨TSH.PAIR_STAT, 2, 1⟩
def TSH.PAIR_STAT_A_OK : Fld := ⟨TSH.PAIR_STAT, 1, 1⟩
def TSH.PAIR_STAT_ALIGNED : Fld := ⟨TSH.PAIR_STAT, 0, 1⟩
def TSH.PAIR_DIFF : Nat := 0x110
def TSH.PAIR_DIFF_VALID : Fld := ⟨TSH.PAIR_DIFF, 31, 1⟩
def TSH.PAIR_DIFF_DIFF : Fld := ⟨TSH.PAIR_DIFF, 0, 24⟩
def TSH.PAIR_ALT_CNT : Nat := 0x114
def TSH.PAIR_ALT_CNT_COUNT : Fld := ⟨TSH.PAIR_ALT_CNT, 0, 32⟩
def TSH.PAIR_BOTH_CNT : Nat := 0x118
def TSH.PAIR_BOTH_CNT_COUNT : Fld := ⟨TSH.PAIR_BOTH_CNT, 0, 32⟩

def TSH.rows0 : List RegRow := [
  ⟨0x100, 0xFF, 0x0, 0x4, true⟩,
  ⟨0x104, 0x0, 0x0, 0x0, false⟩,
  ⟨0x108, 0x7F, 0x0, 0x0, false⟩,
  ⟨0x10C, 0x0, 0x0, 0x0, false⟩,
  ⟨0x110, 0x0, 0x0, 0x0, false⟩,
  ⟨0x114, 0x0, 0x0, 0x0, false⟩,
  ⟨0x118, 0x0, 0x0, 0x0, false⟩]

/-- The registers of TSH (R238). -/
def TSH.rows : List RegRow := TSH.rows0

/-! ### DDR (R422) -/

def DDR.DDR_STAT : Nat := 0x100
def DDR.DDR_STAT_POPULATED : Fld := ⟨DDR.DDR_STAT, 31, 1⟩
def DDR.DDR_STAT_TRAINED : Fld := ⟨DDR.DDR_STAT, 30, 1⟩
def DDR.DDR_STAT_SELF_REF : Fld := ⟨DDR.DDR_STAT, 29, 1⟩
def DDR.DDR_STAT_RANKS : Fld := ⟨DDR.DDR_STAT, 24, 2⟩
def DDR.DDR_STAT_DIMM_GB : Fld := ⟨DDR.DDR_STAT, 16, 8⟩
def DDR.DDR_TEMP : Nat := 0x104
def DDR.DDR_TEMP_REF2X : Fld := ⟨DDR.DDR_TEMP, 16, 1⟩
def DDR.DDR_TEMP_DEG : Fld := ⟨DDR.DDR_TEMP, 0, 16⟩
def DDR.DDR_TEMP_LIM : Nat := 0x108
def DDR.DDR_TEMP_LIM_DEG : Fld := ⟨DDR.DDR_TEMP_LIM, 0, 16⟩
def DDR.CE_CNT : Nat := 0x10C
def DDR.CE_CNT_COUNT : Fld := ⟨DDR.CE_CNT, 0, 32⟩
def DDR.UE_CNT : Nat := 0x110
def DDR.UE_CNT_COUNT : Fld := ⟨DDR.UE_CNT, 0, 32⟩
def DDR.SPARE_LEFT : Nat := 0x114
def DDR.SPARE_LEFT_ROWS : Fld := ⟨DDR.SPARE_LEFT, 0, 6⟩
def DDR.SKIP_CNT : Nat := 0x118
def DDR.SKIP_CNT_COUNT : Fld := ⟨DDR.SKIP_CNT, 0, 32⟩

def DDR.rows0 : List RegRow := [
  ⟨0x100, 0x0, 0x0, 0x0, false⟩,
  ⟨0x104, 0x0, 0x0, 0x0, false⟩,
  ⟨0x108, 0xFFFF, 0x0, 0x3B6, false⟩,
  ⟨0x10C, 0x0, 0x0, 0x0, false⟩,
  ⟨0x110, 0x0, 0x0, 0x0, false⟩,
  ⟨0x114, 0x0, 0x0, 0x0, false⟩,
  ⟨0x118, 0x0, 0x0, 0x0, false⟩]

/-- The registers of DDR (R422). -/
def DDR.rows : List RegRow := DDR.rows0

/-! ### ENG (R439) -/

def ENG.CL_CTL : Nat := 0x100
def ENG.CL_CTL_LEG_RD : Fld := ⟨ENG.CL_CTL, 7, 1⟩
def ENG.CL_CTL_RESUME : Fld := ⟨ENG.CL_CTL, 6, 1⟩
def ENG.CL_CTL_FRZ_ON_CALL : Fld := ⟨ENG.CL_CTL, 5, 1⟩
def ENG.CL_CTL_PMU_SNAP : Fld := ⟨ENG.CL_CTL, 4, 1⟩
def ENG.CL_CTL_PMU_EN : Fld := ⟨ENG.CL_CTL, 3, 1⟩
def ENG.CL_CTL_LOAD_SRC : Fld := ⟨ENG.CL_CTL, 2, 1⟩
def ENG.CL_CTL_LOAD_GO : Fld := ⟨ENG.CL_CTL, 1, 1⟩
def ENG.CL_CTL_HALT : Fld := ⟨ENG.CL_CTL, 0, 1⟩
def ENG.CL_STAT : Nat := 0x104
def ENG.CL_STAT_LOAD_RES : Fld := ⟨ENG.CL_STAT, 8, 4⟩
def ENG.CL_STAT_FROZEN : Fld := ⟨ENG.CL_STAT, 4, 1⟩
def ENG.CL_STAT_OWNER_PROG : Fld := ⟨ENG.CL_STAT, 3, 1⟩
def ENG.CL_STAT_LOADED : Fld := ⟨ENG.CL_STAT, 2, 1⟩
def ENG.CL_STAT_LOADING : Fld := ⟨ENG.CL_STAT, 1, 1⟩
def ENG.CL_STAT_HALTED : Fld := ⟨ENG.CL_STAT, 0, 1⟩
def ENG.PROG_ID : Nat := 0x108
def ENG.PROG_VER : Nat := 0x10C
def ENG.LOAD_OFS : Nat := 0x110
def ENG.ENG_SEL : Nat := 0x114
def ENG.ENG_SEL_E : Fld := ⟨ENG.ENG_SEL, 0, 6⟩
def ENG.ENG_STAT : Nat := 0x118
def ENG.ENG_STAT_STATE : Fld := ⟨ENG.ENG_STAT, 0, 3⟩
def ENG.ENG_PC : Nat := 0x11C
def ENG.ENG_OVF_PC : Nat := 0x120
def ENG.HOST_MB_TX : Nat := 0x124
def ENG.HOST_MB_RX : Nat := 0x128
def ENG.HOST_MB_SRC : Nat := 0x12C
def ENG.HOST_MB_SRC_VALID : Fld := ⟨ENG.HOST_MB_SRC, 31, 1⟩
def ENG.HOST_MB_SRC_FILL : Fld := ⟨ENG.HOST_MB_SRC, 16, 7⟩
def ENG.HOST_MB_SRC_SENDER : Fld := ⟨ENG.HOST_MB_SRC, 0, 9⟩
def ENG.DENY_CNT : Nat := 0x130
def ENG.DENY_CNT_COUNT : Fld := ⟨ENG.DENY_CNT, 0, 32⟩
def ENG.SNAP_NUM : Nat := 0x134
def ENG.SNAP_NUM_LEGACY : Fld := ⟨ENG.SNAP_NUM, 16, 1⟩
def ENG.SNAP_NUM_CALL : Fld := ⟨ENG.SNAP_NUM, 0, 16⟩
def ENG.TRC_CFG : Nat := 0x138
def ENG.TRC_CFG_EN : Fld := ⟨ENG.TRC_CFG, 31, 1⟩
def ENG.TRC_CFG_PERIOD : Fld := ⟨ENG.TRC_CFG, 0, 16⟩

def ENG.rows0 : List RegRow := [
  ⟨0x100, 0x3D, 0xC2, 0x19, false⟩,
  ⟨0x104, 0x0, 0x0, 0x1, false⟩,
  ⟨0x108, 0x0, 0x0, 0x0, false⟩,
  ⟨0x10C, 0x0, 0x0, 0x0, false⟩,
  ⟨0x110, 0x3FFFFF, 0x0, 0x0, false⟩,
  ⟨0x114, 0x3F, 0x0, 0x0, false⟩,
  ⟨0x118, 0x0, 0x0, 0x3, false⟩,
  ⟨0x11C, 0x0, 0x0, 0x0, false⟩,
  ⟨0x120, 0x0, 0x0, 0x0, false⟩,
  ⟨0x124, 0x0, 0xFFFFFFFF, 0x0, false⟩,
  ⟨0x128, 0x0, 0x0, 0x0, false⟩,
  ⟨0x12C, 0x0, 0x0, 0x0, false⟩,
  ⟨0x130, 0x0, 0x0, 0x0, false⟩,
  ⟨0x134, 0x0, 0x0, 0x0, false⟩,
  ⟨0x138, 0x8000FFFF, 0x0, 0x1000, false⟩]

/-- The registers of ENG (R439). -/
def ENG.rows : List RegRow := ENG.rows0

/-! ### VLG (R460, R461) -/

def VLG.VLG_CTL : Nat := 0x100
def VLG.VLG_CTL_RETRAIN : Fld := ⟨VLG.VLG_CTL, 3, 1⟩
def VLG.VLG_CTL_IDLE_REQ : Fld := ⟨VLG.VLG_CTL, 2, 1⟩
def VLG.VLG_CTL_AUTO_EQ : Fld := ⟨VLG.VLG_CTL, 1, 1⟩
def VLG.VLG_CTL_EN : Fld := ⟨VLG.VLG_CTL, 0, 1⟩
def VLG.VLG_STAT : Nat := 0x104
def VLG.VLG_STAT_LANE_AL : Fld := ⟨VLG.VLG_STAT, 16, 8⟩
def VLG.VLG_STAT_PEER_DUP : Fld := ⟨VLG.VLG_STAT, 7, 1⟩
def VLG.VLG_STAT_LOL : Fld := ⟨VLG.VLG_STAT, 6, 1⟩
def VLG.VLG_STAT_LOL_RAW : Fld := ⟨VLG.VLG_STAT, 5, 1⟩
def VLG.VLG_STAT_CLK_LOCK : Fld := ⟨VLG.VLG_STAT, 4, 1⟩
def VLG.VLG_STAT_SIDE : Fld := ⟨VLG.VLG_STAT, 3, 1⟩
def VLG.VLG_STAT_STATE : Fld := ⟨VLG.VLG_STAT, 0, 3⟩
def VLG.TX_EQ : Nat := 0x108
def VLG.TX_EQ_MAIN : Fld := ⟨VLG.TX_EQ, 24, 7⟩
def VLG.TX_EQ_POST : Fld := ⟨VLG.TX_EQ, 8, 6⟩
def VLG.TX_EQ_PRE : Fld := ⟨VLG.TX_EQ, 0, 6⟩
def VLG.PEER : Nat := 0x10C
def VLG.PEER_VALID : Fld := ⟨VLG.PEER, 31, 1⟩
def VLG.PEER_DEALER : Fld := ⟨VLG.PEER, 17, 1⟩
def VLG.PEER_POS : Fld := ⟨VLG.PEER, 12, 2⟩
def VLG.PEER_STACK_ID : Fld := ⟨VLG.PEER, 0, 8⟩
def VLG.PEER_SER_LO : Nat := 0x110
def VLG.PEER_SER_HI : Nat := 0x114
def VLG.LINK_DLY : Nat := 0x118
def VLG.FEC_COR_CNT : Nat := 0x11C
def VLG.FEC_UNC_CNT : Nat := 0x120
def VLG.TRAIN_CNT : Nat := 0x124
def VLG.TS_USE : Nat := 0x128
def VLG.TS_USE_RX : Fld := ⟨VLG.TS_USE, 16, 7⟩
def VLG.TS_USE_TX : Fld := ⟨VLG.TS_USE, 0, 7⟩
def VLG.DEF_TIME : Nat := 0x12C
def VLG.HB_MISS_CNT : Nat := 0x130
def VLG.STACK_CFG : Nat := 0x180
def VLG.STACK_CFG_CALL_LEAD : Fld := ⟨VLG.STACK_CFG, 24, 8⟩
def VLG.STACK_CFG_CALL_UP : Fld := ⟨VLG.STACK_CFG, 16, 1⟩
def VLG.STACK_CFG_STACK_ID : Fld := ⟨VLG.STACK_CFG, 8, 8⟩
def VLG.STACK_CFG_POS : Fld := ⟨VLG.STACK_CFG, 4, 2⟩
def VLG.STACK_CFG_DEALER : Fld := ⟨VLG.STACK_CFG, 1, 1⟩
def VLG.STACK_CFG_EN : Fld := ⟨VLG.STACK_CFG, 0, 1⟩
def VLG.STACK_STAT : Nat := 0x184
def VLG.STACK_STAT_DEALER_PORT : Fld := ⟨VLG.STACK_STAT, 20, 2⟩
def VLG.STACK_STAT_DEALER_POS : Fld := ⟨VLG.STACK_STAT, 18, 2⟩
def VLG.STACK_STAT_CALL_LATE : Fld := ⟨VLG.STACK_STAT, 17, 1⟩
def VLG.STACK_STAT_POS_CONFLICT : Fld := ⟨VLG.STACK_STAT, 16, 1⟩
def VLG.STACK_STAT_DEALER_CONFLICT : Fld := ⟨VLG.STACK_STAT, 15, 1⟩
def VLG.STACK_STAT_MEMBERS : Fld := ⟨VLG.STACK_STAT, 8, 4⟩
def VLG.STACK_STAT_STATE : Fld := ⟨VLG.STACK_STAT, 0, 3⟩
def VLG.MGMT_ADDR : Nat := 0x188
def VLG.MGMT_ADDR_POS : Fld := ⟨VLG.MGMT_ADDR, 28, 2⟩
def VLG.MGMT_ADDR_OFS : Fld := ⟨VLG.MGMT_ADDR, 0, 26⟩
def VLG.MGMT_DATA : Nat := 0x18C
def VLG.MGMT_CMD : Nat := 0x190
def VLG.MGMT_CMD_WRITE : Fld := ⟨VLG.MGMT_CMD, 1, 1⟩
def VLG.MGMT_CMD_GO : Fld := ⟨VLG.MGMT_CMD, 0, 1⟩
def VLG.MGMT_STAT : Nat := 0x194
def VLG.MGMT_STAT_RES : Fld := ⟨VLG.MGMT_STAT, 2, 2⟩
def VLG.MGMT_STAT_DONE : Fld := ⟨VLG.MGMT_STAT, 1, 1⟩
def VLG.MGMT_STAT_BUSY : Fld := ⟨VLG.MGMT_STAT, 0, 1⟩
def VLG.STACK_TIME_ERR : Nat := 0x198
def VLG.LEAVE : Nat := 0x19C
def VLG.LEAVE_GO : Fld := ⟨VLG.LEAVE, 0, 1⟩

def VLG.rows0 : List RegRow := [
  ⟨0x100, 0x7, 0x8, 0x2, false⟩,
  ⟨0x104, 0x0, 0x0, 0x0, false⟩,
  ⟨0x108, 0x3F3F, 0x0, 0x40000000, false⟩,
  ⟨0x10C, 0x0, 0x0, 0x0, false⟩,
  ⟨0x110, 0x0, 0x0, 0x0, false⟩,
  ⟨0x114, 0x0, 0x0, 0x0, false⟩,
  ⟨0x118, 0x0, 0x0, 0x0, false⟩,
  ⟨0x11C, 0x0, 0x0, 0x0, false⟩,
  ⟨0x120, 0x0, 0x0, 0x0, false⟩,
  ⟨0x124, 0x0, 0x0, 0x0, false⟩,
  ⟨0x128, 0x0, 0x0, 0x0, false⟩,
  ⟨0x12C, 0xFFFFFFFF, 0x0, 0x14001, false⟩,
  ⟨0x130, 0x0, 0x0, 0x0, false⟩,
  ⟨0x180, 0xFF01FF33, 0x0, 0x2000000, false⟩,
  ⟨0x184, 0x0, 0x0, 0x0, false⟩,
  ⟨0x188, 0x33FFFFFF, 0x0, 0x0, false⟩,
  ⟨0x18C, 0xFFFFFFFF, 0x0, 0x0, false⟩,
  ⟨0x190, 0x0, 0x3, 0x0, false⟩,
  ⟨0x194, 0x0, 0x0, 0x0, false⟩,
  ⟨0x198, 0x0, 0x0, 0x0, false⟩,
  ⟨0x19C, 0x0, 0x1, 0x0, false⟩]

/-- The registers of VLG (R460, R461). -/
def VLG.rows : List RegRow := VLG.rows0

end Sys2Proof.Machine
end

