-- ==== Sys2Proof/Machine/Pages.lean ====
section
/-!
DEFINITION. Machine/Pages.lean: the register pages of BAR0 (R12), what PAGE_ID and PAGE_CAP report (R17–R19), the
interrupt group of each page (R28), what its SNAP shadows latch, and the sizes of its window tables (R26).
-/

namespace Sys2Proof.Machine

/-- The kinds of register page, in the order of the page-base table (R12). -/
inductive PageKind
  | mgt | boot | sec | pwr | err | snap | time | dpl | hub | suit | sns | mem
  | opt | cnv | txd | rxf | rxm | fec | lfr | cip | scb
  | hsl | eth | cls | qmg | tsh | ddr | eng | vlg
  deriving DecidableEq, Repr

/-- A page: its kind and its number among the pages of that kind (for SCBc.s, c × 64 + s). -/
structure Page where
  kind : PageKind
  inst : Nat
  deriving DecidableEq, Repr

/-- The base of a page in BAR0 (R12). -/
def pageBase : PageKind → Nat → Nat
  | .mgt, _ => 0x0 | .boot, _ => 0x1000 | .sec, _ => 0x2000 | .pwr, _ => 0x3000 | .err, _ => 0x4000
  | .snap, _ => 0x5000 | .time, _ => 0x6000 | .dpl, _ => 0x7000 | .hub, _ => 0x8000 | .suit, _ => 0x9000
  | .sns, _ => 0xA000 | .mem, _ => 0xB000
  | .opt, c => 0x1000000 + c * 0x100000 | .cnv, c => 0x1000000 + c * 0x100000 + 0x1000
  | .txd, c => 0x1000000 + c * 0x100000 + 0x2000 | .rxf, c => 0x1000000 + c * 0x100000 + 0x3000
  | .rxm, c => 0x1000000 + c * 0x100000 + 0x4000 | .fec, c => 0x1000000 + c * 0x100000 + 0x5000
  | .lfr, c => 0x1000000 + c * 0x100000 + 0x6000 | .cip, c => 0x1000000 + c * 0x100000 + 0x7000
  | .scb, i => 0x1000000 + i / 64 * 0x100000 + 0x10000 + i % 64 * 0x1000
  | .hsl, q => 0x2000000 + q * 0x1000 | .eth, p => 0x2010000 + p * 0x1000
  | .cls, _ => 0x2040000 | .qmg, _ => 0x2080000 | .tsh, _ => 0x20C0000
  | .ddr, n => 0x2800000 + n * 0x1000 | .eng, k => 0x3000000 + k * 0x1000 | .vlg, p => 0x3C00000 + p * 0x1000

/-- The twelve device pages in the order of their slots (R12). -/
def devKinds : List PageKind := [.mgt, .boot, .sec, .pwr, .err, .snap, .time, .dpl, .hub, .suit, .sns, .mem]

/-- The eight carrier pages in the order of their slots (R12). -/
def carKinds : List PageKind := [.opt, .cnv, .txd, .rxf, .rxm, .fec, .lfr, .cip]

/-- The page that holds a BAR0 address, if its 4 KiB slot holds one (R12). -/
def pageAt (a : Nat) : Option Page :=
  let p := a / 0x1000
  if p < 12 then (devKinds[p]?).map fun k => ⟨k, 0⟩
  else if 0x1000 ≤ p ∧ p < 0x1400 then
    let c := (p - 0x1000) / 0x100
    let r := (p - 0x1000) % 0x100
    if r < 8 then (carKinds[r]?).map fun k => ⟨k, c⟩
    else if 0x10 ≤ r ∧ r < 0x50 then some ⟨.scb, c * 64 + (r - 0x10)⟩ else none
  else if 0x2000 ≤ p ∧ p < 0x200C then some ⟨.hsl, p - 0x2000⟩
  else if 0x2010 ≤ p ∧ p < 0x2040 then some ⟨.eth, p - 0x2010⟩
  else if p = 0x2040 then some ⟨.cls, 0⟩
  else if p = 0x2080 then some ⟨.qmg, 0⟩
  else if p = 0x20C0 then some ⟨.tsh, 0⟩
  else if 0x2800 ≤ p ∧ p < 0x2810 then some ⟨.ddr, p - 0x2800⟩
  else if 0x3000 ≤ p ∧ p < 0x3008 then some ⟨.eng, p - 0x3000⟩
  else if 0x3C00 ≤ p ∧ p < 0x3C04 then some ⟨.vlg, p - 0x3C00⟩
  else none

/-- How many pages of each kind there are (R12). -/
def pageCount : PageKind → Nat
  | .opt | .cnv | .txd | .rxf | .rxm | .fec | .lfr | .cip | .vlg => 4
  | .scb => 256 | .hsl => 12 | .eth => 48 | .ddr => 16 | .eng => 8
  | _ => 1

/-- PAGE_ID.TYPE (R18). -/
def pageType : PageKind → Nat
  | .mgt => 0x1 | .boot => 0x2 | .sec => 0x3 | .pwr => 0x4 | .err => 0x5 | .snap => 0x6 | .time => 0x7 | .dpl => 0x8
  | .hub => 0x9 | .suit => 0xA | .sns => 0xB | .mem => 0xC
  | .opt => 0x10 | .cnv => 0x11 | .txd => 0x12 | .rxf => 0x13 | .rxm => 0x14 | .fec => 0x15 | .lfr => 0x16
  | .cip => 0x17 | .scb => 0x18
  | .hsl => 0x20 | .eth => 0x21 | .cls => 0x22 | .qmg => 0x23 | .tsh => 0x24
  | .ddr => 0x30 | .eng => 0x31 | .vlg => 0x32

/-- PAGE_CAP.ISLAND (R19 and each chapter's page rule). -/
def pageIsland (p : Page) : Nat :=
  match p.kind with
  | .mgt | .sec | .err | .mem => 19
  | .boot | .pwr => 24
  | .snap | .time | .dpl => 21
  | .hub | .suit | .tsh | .cls | .qmg => 22
  | .sns => 23
  | .opt | .cnv => 4 + p.inst
  | .txd | .rxf | .rxm | .fec | .lfr | .cip => p.inst
  | .scb => p.inst / 64
  | .hsl | .eth => 8
  | .ddr => if p.inst < 8 then 9 else 10
  | .eng => 11 + p.inst
  | .vlg => 20

/-- PAGE_CAP.PD: the power domain of a page, 0xFF for the always-on island (R17 and each chapter's page rule). -/
def pagePd (p : Page) : Nat :=
  match p.kind with
  | .mgt | .boot | .sec | .pwr | .err | .snap | .time | .dpl | .mem => 0xFF
  | .hub | .suit | .qmg => 77
  | .cls => 76
  | .tsh => 78
  | .sns => 79
  | .opt => 11 * p.inst
  | .cnv => 11 * p.inst + 1
  | .rxf => 11 * p.inst + 3
  | .rxm => 11 * p.inst + 4
  | .scb => 11 * (p.inst / 64) + 5
  | .txd => 11 * p.inst + 6
  | .fec => 11 * p.inst + 7
  | .lfr => 11 * p.inst + 9
  | .cip => 11 * p.inst + 10
  | .hsl => 44 + p.inst
  | .eth => 44 + p.inst / 4
  | .ddr => 56 + p.inst / 2
  | .eng => 64 + p.inst
  | .vlg => 72 + p.inst

/-- PAGE_CAP.DEAL_TGT: the pages that have staging shadows. -/
def pageDealTgt : PageKind → Bool
  | .opt | .txd | .rxf | .rxm | .fec | .lfr | .suit | .tsh | .hub | .scb | .sns | .dpl => true
  | _ => false

/-- PAGE_CAP.NUM_INT: how many INT_STAT bits a page implements. -/
def pageNumInt (p : Page) : Nat :=
  match p.kind with
  | .mgt => 1 | .boot => 6 | .sec => 7 | .pwr => 8 | .err => 11 | .snap => 2 | .time => 8 | .dpl => 12 | .hub => 8
  | .suit => 8 | .sns => 10 | .mem => 6
  | .opt => 9 | .cnv => 6 | .txd => 6 | .rxf => 10 | .rxm => 11 | .fec => 9 | .lfr => 11 | .cip => 12 | .scb => 12
  | .hsl => 13 | .eth => 9 | .cls => 4 | .qmg => 4 | .tsh => 5 | .ddr => 3 | .eng => 8
  | .vlg => if p.inst = 0 then 14 else 8

/-- The registers a page's SNAP shadows latch on a call, in order (each chapter's page rule). TIME's first two are the
call's device time and are latched apart (R61). -/
def pageSnap (p : Page) : List Nat :=
  match p.kind with
  | .mgt => [MGT.INT_SUM, MGT.BAD_ACC_CNT]
  | .boot => [BOOT.BOOT_STAT, BOOT.BOOT_FB]
  | .sec => [SEC.SEC_STAT, SEC.LMS_IDX]
  | .pwr => [PWR.PWR_STAT, PWR.AVS_STAT, PWR.STATE_MAP 0, PWR.STATE_MAP 1, PWR.STATE_MAP 2, PWR.STATE_MAP 3, PWR.STATE_MAP 4]
  | .err => [ERR.ISL_BUSY, ERR.ISL_FAILED]
  | .snap => []
  | .time => [TIME.NOW_LO, TIME.NOW_HI, TIME.TIME_STAT, TIME.DEAL_SUM]
  | .dpl => [DPL.D_STAT 0, DPL.D_FFO 0, DPL.D_STAT 1, DPL.D_PHERR 1]
  | .hub => [HUB.GRANT_USED, HUB.CAR_RND 0, HUB.CAR_RND 1, HUB.CAR_RND 2, HUB.CAR_RND 3]
  | .suit => [SUIT.SUIT_STAT, SUIT.SKEW, SUIT.ERRF_CNT, SUIT.LOA_SUM 0]
  | .sns => [SNS.SNS_STAT, SNS.WR_SEQ, SNS.ARCH_DEPTH, SNS.EVT_CNT]
  | .mem => [MEM.MEM_STAT, MEM.BUDGET, MEM.CE_CNT, MEM.UE_CNT]
  | .opt => [OPT.LASER_STAT, OPT.LASER_CUR, OPT.TX_PWR_MON, OPT.RX_PWR_X, OPT.RX_PWR_Y, OPT.RX_STAT]
  | .cnv => [CNV.CNV_STAT, CNV.CNV_TEMP]
  | .txd => [TXD.TXD_STAT, TXD.TXD_SHAPE, TXD.SHAPE_STAT, TXD.CLIP_CNT]
  | .rxf => [RXF.CD_STAT, RXF.CD_MON, RXF.TR_STAT, RXF.ACQ_STAT]
  | .rxm => [RXM.RXM_STAT, RXM.ROT_STAT, RXM.HP_STAT, RXM.FO_EST, RXM.Q_SNR, RXM.Q_MARGIN]
  | .fec => [FEC.FEC_MODE, FEC.FEC_STAT, FEC.DEC_IT, FEC.UNC_LO]
  | .lfr => [LFR.FR_STAT, LFR.DEF_STAT, LFR.RX_MFN, LFR.OH_ERR_CNT]
  | .cip => [CIP.CIP_STAT, CIP.KEY_STAT, CIP.KEY_SUM 0, CIP.AUTH_SUM 0]
  | .scb => [SCB.SC_STAT, SCB.BRX_STAT, SCB.STR_STAT, SCB.DEF_STAT, SCB.Q_SNR, SCB.COLL_CNT]
  | .hsl => [HSL.LANE_STAT 0, HSL.LANE_STAT 1, HSL.LANE_STAT 2, HSL.LANE_STAT 3]
  | .eth => [ETH.PORT_STAT, ETH.UNC_LO]
  | .cls => [CLS.EX_USED, CLS.TERN_USED, CLS.MISS_CNT, CLS.SLOW_CNT]
  | .qmg => [QMG.BUF_STAT, QMG.OVF_STAT, QMG.DROP_TAIL, QMG.DROP_NOBUF]
  | .tsh => [TSH.PAIR_STAT, TSH.PAIR_DIFF]
  | .ddr => [DDR.DDR_STAT, DDR.DDR_TEMP]
  | .eng => [ENG.CL_STAT, ENG.SNAP_NUM]
  | .vlg => if p.inst = 0 then [VLG.VLG_STAT, VLG.LINK_DLY, VLG.STACK_STAT] else [VLG.VLG_STAT, VLG.LINK_DLY]

/-- The tables of a page's window 0: (number of entries, data words an entry). `none`: a table select the window does
not implement (R26, R32). -/
def winTable (p : Page) (t : Nat) : Option (Nat × Nat) :=
  match p.kind, t with
  | .cnv, 0 => some (256, 1) | .cnv, 1 => some (16, 1) | .cnv, 2 => some (16384, 1)
  | .txd, 0 => some (16, 5) | .txd, 1 => some (128, 1) | .txd, 2 => some (192, 1)
  | .rxm, 0 => some (2048, 1) | .rxm, 1 => some (120, 1) | .rxm, 2 => some (1024, 1)
  | .fec, 0 => some (16, 5)
  | .lfr, 0 => some (36, 15) | .lfr, 1 => some (2, 16)
  | .suit, 0 => some (256, 4) | .suit, 1 => some (4096, 1) | .suit, 2 => some (64, 2)
  | .tsh, 0 => some (128, 3) | .tsh, 1 => some (256, 1)
  | .hub, 0 => some (4096, 4) | .hub, 1 => some (8192, 2) | .hub, 2 => some (1, 2) | .hub, 3 => some (1, 3)
  | .scb, 0 => some (512, 1) | .scb, 1 => some (1024, 8) | .scb, 2 => some (36, 15) | .scb, 3 => some (512, 1)
  | .scb, 4 => some (64, 1) | .scb, 5 => some (32, 1)
  | .cip, 0 => some (256, 1) | .cip, 1 => some (512, 1)
  | .eth, 0 => if p.inst = 0 then some (8, 2) else none
  | .eth, 1 => if p.inst = 0 then some (10240, 1) else none
  | .eth, 2 => if p.inst = 0 then some (128, 1) else none
  | .eth, 3 => if p.inst = 0 then some (3, 1) else none
  | .cls, 0 => some (8, 2) | .cls, 1 => some (262144, 13) | .cls, 2 => some (8192, 13) | .cls, 3 => some (16384, 16)
  | .qmg, 0 => some (4404, 4) | .qmg, 1 => some (35232, 4)
  | .sns, 0 => some (64, 1) | .sns, 1 => some (32, 8) | .sns, 2 => some (16, 8) | .sns, 3 => some (8, 16)
  | .sns, 4 => some (256, 1)
  | .mem, 0 => some (11, 3) | .mem, 1 => some (512, 2)
  | .eng, 0 => some (576, 2) | .eng, 1 => some (512, 1) | .eng, 2 => some (576, 2) | .eng, 3 => some (256, 7)
  | .vlg, 0 => some (32, 2)
  | .pwr, 0 => some (80, 4) | .pwr, 1 => some (80, 1)
  | .boot, 0 => some (4, 16)
  | .sec, 1 => some (81, 16) | .sec, 2 => some (82, 16) | .sec, 3 => some (64, 9) | .sec, 4 => some (4, 16)
  | .err, 0 => some (200, 7)
  | .snap, 0 => some (64, 3)
  | _, _ => none

/-- PAGE_CAP.WINDOW: the page has a table window. -/
def pageWindow (p : Page) : Bool :=
  match p.kind with
  | .eth => p.inst == 0
  | .cnv | .txd | .rxm | .fec | .lfr | .suit | .tsh | .hub | .scb | .cip | .cls | .qmg | .sns | .mem | .eng | .vlg
  | .pwr | .boot | .sec | .err | .snap => true
  | _ => false

/-- The registers of a page at 0x100–0x7FF. VLG0's stack registers are on no other port (R461). -/
def pageRows (p : Page) : List RegRow :=
  match p.kind with
  | .mgt => MGT.rows | .boot => BOOT.rows | .sec => SEC.rows | .pwr => PWR.rows | .err => ERR.rows
  | .snap => SNAP.rows | .time => TIME.rows | .dpl => DPL.rows | .hub => HUB.rows | .suit => SUIT.rows
  | .sns => SNS.rows | .mem => MEM.rows
  | .opt => OPT.rows | .cnv => CNV.rows | .txd => TXD.rows | .rxf => RXF.rows | .rxm => RXM.rows
  | .fec => FEC.rows | .lfr => LFR.rows | .cip => CIP.rows | .scb => SCB.rows
  | .hsl => HSL.rows | .eth => ETH.rows | .cls => CLS.rows | .qmg => QMG.rows | .tsh => TSH.rows
  | .ddr => DDR.rows | .eng => ENG.rows
  | .vlg => if p.inst = 0 then VLG.rows else VLG.rows.filter fun r => decide (r.off < 0x180)

/-- The register at an offset of a page, if one is implemented there. -/
def regRow (p : Page) (off : Nat) : Option RegRow := (pageRows p).find? fun r => r.off == off

/-- The interrupt group of a page and its bit in the group (R28). -/
def pageGroup (p : Page) : Nat × Nat :=
  match p.kind with
  | .mgt => (0, 0) | .boot => (0, 1) | .sec => (0, 2) | .pwr => (0, 3) | .err => (0, 4) | .snap => (0, 5)
  | .time => (0, 6) | .dpl => (0, 7) | .hub => (0, 8) | .suit => (0, 9) | .sns => (0, 10) | .mem => (0, 11)
  | .opt => (1 + p.inst, 0) | .cnv => (1 + p.inst, 1) | .txd => (1 + p.inst, 2) | .rxf => (1 + p.inst, 3)
  | .rxm => (1 + p.inst, 4) | .fec => (1 + p.inst, 5) | .lfr => (1 + p.inst, 6) | .cip => (1 + p.inst, 7)
  | .scb => (5 + 2 * (p.inst / 64) + p.inst % 64 / 32, p.inst % 32)
  | .hsl => (13, p.inst) | .cls => (13, 12) | .qmg => (13, 13) | .tsh => (13, 14)
  | .eth => (14 + p.inst / 32, p.inst % 32)
  | .ddr => (16, p.inst)
  | .eng => (17, p.inst) | .vlg => (17, 8 + p.inst)

/-- The word of PAGE_ID (R17). -/
def pageIdWord (p : Page) : Word :=
  BitVec.ofNat 32 (pageType p.kind * 0x10000 + p.inst * 0x100 + 0x01)

/-- The word of PAGE_CAP (R17), for a page that is populated or not. No page has RWL registers of its own: OWNED is 0. -/
def pageCapWord (p : Page) (present : Bool) : Word :=
  BitVec.ofNat 32 (pageIsland p * 2 ^ 24 + pagePd p * 2 ^ 16 + b2n present * 2 ^ 15 + b2n (pageWindow p) * 2 ^ 13
    + b2n (pageDealTgt p.kind) * 2 ^ 12 + (pageSnap p).length * 2 ^ 6 + pageNumInt p)

/-- Offsets of the common page header (R17, R551). -/
def oPAGE_ID : Nat := 0x000
def oPAGE_CAP : Nat := 0x004
def oPAGE_CTL : Nat := 0x008
def oPAGE_STAT : Nat := 0x00C
def oINT_STAT : Nat := 0x010
def oINT_EN : Nat := 0x014
def oINT_FORCE : Nat := 0x018
def oINT_FIRST : Nat := 0x01C
def oERR_CNT : Nat := 0x020
def oERR_LAST : Nat := 0x024
def oOWNER : Nat := 0x028
def oDEAL_CTL : Nat := 0x02C
def oSNAP (n : Nat) : Nat := 0x080 + 4 * n

/-- Fields of the common header (R17). -/
def PAGE_CTL_CALL_EN : Fld := ⟨oPAGE_CTL, 2, 1⟩
def PAGE_CTL_EN : Fld := ⟨oPAGE_CTL, 0, 1⟩
def PAGE_STAT_SNAP_STALE : Fld := ⟨oPAGE_STAT, 2, 1⟩
def PAGE_STAT_SRST_BUSY : Fld := ⟨oPAGE_STAT, 1, 1⟩
def OWNER_ID : Fld := ⟨oOWNER, 0, 8⟩
def DEAL_CTL_PENDING : Fld := ⟨oDEAL_CTL, 9, 1⟩
def DEAL_CTL_STAGE : Fld := ⟨oDEAL_CTL, 8, 1⟩
def DEAL_CTL_DEAL_ID : Fld := ⟨oDEAL_CTL, 0, 8⟩

/-- Offsets of window 0 (R26). -/
def oWIN_SEL : Nat := 0x800
def oWIN_CTL : Nat := 0x804
def oWIN_STAT : Nat := 0x808
def oWIN_DATA (n : Nat) : Nat := 0x840 + 4 * n

/-- What an address of BAR0 reads as when nothing is listed for it in `State.regs`: the register's reset value
(R17 for the header, each chapter's table for the rest), 0 elsewhere. -/
def regReset (a : Nat) : Word :=
  match pageAt a with
  | none => 0
  | some p =>
    let off := a % 0x1000
    if off = oPAGE_CTL then 5
    else if off < 0x100 then 0
    else match regRow p off with
      | some r => r.rst
      | none => 0

/-- The key under which a word of a window table is stored: page slot, table, entry, word. -/
def tabKey (pg t e w : Nat) : Nat := ((pg / 0x1000 * 8 + t) * 2 ^ 24 + e) * 16 + w

/-- What an unlisted table word reads as: 0, but for the queue limits (R358: MAX 16, SPILL 4) the body-bias table
(R479: level 2, assist 1), and the classifier's PORT_CFG and MISS_ACTION of each port (R355), which are held as words 0
and 1 of a table 4 that no window shows. -/
def tabReset (k : Nat) : Word :=
  let t := k / 2 ^ 28
  if k % 16 = 0 ∧ t = 0x2080 * 8 + 1 then 0x04000010
  else if k % 16 = 0 ∧ t = 3 * 8 + 1 then 6
  else if t = 0x2040 * 8 + 4 then 1
  else 0

end Sys2Proof.Machine
end

