-- ==== Sys2Proof/Machine/SMap.lean ====
section
/-!
DEFINITION. Machine/SMap.lean: sparse storage in one canonical form. A map is a list of (key, value) pairs with keys
strictly rising and no entry equal to what an unlisted key reads as (the default `d`). Registers, window tables,
engine memory and the many records of the module are all held this way, so that equal contents are equal data.
-/

namespace Sys2Proof.Machine

/-- The entry listed for a key, if there is one. -/
def SMap.find {α : Type} : List (Nat × α) → Nat → Option α
  | [], _ => none
  | (k', v) :: m, k => if k' = k then some v else SMap.find m k

/-- The value of a key: what is listed, else the default. -/
def SMap.get {α : Type} (d : Nat → α) (m : List (Nat × α)) (k : Nat) : α :=
  match SMap.find m k with
  | some v => v
  | none => d k

/-- The list without the entries of a key. -/
def SMap.erase {α : Type} : List (Nat × α) → Nat → List (Nat × α)
  | [], _ => []
  | (k', v) :: m, k => if k' = k then SMap.erase m k else (k', v) :: SMap.erase m k

/-- The list with one entry put in its place, keys rising. -/
def SMap.insert {α : Type} : List (Nat × α) → Nat → α → List (Nat × α)
  | [], k, v => [(k, v)]
  | (k', v') :: m, k, v =>
    if k < k' then (k, v) :: (k', v') :: m
    else if k = k' then (k, v) :: m
    else (k', v') :: SMap.insert m k v

/-- Writes a key: the entry goes away when the value is what an unlisted key reads as. -/
def SMap.set {α : Type} [DecidableEq α] (d : Nat → α) (m : List (Nat × α)) (k : Nat) (v : α) : List (Nat × α) :=
  if v = d k then SMap.erase m k else SMap.insert m k v

/-- Keys strictly rising. -/
def SMap.rising {α : Type} : List (Nat × α) → Bool
  | [] => true
  | [_] => true
  | a :: b :: m => decide (a.1 < b.1) && SMap.rising (b :: m)

/-- The canonical form: keys strictly rising, no entry equal to the default. -/
def SMap.wf {α : Type} [DecidableEq α] (d : Nat → α) (m : List (Nat × α)) : Bool :=
  SMap.rising m && m.all fun e => decide (e.2 ≠ d e.1)

end Sys2Proof.Machine
end

