-- ==== Sys2Proof/Machine/Types.lean ====
section
/-!
DEFINITION. Machine/Types.lean: the record types that State is made of, family by family, in the spec's words. Plain
data only.
-/

namespace Sys2Proof.Machine

/-- The three ordering variants (R2). -/
inductive Part
  | hq9640C | hq9640L | hq9620C
  deriving DecidableEq, Repr

/-- What the module as a whole is doing: held in reset (R533, R536), started (R482), halted by the boot (R486) or in
wake-only (R475). -/
inductive Phase
  | held | run | halted | wakeOnly
  deriving DecidableEq, Repr

/-! ### Power (R465–R476) -/

/-- Where the transition of a domain stands. -/
inductive PdStep
  | idle
  | rail      -- waits for an AVSBus operation that raises VDD_CORE (R473)
  | quiesce   -- waits for transfers in flight (R471)
  | move      -- the transition proper (R472)
  deriving DecidableEq, Repr

/-- A request for a domain's state (R467): the state, the requester and the offset that a refusal shows, the deal that
carried it. -/
structure PdAsk where
  st : Nat := 0
  src : Nat := 0
  off : Nat := 0
  deal : Option Nat := none
  deriving DecidableEq, Repr

/-- One power domain: its state (0 OFF, 1 RET, 2 ON), the transition under way, the queued or held request, and the
accounting of R479. -/
structure PdRec where
  st : Nat := 0
  step : PdStep := .idle
  /-- the request under way -/
  ask : PdAsk := {}
  /-- a request that waits -/
  queued : Option PdAsk := none
  /-- the queued request is one that is held for a parent or child (R467) -/
  held : Bool := false
  refuser : Nat := 0
  blocker : Nat := 0
  requested : Nat := 0
  completed : Nat := 0
  refused : Nat := 0
  aborted : Nat := 0
  lastT : Nat := 0
  level : Nat := 0
  assist : Bool := false
  deriving DecidableEq, Repr

/-- An AVSBus operation: the target in mV and the one before it, the attempts made, the domains that wait for it (R473). -/
structure AvsOp where
  mv : Nat
  prev : Nat
  attempts : Nat := 0
  domains : List Nat := []
  deriving DecidableEq, Repr

/-! ### Device time and deals (R33–R60) -/

/-- An action of a deal (R42, R44): a staged register write or a block command. -/
inductive Action
  | write (addr : Nat) (v : Word)
  | cmd (page : Nat) (arg : Word) (code : Nat)
  /-- an action that a reset of its page's island has discarded: it is dropped when it falls due (R515) -/
  | gone (addr : Nat)
  deriving DecidableEq, Repr

/-- The states of a deal other than EMPTY (R47). -/
inductive DealState
  | staging | armed | late | done | refused | cancelled
  deriving DecidableEq, Repr

/-- An entry of the deal table that is not EMPTY (R40, R47, TIME registers 0x188–0x1A8). -/
structure Deal where
  id : Nat
  st : DealState
  time : BitVec 64 := 0
  num : Word := 0
  cfg : Word := 0
  acts : List Action := []
  stepped : Bool := false
  flywheel : Bool := false
  dropped : Bool := false
  overflow : Bool := false
  reason : Nat := 0
  execTime : BitVec 64 := 0
  execNum : Word := 0
  /-- order of entry to DONE, REFUSED or CANCELLED (R40: "longest in") -/
  closedAt : Nat := 0
  /-- the multiframe number a line-locked deal was resolved to at ARM (R55) -/
  lockN : Option Word := none
  /-- marks seen by a remote-triggered deal: the number they name and how many agree (R56) -/
  marks : Option (Word × Nat) := none
  /-- the multiframe a remote-triggered deal is bound to (R56) -/
  bound : Option Word := none
  /-- the requester that staged the deal is the dealer (R59) -/
  stack : Bool := false
  deriving DecidableEq, Repr

/-- A carrier's transmit timeline (R39): whether it runs, the number of the multiframe most recently started, the
device time of that start, the line frame within it, and whether its frames have the L400 duration. -/
structure Timeline where
  run : Bool := false
  mf : Word := 0
  start : BitVec 64 := 0
  frame : Nat := 0
  l400 : Bool := false
  /-- the last deal that sent a mark, so that marks take the multiframes in turn (R55) -/
  lastMark : Nat := 0
  /-- the last received multiframe number and whether one has been received (R56, R58) -/
  rxMf : Word := 0
  /-- one more than the tick at which it began; 0: none received (R56) -/
  rxAt : Nat := 0
  deriving DecidableEq, Repr

/-- A stack deal being prepared by the dealer (R59): the deal, the members that have still to answer. -/
structure Prepare where
  id : Nat
  waiting : List Nat
  deriving DecidableEq, Repr

/-! ### Lasers, converters, transmit and receive chains (R65–R135) -/

/-- What the OPT registers do not show of a carrier's laser and SOA (R65–R75). -/
structure OptRec where
  /-- the latched target of the tune under way (R65) -/
  target : Nat := 0
  /-- the target of a queued tune (R69) -/
  queued : Nat := 0
  /-- lock attempt under way, 1 or 2 (R68) -/
  attempt : Nat := 0
  /-- power in 0.01 dBm from which the present ramp started (R73) -/
  rampFrom : Int := 0
  /-- fine offset in MHz from which the present slew started (R66) -/
  fineFrom : Int := 0
  fineTo : Int := 0
  /-- the SOA gate of a leaf is open for a burst (R75) -/
  gate : Bool := false
  /-- AGC held by the burst receiver (R77) -/
  burstFreeze : Bool := false
  deriving DecidableEq, Repr

/-- What the CNV registers do not show (R80–R86). -/
structure CnvRec where
  clkLost : Bool := false
  /-- trims held by the stored calibration record (R84): 16 lane trims, then the interleave words -/
  stored : List Word := []
  capBusy : Bool := false
  deriving DecidableEq, Repr

/-- A bank swap of TXDc, RXMc, SNS or a stream of SCB, as far as registers do not show it: the bank of a fade that
starts at the next boundary, the bank a fade leads to, the boundaries that the fade still takes, a LOAD_MODE written
during it. -/
structure SwapRec where
  wait : Option Nat := none
  dest : Nat := 0
  left : Nat := 0
  mode : Option Nat := none
  deriving DecidableEq, Repr

/-- What the TXD registers do not show (R99–R112). -/
structure TxdRec where
  /-- a change of profile or subcarrier set: 0 none, 1 waits for the next multiframe, 2 for its first shaping group
  (R100) -/
  shape : Nat := 0
  /-- CLIP_CNT at the start of the present second, and the tick of that start (CLIP_HIGH) -/
  clipBase : Nat := 0
  deriving DecidableEq, Repr

/-- A swap of the dispersion equaliser that waits for a block boundary: hard, or the start of a fade (R121). -/
inductive CdWait
  | none
  | hard (bank : Nat)
  | fade (bank : Nat)
  deriving DecidableEq, Repr

/-- What the RXF registers do not show (R117–R135). -/
structure RxfRec where
  boundary : CdWait := .none
  /-- the bank that a fade leads to -/
  fadeTo : Nat := 0
  /-- banks whose coefficients are being computed -/
  busy0 : Bool := false
  busy1 : Bool := false
  /-- a LOAD_MODE written during a fade (R124) -/
  mode : Option Nat := .none
  /-- acquisition moves on to TIMING when this bank is ready (R123, R128) -/
  acqWait : Option Nat := .none
  /-- acquisition's rewrite that waits for a fade to end: bank and value (R123) -/
  rewrite : Option (Nat × Int) := .none
  /-- tracking's write that a fade refused is retried when the fade ends (R130) -/
  trackRetry : Bool := false
  deriving DecidableEq, Repr

/-- What the RXM registers, or those of a stream's SCB page, do not show (R140–R157). -/
structure RxmRec where
  /-- the rotation has reached ROT_THR, or fell below it less than 10 ms ago (R148) -/
  rotFrozen : Bool := false
  /-- the latest 1 ms values of SNR and BER, once there is one (R157) -/
  snr1 : Nat := 0
  ber1 : Nat := 0
  has : Bool := false
  /-- the format of a subcarrier stream that is in effect (R288) -/
  fmt : Nat := 0
  deriving DecidableEq, Repr

/-! ### Codes and frames (R162–R212) -/

/-- What the FEC registers do not show (R168, R175, R183, R185): whether a transmit code period runs and the position
of the present multiframe in it; a dematcher profile that waits (0 none, 1 for the next received multiframe, 2 for its
first shaping group); a test run in progress. -/
structure FecRec where
  codeRun : Bool := false
  codePos : Nat := 0
  shape : Nat := 0
  tvBusy : Bool := false
  deriving DecidableEq, Repr

/-- A second of performance as judged (R206–R208): its number; errored and severely errored, near and far end;
unavailable, near and far end; suspect; not counted because PM_EN was 0. -/
structure PmSec where
  sec : Nat
  neEs : Bool
  neSes : Bool
  neU : Bool
  feEs : Bool
  feSes : Bool
  feU : Bool
  suspect : Bool
  void : Bool
  deriving DecidableEq, Repr

/-- The second of performance in progress: codewords and uncorrectable ones, REI received and its sum, whether signal
fail or dBDI was seen at a sample, marks. -/
structure PmAcc where
  cw : Nat := 0
  unc : Nat := 0
  rei : Nat := 0
  sf : Bool := false
  bdi : Bool := false
  suspect : Bool := false
  void : Bool := false
  deriving DecidableEq, Repr

/-- The framer, code phase, defects and performance of a stream, as far as registers do not show them (R175, R198–R209). -/
structure FrRec where
  off : Nat := 0
  hyp : Nat := 0
  hits : Nat := 0
  miss : Nat := 0
  /-- the overhead counts of the frames matched so far: MFN × 256 + FN where valid -/
  fields : List (Option Nat) := []
  /-- the framer's own count: MFN × frames of a multiframe + FN -/
  num : Nat := 0
  dis : Nat := 0
  /-- the count for this frame that the last valid field gives while MF_LOCK is lost -/
  cand : Option Nat := none
  bdi : Bool := false
  rdi : Bool := false
  smMiss : Nat := 0
  smSeen : Bool := false
  /-- coded bits of the subcarrier codeword in progress (R197) -/
  cwBits : List Bool := []
  /-- MF_LOCK of a stream (R200) -/
  mfLock : Bool := false
  /-- the trail trace words received in this multiframe, the last complete one, and how many multiframes carried it -/
  tti : List Nat := []
  ttiPrev : List Nat := []
  ttiRun : Nat := 0
  plock : Bool := false
  phase : Nat := 0
  cpNow : Option Nat := none
  cpPrev : Option Nat := none
  cpDis : Nat := 0
  sd : Bool := false
  exc : Bool := false
  /-- codewords, uncorrectable ones, iterations and most iterations in the millisecond in progress -/
  wCw : Nat := 0
  wUnc : Nat := 0
  wIt : Nat := 0
  wMax : Nat := 0
  /-- uncorrectable codewords of the received multiframe in progress, and of the last complete one (R193) -/
  reiMf : Nat := 0
  reiTx : Nat := 0
  /-- for each defect, the samples so far of an unbroken run that differs from its state (R202) -/
  runs : List Nat := []
  /-- signal fail and degrade as they stand, before their last change, and the tick of that change (R205) -/
  sf : Bool := false
  sfWas : Bool := false
  sfAt : Nat := 0
  sdeg : Bool := false
  sdegWas : Bool := false
  sdegAt : Nat := 0
  acc : PmAcc := {}
  /-- the last seconds judged, newest first -/
  secs : List PmSec := []
  uNe : Bool := false
  uFe : Bool := false
  deriving DecidableEq, Repr

/-! ### Attached memory (R400–R423) -/

/-- A row test that waits (R414): the row within its channel, the error it classifies, the module address, whether the
error was uncorrectable. -/
structure RowTest where
  row : Nat
  seq : Nat
  addr : Nat
  ue : Bool
  deriving DecidableEq, Repr

/-- What a DDRn page does not show: the tests that wait, and the rows of the errors of the last 10 s with their ticks. -/
structure DdrRec where
  tests : List RowTest := []
  hits : List (Nat × Nat) := []
  deriving DecidableEq, Repr

/-! ### Suits and protection (R213–R241) -/

/-- The arrivals of one SSN at a suit's deskew store: first and latest tick, the members that have brought it. -/
structure Arrival where
  ssn : Nat
  first : Nat
  last : Nat
  members : Nat
  deriving DecidableEq, Repr

/-- A suit (R216–R230): its transmit map and version, the resize in progress, the answer to the far end's, the receive
map with the announced and previous ones, deskew and header figures, dSUIT_LOA, counts. -/
structure SuitRec where
  on : Bool := false
  active : Nat := 0
  mapVer : Nat := 0
  nextVer : Nat := 0
  rstate : Nat := 0
  result : Nat := 0
  ssn : Nat := 0
  next : Nat := 0
  switchAt : Nat := 0
  reqNew : Nat := 0
  plan : Option Nat := none
  dropWait : Bool := false
  farFail : Nat := 0
  /-- the answer to an announced map: 0 none, 2 READY, 3 NOT_READY; its reason -/
  answer : Nat := 0
  reason : Nat := 0
  rxMap : Nat := 0
  rxVer : Nat := 0
  rxPrev : Nat := 0
  rxPrevVer : Nat := 0
  rxNext : Nat := 0
  rxNextVer : Nat := 0
  rxAt : Nat := 0
  rxCommit : Bool := false
  /-- failed members as last evaluated -/
  failed : Nat := 0
  arrivals : List Arrival := []
  /-- skews measured, by member, in ns -/
  skews : List (Nat × Nat) := []
  /-- suit frames and failing headers of the millisecond that began at a tick; whether the last one failed by half -/
  hdrN : Nat := 0
  hdrBad : Nat := 0
  hdrTick : Nat := 0
  hdrLoa : Bool := false
  hdrRun : Nat := 0
  run : Nat := 0
  loa : Bool := false
  errf : Nat := 0
  hdrErr : Nat := 0
  resizes : Nat := 0
  deriving DecidableEq, Repr

/-- A protection pair (R231–R233). -/
structure PairRec where
  on : Bool := false
  depthExc : Bool := false
  fail : Bool := false
  late : Bool := false
  sel : Bool := false
  aligned : Bool := false
  valid : Bool := false
  diff : Nat := 0
  aBad : Bool := false
  bBad : Bool := false
  alt : Nat := 0
  both : Nat := 0
  deriving DecidableEq, Repr

/-! ### Hubs, leaves and bursts (R242–R292) -/

/-- A group of subcarriers in effect whose role is not OFF (R242): lowest subcarrier, number of subcarriers, role. -/
structure ScGroup where
  low : Nat
  size : Nat
  role : Nat
  deriving DecidableEq, Repr

/-- A grant (R249, R251): the upstream round it is for, and the fields of the grant field table. -/
structure Grant where
  rnd : Nat
  leaf : Nat
  sc : Nat
  bond : Nat
  format : Nat
  start : Nat
  len : Nat
  rng : Bool
  rpt : Bool
  deriving DecidableEq, Repr

/-- A grant of the hub's store (R253): its grant, its home group, whether a burst associated with it has come (R286), and
that burst's figures. -/
structure Stored where
  g : Grant
  home : Nat
  hit : Bool := false
  figs : Option BurstFigures := none
  deriving DecidableEq, Repr

/-- An entry of the downstream map (R255): round, leaf, group, first frame, number of frames. -/
structure Dmap where
  rnd : Nat
  leaf : Nat
  group : Nat
  first : Nat
  count : Nat
  deriving DecidableEq, Repr

/-- The messages of the hub channel other than IDLE and those of suits (R249). -/
inductive HubMsg
  | round (rnd rlen teq : Nat)
  | grant (rnd : Nat) (gs : List Grant)
  | dmap (rnd : Nat) (ds : List Dmap)
  | discover (rnd nrounds rttMin randMax sc : Nat)
  | assign (serial leaf home eqd : Nat)
  | range (leaf eqd : Nat) (final : Bool)
  | dereg (leaf reason : Nat)
  | report (leaf backlog : Nat)
  | hello (serial r bondCap fmtCap : Nat)
  deriving DecidableEq, Repr

/-- What is still to be sent on a shared group in the present round, for the next one (R250). -/
structure HubChan where
  low : Nat
  width : Nat
  ctl : List HubMsg := []
  grants : List Grant := []
  dmaps : List Dmap := []
  deriving DecidableEq, Repr

/-- A discovery window (R256): its rounds, its group's lowest subcarrier, RTT_MIN as announced. -/
structure DiscWin where
  first : Nat
  last : Nat
  sc : Nat
  rttMin : Nat
  deriving DecidableEq, Repr

/-- A burst that a leaf has to send (R248, R256): its grant, the random slot offset of a HELLO, its start in 0.25 ns of
the module's clock once the leaf has received the start of its round, and whether it has begun. -/
structure LeafBurst where
  g : Grant
  hello : Option Nat := none
  rttMin : Nat := 0
  at' : Option Nat := none
  sent : Bool := false
  deriving DecidableEq, Repr

/-- The hub or leaf function of a carrier, as far as registers do not show it (R242–R262). -/
structure HubRec where
  on : Bool := false
  groups : List ScGroup := []
  /-- removed shared groups that honour the grants of a last round (R260) -/
  drains : List (ScGroup × Nat) := []
  /-- the downstream rounds begun, newest first, with their ticks -/
  starts : List (Nat × Nat) := []
  /-- the multiframe at which the last round began -/
  roundMf : Word := 0
  /-- the upstream round in progress -/
  up : Option Nat := none
  /-- the upstream round in progress, and the one before, have had a burst (R269) -/
  upBurst : Bool := false
  store : List Stored := []
  /-- messages to be sent on every shared group in the rounds to come, with the number of rounds -/
  due : List (HubMsg × Nat) := []
  chans : List HubChan := []
  dmaps : List Dmap := []
  disc : Option DiscWin := none
  lastDisc : Option Nat := none
  /-- leaf: the round last received, its tick, RLEN and TEQ -/
  lfRound : Option (Nat × Nat) := none
  lfRlen : Nat := 3
  lfTeq : Nat := 0
  /-- leaf: it has a number; the number, home and EqD that apply from the next round it receives (R259) -/
  lfHas : Bool := false
  lfNew : Option (Nat × Nat × Nat) := none
  lfBursts : List LeafBurst := []
  lfDmaps : List Dmap := []
  /-- leaf: windows still to pass over, the last round of the window its HELLO was sent in, the state before HOLD -/
  lfBackoff : Nat := 0
  lfWin : Option Nat := none
  lfHeld : Nat := 0
  /-- the first codewords of suit records, by stream, and the last whole records with the multiframe they came in -/
  suitA : List (Nat × Nat × BitVec 64 × BitVec 64) := []
  suitLast : List (Nat × Nat × SuitRecord) := []
  deriving DecidableEq, Repr

/-- A leaf as its hub sees it beside its entry (R257, R258, R285): backlog reported; the round of the first ASSIGN of
its ranging or of a home move; RNG bursts in tolerance and RNG grants without a burst, in a row; arrival errors since
the last correction, newest first; EqD values by the round from which they are in use, newest first; samples of
dBURST_LOSS that differ from its state. -/
structure LeafRec where
  backlog : Nat := 0
  assigned : Option Nat := none
  moved : Option Nat := none
  good : Nat := 0
  missed : Nat := 0
  errors : List Int := []
  eqds : List (Nat × Nat) := []
  lossRun : Nat := 0
  deriving DecidableEq, Repr

/-- A burst receiver, as far as registers do not show it (R274–R284): the tick of its detection, the located start in
0.25 ns of the module's clock, the correlation in 0.1 dB, the taps in use, the grant and leaf of an associated burst
with its report decoded; idle upstream rounds; false detections of the present second and the tick it began. -/
structure BrxRec where
  tick : Nat := 0
  start : Nat := 0
  corr : Int := 0
  taps : List Word := []
  assoc : Option Grant := none
  burst : Bool := false
  idle : Nat := 0
  falseN : Nat := 0
  falseTick : Nat := 0
  deriving DecidableEq, Repr

/-! ### Line encryption (R293–R318) -/

/-- A key slot of a CIPc page (R296–R308): its state (0 FREE, 1 LOADED, 2 ARMED, 3 ACTIVE, 4 DRAINING, 5 SPENT), key, salt,
the owner of the last accepted commit, the next transmit UCTR, the highest UCTR verified, the tick at which RX_KI left
it. -/
structure SlotRec where
  st : Nat := 0
  key : BitVec 256 := 0
  salt : Word := 0
  owner : Nat := 0
  uctr : Nat := 0
  seen : Option Nat := none
  left : Option Nat := none
  deriving DecidableEq, Repr

/-- A unit decrypted into the kitty, its tag still to be verified (R302, R308, R309). -/
structure Kitty where
  ki : Nat
  early : Bool
  uctr : Nat
  plain : List Byte
  tagOk : Bool
  deriving DecidableEq, Repr

/-- An association in a CIPc page (R293, R300–R311), its switch bits in the ASSOC table apart. -/
structure AssocRec where
  txKi : Nat := 0
  rxKi : Nat := 0
  /-- the key index that units of the TMF in progress still use (R300) -/
  txOld : Option Nat := none
  txHalt : Bool := false
  rxSync : Bool := false
  kitty : Option Kitty := none
  dkey : Bool := false
  dauth : Bool := false
  keyRun : Nat := 0
  authRun : Nat := 0
  missTick : Option Nat := none
  tagTicks : List Nat := []
  units : Nat := 0
  tagFail : Nat := 0
  lost : Nat := 0
  keyMiss : Nat := 0
  replay : Nat := 0
  early : Nat := 0
  deriving DecidableEq, Repr

/-- The key-load path of a CIPc page (R299): the words and the salt buffered. -/
structure CipRec where
  words : List Word := []
  salt : Word := 0
  deriving DecidableEq, Repr

/-! ### Clients, classification and queues (R319–R360) -/

/-- An egress timestamp of a port's FIFO (R333). -/
structure Stamp where
  msg : Nat
  seq : Nat
  time : BitVec 80
  deriving DecidableEq, Repr

/-- A frame in the host punt queue (R348): reason, ingress port, bytes. -/
structure Punt where
  reason : Nat
  port : Nat
  bytes : List Byte
  deriving DecidableEq, Repr

/-- A packet in a queue: its bytes, FCS excluded, and its ingress timestamp (R333). -/
structure Packet where
  bytes : List Byte
  stamp : Option (BitVec 80) := none
  deriving DecidableEq, Repr

/-- What the CLS registers do not show: the punt queue; slow-path frames of the present second and the tick it began, and
the tick of the last SLOW_DROP. -/
structure ClsRec where
  punts : List Punt := []
  slowN : Nat := 0
  slowTick : Nat := 0
  dropTick : Option Nat := none
  /-- frames at engine cluster 6 that its program may return: number and bytes -/
  slow : List (Nat × Packet) := []
  slowId : Nat := 0
  deriving DecidableEq, Repr

/-- A queue (R350): the packets on die and in DDR, oldest first; packets enqueued and dropped. -/
structure QueueRec where
  die : List Packet := []
  ddr : List Packet := []
  enq : Nat := 0
  drop : Nat := 0
  deriving DecidableEq, Repr

/-- A set's scheduler (R352): the class at the head of the round robin, deficits by class, the shaper's tokens in 1/800
of a byte and the tick they were counted at. -/
structure SchedRec where
  turn : Nat := 0
  deficits : List Nat := []
  tokens : Nat := 0
  tick : Nat := 0
  /-- the records of the set's line source are in sync (R354) -/
  sync : Bool := false
  deriving DecidableEq, Repr

/-! ### Line sensing (R361–R380) -/

/-- A record of the archive (R370): its stream, flags, sequence number, the time of its first sample, its samples, and the
device time at which it was written. A position never written holds no samples. -/
structure ArchRec where
  stream : Nat := 0
  flags : Nat := 0
  seq : Nat := 0
  t0 : BitVec 80 := 0
  samples : List (BitVec 16) := []
  wrote : BitVec 64 := 0
  deriving DecidableEq, Repr

/-- A stream of samples (R364, R369): started, its open record, and the flags its next record takes. -/
structure StreamRec where
  on : Bool := false
  samples : List (BitVec 16) := []
  t0 : BitVec 80 := 0
  gap : Bool := false
  stepped : Bool := false
  deriving DecidableEq, Repr

/-- A detector (R367, R368): |y| of the last samples, newest first; the mean in 2^−16 of a channel unit; the sample
before; z in 2^−16 of a channel unit; the tick of the last acted event; the call it requested is not issued yet. -/
structure DetRec where
  hist : List Nat := []
  mean : Option Int := none
  prev : Option Int := none
  z : Nat := 0
  acted : Option Nat := none
  awaits : Bool := false
  deriving DecidableEq, Repr

/-- A freeze that follows the open one, which has reached FRZ_MAX (R372): its end, its detector, its requests. -/
structure FrzNext where
  endNs : Nat
  det : Nat
  reqs : Nat
  deriving DecidableEq, Repr

/-- What the SNS registers do not show: the position the writer takes next, the read buffer, a freeze that follows. -/
structure SnsRec where
  pos : Nat := 0
  buf : ArchRec := {}
  follow : Option FrzNext := none
  deriving DecidableEq, Repr

/-! ### Reference selection (R381–R399) -/

/-- A reference: its frequency offsets measured each second in 10^−12, newest first; evaluations in a row with the slope
within its limit; how often it has become qualified; the run of dREF's integrator; its last known phase error in ps. -/
structure RefRec where
  fofs : List Int := []
  below : Nat := 0
  quals : Nat := 0
  run : Nat := 0
  phase : Option Int := none
  deriving DecidableEq, Repr

/-- A DPLL: its history of control values, newest first; the value held when the loop was opened; held by R392; the phase
it slews by, in ps. -/
structure DpllRec where
  hist : List Int := []
  held : Bool := false
  openVal : Int := 0
  slew : Int := 0
  deriving DecidableEq, Repr

/-! ### The Velaug link and the stack (R443–R464) -/

/-- A Velaug port: the run of dVLG_LOL's integrator; frames in a row with an uncorrectable codeword, and whether the frame
in progress has had one; the peer asks for idle; missed heartbeats in a row; the times of the exchange under way (t1, t2,
t3); training has failed and restarts after 10 ms; the latest suit record forwarded to this module for each transit entry,
and the latest brought back for each member, by 16 × suit + member (R453). -/
structure VlgRec where
  run : Nat := 0
  bad : Nat := 0
  frameBad : Bool := false
  peerIdle : Bool := false
  t1 : Option (BitVec 80) := none
  t2 : BitVec 80 := 0
  t3 : BitVec 80 := 0
  failed : Bool := false
  sendRecs : List (Nat × SuitRecord) := []
  backRecs : List (Nat × SuitRecord) := []
  deriving DecidableEq, Repr

/-- The stack function: left by LEAVE.GO, ALONE until EN is written again (R461); the management access under way is a write
(R457). -/
structure StackRec where
  left : Bool := false
  mgmtWrite : Bool := false
  deriving DecidableEq, Repr

/-! ### Start-up and security (R482–R505) -/

/-- The boot: the step begun (none when the start is complete, halted, or waits for a restart), the tick at which the start
began, whether it is a wake (R476), the levels and the units they cover as this start found them (R485); the flash command running
(0 none, 1 ERASE, 2 PROGRAM, 3 VERIFY) with its slot, address and data. -/
structure BootRec where
  step : Option Nat := none
  tick : Nat := 0
  wake : Bool := false
  fb : Nat := 0
  fbUnit : Nat := 0
  flCmd : Nat := 0
  flSlot : Nat := 0
  flAddr : Nat := 0
  flData : List Byte := []
  deriving DecidableEq, Repr

/-- Signing, challenges and the measurement: the next signature index of this start, once it has signed (R494); the nonce
of the attestation request under way; a token is being verified; the scopes of the pending challenge; failed tokens in a
row; M, and the next 4 bytes of it that MEAS reads; random words drawn (R495–R499). -/
structure SecRec where
  idx : Option (Nat × Nat) := none
  att : Option (List Byte) := none
  token : Bool := false
  nonce : Option Nat := none
  fails : Nat := 0
  m : BitVec 256 := 0
  mpos : Nat := 0
  draws : Nat := 0
  deriving DecidableEq, Repr

/-! ### Engines (R424–R442) -/

/-- A sample of the trace in flight (R438): PC, encoding, issue time, cycles waited in ID, outcome, cause of the longest
hold, and the ledger classes charged so far. -/
structure TrcRec where
  pc : Word
  inst : Word
  time : Word
  wait : Nat
  outcome : Nat
  cause : Nat
  strip : List Nat
  deriving DecidableEq, Repr

/-- An engine: its registers, PC, what it does (0 RUN, 1 WAIT_TIME, 2 WAIT_MBOX, 4 FAULT), its CSRs, ACC, mailbox, the
wait under way, its counters and its trace. -/
structure EngRec where
  regs : List Word := List.replicate 32 0
  pc : Word := 0
  st : Nat := 0
  /-- failed its check: it stays in FAULT and loads skip it (R520) -/
  bad : Bool := false
  mstatus : Word := 0x1800
  mtvec : Word := 0
  mepc : Word := 0
  mcause : Word := 0
  mtval : Word := 0
  mie : Word := 0
  mscratch : Word := 0
  mbstat : Word := 0
  heapWin : Nat := 0
  accRe : Int := 0
  accIm : Int := 0
  /-- words in the mailbox: sender (0x3FF the host) and word, oldest first -/
  fifo : List (Nat × Word) := []
  /-- of a wait: its target, W, its destination register, its limit in cycles, the tick it began, the length of its
  instruction -/
  target : BitVec 64 := 0
  wake : Bool := false
  rd : Nat := 0
  limit : Nat := 0
  tick : Nat := 0
  len : Nat := 4
  /-- a register whose result comes late, and the cycles until ACC is ready (R426, R427) -/
  late : Nat := 0
  accWait : Nat := 0
  pmcs : List Nat := List.replicate 8 0
  ovfPc : Word := 0
  /-- issues until the next sample, none before the first draw; the sample in flight; the last three ledger classes;
  records written -/
  trcLeft : Option Nat := none
  trc : Option TrcRec := none
  tail : List Nat := []
  seq : Nat := 0
  deriving DecidableEq, Repr

/-- A cluster: the ENTRY of its program; the words in its host FIFO; COUNT words held for the next write of word 0; the
tick at which its CYCLE counters stood at 0. -/
structure ClRec where
  entry : Word := 0
  host : List (Nat × Word) := []
  held : List (Nat × Nat) := []
  base : Nat := 0
  deriving DecidableEq, Repr

/-- A mailbox word on its way (R429): sender, destination engine (or 0x3FF), word, tick sent. -/
structure MailRec where
  src : Nat
  dst : Nat
  word : Word
  tick : Nat
  deriving DecidableEq, Repr

/-! ### Fuses (R491–R498) -/

/-- What is burnt into the module and no reset changes: the provisioning fuse and the owner key hash (R498), the
security version (R492) and the count of top-level signature indices (R494). -/
structure Fuses where
  prov : Bool := false
  owner : BitVec 256 := 0
  svn : Nat := 0
  top : Nat := 0
  deriving DecidableEq, Repr

/-! ### Errors and calls (R506–R524) -/

/-- A record of an island queue (R513, R527) together with the handling of its error (R510). -/
structure ErrRec where
  seq : Nat
  cls : Nat
  orig : Nat
  esc : Bool
  src : Nat
  test : Nat
  result : Nat
  remapped : Bool := false
  resetDone : Bool := false
  page : Nat
  addr : Nat
  unit : Nat
  time : BitVec 64
  rel : Nat
  /-- handling complete (R510) -/
  handled : Bool
  /-- the record is in the queue (false: it found the queue full, R513) -/
  shown : Bool
  island : Nat
  /-- what the address names for a repeat: a word or a row (R519) -/
  loc : Nat
  /-- the module's own clock at the entry -/
  tick : Nat
  deriving DecidableEq, Repr

/-- A call whose T lies ahead (R456): its number, T and sources. -/
structure StackCall where
  num : Nat
  t : BitVec 64
  srcs : Nat
  deriving DecidableEq, Repr

/-- Calls (R521, R522): sources that wait for the call to be issued; calls issued whose T lies ahead; the instant of the last
issue, if one was made. -/
structure CallRec where
  want : Nat := 0
  ahead : List StackCall := []
  lastTick : Option Nat := none
  /-- CALL_OUT pulse in progress -/
  pulse : Bool := false
  deriving DecidableEq, Repr

end Sys2Proof.Machine
end

