-- ==== Sys2Proof/Machine/State.lean ====
section
/-!
DEFINITION. Machine/State.lean: the state of the module as plain data, the two ways a step can stop, and the state
right after reset. Sparse maps are lists of (key, value) in the canonical form of SMap.
-/

namespace Sys2Proof.Machine

/-- What the module sends out, recorded in order (log 6). -/
inductive Out
  | msix (vector : Nat) (addr : BitVec 64) (data : Word)
  | mark (carrier tag : Nat) (n : Word) (remaining : Nat)
  | callOut (level : Bool)
  /-- a suit frame delivered (R222, R232): suit, SSN and frame of its header, data bytes, errored or not -/
  | suitFrame (suit ssn frame bytes : Nat) (errored : Bool)
  /-- the overhead of a line frame sent (R192): carrier, 246 content bits and CRC -/
  | overhead (carrier : Nat) (info : List Bool)
  /-- a message of the hub channel (R249, R250): carrier, lowest subcarrier of the group, the 115 content bits -/
  | hubMsg (carrier sc : Nat) (content : BitVec 115)
  /-- a burst that a leaf begins to send (R270–R273): carrier, subcarrier, width and format codes, slots, payload units,
  the content of its report codeword -/
  | burst (carrier sc bond format len units : Nat) (report : BitVec 115)
  /-- a unit block sent (R303–R306): carrier, association, header, ciphertext, tag -/
  | unit (carrier assoc : Nat) (header : BitVec 128) (cipher : List Byte) (tag : BitVec 128)
  /-- a unit's plaintext released, or error fill for a unit's duration (R309, R310) -/
  | plain (carrier assoc : Nat) (bytes : List Byte)
  | errorFill (carrier assoc : Nat)
  /-- a record sent on a set's line stream (R353), and a frame sent to a host port (R349) -/
  | record (set : Nat) (bytes : List Byte)
  | frame (port : Nat) (bytes : List Byte)
  /-- a control message on the Velaug link (R454): port, type, fields -/
  | ctl (port type : Nat) (fields : List Nat)
  /-- TS words received over Velaug (R453): put into a transit range of a carrier or its subcarrier, or brought to a suit of
  this module; suit, member, first block of a TMF, errored, the words -/
  | tsWords (carrier : Nat) (sub : Option Nat) (suit member : Nat) (first err : Bool) (words : List (BitVec 128))
  | tsDeliver (suit member : Nat) (first err : Bool) (words : List (BitVec 128))
  /-- a Voltage write on the AVSBus, in mV (R473) -/
  | avs (mv : Nat)
  deriving DecidableEq, Repr

/-- Why a step could fault. -/
inductive Fault
  /-- Raised by no command of this model: every command of the table has an effect. Safe. -/
  | noEffect
  deriving DecidableEq, Repr

/-- Why a step could be refused. -/
inductive Refusal
  /-- Raised by exec's arm of a command whose meaning is not written yet, under its mnemonic. Safe. -/
  | notModelled (mnemonic : String)
  deriving DecidableEq, Repr


/-- The state of the HQ9640, with the queue of commands that wait. -/
structure State where
  /-- the commands that wait, first in, first out (the block's interface) -/
  pending : List Instr
  /-- the ordering variant (R2); a constant of the module, no command changes it -/
  part : Part
  /-- what the module as a whole is doing (R482, R475, R533) -/
  phase : Phase
  /-- the model's own clock: nanoseconds since reset, not moved by a step of device time (log 5) -/
  ticks : Nat
  /-- device time: ns in the high 64 bits, the 2^−16 ns fraction in the low 16 (R33, R34) -/
  now : BitVec 80
  /-- what the steered rate has left below one fraction unit, in 10^−12 of one (R35) -/
  rateAcc : Int
  /-- the model's own counter of free values used (log 1) -/
  free : Nat
  /-- the model's own record of the data the last read returned to its requester -/
  rdata : Nat
  /-- the model's own record of what the module has sent, oldest first (log 6) -/
  outs : List Out
  /-- BAR0 registers by address (R13); an unlisted one reads as its reset value -/
  regs : List (Nat × Word)
  /-- words of the window tables by tabKey (R26) -/
  tabs : List (Nat × Word)
  /-- 48-bit counters by the address of their LO register (R186, R335) -/
  cnts : List (Nat × Nat)
  /-- the tick at which each running time limit began, by timer key (log 5) -/
  timers : List (Nat × Nat)
  /-- the MSI-X table by word index (R550) -/
  msix : List (Nat × Word)
  /-- the MSI-X pending bits (R550) -/
  pba : BitVec 256
  /-- the vectors that are asserted (R30) -/
  inInt : BitVec 256
  /-- the power domains (R465–R474) -/
  pds : List (Nat × PdRec)
  /-- AVSBus operations, the one in progress first (R473) -/
  avs : List AvsOp
  /-- the entries of the deal table that are not EMPTY (R40) -/
  deals : List Deal
  /-- the stack deals whose members have still to answer (R59) -/
  prepares : List Prepare
  /-- the step offset latched at STEP_CMD.GO (R35) -/
  stepOfs : BitVec 64
  /-- transmit timelines of the carriers (R39) -/
  tls : List (Nat × Timeline)
  /-- lasers and SOAs, what registers do not show -/
  opts : List (Nat × OptRec)
  /-- converters, what registers do not show -/
  cnvs : List (Nat × CnvRec)
  /-- transmit chains, what registers do not show -/
  txds : List (Nat × TxdRec)
  /-- dispersion equalisers and acquisition, what registers do not show -/
  rxfs : List (Nat × RxfRec)
  /-- errors recorded or in handling, oldest first (R509–R513) -/
  errs : List ErrRec
  /-- islands whose reset is in progress (R515) -/
  resetting : List Nat
  /-- calls requested and issued (R521, R522) -/
  calls : CallRec
  /-- a write of INT_STAT, INT_EN or GRP_VECg was completed in this step (R30) -/
  intWrite : Bool
  /-- the fuses (R492, R494, R498); no reset changes them -/
  fuses : Fuses
  /-- bank swaps and cross-fades by page base (R110, R152, R155, R365) -/
  swaps : List (Nat × SwapRec)
  /-- equalised streams by page base, what registers do not show (R138–R157) -/
  rxms : List (Nat × RxmRec)
  /-- the live taps of the equalised streams, by the key of their LIVE table (R139, R159) -/
  taps : List (Nat × Word)
  /-- encoders and decoders of the carriers, what registers do not show (R168, R175, R183, R185) -/
  fecs : List (Nat × FecRec)
  /-- framers, code phases, defects and performance of the streams by stream page (R175, R198–R209) -/
  frs : List (Nat × FrRec)
  /-- the DDR channels, what registers do not show (R414) -/
  ddrs : List (Nat × DdrRec)
  /-- bytes of attached memory by module address; DDR_FILL leaves zeros (R403, R410) -/
  ddrMem : List (Nat × Byte)
  /-- spare rows used of the SRAM macros, by macro (R519) -/
  spares : List (Nat × Nat)
  /-- the suits that are enabled (R213–R230) -/
  suits : List (Nat × SuitRec)
  /-- the protection pairs that are enabled (R231–R235) -/
  pairs : List (Nat × PairRec)
  /-- the hub or leaf function of the carriers (R242–R262) -/
  hubs : List (Nat × HubRec)
  /-- the leaves of the hubs, by module leaf index (R246, R258, R285) -/
  leaves : List (Nat × LeafRec)
  /-- the burst receivers by SCB page (R268–R284) -/
  brxs : List (Nat × BrxRec)
  /-- the key-load paths of the CIPc pages (R299) -/
  cips : List (Nat × CipRec)
  /-- the key slots, by carrier × 512 + slot (R296, R315) -/
  slots : List (Nat × SlotRec)
  /-- the associations, by carrier × 256 + association (R293, R315) -/
  assocs : List (Nat × AssocRec)
  /-- the egress timestamp FIFOs of the ports, oldest first (R333) -/
  stamps : List (Nat × List Stamp)
  /-- the punt queue and the slow path of the classifier (R348) -/
  cls : ClsRec
  /-- the queues (R349, R350) -/
  queues : List (Nat × QueueRec)
  /-- the schedulers and record receivers of the queue sets (R352, R354) -/
  scheds : List (Nat × SchedRec)
  /-- line sensing, what registers do not show (R369–R376) -/
  sns : SnsRec
  /-- the streams of samples, by header byte 3 (R364, R370) -/
  streams : List (Nat × StreamRec)
  /-- the detectors (R367) -/
  dets : List (Nat × DetRec)
  /-- the archive by position (R369) -/
  archs : List (Nat × ArchRec)
  /-- the references of the DPLLs (R382–R386) -/
  refs : List (Nat × RefRec)
  /-- the DPLLs: 0 A, 1 B (R387–R395) -/
  dplls : List (Nat × DpllRec)
  /-- the Velaug ports, what registers do not show (R449–R459) -/
  vlgs : List (Nat × VlgRec)
  /-- the stack function, what registers do not show (R456, R461) -/
  stack : StackRec
  /-- the engines, 64 × cluster + engine (R425–R438) -/
  engs : List (Nat × EngRec)
  /-- the clusters, what registers do not show (R424, R429, R432) -/
  cls8 : List (Nat × ClRec)
  /-- bytes of the engines' memories by BAR2 address (R11, R426; log 8) -/
  engMem : List (Nat × Byte)
  /-- mailbox words on their way, oldest first (R429) -/
  mails : List MailRec
  /-- the boot, what registers do not show (R482–R491) -/
  boot : BootRec
  /-- signing, challenges and the measurement (R494–R499) -/
  sec : SecRec
  /-- bytes of the boot flash written or erased since the module was shipped, by flash address (R489, R491) -/
  flash : List (Nat × Option Byte)
  /-- the offset that the last I²C write transfer carried (R31) -/
  i2c : Nat
  /-- the PERST# pin is low (R536; log 4) -/
  perst : Bool
  deriving DecidableEq, Repr

/-- The module right after reset: every register at its reset value (nothing listed), every domain OFF, no start begun,
no command waiting (R514 power-on; log 4). -/
def State.reset : State :=
  { pending := []
    part := .hq9640C
    phase := .held
    ticks := 0
    now := 0
    rateAcc := 0
    free := 0
    rdata := 0
    outs := []
    regs := []
    tabs := []
    cnts := []
    timers := []
    msix := []
    pba := 0
    inInt := 0
    pds := []
    avs := []
    deals := []
    prepares := []
    stepOfs := 0
    tls := []
    opts := []
    cnvs := []
    txds := []
    rxfs := []
    errs := []
    resetting := []
    calls := {}
    intWrite := false
    fuses := {}
    swaps := []
    rxms := []
    taps := []
    fecs := []
    frs := []
    ddrs := []
    ddrMem := []
    spares := []
    suits := []
    pairs := []
    hubs := []
    leaves := []
    brxs := []
    cips := []
    slots := []
    assocs := []
    stamps := []
    cls := {}
    queues := []
    scheds := []
    sns := {}
    streams := []
    dets := []
    archs := []
    refs := []
    dplls := []
    vlgs := []
    stack := {}
    engs := []
    cls8 := []
    engMem := []
    mails := []
    boot := {}
    sec := {}
    flash := []
    i2c := 0
    perst := true }

end Sys2Proof.Machine
end

