-- ==== Sys2Proof/Machine/Eff.lean ====
section
/-!
DEFINITION. Machine/Eff.lean: the elementary changes of the state, one constructor a field, and programs: a program reads
the state and answers the list of changes it makes. Every command is such a program, so what a step can do at all is
said here once.
-/

namespace Sys2Proof.Machine

/-- A word of the MSI-X table before it is written: masked, everything else 0 (PCI Express; log 7). -/
def msixReset (k : Nat) : Word := if k % 4 = 3 then 1 else 0

/-- The elementary changes of the state. None touches the queue of waiting commands or
the ordering variant. -/
inductive Eff
  | phase (v : Phase)
  | ticks (v : Nat)
  | now (v : BitVec 80)
  | rateAcc (v : Int)
  | free (v : Nat)
  | rdata (v : Nat)
  | outs (v : List Out)
  | regs (k : Nat) (v : Word)
  | tabs (k : Nat) (v : Word)
  | cnts (k : Nat) (v : Nat)
  | timers (k : Nat) (v : Nat)
  | msix (k : Nat) (v : Word)
  | pba (v : BitVec 256)
  | inInt (v : BitVec 256)
  | pds (k : Nat) (v : PdRec)
  | avs (v : List AvsOp)
  | deals (v : List Deal)
  | prepares (v : List Prepare)
  | stepOfs (v : BitVec 64)
  | tls (k : Nat) (v : Timeline)
  | opts (k : Nat) (v : OptRec)
  | cnvs (k : Nat) (v : CnvRec)
  | txds (k : Nat) (v : TxdRec)
  | rxfs (k : Nat) (v : RxfRec)
  | errs (v : List ErrRec)
  | resetting (v : List Nat)
  | calls (v : CallRec)
  | intWrite (v : Bool)
  | fuses (v : Fuses)
  | swaps (k : Nat) (v : SwapRec)
  | rxms (k : Nat) (v : RxmRec)
  | taps (k : Nat) (v : Word)
  | fecs (k : Nat) (v : FecRec)
  | frs (k : Nat) (v : FrRec)
  | ddrs (k : Nat) (v : DdrRec)
  | ddrMem (k : Nat) (v : Byte)
  | spares (k : Nat) (v : Nat)
  | suits (k : Nat) (v : SuitRec)
  | pairs (k : Nat) (v : PairRec)
  | hubs (k : Nat) (v : HubRec)
  | leaves (k : Nat) (v : LeafRec)
  | brxs (k : Nat) (v : BrxRec)
  | cips (k : Nat) (v : CipRec)
  | slots (k : Nat) (v : SlotRec)
  | assocs (k : Nat) (v : AssocRec)
  | stamps (k : Nat) (v : List Stamp)
  | cls (v : ClsRec)
  | queues (k : Nat) (v : QueueRec)
  | scheds (k : Nat) (v : SchedRec)
  | sns (v : SnsRec)
  | streams (k : Nat) (v : StreamRec)
  | dets (k : Nat) (v : DetRec)
  | archs (k : Nat) (v : ArchRec)
  | refs (k : Nat) (v : RefRec)
  | dplls (k : Nat) (v : DpllRec)
  | vlgs (k : Nat) (v : VlgRec)
  | stack (v : StackRec)
  | engs (k : Nat) (v : EngRec)
  | cls8 (k : Nat) (v : ClRec)
  | engMem (k : Nat) (v : Byte)
  | mails (v : List MailRec)
  | boot (v : BootRec)
  | sec (v : SecRec)
  | flash (k : Nat) (v : Option Byte)
  | i2c (v : Nat)
  | perst (v : Bool)

/-- The state after one elementary change. -/
def State.apply (s : State) : Eff → State
  | .phase v => { s with phase := v }
  | .ticks v => { s with ticks := v }
  | .now v => { s with now := v }
  | .rateAcc v => { s with rateAcc := v }
  | .free v => { s with free := v }
  | .rdata v => { s with rdata := v }
  | .outs v => { s with outs := v }
  | .regs k v => { s with regs := SMap.set (regReset) s.regs k v }
  | .tabs k v => { s with tabs := SMap.set (tabReset) s.tabs k v }
  | .cnts k v => { s with cnts := SMap.set (fun _ => 0) s.cnts k v }
  | .timers k v => { s with timers := SMap.set (fun _ => 0) s.timers k v }
  | .msix k v => { s with msix := SMap.set (msixReset) s.msix k v }
  | .pba v => { s with pba := v }
  | .inInt v => { s with inInt := v }
  | .pds k v => { s with pds := SMap.set (fun _ => {}) s.pds k v }
  | .avs v => { s with avs := v }
  | .deals v => { s with deals := v }
  | .prepares v => { s with prepares := v }
  | .stepOfs v => { s with stepOfs := v }
  | .tls k v => { s with tls := SMap.set (fun _ => {}) s.tls k v }
  | .opts k v => { s with opts := SMap.set (fun _ => {}) s.opts k v }
  | .cnvs k v => { s with cnvs := SMap.set (fun _ => {}) s.cnvs k v }
  | .txds k v => { s with txds := SMap.set (fun _ => {}) s.txds k v }
  | .rxfs k v => { s with rxfs := SMap.set (fun _ => {}) s.rxfs k v }
  | .errs v => { s with errs := v }
  | .resetting v => { s with resetting := v }
  | .calls v => { s with calls := v }
  | .intWrite v => { s with intWrite := v }
  | .fuses v => { s with fuses := v }
  | .swaps k v => { s with swaps := SMap.set (fun _ => {}) s.swaps k v }
  | .rxms k v => { s with rxms := SMap.set (fun _ => {}) s.rxms k v }
  | .taps k v => { s with taps := SMap.set (fun _ => 0) s.taps k v }
  | .fecs k v => { s with fecs := SMap.set (fun _ => {}) s.fecs k v }
  | .frs k v => { s with frs := SMap.set (fun _ => {}) s.frs k v }
  | .ddrs k v => { s with ddrs := SMap.set (fun _ => {}) s.ddrs k v }
  | .ddrMem k v => { s with ddrMem := SMap.set (fun _ => 0) s.ddrMem k v }
  | .spares k v => { s with spares := SMap.set (fun _ => 0) s.spares k v }
  | .suits k v => { s with suits := SMap.set (fun _ => {}) s.suits k v }
  | .pairs k v => { s with pairs := SMap.set (fun _ => {}) s.pairs k v }
  | .hubs k v => { s with hubs := SMap.set (fun _ => {}) s.hubs k v }
  | .leaves k v => { s with leaves := SMap.set (fun _ => {}) s.leaves k v }
  | .brxs k v => { s with brxs := SMap.set (fun _ => {}) s.brxs k v }
  | .cips k v => { s with cips := SMap.set (fun _ => {}) s.cips k v }
  | .slots k v => { s with slots := SMap.set (fun _ => {}) s.slots k v }
  | .assocs k v => { s with assocs := SMap.set (fun _ => {}) s.assocs k v }
  | .stamps k v => { s with stamps := SMap.set (fun _ => []) s.stamps k v }
  | .cls v => { s with cls := v }
  | .queues k v => { s with queues := SMap.set (fun _ => {}) s.queues k v }
  | .scheds k v => { s with scheds := SMap.set (fun _ => {}) s.scheds k v }
  | .sns v => { s with sns := v }
  | .streams k v => { s with streams := SMap.set (fun _ => {}) s.streams k v }
  | .dets k v => { s with dets := SMap.set (fun _ => {}) s.dets k v }
  | .archs k v => { s with archs := SMap.set (fun _ => {}) s.archs k v }
  | .refs k v => { s with refs := SMap.set (fun _ => {}) s.refs k v }
  | .dplls k v => { s with dplls := SMap.set (fun _ => {}) s.dplls k v }
  | .vlgs k v => { s with vlgs := SMap.set (fun _ => {}) s.vlgs k v }
  | .stack v => { s with stack := v }
  | .engs k v => { s with engs := SMap.set (fun _ => {}) s.engs k v }
  | .cls8 k v => { s with cls8 := SMap.set (fun _ => {}) s.cls8 k v }
  | .engMem k v => { s with engMem := SMap.set (fun _ => 0) s.engMem k v }
  | .mails v => { s with mails := v }
  | .boot v => { s with boot := v }
  | .sec v => { s with sec := v }
  | .flash k v => { s with flash := SMap.set (fun _ => none) s.flash k v }
  | .i2c v => { s with i2c := v }
  | .perst v => { s with perst := v }

/-- The state after a list of changes, in order. -/
def State.applyAll (s : State) : List Eff → State
  | [] => s
  | e :: es => (s.apply e).applyAll es

/-- A program: from the state, the changes it makes. -/
abbrev Prog := State → List Eff

/-- The program that changes nothing. -/
def skip : Prog := fun _ => []

/-- Programs one after another, each in the state the ones before it left. -/
def seqs : List Prog → Prog
  | [] => skip
  | p :: ps => fun s => p s ++ seqs ps (s.applyAll (p s))

/-- A program run when a condition of the state holds. -/
def whenP (b : State → Bool) (p : Prog) : Prog := fun s => if b s then p s else []

/-- One of two programs. -/
def iteP (b : State → Bool) (p q : Prog) : Prog := fun s => if b s then p s else q s

/-- A program built from the state it starts in. -/
def withP (f : State → Prog) : Prog := fun s => f s s

/-- A program for each element of a list, in order. -/
def forP {α : Type} (l : List α) (p : α → Prog) : Prog := seqs (l.map p)

/-- Reads `regs`: BAR0 registers by address (R13); an unlisted one reads as its reset value. -/
def State.reg (s : State) (k : Nat) : Word := SMap.get (regReset) s.regs k

/-- Reads `tabs`: words of the window tables by tabKey (R26). -/
def State.tab (s : State) (k : Nat) : Word := SMap.get (tabReset) s.tabs k

/-- Reads `cnts`: 48-bit counters by the address of their LO register (R186, R335). -/
def State.cnt (s : State) (k : Nat) : Nat := SMap.get (fun _ => 0) s.cnts k

/-- Reads `timers`: the tick at which each running time limit began, by timer key (log 5). -/
def State.timer (s : State) (k : Nat) : Nat := SMap.get (fun _ => 0) s.timers k

/-- Reads `msix`: the MSI-X table by word index (R550). -/
def State.msixWord (s : State) (k : Nat) : Word := SMap.get (msixReset) s.msix k

/-- Reads `pds`: the power domains (R465–R474). -/
def State.pd (s : State) (k : Nat) : PdRec := SMap.get (fun _ => {}) s.pds k

/-- Reads `tls`: transmit timelines of the carriers (R39). -/
def State.tl (s : State) (k : Nat) : Timeline := SMap.get (fun _ => {}) s.tls k

/-- Reads `opts`: lasers and SOAs, what registers do not show. -/
def State.opt (s : State) (k : Nat) : OptRec := SMap.get (fun _ => {}) s.opts k

/-- Reads `cnvs`: converters, what registers do not show. -/
def State.cnv (s : State) (k : Nat) : CnvRec := SMap.get (fun _ => {}) s.cnvs k

/-- Reads `txds`: transmit chains, what registers do not show. -/
def State.txd (s : State) (k : Nat) : TxdRec := SMap.get (fun _ => {}) s.txds k

/-- Reads `rxfs`: dispersion equalisers and acquisition, what registers do not show. -/
def State.rxf (s : State) (k : Nat) : RxfRec := SMap.get (fun _ => {}) s.rxfs k

/-- Reads `swaps`: bank swaps and cross-fades by page base (R110, R152, R155, R365). -/
def State.swap (s : State) (k : Nat) : SwapRec := SMap.get (fun _ => {}) s.swaps k

/-- Reads `rxms`: equalised streams by page base, what registers do not show (R138–R157). -/
def State.rxm (s : State) (k : Nat) : RxmRec := SMap.get (fun _ => {}) s.rxms k

/-- Reads `taps`: the live taps of the equalised streams, by the key of their LIVE table (R139, R159). -/
def State.tap (s : State) (k : Nat) : Word := SMap.get (fun _ => 0) s.taps k

/-- Reads `fecs`: encoders and decoders of the carriers, what registers do not show (R168, R175, R183, R185). -/
def State.fec (s : State) (k : Nat) : FecRec := SMap.get (fun _ => {}) s.fecs k

/-- Reads `frs`: framers, code phases, defects and performance of the streams by stream page (R175, R198–R209). -/
def State.fr (s : State) (k : Nat) : FrRec := SMap.get (fun _ => {}) s.frs k

/-- Reads `ddrs`: the DDR channels, what registers do not show (R414). -/
def State.ddr (s : State) (k : Nat) : DdrRec := SMap.get (fun _ => {}) s.ddrs k

/-- Reads `ddrMem`: bytes of attached memory by module address; DDR_FILL leaves zeros (R403, R410). -/
def State.ddrByte (s : State) (k : Nat) : Byte := SMap.get (fun _ => 0) s.ddrMem k

/-- Reads `spares`: spare rows used of the SRAM macros, by macro (R519). -/
def State.spare (s : State) (k : Nat) : Nat := SMap.get (fun _ => 0) s.spares k

/-- Reads `suits`: the suits that are enabled (R213–R230). -/
def State.suit (s : State) (k : Nat) : SuitRec := SMap.get (fun _ => {}) s.suits k

/-- Reads `pairs`: the protection pairs that are enabled (R231–R235). -/
def State.pair (s : State) (k : Nat) : PairRec := SMap.get (fun _ => {}) s.pairs k

/-- Reads `hubs`: the hub or leaf function of the carriers (R242–R262). -/
def State.hub (s : State) (k : Nat) : HubRec := SMap.get (fun _ => {}) s.hubs k

/-- Reads `leaves`: the leaves of the hubs, by module leaf index (R246, R258, R285). -/
def State.leafRec (s : State) (k : Nat) : LeafRec := SMap.get (fun _ => {}) s.leaves k

/-- Reads `brxs`: the burst receivers by SCB page (R268–R284). -/
def State.brx (s : State) (k : Nat) : BrxRec := SMap.get (fun _ => {}) s.brxs k

/-- Reads `cips`: the key-load paths of the CIPc pages (R299). -/
def State.cip (s : State) (k : Nat) : CipRec := SMap.get (fun _ => {}) s.cips k

/-- Reads `slots`: the key slots, by carrier × 512 + slot (R296, R315). -/
def State.slot (s : State) (k : Nat) : SlotRec := SMap.get (fun _ => {}) s.slots k

/-- Reads `assocs`: the associations, by carrier × 256 + association (R293, R315). -/
def State.assoc (s : State) (k : Nat) : AssocRec := SMap.get (fun _ => {}) s.assocs k

/-- Reads `stamps`: the egress timestamp FIFOs of the ports, oldest first (R333). -/
def State.stamp (s : State) (k : Nat) : List Stamp := SMap.get (fun _ => []) s.stamps k

/-- Reads `queues`: the queues (R349, R350). -/
def State.queue (s : State) (k : Nat) : QueueRec := SMap.get (fun _ => {}) s.queues k

/-- Reads `scheds`: the schedulers and record receivers of the queue sets (R352, R354). -/
def State.sched (s : State) (k : Nat) : SchedRec := SMap.get (fun _ => {}) s.scheds k

/-- Reads `streams`: the streams of samples, by header byte 3 (R364, R370). -/
def State.stream (s : State) (k : Nat) : StreamRec := SMap.get (fun _ => {}) s.streams k

/-- Reads `dets`: the detectors (R367). -/
def State.det (s : State) (k : Nat) : DetRec := SMap.get (fun _ => {}) s.dets k

/-- Reads `archs`: the archive by position (R369). -/
def State.arch (s : State) (k : Nat) : ArchRec := SMap.get (fun _ => {}) s.archs k

/-- Reads `refs`: the references of the DPLLs (R382–R386). -/
def State.ref (s : State) (k : Nat) : RefRec := SMap.get (fun _ => {}) s.refs k

/-- Reads `dplls`: the DPLLs: 0 A, 1 B (R387–R395). -/
def State.dpll (s : State) (k : Nat) : DpllRec := SMap.get (fun _ => {}) s.dplls k

/-- Reads `vlgs`: the Velaug ports, what registers do not show (R449–R459). -/
def State.vlg (s : State) (k : Nat) : VlgRec := SMap.get (fun _ => {}) s.vlgs k

/-- Reads `engs`: the engines, 64 × cluster + engine (R425–R438). -/
def State.eng (s : State) (k : Nat) : EngRec := SMap.get (fun _ => {}) s.engs k

/-- Reads `cls8`: the clusters, what registers do not show (R424, R429, R432). -/
def State.cl (s : State) (k : Nat) : ClRec := SMap.get (fun _ => {}) s.cls8 k

/-- Reads `engMem`: bytes of the engines' memories by BAR2 address (R11, R426; log 8). -/
def State.engByte (s : State) (k : Nat) : Byte := SMap.get (fun _ => 0) s.engMem k

/-- Reads `flash`: bytes of the boot flash written or erased since the module was shipped, by flash address (R489, R491). -/
def State.flashAt (s : State) (k : Nat) : Option Byte := SMap.get (fun _ => none) s.flash k

end Sys2Proof.Machine
end

