-- ==== Sys2Proof/Machine/Ops.lean ====
section
/-!
DEFINITION. Machine/Ops.lean: the named operations that every block shares: reading and writing fields, counted refusals
(R17, R23), free values, running time limits, and the conditions under which a page answers (R3, R16, R20, R21).
-/

namespace Sys2Proof.Machine

/-! ### Fields and registers -/

/-- The value of a field of the page at base `b`. -/
def State.fg (s : State) (b : Nat) (f : Fld) : Nat := bitsGet (s.reg (b + f.off)) f.lo f.w

/-- A one-bit field of the page at base `b`. -/
def State.fb (s : State) (b : Nat) (f : Fld) : Bool := s.fg b f != 0

/-- Sets a field of the page at base `b`. -/
def fset (b : Nat) (f : Fld) (x : Nat) : Prog := fun s => [.regs (b + f.off) (bitsPut (s.reg (b + f.off)) f.lo f.w x)]

/-- Sets a field to a value computed from the state. -/
def fsetF (b : Nat) (f : Fld) (x : State → Nat) : Prog := fun s => fset b f (x s) s

/-- Sets a one-bit field. -/
def fbset (b : Nat) (f : Fld) (x : Bool) : Prog := fset b f (b2n x)

/-- Writes a register. -/
def rset (a : Nat) (v : Word) : Prog := fun _ => [.regs a v]

/-- Adds to a field that saturates. -/
def fincSat (b : Nat) (f : Fld) (n : Nat) : Prog := fun s => fset b f (satAdd f.w (s.fg b f) n) s

/-- Adds to a field that wraps. -/
def fincWrap (b : Nat) (f : Fld) (n : Nat) : Prog := fun s => fset b f ((s.fg b f + n) % 2 ^ f.w) s

/-- Returns a register to its reset value. -/
def rclear (a : Nat) : Prog := fun _ => [.regs a (regReset a)]

/-- Adds to a 48-bit counter, which saturates (R186, R335). -/
def cntAdd (lo n : Nat) : Prog := fun s => [.cnts lo (satAdd 48 (s.cnt lo) n)]

/-! ### Free values and time limits -/

/-- The free value that stands next. -/
def State.freeW (s : State) : Word := Config.freeWord s.free

/-- A program that uses one free value (log 1). -/
def withFree (f : Word → Prog) : Prog := fun s => .free (s.free + 1) :: f s.freeW (s.apply (.free (s.free + 1)))

/-- Begins a time limit. -/
def timerStart (k : Nat) : Prog := fun s => [.timers k (s.ticks + 1)]

/-- Ends a time limit. -/
def timerStop (k : Nat) : Prog := fun _ => [.timers k 0]

/-- A time limit is running. -/
def State.running (s : State) (k : Nat) : Bool := s.timer k != 0

/-- Nanoseconds since a time limit began (R62: limits run on the module's own clock, not on device time). -/
def State.elapsed (s : State) (k : Nat) : Nat := s.ticks + 1 - s.timer k

/-- A running limit has reached its length in nanoseconds. -/
def State.expired (s : State) (k ns : Nat) : Bool := s.running k && decide (ns ≤ s.elapsed k)

/-- The DPL page. -/
def dpb : Nat := pageBase .dpl 0

/-- The control value of a DPLL, in 10^−12 (R390). -/
def State.ffo (s : State) (i : Nat) : Int := (s.reg (dpb + DPL.D_FFO i)).toInt

/-- The rate of device time against the module's own clock, in 10^−12: DPLL-B's control value and its slew (R381). -/
def State.timeRate (s : State) : Int :=
  let slope : Int := s.fg dpb (DPL.D_SLOPE_NS_S 1) * 1000
  s.ffo 1 + (if s.fb dpb (DPL.D_STAT_SLEWING 1) then (if (s.dpll 1).slew < 0 then -slope else slope) else 0)

/-- The module's own clock runs for `n` ns, and device time with it at its rate, but in reset and in wake-only
(R35, R62; log 5). -/
def clockBy (n : Nat) : Prog := fun s =>
  let acc := s.rateAcc + n * (65536 * s.timeRate)
  if s.phase = .held ∨ s.phase = .wakeOnly then [.ticks (s.ticks + n)] else
  [.ticks (s.ticks + n), .rateAcc (acc % 1000000000000),
   .now (s.now + BitVec.ofInt 80 (n * 65536 + acc / 1000000000000))]

/-- An event that happens at a tick brings the clock there, if it has not passed it (log 5). -/
def clockTo (t : Nat) : Prog := fun s => if t ≤ s.ticks then [] else clockBy (t - s.ticks) s

/-- Brings the clock to a device time in nanoseconds that it has not reached. -/
def deviceTo (ns : Nat) : Prog :=
  let near : Prog := fun s => clockTo (s.ticks + (ns - (s.now.extractLsb' 16 64).toNat)) s
  seqs [near, near, near, near]

/-- The expiry of a time limit of a length in nanoseconds brings the clock to its end. -/
def clockEnd (k ns : Nat) : Prog := fun s => if s.running k then clockTo (s.timer k + ns - 1) s else []

/-- Device time in whole nanoseconds (R33). -/
def State.nowNs (s : State) : BitVec 64 := s.now.extractLsb' 16 64

/-! ### Counted refusals (R17, R23, R29) -/

/-- Counts an error of a page: ERR_CNT saturates, ERR_LAST names the offset, the requester and the code. -/
def errPage (b off src code : Nat) : Prog := fun s =>
  [.regs (b + oERR_CNT) (BitVec.ofNat 32 (satAdd 32 (s.reg (b + oERR_CNT)).toNat 1)),
   .regs (b + oERR_LAST) (BitVec.ofNat 32 (off % 0x1000 * 2 ^ 20 + src % 256 * 2 ^ 8 + code))]

/-- The owner ID that a block itself shows in ERR_LAST.SRC when no requester made the access (NONE, R24). -/
def srcNone : Nat := 0

/-- Common error codes (R23). -/
def cNOT_OWNER : Nat := 1
def cSUBWORD : Nat := 2
def cRO_WRITE : Nat := 3
def cSRST_REFUSED : Nat := 4
def cWINDOW_RANGE : Nat := 5
def cPAGE_OFF : Nat := 6
def cNOT_STAGEABLE : Nat := 7
def cUNMAPPED : Nat := 8
def cNOT_STAGING : Nat := 9
def cSRST_BUSY : Nat := 0xA
def cLOCK_BROKEN : Nat := 0xB

/-! ### When a page answers (R3, R16, R20, R21) -/

/-- A page's base. -/
def Page.base (p : Page) : Nat := pageBase p.kind p.inst

/-- The state of a power domain: 0 OFF, 1 RET, 2 ON; the always-on island reads 2 (R17). -/
def State.pdSt (s : State) (d : Nat) : Nat := if d = 0xFF then 2 else (s.pd d).st

/-- A power domain is ON. -/
def State.pdOn (s : State) (d : Nat) : Bool := s.pdSt d == 2

/-- The carrier that a page belongs to, for the pages of carriers. -/
def pageCarrier (p : Page) : Option Nat :=
  match p.kind with
  | .opt | .cnv | .txd | .rxf | .rxm | .fec | .lfr | .cip => some p.inst
  | .scb => some (p.inst / 64)
  | _ => none

/-- The block is populated: carriers 2 and 3 are absent from the HQ9620-C (R3). -/
def State.present (s : State) (p : Page) : Bool :=
  match pageCarrier p with
  | some c => decide (c < 2) || s.part != .hq9620C
  | none => true

/-- The clock island of a page is being reset, or stays in reset as failed (R515, R518). -/
def State.islandDown (s : State) (i : Nat) : Bool :=
  s.resetting.contains i || bitOf (s.reg (pageBase .err 0 + ERR.ISL_FAILED)).toNat i

/-- The page's block-specific registers answer: its domain is ON and its island out of reset (R16). -/
def State.pageOn (s : State) (p : Page) : Bool := s.pdOn (pagePd p) && !s.islandDown (pageIsland p)

/-- A soft reset of the page is in progress (R20). -/
def State.srstBusy (s : State) (b : Nat) : Bool := s.fb b PAGE_STAT_SRST_BUSY

/-- PAGE_CTL.EN (R21). -/
def State.pageEn (s : State) (b : Nat) : Bool := s.fb b PAGE_CTL_EN

/-- The block may run: present, powered, out of reset and enabled (R21). -/
def State.live (s : State) (p : Page) : Bool :=
  s.present p && s.pageOn p && s.pageEn p.base && !s.srstBusy p.base

/-- PAGE_STAT as it reads (R17). -/
def State.pageStat (s : State) (p : Page) : Word :=
  BitVec.ofNat 32 (s.pdSt (pagePd p) * 16 + b2n (s.fg p.base OWNER_ID != 0) * 8
    + s.fg p.base PAGE_STAT_SNAP_STALE * 4 + b2n (s.srstBusy p.base) * 2 + b2n (s.live p))

end Sys2Proof.Machine
end

