-- ==== Sys2Proof/Machine/Flags.lean ====
section
/-!
DEFINITION. Machine/Flags.lean: event bits and interrupts: how INT_STAT bits set and clear (R17, R21, R22), the access
counter of MGT with its event (R29), the groups, vectors and messages (R28, R30, R550), and what follows every command.
-/

namespace Sys2Proof.Machine

/-! ### Events (R17, R21, R22) -/

/-- Sets bit `n` of the page's INT_STAT; the first bit since INT_STAT was all zero is named in INT_FIRST. -/
def raise (b n : Nat) : Prog := fun s =>
  let st := s.reg (b + oINT_STAT)
  .regs (b + oINT_STAT) (st ||| BitVec.ofNat 32 (2 ^ n)) ::
    (if st = 0 then [.regs (b + oINT_FIRST) (BitVec.ofNat 32 (0x80000000 + n))] else [])

/-- Sets several bits at one instant: the lowest is named first. -/
def raises (b : Nat) (w : Word) : Prog :=
  forP ((List.range 32).filter (bitOf w.toNat)) (raise b)

/-- Clears INT_STAT bits (W1C); INT_FIRST clears when INT_STAT becomes all zero. -/
def clearInt (b : Nat) (v : Word) : Prog := fun s =>
  let st := s.reg (b + oINT_STAT) &&& ~~~v
  .regs (b + oINT_STAT) st :: (if st = 0 then [.regs (b + oINT_FIRST) 0] else [])

/-- Counts an access in MGT.BAD_ACC_CNT, with its address, and sets BAD_ACCESS, also once saturated (R29). -/
def badAcc (bar2 : Bool) (a : Nat) : Prog :=
  seqs [fincSat 0 MGT.BAD_ACC_CNT_COUNT 1,
    rset MGT.BAD_ACC_ADDR (BitVec.ofNat 32 (b2n bar2 * 2 ^ 31 + a % 2 ^ 26)),
    raise 0 0]

/-! ### Interrupt groups (R28, R30) -/

/-- The pages that are pending: group and bit of each (R28). -/
def State.pendingPages (s : State) : List (Nat × Nat) :=
  s.regs.filterMap fun e =>
    if e.1 % 0x1000 = oINT_STAT ∧ e.2 &&& s.reg (e.1 + 4) ≠ 0 then (pageAt e.1).map pageGroup else none

/-- ERR.PEND_Gg as it reads (R28). -/
def State.pendG (s : State) (g : Nat) : Word :=
  (s.pendingPages.filter fun e => e.1 == g).foldl (fun w e => w ||| BitVec.ofNat 32 (2 ^ e.2)) 0

/-- MGT.INT_SUM as it reads (R28). -/
def State.intSum (s : State) : Word :=
  s.pendingPages.foldl (fun w e => w ||| BitVec.ofNat 32 (2 ^ e.1)) 0

/-- INT_N is driven low (R30). -/
def State.intN (s : State) : Bool := (s.intSum &&& s.reg MGT.INTN_EN) != 0

/-- The vectors that are asserted: some enabled group routed to the vector is non-zero (R30). -/
def State.asserted (s : State) : BitVec 256 :=
  (List.range 18).foldl (fun m g =>
    if bitOf s.intSum.toNat g ∧ s.fb (pageBase .err 0) (ERR.GRP_VEC_EN g)
    then m ||| BitVec.ofNat 256 (2 ^ s.fg (pageBase .err 0) (ERR.GRP_VEC_VEC g)) else m) 0

/-- The message of a vector, from its entry of the MSI-X table (R550). -/
def State.msixOut (s : State) (v : Nat) : Out :=
  .msix v (((s.msixWord (4 * v + 1)).zeroExtend 64 <<< 32) ||| (s.msixWord (4 * v)).zeroExtend 64) (s.msixWord (4 * v + 2))

/-- A vector is masked in its table entry. -/
def State.msixMasked (s : State) (v : Nat) : Bool := (s.msixWord (4 * v + 3)).getLsbD 0

/-- Sends what a program puts out. -/
def emit (o : Out) : Prog := fun s => [.outs (s.outs ++ [o])]

/-- Sends the message of a vector, or sets its pending bit while it is masked (R30). -/
def sendVec (v : Nat) : Prog := fun s =>
  if s.msixMasked v then [.pba (s.pba ||| BitVec.ofNat 256 (2 ^ v))] else emit (s.msixOut v) s

/-- What follows every command: vectors that became asserted send their messages, and after a completed write of
INT_STAT, INT_EN or GRP_VECg so does every vector that stays asserted (R30). -/
def settle : Prog := fun s =>
  let now := s.asserted
  let go := now &&& ~~~ (if s.intWrite then 0 else s.inInt)
  seqs [fun _ => [.inInt now, .intWrite false], forP ((List.range 256).filter (bitOf go.toNat)) sendVec] s

/-- The state after a program. -/
def State.did (s : State) (p : Prog) : State := s.applyAll (p s)

/-- The state once the messages that it calls for have been sent. -/
def State.settled (s : State) : State := s.did settle

/-- Runs a command's program and what follows it. -/
def run (p : Prog) (s : State) : Host.Outcome State Fault Refusal := .next (s.did p).settled

end Sys2Proof.Machine
end

