-- ==== Sys2Proof/Machine/Operands.lean ====
section
/-!
DEFINITION. Machine/Operands.lean: the operand forms of register accesses: who writes, which fields a write sets, and
the ranges outside of which a field's value is unpredictable (R6, R7, R525).
-/

namespace Sys2Proof.Machine

/-- A field and the least and greatest value that the spec defines for it. -/
structure Lim where
  f : Fld
  lo : Nat
  hi : Nat
  deriving DecidableEq, Repr

/-- A word written to the limit's register holds a value outside the limit. -/
def Lim.bad (l : Lim) (v : Word) : Bool := decide (bitsGet v l.f.lo l.f.w < l.lo ∨ l.hi < bitsGet v l.f.lo l.f.w)

/-- The value a register takes by a plain write: the writable bits change (R13, R17). -/
def RegRow.merge (r : RegRow) (old v : Word) : Word := (old &&& ~~~ r.rw) ||| (v &&& r.rw)

/-- A plain write of a register: each writable field takes the written value; a field written outside its limits takes
a free value (R7, R525; log 1). -/
def plainWrite (b : Nat) (r : RegRow) (lims : List Lim) (v : Word) : Prog := fun s =>
  let bad := lims.filter fun l => l.f.off == r.off && l.bad v
  if bad.isEmpty then rset (b + r.off) (r.merge (s.reg (b + r.off)) v) s
  else withFree (fun w => rset (b + r.off)
    (r.merge (s.reg (b + r.off)) (bad.foldl (fun x l => bitsPut x l.f.lo l.f.w (bitsGet w l.f.lo l.f.w)) v))) s

/-- A field that a write would change. -/
def wrote (v : Word) (f : Fld) : Nat := bitsGet v f.lo f.w

/-- A one-bit field of a written word. -/
def wroteB (v : Word) (f : Fld) : Bool := bitsGet v f.lo f.w != 0

end Sys2Proof.Machine
end

