-- ==== Sys2Proof/Machine/Err.lean ====
section
/-!
DEFINITION. Machine/Err.lean: reporting errors (R506–R513), classifying them (R519) and requesting calls (R521, R522).
Every block reports and requests through these operations.
-/

namespace Sys2Proof.Machine

/-- The base of ERR. -/
def eb : Nat := pageBase .err 0
/-- The base of SNAP. -/
def snb : Nat := pageBase .snap 0
/-- The base of VLG0, whose registers hold the stack function. -/
def vb0 : Nat := pageBase .vlg 0

/-- A detected error before it is entered (R508, R527). -/
structure ErrIn where
  src : Nat
  cls : Nat
  test : Nat
  island : Nat
  page : Nat
  addr : Nat := 0
  unit : Nat := 0xFF
  loc : Nat := 0
  deriving DecidableEq, Repr

/-! ### Source codes, classes and tests (R506, R508, R519) -/

def eSRAM_CE : Nat := 0x01
def eSRAM_UE : Nat := 0x02
def eESRAM_CE : Nat := 0x03
def eESRAM_UE : Nat := 0x04
def eDDR_CE : Nat := 0x05
def eDDR_UE : Nat := 0x06
def eDDR_UE_FREE : Nat := 0x07
def eCIP_PARITY : Nat := 0x08
def eFEC_PARITY : Nat := 0x09
def eCNV_CLK : Nat := 0x0A
def eENG_FAULT : Nat := 0x0B
def eFIFO_PARITY : Nat := 0x0C
def eSPARE_OUT : Nat := 0x0D
def eAVS_FAIL : Nat := 0x0E
def eTHERMAL : Nat := 0x0F
def eWATCHDOG : Nat := 0x10

/-- The class of a source: 0 INFO, 1 CORRECTED, 2 DEGRADED, 3 ISLAND_FATAL, 4 DEVICE_FATAL (R508). -/
def errClass (src : Nat) : Nat :=
  if src = eSRAM_CE ∨ src = eESRAM_CE ∨ src = eDDR_CE then 1
  else if src = eSRAM_UE ∨ src = eESRAM_UE ∨ src = eDDR_UE then 3
  else if src = eENG_FAULT then 0
  else if src = eWATCHDOG then 4
  else 2

/-- The targeted test of a source: 0 NONE, 1 WORD, 2 ROW, 3 KAT, 4 FEC_TV, 5 ENG_CHECK, 6 CNV_CHECK (R508, R519). -/
def errTest (src : Nat) : Nat :=
  if src = eSRAM_CE ∨ src = eSRAM_UE ∨ src = eESRAM_CE then 1
  else if src = eESRAM_UE then 5
  else if src = eDDR_CE ∨ src = eDDR_UE ∨ src = eDDR_UE_FREE then 2
  else if src = eCIP_PARITY then 3
  else if src = eFEC_PARITY then 4
  else if src = eCNV_CLK then 6
  else 0

/-- The test's busy limit has its own timer, one an error (R519). -/
def errTimer (seq : Nat) : Nat := 2 ^ 40 + seq

/-! ### Calls requested (R521, R522) -/

/-- Call sources, bits of CALL_SRC (R521). -/
def cREG : Nat := 0
def cDEAL : Nat := 1
def cCALLIN : Nat := 2
def cSNS : Nat := 3
def cERR : Nat := 4
def cDEALER : Nat := 5
def cMEMBER : Nat := 6

/-- The log entry of the newest call (R529): the key of word `w`. -/
def logKey (s : State) (w : Nat) : Nat := tabKey snb 0 (s.fg snb SNAP.CALL_CNT_COUNT % 64) w

/-- A request joins the call issued at most 1 µs ago: its source bits are added and MERGE_CNT rises (R522). -/
def callJoin (srcs : Nat) : Prog := fun s =>
  seqs [match s.calls.ahead.getLast? with
      | some q => fun _ => [.calls { s.calls with ahead := s.calls.ahead.map fun r => if r = q then { r with srcs := r.srcs ||| srcs } else r }]
      | none => fun _ => [.tabs (logKey s 0) (s.tab (logKey s 0) ||| BitVec.ofNat 32 (srcs * 2 ^ 16))],
    fincSat snb SNAP.MERGE_CNT_COUNT 1] s

/-- A call was issued at most 1 µs ago. -/
def State.callRecent (s : State) : Bool :=
  match s.calls.lastTick with
  | some t => decide (s.ticks ≤ t + 1000)
  | none => false

/-- The module is a JOINED member whose calls go to the dealer (R456). -/
def State.callUp (s : State) : Bool :=
  s.fg vb0 VLG.STACK_STAT_STATE == 1 && s.fb vb0 VLG.STACK_CFG_CALL_UP

/-- A call is requested from an enabled source: it joins a recent call, goes to the dealer as CALL_REQ, or waits for
the issue (R521, R522, R456). -/
def wantCall (src : Nat) : Prog := fun s =>
  if !bitOf (s.fg snb SNAP.SRC_EN_SRC) src then []
  else if s.callUp && decide (src < cDEALER) then emit (.ctl (s.fg vb0 VLG.STACK_STAT_DEALER_PORT) 12 []) s
  else if s.callRecent then callJoin (2 ^ src) s
  else [.calls { s.calls with want := s.calls.want ||| 2 ^ src }]

/-! ### The queues (R509–R513) -/

/-- Errors of an island whose handling is not complete (R510). -/
def State.openErrs (s : State) (i : Nat) : List ErrRec := s.errs.filter fun e => e.island == i && !e.handled

/-- ISL_BUSY as it reads (R510). -/
def State.islBusy (s : State) : Word :=
  (s.errs.filter fun e => !e.handled).foldl (fun w e => w ||| BitVec.ofNat 32 (2 ^ e.island)) 0

/-- ISL_QPEND as it reads. -/
def State.islQpend (s : State) : Word :=
  (s.errs.filter fun e => e.shown).foldl (fun w e => w ||| BitVec.ofNat 32 (2 ^ e.island)) 0

/-- The records of an island's queue, oldest first. -/
def State.queueOf (s : State) (i : Nat) : List ErrRec := s.errs.filter fun e => e.island == i && e.shown

/-- The seven words of a record (R527). -/
def ErrRec.word (e : ErrRec) (w : Nat) : Word :=
  match w with
  | 0 => BitVec.ofNat 32 (2 ^ 31 + e.cls * 2 ^ 28 + e.orig * 2 ^ 25 + b2n e.esc * 2 ^ 24 + e.src * 2 ^ 16
      + e.test * 2 ^ 12 + e.result * 2 ^ 10 + b2n e.remapped * 2 ^ 9 + b2n e.resetDone * 2 ^ 8)
  | 1 => BitVec.ofNat 32 e.page
  | 2 => BitVec.ofNat 32 e.addr
  | 3 => BitVec.ofNat 32 (e.unit * 2 ^ 24 + e.addr / 2 ^ 32 % 512)
  | 4 => e.time.extractLsb' 0 32
  | 5 => e.time.extractLsb' 32 32
  | 6 => BitVec.ofNat 32 (e.rel * 2 ^ 16 + e.seq)
  | _ => 0

/-- Whether an error escalates: CORRECTED or DEGRADED, in an island that holds an unhandled error of no higher class
(R511). -/
def State.escalates (s : State) (e : ErrIn) : Bool :=
  (e.cls == 1 || e.cls == 2) && (s.openErrs e.island).any fun o => decide (o.cls ≤ e.cls)

/-- The effective class: one higher when escalated; ISLAND_FATAL of MGT, TIME or AON is DEVICE_FATAL (R507, R511). -/
def State.effClass (s : State) (e : ErrIn) : Nat :=
  let c := if s.escalates e then e.cls + 1 else e.cls
  if c = 3 ∧ (e.island = 19 ∨ e.island = 21 ∨ e.island = 24) then 4 else c

/-- The record of an error as it is entered. -/
def State.errRec (s : State) (e : ErrIn) : ErrRec :=
  let eff := s.effClass e
  { seq := s.fg eb ERR.SEQ_NEXT, cls := eff, orig := e.cls, esc := s.escalates e, src := e.src, test := e.test,
    result := if e.test = 0 then 3 else 0, page := e.page, addr := e.addr, unit := e.unit, time := s.nowNs,
    rel := match (s.errs.filter fun o => o.loc == e.loc && e.loc != 0).getLast? with
      | some o => o.seq
      | none => 0xFFFF,
    handled := eff == 0 || (decide (eff < 3) && e.test == 0),
    shown := decide ((s.queueOf e.island).length < 8), island := e.island, loc := e.loc, tick := s.ticks }

/-- A detected error is classed, escalated if needed, counted and entered; it may request a call, and an island whose
reset is in progress fails (R509–R513, R521). -/
def reportErr (e : ErrIn) : Prog := fun s =>
  let r := s.errRec e
  seqs [
    fun _ => [.errs (s.errs ++ [r])],
    fset eb ERR.SEQ_NEXT ((r.seq + 1) % 2 ^ 16),
    fincSat eb ⟨ERR.CLASS_CNT r.cls, 0, 32⟩ 1,
    raise eb r.cls,
    if r.esc then seqs [fincSat eb ERR.ESC_CNT_COUNT 1, raise eb 5] else skip,
    if r.shown then skip else seqs [fincSat eb ERR.QOVF_CNT_COUNT 1, raise eb 6],
    if r.cls = 3 ∧ s.resetting.contains e.island then
      seqs [fsetF eb ERR.ISL_FAILED_MAP fun t => t.fg eb ERR.ISL_FAILED_MAP ||| 2 ^ e.island, raise eb 7]
    else skip,
    if r.cls = 4 then forP (List.range 7) fun w => rset (eb + ERR.DF_LAST w) (r.word w) else skip,
    if e.test = 0 then skip else timerStart (errTimer r.seq),
    if s.fg eb ERR.ERR_CFG_CALL_LEVEL ≤ r.cls then wantCall cERR else skip] s

/-- Reports an error of a source of R508 with the class and test that the source has. -/
def report (src island page : Nat) (addr : Nat := 0) (unit : Nat := 0xFF) (loc : Nat := 0) : Prog :=
  reportErr { src := src, cls := errClass src, test := errTest src, island := island, page := page, addr := addr,
              unit := unit, loc := loc }

/-- The island of a page's base. -/
def islandAt (b : Nat) : Nat :=
  match pageAt b with
  | some p => pageIsland p
  | none => 19

/-- A test result is written into the record of an error: CLASSIFIED, and LASTING for a lasting result; the handling of
a CORRECTED or DEGRADED error is complete (R510, R519). -/
def classify (seq : Nat) (lasting : Bool) : Prog := fun s =>
  match s.errs.find? fun e => e.seq == seq && e.result == 0 with
  | none => []
  | some e =>
    seqs [fun t => [.errs (t.errs.map fun r => if r = e then
        { r with result := if lasting then 2 else 1, handled := r.handled || decide (r.cls < 3) } else r)],
      timerStop (errTimer seq),
      raise eb 9,
      if lasting then raise eb 10 else skip] s

/-- The oldest error that waits for a given test and satisfies a condition, by sequence number. -/
def State.waitingTest (s : State) (test : Nat) (ok : ErrRec → Bool) : Option Nat :=
  (s.errs.find? fun e => e.test == test && e.result == 0 && ok e).map ErrRec.seq

/-- The record of an error shows that its row or word was moved to a spare. -/
def markRemapped (seq : Nat) : Prog := fun s =>
  [.errs (s.errs.map fun r => if r.seq = seq ∧ r.shown then { r with remapped := true } else r)]

/-- Q_POP removes the oldest record of the selected island's queue (R513). -/
def popQueue : Prog := fun s =>
  match s.queueOf (s.fg eb ERR.Q_SEL_ISLAND) with
  | [] => []
  | e :: _ => [.errs (s.errs.map fun r => if r = e then { r with shown := false } else r)]

end Sys2Proof.Machine
end

