-- ==== Sys2Proof/Machine/Time.lean ====
section
/-!
DEFINITION. Machine/Time.lean: the transmit timelines (R39), the deal table (R40–R49) and what the TIME page shows of
them. The execution of deals stands in Machine/Deals.lean, after the blocks on which deals act.
-/

namespace Sys2Proof.Machine

/-- The base of TIME. -/
def tb : Nat := pageBase .time 0

/-- One of two outcomes that the spec leaves open: the program happens or it does not (R6; log 1). -/
def perhaps (p : Prog) : Prog := withFree fun w => if w.getLsbD 0 then p else skip

/-! ### Carrier modes (R162) -/

def mL2400 : Nat := 0
def mL2000 : Nat := 1
def mL1600 : Nat := 2
def mL1200 : Nat := 3
def mL800 : Nat := 4
def mL400 : Nat := 5
def mZ400 : Nat := 6
def mH64 : Nat := 7
def mH16 : Nat := 8
def mLEAF : Nat := 9
def mREGEN : Nat := 10
def mMON : Nat := 11

/-- FEC_MODE.MODE_NOW of a carrier. -/
def State.modeNow (s : State) (c : Nat) : Nat := s.fg (pageBase .fec c) FEC.FEC_MODE_MODE_NOW

/-- The mode whose line frame a carrier's mode uses: REGEN_AS in REGEN, MON_AS in MON, else the mode itself
(R39, R162). -/
def State.frameMode (s : State) (c : Nat) : Nat :=
  if s.modeNow c = mREGEN then s.fg (pageBase .fec c) FEC.FEC_MODE_REGEN_AS
  else if s.modeNow c = mMON then s.fg (pageBase .rxf c) RXF.RXF_CTL_MON_AS
  else s.modeNow c

/-- The mode that the receive side runs: REGEN_AS in REGEN, MON_AS in MON, else RX_MODE_NOW (R162, R167, R169, R170). -/
def State.rxMode (s : State) (c : Nat) : Nat :=
  let m := s.fg (pageBase .fec c) FEC.FEC_MODE_RX_MODE_NOW
  if m = mREGEN then s.fg (pageBase .fec c) FEC.FEC_MODE_REGEN_AS
  else if m = mMON then s.fg (pageBase .rxf c) RXF.RXF_CTL_MON_AS
  else m

/-- A mode has rounds: H64, H16 and LEAF (R45). -/
def modeHasRounds (m : Nat) : Bool := m == mH64 || m == mH16 || m == mLEAF

/-- A carrier's transmit timeline may run: its LFR domain is ON and its mode has a native line frame (R39). -/
def State.tlOk (s : State) (c : Nat) : Bool :=
  s.present ⟨.lfr, c⟩ && s.pageOn ⟨.lfr, c⟩ && decide (s.modeNow c ≤ mMON) && s.frameMode c != mZ400

/-- The line frame has the duration of L400 (R39). -/
def State.tlSlow (s : State) (c : Nat) : Bool := s.frameMode c == mL400

/-- Starts, stops or restarts a carrier's timeline as its conditions hold now (R39). A start has multiframe number 0 at
this instant. -/
def timelineEval (c : Nat) : Prog := fun s =>
  let t := s.tl c
  let fresh := { t with run := true, mf := 0, start := s.nowNs, frame := 0, l400 := s.tlSlow c }
  if s.tlOk c then (if t.run && t.l400 == s.tlSlow c then [] else [.tls c fresh])
  else if t.run then [.tls c { t with run := false }] else []

/-- The duration of a carrier's multiframe in ns: 16,384 at 256 GBd, 32,768 at 128 GBd. -/
def Timeline.mfNs (t : Timeline) : Nat := if t.l400 then 32768 else 16384

/-- TIME_STAT.TL_VALID (R39). -/
def State.tlValid (s : State) : Nat := (List.range 4).foldl (fun n c => n + b2n (s.tl c).run * 2 ^ c) 0

/-! ### The deal table (R40–R49) -/

/-- The entry bound to a deal ID. -/
def State.deal (s : State) (id : Nat) : Option Deal := s.deals.find? fun d => d.id == id

/-- Puts back a changed entry. -/
def dealPut (d : Deal) : Prog := fun s => [.deals (s.deals.map fun e => if e.id = d.id then d else e)]

/-- The fields of DEAL_CFG (TIME register 0x194). -/
def Deal.align (d : Deal) : Nat := bitsGet d.cfg 0 2
def Deal.carrier (d : Deal) : Nat := bitsGet d.cfg 2 2
def Deal.tgtNum (d : Deal) : Bool := bitsGet d.cfg 4 1 == 1
def Deal.execLate (d : Deal) : Bool := bitsGet d.cfg 5 1 == 1
def Deal.lineLock (d : Deal) : Bool := bitsGet d.cfg 6 1 == 1
def Deal.trigMark (d : Deal) : Bool := bitsGet d.cfg 7 1 == 1
def Deal.tag (d : Deal) : Nat := bitsGet d.cfg 16 8

/-- The alignments (DEAL_CFG.ALIGN). -/
def aNONE : Nat := 0
def aFRAME : Nat := 1
def aMULTIFRAME : Nat := 2
def aROUND : Nat := 3

/-- STAGING, ARMED and LATE are the pending states (R40). -/
def Deal.pending (d : Deal) : Bool := d.st == .staging || d.st == .armed || d.st == .late

/-- ARMED and LATE hold their actions (R47). -/
def Deal.holds (d : Deal) : Bool := d.st == .armed || d.st == .late

/-- DEAL_STAT.STATE. -/
def Deal.stateCode (d : Deal) : Nat :=
  match d.st with
  | .staging => 1
  | .armed => 2
  | .late => 3
  | .done => 4
  | .refused => 5
  | .cancelled => 6

/-- The base of the page that an action concerns. -/
def Action.page : Action → Nat
  | .write a _ => a / 0x1000 * 0x1000
  | .cmd p _ _ => p
  | .gone a => a / 0x1000 * 0x1000

/-- DEAL_CTL.PENDING of a page: it holds actions of a deal in ARMED or LATE (R17, R48). -/
def State.dealPending (s : State) (b : Nat) : Bool :=
  s.deals.any fun d => d.holds && d.acts.any fun a => a.page == b

/-- As `dealPending`, for deals other than one (R469). -/
def State.dealPendingOther (s : State) (b : Nat) (id : Option Nat) : Bool :=
  s.deals.any fun d => d.holds && some d.id != id && d.acts.any fun a => a.page == b

/-- DEAL_STAT.REASON codes (R49). -/
def rLATE_ARM : Nat := 1
def rTOO_MANY : Nat := 2
def rTOO_FAR : Nat := 3
def rNO_TIMELINE : Nat := 4
def rMARK_SHORT : Nat := 5
def rMARK_BUSY : Nat := 6
def rNO_MARK : Nat := 7
def rSTACK_REJECT : Nat := 8
def rCOMMIT_LATE : Nat := 9
def rDEALER_LOST : Nat := 10
def rHOST_CANCEL : Nat := 11
def rCONFLICT : Nat := 12

/-- TIME page error codes (R62). -/
def cNO_SLOT : Nat := 0x80
def cDEAL_STATE : Nat := 0x81
def cDEAL_OVERFLOW : Nat := 0x82
def cID_RESERVED : Nat := 0x83
def cBAD_CMD : Nat := 0x84
def cSTEP_BUSY : Nat := 0x85
def cTIME_CFG_RANGE : Nat := 0x86

/-- Moves a deal to DONE, REFUSED or CANCELLED with its reason, and raises the event of that state (R47, R48).
CANCELLED discards the actions. -/
def dealClose (d : Deal) (st : DealState) (reason : Nat) : Prog := fun s =>
  let n := (s.deals.map Deal.closedAt).foldl max 0 + 1
  seqs [dealPut { d with st := st, reason := reason, closedAt := n, marks := none, bound := none, lockN := none,
                         acts := if st = .cancelled then [] else d.acts },
    match st with
    | .done => raise tb 0
    | .refused => raise tb 1
    | .cancelled => raise tb 2
    | _ => skip] s

/-- Refuses a deal. -/
def dealRefuse (d : Deal) (reason : Nat) : Prog := dealClose d .refused reason

/-- The OPEN of a deal ID by a requester (R40, R41). -/
def dealOpen (src id : Nat) : Prog := fun s =>
  let fresh : Deal := { id := id, st := .staging, stack := src == 3 }
  let refuse := errPage tb TIME.DEAL_CMD src
  if 0xC0 ≤ id ∧ (s.fg vb0 VLG.STACK_STAT_STATE = 1 ∨ s.fg vb0 VLG.STACK_STAT_STATE = 3) ∧ src ≠ 3 then
    refuse cID_RESERVED s
  else match s.deal id with
    | some d => if d.pending then refuse cDEAL_STATE s
      else [.deals ((s.deals.filter fun e => e.id != id) ++ [fresh])]
    | none =>
      if s.deals.length < 32 then [.deals (s.deals ++ [fresh])]
      else
        let closed := s.deals.filter fun d => !d.pending
        match closed.find? fun d => closed.all fun e => decide (d.closedAt ≤ e.closedAt) with
        | none => refuse cNO_SLOT s
        | some d => [.deals ((s.deals.filter fun e => e.id != d.id) ++ [fresh])]

/-- CANCEL, from STAGING, ARMED or LATE (R47). -/
def dealCancel (src id : Nat) : Prog := fun s =>
  match s.deal id with
  | some d => if d.pending then dealClose d .cancelled rHOST_CANCEL s else errPage tb TIME.DEAL_CMD src cDEAL_STATE s
  | none => errPage tb TIME.DEAL_CMD src cDEAL_STATE s

/-- RELEASE, from DONE, REFUSED or CANCELLED (R47). -/
def dealRelease (src id : Nat) : Prog := fun s =>
  match s.deal id with
  | some d => if d.pending then errPage tb TIME.DEAL_CMD src cDEAL_STATE s
    else [.deals (s.deals.filter fun e => e.id != id)]
  | none => errPage tb TIME.DEAL_CMD src cDEAL_STATE s

/-- Cancels every stack deal that has not executed (R60). -/
def dealsDealerLost : Prog := withP fun s =>
  forP (s.deals.filter fun d => d.pending && decide (0xC0 ≤ d.id)) fun d => dealClose d .cancelled rDEALER_LOST

/-- The action of a deal at the same register, if there is one. -/
def Action.same : Action → Action → Bool
  | .write a _, .write b _ => a == b
  | .write a _, .gone b => a == b
  | _, _ => false

/-- What a reset of an island leaves of an action that is held for one of its pages (R515). -/
def Action.drop (i : Nat) (a : Action) : Action :=
  match pageAt a.page with
  | some p => if pageIsland p ≠ i then a else match a with
    | .write b _ => .gone b
    | .cmd b _ _ => .gone b
    | .gone b => .gone b
  | none => a

/-- An island reset discards what pending deals hold for its pages, for when they fall due (R515). -/
def dealsIslandReset (i : Nat) : Prog := fun s =>
  [.deals (s.deals.map fun d => if d.pending then { d with acts := d.acts.map (Action.drop i) } else d)]

/-- Adds an action to a deal in STAGING: a second staged write to a register replaces the first, a 65th action is
ignored, counted in TIME and flagged (R42). `off` is what ERR_LAST shows. -/
def dealAppend (src id off : Nat) (a : Action) : Prog := fun s =>
  match s.deal id with
  | none => []
  | some d =>
    if d.acts.any a.same then dealPut { d with acts := d.acts.map fun b => if a.same b then a else b } s
    else if d.acts.length < 64 then dealPut { d with acts := d.acts ++ [a] } s
    else seqs [dealPut { d with overflow := true }, errPage tb off src cDEAL_OVERFLOW] s

/-- The commands that a page accepts, by code (R44). -/
def pageAccepts (k : PageKind) (code : Nat) : Bool :=
  match k, code with
  | .rxf, 1 | .txd, 1 | .rxm, 1 | .sns, 1 | .scb, 1 => true
  | .cip, 2 | .cip, 3 => true
  | .suit, 4 => true
  | .hub, 5 => true
  | .pwr, 6 => true
  | .snap, 7 => true
  | .dpl, 8 => true
  | _, _ => false

/-- A command's argument lies in the range that its chapter sets (R63, and R481 and the chapters' R116, R137, R161,
R241, R267, R318, R380, R399). -/
def cmdArgOk (k : PageKind) (code : Nat) (arg : Word) : Bool :=
  match code with
  | 1 => if k = .rxf then decide (arg.toNat < 4) else decide (arg.toNat < 2)
  | 2 | 3 => decide (arg.toNat < 256)
  | 4 => decide (arg.toNat < 64)
  | 5 => decide (arg.toNat < 4)
  | 6 => decide (arg.toNat < 1024 ∧ arg.toNat % 256 < 80 ∧ arg.toNat / 256 < 3)
  | 7 => arg == 0
  | 8 => decide (arg.toNat < 4)
  | _ => true

/-- A write of CMD_CODE (R43, R44). An absent page, or an argument out of range, leaves open what is appended (R63). -/
def cmdAppend (src code : Nat) : Prog := fun s =>
  let id := s.fg tb TIME.DEAL_SEL_ID
  let pg := (s.reg (tb + TIME.CMD_PAGE)).toNat
  let arg := s.reg (tb + TIME.CMD_ARG)
  let add (a : Word) := dealAppend src id TIME.CMD_CODE (.cmd pg a code)
  match s.deal id with
  | none => perhaps (errPage tb TIME.CMD_CODE src cDEAL_STATE) s
  | some d =>
    if d.st ≠ .staging then errPage tb TIME.CMD_CODE src cDEAL_STATE s
    else match pageAt pg with
      | none => perhaps (errPage tb TIME.CMD_CODE src cBAD_CMD) s
      | some p =>
        if pg % 0x1000 ≠ 0 ∨ !pageAccepts p.kind code then errPage tb TIME.CMD_CODE src cBAD_CMD s
        else if !s.present p then perhaps (add arg) s
        else if cmdArgOk p.kind code arg then add arg s
        else withFree add s

/-- A write of DEAL_TIME, DEAL_NUM or DEAL_CFG of the selected deal: only in STAGING (R43); through an unbound ID it is
open what happens (R63). DEAL_CFG.STACK is RO. -/
def dealRegWrite (src off : Nat) (v : Word) : Prog := fun s =>
  match s.deal (s.fg tb TIME.DEAL_SEL_ID) with
  | none => perhaps (errPage tb off src cDEAL_STATE) s
  | some d =>
    if d.st ≠ .staging then errPage tb off src cDEAL_STATE s
    else if off = TIME.DEAL_TIME_LO then dealPut { d with time := (d.time >>> 32 <<< 32) ||| v.zeroExtend 64 } s
    else if off = TIME.DEAL_TIME_HI then
      dealPut { d with time := (v.zeroExtend 64 <<< 32) ||| (d.time &&& 0xFFFFFFFF) } s
    else if off = TIME.DEAL_NUM then dealPut { d with num := v } s
    else dealPut { d with cfg := v &&& 0x00FF00FF } s

/-- The registers of the selected deal as they read; an unbound ID reads as an EMPTY entry. -/
def State.dealView (s : State) (off : Nat) : Word :=
  match s.deal (s.fg tb TIME.DEAL_SEL_ID) with
  | none => 0
  | some d =>
    if off = TIME.DEAL_TIME_LO then d.time.extractLsb' 0 32
    else if off = TIME.DEAL_TIME_HI then d.time.extractLsb' 32 32
    else if off = TIME.DEAL_NUM then d.num
    else if off = TIME.DEAL_CFG then d.cfg ||| BitVec.ofNat 32 (b2n d.stack * 256)
    else if off = TIME.DEAL_STAT then BitVec.ofNat 32 (b2n d.overflow * 2 ^ 27 + b2n d.dropped * 2 ^ 26
      + b2n d.flywheel * 2 ^ 25 + b2n d.stepped * 2 ^ 24 + d.reason * 2 ^ 16 + d.acts.length * 16 + d.stateCode)
    else if off = TIME.DEAL_EXEC_LO then d.execTime.extractLsb' 0 32
    else if off = TIME.DEAL_EXEC_HI then d.execTime.extractLsb' 32 32
    else if off = TIME.DEAL_EXEC_NUM then d.execNum
    else 0

/-- The offsets of the registers that show the selected deal. -/
def dealOffs : List Nat := [TIME.DEAL_TIME_LO, TIME.DEAL_TIME_HI, TIME.DEAL_NUM, TIME.DEAL_CFG, TIME.DEAL_STAT,
  TIME.DEAL_EXEC_LO, TIME.DEAL_EXEC_HI, TIME.DEAL_EXEC_NUM]

/-- DEAL_SUM as it reads. -/
def State.dealSum (s : State) : Word :=
  BitVec.ofNat 32 ((32 - s.deals.length) * 256 + (s.deals.filter Deal.pending).length)

/-- The computed registers of the TIME page. -/
def timeView (s : State) (off : Nat) : Option Word :=
  if dealOffs.contains off then some (s.dealView off)
  else if off = TIME.DEAL_SUM then some s.dealSum
  else if off = TIME.TIME_STAT then some (BitVec.ofNat 32 (s.tlValid * 16 + s.fg tb TIME.TIME_STAT_DIST_OK))
  else if off = TIME.NOW_LO then some (s.nowNs.extractLsb' 0 32)
  else (List.range 4).findSome? fun c =>
    if off = TIME.CAR_MF_NUM c then some (if (s.tl c).run then (s.tl c).mf else 0) else none

/-- The read of NOW_LO latches the high word and the fraction (R34); that of CARc_MF_NUM latches the device time of the
multiframe's start (R39). -/
def timeReadFx (off : Nat) : Prog := fun s =>
  if off = TIME.NOW_LO then
    [.regs (tb + TIME.NOW_HI) (s.nowNs.extractLsb' 32 32),
     .regs (tb + TIME.NOW_FRAC) ((s.now.extractLsb' 0 16).zeroExtend 32)]
  else forP (List.range 4) (fun c => if off = TIME.CAR_MF_NUM c then
      seqs [rset (tb + TIME.CAR_MF_TLO c) ((s.tl c).start.extractLsb' 0 32),
            rset (tb + TIME.CAR_MF_THI c) ((s.tl c).start.extractLsb' 32 32)] else skip) s

end Sys2Proof.Machine
end

