-- ==== Sys2Proof/Machine/Opt.lean ====
section
/-!
DEFINITION. Machine/Opt.lean: lasers, modulator bias, SOA and receiver powers of the OPTc pages (R65–R77, R87), and the
converters of the CNVc pages (R80–R86, R88, R89).
-/

namespace Sys2Proof.Machine

/-- The bases of OPTc and CNVc. -/
def ob (c : Nat) : Nat := pageBase .opt c
def nb (c : Nat) : Nat := pageBase .cnv c

/-- A field-access scope is open: 0 ENG_DEBUG, 1 RAW_CNV, 2 FACTORY; before provisioning every scope is (R498). -/
def State.scopeOpen (s : State) (n : Nat) : Bool :=
  !s.fuses.prov || bitOf (s.fg (pageBase .sec 0) SEC.SEC_STAT_SESSION) n

/-- Changes the record of a carrier's laser. -/
def optUpd (c : Nat) (f : OptRec → OptRec) : Prog := fun s => [.opts c (f (s.opt c))]

/-- Changes the record of a carrier's converters. -/
def cnvUpd (c : Nat) (f : CnvRec → CnvRec) : Prog := fun s => [.cnvs c (f (s.cnv c))]

/-! ### Laser states and error codes (R68, R90) -/

def lOFF : Nat := 0
def lWARMUP : Nat := 1
def lTUNING : Nat := 2
def lLOCKING : Nat := 3
def lLOCKED : Nat := 4
def lHOLD : Nat := 5
def lFAULT : Nat := 6

def cOUT_OF_BAND : Nat := 0x80
def cFINE_RANGE : Nat := 0x81
def cPWR_RANGE : Nat := 0x82
def cTX_IN_MON : Nat := 0x83
def cLASER_OFF : Nat := 0x84
def cCAL_BUSY : Nat := 0x90
def cFG_TX_ON : Nat := 0x91
def cNO_STORED : Nat := 0x92
def cNO_SCOPE : Nat := 0x93
def cSTORE_FAIL : Nat := 0x94

/-- LASER_STAT.STATE of a carrier. -/
def State.laser (s : State) (c : Nat) : Nat := s.fg (ob c) OPT.LASER_STAT_STATE

/-- The time limits of a laser: the lock attempt, HOLD (R68); the SOA ramp (R73); the fine slew (R66). -/
def tLock (c : Nat) : Nat := ob c
def tHold (c : Nat) : Nat := ob c + 1
def tRamp (c : Nat) : Nat := ob c + 2
def tSlew (c : Nat) : Nat := ob c + 3

/-! ### Frequency (R65, R66) -/

/-- A grid index and a fine offset give a frequency that the part can tune to: the index lies in the part's range and
193.1 THz + n × 6.25 GHz + fine × 1 MHz in its tuning range (R65). -/
def bandOk (part : Part) (n fine : Int) : Bool :=
  let f : Int := 193100000 + n * 6250 + fine
  match part with
  | .hq9640L => decide (-1136 ≤ n ∧ n ≤ -368 ∧ 186000000 ≤ f ∧ f ≤ 190800000)
  | _ => decide (-312 ≤ n ∧ n ≤ 560 ∧ 191150000 ≤ f ∧ f ≤ 196600000)

/-- LASER_FREQ.CH_N and LASER_FINE.MHZ as they stand. -/
def State.chN (s : State) (c : Nat) : Nat := s.fg (ob c) OPT.LASER_FREQ_CH_N
def State.fineSet (s : State) (c : Nat) : Int := sx 14 (s.fg (ob c) OPT.LASER_FINE_MHZ)

/-- The check that a TUNE_GO or a cold start makes at its write (R65). -/
def State.tuneOk (s : State) (c : Nat) : Bool := bandOk s.part (sx 16 (s.chN c)) (s.fineSet c)

/-- The grid index to which a fine offset will next apply (R66). -/
def State.fineIndex (s : State) (c : Nat) : Nat :=
  if s.fb (ob c) OPT.LASER_STAT_QUEUED then (s.opt c).queued
  else if s.laser c = lWARMUP ∨ s.laser c = lTUNING ∨ s.laser c = lLOCKING then (s.opt c).target
  else if s.laser c = lLOCKED ∨ s.laser c = lHOLD then s.fg (ob c) OPT.LASER_CUR_CH_N
  else s.chN c

/-- A value that moves from one to another at a rate, after some of a unit's thousandths: the nominal course of a slew
or a ramp (log 8). -/
def course (fr to' : Int) (perMs ns : Nat) : Int :=
  let d : Int := (perMs * ns / 1000000 : Nat)
  if fr ≤ to' then min to' (fr + d) else max to' (fr - d)

/-- LASER_CUR.FINE_NOW as it reads: the slew's nominal course (R66, R70). -/
def State.fineNow (s : State) (c : Nat) : Int :=
  let r := s.opt c
  if s.running (tSlew c) then course r.fineFrom r.fineTo (s.fg (ob c) OPT.LASER_SLEW_RATE) (s.elapsed (tSlew c))
  else r.fineTo

/-- Slews the fine offset from where it stands to a new value (R66). -/
def fineSlew (c : Nat) (to' : Int) : Prog := fun s =>
  seqs [optUpd c fun r => { r with fineFrom := s.fineNow c, fineTo := to' }, timerStart (tSlew c)] s

/-- Sets the fine offset at once. -/
def fineJump (c : Nat) (to' : Int) : Prog :=
  seqs [optUpd c fun r => { r with fineFrom := to', fineTo := to' }, timerStop (tSlew c)]

/-! ### The SOA (R72–R75) -/

/-- TX_PWR_SET in 0.01 dBm. -/
def State.pwrSet (s : State) (c : Nat) : Int := sx 8 (s.fg (ob c) OPT.TX_PWR_SET_DBM) * 10

/-- Nothing keeps the SOA of a carrier shut (R74, with R80, R81 and R87). -/
def State.soaMay (s : State) (c : Nat) : Bool :=
  s.live ⟨.opt, c⟩ && s.fb (ob c) OPT.LASER_CTL_TX_EN && s.laser c == lLOCKED && s.modeNow c != mMON
    && (!s.fb (ob c) OPT.LASER_CTL_FOLLOW || s.fb (ob c) OPT.LASER_STAT_FOLLOW_OK)
    && s.pdOn (11 * c + 2) && !(s.cnv c).clkLost && s.fg (nb c) CNV.CNV_STAT_CAL_STATE != 1

/-- The SOA is open. -/
def State.soaOpen (s : State) (c : Nat) : Bool := s.fb (ob c) OPT.TX_PWR_MON_SOA_OPEN

/-- The power on the nominal course of the ramp, in 0.01 dBm (R73; log 8). -/
def State.rampPwr (s : State) (c : Nat) : Int :=
  course (s.opt c).rampFrom (s.pwrSet c) (s.fg (ob c) OPT.TX_RAMP_RATE * 10) (s.elapsed (tRamp c))

/-- Starts a ramp from a power towards TX_PWR_SET (R73). -/
def rampFromP (c : Nat) (p : Int) : Prog :=
  seqs [optUpd c fun r => { r with rampFrom := p }, timerStart (tRamp c)]

/-- Opens or shuts the SOA as its conditions stand: it opens at the lower of −8.0 dBm and TX_PWR_SET (R73, R74). -/
def soaEval (c : Nat) : Prog := fun s =>
  if s.soaMay c then
    if s.soaOpen c then []
    else seqs [fbset (ob c) OPT.TX_PWR_MON_SOA_OPEN true, fbset (ob c) OPT.TX_PWR_MON_AT_TARGET false,
      rampFromP c (min (-800) (s.pwrSet c))] s
  else if s.soaOpen c then
    seqs [fbset (ob c) OPT.TX_PWR_MON_SOA_OPEN false, fbset (ob c) OPT.TX_PWR_MON_AT_TARGET false,
      fset (ob c) OPT.TX_PWR_MON_DBM 0x8000, timerStop (tRamp c)] s
  else []

/-- The SOA’s light leaves the module: it is open and, in LEAF, its gate is open (R75), which a continuous upstream keeps (R273). -/
def State.lightOut (s : State) (c : Nat) : Bool := s.soaOpen c && 
  (s.modeNow c != mLEAF || (s.opt c).gate || (s.hub c).groups.any fun g => g.role == 1)

/-! ### The laser's moves (R68–R71) -/

/-- Sets the laser state; FREQ_ERR reads 0 outside LOCKING, LOCKED and HOLD, and TUNE_FAULT is the state FAULT. -/
def laserTo (c st : Nat) : Prog := fun s =>
  seqs [fset (ob c) OPT.LASER_STAT_STATE st,
    fbset (ob c) OPT.LASER_STAT_TUNE_FAULT (st == lFAULT),
    if st = lLOCKING ∨ st = lLOCKED ∨ st = lHOLD then skip else fset (ob c) OPT.LASER_STAT_FREQ_ERR 0,
    if st = lLOCKED then skip else fset (ob c) OPT.MZM_STAT_LOCKED 0,
    if st = lLOCKING then timerStart (tLock c) else timerStop (tLock c),
    if st = lHOLD then timerStart (tHold c) else timerStop (tHold c),
    soaEval c] s

/-- Starts towards a grid index, with the first attempt to follow (R68). -/
def laserTune (c n : Nat) : Prog :=
  seqs [optUpd c fun r => { r with target := n, attempt := 1 }, laserTo c lTUNING]

/-- Drops a queued tune (R69). -/
def tuneDrop (c : Nat) : Prog := fbset (ob c) OPT.LASER_STAT_QUEUED false

/-- The laser enters FAULT: a queued tune is dropped and TUNE_FAULT raised (R68, R69). -/
def laserFault (c : Nat) : Prog := seqs [tuneDrop c, laserTo c lFAULT, raise (ob c) 2]

/-- TUNE_GO: at once in LOCKED and HOLD, queued in WARMUP, TUNING and LOCKING, refused in OFF and FAULT or out of band
(R65, R69). -/
def tuneGo (src c : Nat) : Prog := fun s =>
  if s.laser c = lOFF ∨ s.laser c = lFAULT then errPage (ob c) OPT.LASER_CTL src cLASER_OFF s
  else if !s.tuneOk c then errPage (ob c) OPT.LASER_CTL src cOUT_OF_BAND s
  else if s.laser c = lLOCKED ∨ s.laser c = lHOLD then laserTune c (s.chN c) s
  else seqs [optUpd c fun r => { r with queued := s.chN c }, fbset (ob c) OPT.LASER_STAT_QUEUED true] s

/-- A cold start: from OFF to WARMUP with the target latched, or refused (R65, R68). -/
def coldStart (src c : Nat) : Prog := fun s =>
  if s.tuneOk c then
    seqs [fbset (ob c) OPT.LASER_CTL_LASER_EN true,
      optUpd c fun r => { r with target := s.chN c, attempt := 1 }, laserTo c lWARMUP] s
  else errPage (ob c) OPT.LASER_CTL src cOUT_OF_BAND s

/-- LASER_EN written 0: the SOA shuts, the laser goes to OFF and a queued tune is dropped (R68, R69). -/
def laserOff (c : Nat) : Prog :=
  seqs [fbset (ob c) OPT.LASER_CTL_LASER_EN false, tuneDrop c, laserTo c lOFF]

/-- FOLLOW changes: set, it awaits FOLLOW_OK anew; cleared, the offset slews to LASER_FINE (R70). -/
def followSet (c : Nat) (on : Bool) : Prog := fun s =>
  if s.fb (ob c) OPT.LASER_CTL_FOLLOW = on then []
  else seqs [fbset (ob c) OPT.LASER_CTL_FOLLOW on, fbset (ob c) OPT.LASER_STAT_FOLLOW_OK false,
    if on then fineJump c (s.fineNow c) else if s.laser c = lLOCKED then fineSlew c (s.fineSet c) else skip,
    soaEval c] s

/-- TX_EN takes its value; a 1 in MON is counted (R74). -/
def txEnSet (src c : Nat) (on : Bool) : Prog := fun s =>
  seqs [fbset (ob c) OPT.LASER_CTL_TX_EN on,
    if on ∧ s.modeNow c = mMON then errPage (ob c) OPT.LASER_CTL src cTX_IN_MON else skip,
    soaEval c] s

/-- A write of LASER_CTL (R65, R68–R70, R74). -/
def laserCtlWrite (src c : Nat) (v : Word) : Prog := fun s =>
  let was := s.fb (ob c) OPT.LASER_CTL_LASER_EN
  let on := wroteB v OPT.LASER_CTL_LASER_EN
  seqs [txEnSet src c (wroteB v OPT.LASER_CTL_TX_EN), followSet c (wroteB v OPT.LASER_CTL_FOLLOW),
    if !was && on then coldStart src c
    else seqs [if was && !on then laserOff c else skip,
      if wroteB v OPT.LASER_CTL_TUNE_GO then tuneGo src c else skip]] s

/-- A write of LASER_FINE (R66, R70). -/
def laserFineWrite (src c : Nat) (v : Word) : Prog := fun s =>
  let x := sx 14 (wrote v OPT.LASER_FINE_MHZ)
  if x < -6000 ∨ 6000 < x ∨ !bandOk s.part (sx 16 (s.fineIndex c)) x then errPage (ob c) OPT.LASER_FINE src cFINE_RANGE s
  else seqs [fset (ob c) OPT.LASER_FINE_MHZ (wrote v OPT.LASER_FINE_MHZ),
    if s.laser c = lLOCKED ∧ !s.fb (ob c) OPT.LASER_CTL_FOLLOW then fineSlew c x else skip] s

/-- A write of TX_PWR_SET (R72, R73). -/
def txPwrWrite (src c : Nat) (v : Word) : Prog := fun s =>
  let x := sx 8 (wrote v OPT.TX_PWR_SET_DBM)
  if x < -80 ∨ 40 < x then errPage (ob c) OPT.TX_PWR_SET src cPWR_RANGE s
  else seqs [if s.soaOpen c then rampFromP c (s.rampPwr c) else skip,
    fset (ob c) OPT.TX_PWR_SET_DBM (wrote v OPT.TX_PWR_SET_DBM),
    if s.soaOpen c ∧ 20 < (s.rampPwr c - x * 10).natAbs then fbset (ob c) OPT.TX_PWR_MON_AT_TARGET false else skip] s

/-- The ranges outside of which OPTc fields are unpredictable (R91). -/
def optLims : List Lim := [⟨OPT.LASER_SLEW_RATE, 1, 1000⟩, ⟨OPT.TX_RAMP_RATE, 1, 100⟩, ⟨OPT.LOS_CFG_HYST, 1, 8⟩,
  ⟨OPT.LASER_GUARD_OFF_GRID, 500, 4000⟩]

/-- A write of an OPTc register. A new ramp or slew rate takes over from the value reached. -/
def optWrite (src c : Nat) (r : RegRow) (v : Word) : Prog := fun s =>
  if r.off = OPT.LASER_CTL then laserCtlWrite src c v s
  else if r.off = OPT.LASER_FINE then laserFineWrite src c v s
  else if r.off = OPT.TX_PWR_SET then txPwrWrite src c v s
  else seqs [
    if r.off = OPT.TX_RAMP ∧ s.soaOpen c then rampFromP c (s.rampPwr c) else skip,
    if r.off = OPT.LASER_SLEW ∧ s.running (tSlew c) then fineSlew c (s.opt c).fineTo else skip,
    plainWrite (ob c) r optLims v,
    if r.off = OPT.MZM_CTL ∧ !wroteB v OPT.MZM_CTL_BIAS_EN then fset (ob c) OPT.MZM_STAT_LOCKED 0 else skip,
    if r.off = OPT.TIA_CTL ∧ !wroteB v OPT.TIA_CTL_AGC_EN then
      fset (ob c) OPT.RX_STAT_GAIN (wrote v OPT.TIA_CTL_MAN_GAIN) else skip] s

/-- The computed registers of OPTc. -/
def optView (c : Nat) (s : State) (off : Nat) : Option Word :=
  if off = OPT.LASER_CUR then
    some (bitsPut (s.reg (ob c + OPT.LASER_CUR)) 16 14 (tc 14 (s.fineNow c)))
  else if off = OPT.TX_PWR_MON then
    let w := s.reg (ob c + OPT.TX_PWR_MON)
    some (if !s.lightOut c then bitsPut w 0 16 0x8000
      else if s.fb (ob c) OPT.TX_PWR_MON_AT_TARGET then w
      else bitsPut w 0 16 (tc 16 (s.rampPwr c)))
  else if off = OPT.RX_STAT then
    some (bitsPut (s.reg (ob c + OPT.RX_STAT)) 2 1
      (b2n (s.fb (ob c) OPT.TIA_CTL_AGC_FREEZE || (s.opt c).burstFreeze)))
  else none

/-! ### Events of the optical engine -/

/-- The TEC has settled (R68); the laser monitor shows the temperature and the current found. -/
def tecSettled (c : Nat) (temp : Int) (cur : Nat) : Prog := fun s =>
  if s.live ⟨.opt, c⟩ ∨ s.pageOn ⟨.opt, c⟩ then
    seqs [fset (ob c) OPT.LASER_MON_TEC_TEMP (tc 16 temp), fset (ob c) OPT.LASER_MON_LD_CUR cur,
      if s.laser c = lWARMUP then laserTo c lTUNING else skip] s
  else []

/-- The tuning sections are set: the wavelength locker starts, with the error it first reads (R68). -/
def tuningDone (c : Nat) (err : Int) : Prog := fun s =>
  if s.laser c = lTUNING then
    seqs [laserTo c lLOCKING, fset (ob c) OPT.LASER_CUR_CH_N (s.opt c).target,
      fset (ob c) OPT.LASER_STAT_FREQ_ERR (tc 16 err)] s
  else []

/-- The locker error has stayed within ±150 MHz for 1 ms: LOCKED, with LASER_LOCKED; a queued tune follows at once with
the SOA still shut (R68, R69). The stored fine offset applies (R66). -/
def laserLocked (c : Nat) (err : Int) : Prog := fun s =>
  let ok := err.natAbs ≤ 150 ∧
    ((s.laser c = lLOCKING ∧ s.elapsed (tLock c) ≤ 20000000) ∨ (s.laser c = lHOLD ∧ s.elapsed (tHold c) ≤ 100000000))
  let fine := if s.fb (ob c) OPT.LASER_CTL_FOLLOW then skip else fineJump c (s.fineSet c)
  if ok then
    if s.fb (ob c) OPT.LASER_STAT_QUEUED then
      seqs [raise (ob c) 0, tuneDrop c, laserTune c (s.opt c).queued] s
    else seqs [fine, fset (ob c) OPT.LASER_STAT_FREQ_ERR (tc 16 err), laserTo c lLOCKED, raise (ob c) 0] s
  else []

/-- No lock within 20 ms: a second attempt, then FAULT (R68). -/
def lockTimeout (c : Nat) : Prog := fun s =>
  if s.laser c = lLOCKING ∧ s.running (tLock c) then
    if (s.opt c).attempt = 1 then seqs [clockEnd (tLock c) 20000000, laserTo c lTUNING, optUpd c fun r => { r with attempt := 2 }] s
    else seqs [clockEnd (tLock c) 20000000, laserFault c] s
  else []

/-- The locker error passes OFF_GRID in LOCKED: HOLD (R68). -/
def laserUnlock (c : Nat) (err : Int) : Prog := fun s =>
  if s.laser c = lLOCKED ∧ s.fg (ob c) OPT.LASER_GUARD_OFF_GRID < err.natAbs then
    seqs [fset (ob c) OPT.LASER_STAT_FREQ_ERR (tc 16 err), laserTo c lHOLD, raise (ob c) 1] s
  else []

/-- 100 ms in HOLD: FAULT (R68). -/
def holdTimeout (c : Nat) : Prog := fun s =>
  if s.laser c = lHOLD ∧ s.running (tHold c) then seqs [clockEnd (tHold c) 100000000, laserFault c] s else []

/-- The tap monitor finds the power within 0.2 dB of TX_PWR_SET (R73). -/
def txAtTarget (c : Nat) (dbm : Int) : Prog := fun s =>
  if s.soaOpen c ∧ !s.fb (ob c) OPT.TX_PWR_MON_AT_TARGET ∧ (dbm - s.pwrSet c).natAbs ≤ 20 then
    seqs [fbset (ob c) OPT.TX_PWR_MON_AT_TARGET true, fset (ob c) OPT.TX_PWR_MON_DBM (tc 16 dbm), raise (ob c) 3] s
  else []

/-- A bias loop converges (R71). -/
def biasLocked (c loop : Nat) : Prog := fun s =>
  if s.laser c = lLOCKED ∧ s.fb (ob c) OPT.MZM_CTL_BIAS_EN ∧ !s.fb (ob c) OPT.MZM_CTL_BIAS_HOLD then
    fsetF (ob c) OPT.MZM_STAT_LOCKED (fun t => setBit (t.fg (ob c) OPT.MZM_STAT_LOCKED) loop true) s
  else []

/-- A bias loop loses the lock that it had; the SOA stays open (R71). -/
def mzmUnlock (c loop : Nat) : Prog := fun s =>
  if bitOf (s.fg (ob c) OPT.MZM_STAT_LOCKED) loop ∧ !s.fb (ob c) OPT.MZM_CTL_BIAS_HOLD then
    seqs [fsetF (ob c) OPT.MZM_STAT_LOCKED fun t => setBit (t.fg (ob c) OPT.MZM_STAT_LOCKED) loop false,
      raise (ob c) 6] s
  else []

/-- The follow offset has stayed within ±50 MHz for 1 ms; `fine` is the fine offset then applied (R70). -/
def followOk (c : Nat) (fine : Int) : Prog := fun s =>
  if s.fb (ob c) OPT.LASER_CTL_FOLLOW ∧ s.laser c = lLOCKED then
    seqs [fineJump c fine, fbset (ob c) OPT.LASER_STAT_FOLLOW_OK true, soaEval c] s
  else []

/-- The follow offset exceeds ±200 MHz or the fine range is exhausted (R70). -/
def followLost (c : Nat) (fine : Int) : Prog := fun s =>
  if s.fb (ob c) OPT.LASER_CTL_FOLLOW ∧ s.fb (ob c) OPT.LASER_STAT_FOLLOW_OK then
    seqs [fineJump c fine, fbset (ob c) OPT.LASER_STAT_FOLLOW_OK false, raise (ob c) 8, soaEval c] s
  else []

/-- A power as the monitors show it: 0x8000 below −25 dBm (R76). -/
def pwrCode (p : Int) : Nat := if p < -2500 then 0x8000 else tc 16 p

/-- The receive power monitors update (R76, R77): powers in 0.01 dBm, and the gain that the AGC has settled on. -/
def rxPower (c : Nat) (x y tot : Int) (gain : Nat) : Prog := fun s =>
  if !s.pageOn ⟨.opt, c⟩ || !s.present ⟨.opt, c⟩ then [] else
  let thr : Int := sx 12 (s.fg (ob c) OPT.LOS_CFG_THR) * 10
  let hyst : Int := (s.fg (ob c) OPT.LOS_CFG_HYST : Nat) * 50
  let was := s.fb (ob c) OPT.RX_STAT_LOS_RAW
  let los := if was then decide (tot ≤ thr + hyst) else decide (tot < thr)
  let ovl := decide (550 < tot)
  let frozen := s.fb (ob c) OPT.TIA_CTL_AGC_FREEZE || (s.opt c).burstFreeze
  seqs [fset (ob c) OPT.RX_PWR_X_DBM (pwrCode x), fset (ob c) OPT.RX_PWR_Y_DBM (pwrCode y),
    fset (ob c) OPT.RX_PWR_TOT_DBM (pwrCode tot),
    fbset (ob c) OPT.RX_STAT_LOS_RAW los,
    if los && !was then raise (ob c) 4 else if was && !los then raise (ob c) 5 else skip,
    if ovl && !s.fb (ob c) OPT.RX_STAT_OVERLOAD then raise (ob c) 7 else skip,
    fbset (ob c) OPT.RX_STAT_OVERLOAD ovl,
    if !s.fb (ob c) OPT.TIA_CTL_AGC_EN then fset (ob c) OPT.RX_STAT_GAIN (s.fg (ob c) OPT.TIA_CTL_MAN_GAIN)
    else if frozen then skip else fset (ob c) OPT.RX_STAT_GAIN gain] s

/-! ### Converters (R80–R86) -/

/-- The trims in use: 16 lane trims, then the words of ADC_IL and DAC_IL (R81, R89). -/
def trimAddrs (c : Nat) : List Nat := (List.range 16).map fun i => nb c + 0x110 + 4 * i
def ilKeys (c : Nat) : List Nat :=
  (List.range 256).map (fun e => tabKey (nb c) 0 e 0) ++ (List.range 16).map (fun e => tabKey (nb c) 1 e 0)

/-- The trims in use as one list of words. -/
def State.trims (s : State) (c : Nat) : List Word := (trimAddrs c).map s.reg ++ (ilKeys c).map s.tab

/-- Puts a list of words into the trims. -/
def trimsPut (c : Nat) (l : List Word) : Prog :=
  seqs [fun _ => ((trimAddrs c).zip l).map fun p => .regs p.1 p.2,
    fun _ => ((ilKeys c).zip (l.drop 16)).map fun p => .tabs p.1 p.2]

/-- CNV_STAT.CAL_STATE: 0 IDLE, 1 FG_RUN, 2 CHECK, 3 STORE. -/
def State.calState (s : State) (c : Nat) : Nat := s.fg (nb c) CNV.CNV_STAT_CAL_STATE

/-- Sets CAL_STATE; foreground calibration shuts the SOA while it runs (R81). -/
def calTo (c st : Nat) : Prog := seqs [fset (nb c) CNV.CNV_STAT_CAL_STATE st, soaEval c]

/-- FG_CAL_GO (R81). -/
def fgCalGo (src c : Nat) : Prog := fun s =>
  if s.soaOpen c ∧ !s.fb (nb c) CNV.CNV_CTL_FG_FORCE then errPage (nb c) CNV.CNV_CTL src cFG_TX_ON s
  else if s.calState c = 0 then calTo c 1 s else []

/-- Foreground calibration ends: the new trims, or the map of the converters that failed (R81). -/
def fgCalDone (c fail : Nat) (die : Int) (trims : List Word) : Prog := fun s =>
  if s.calState c ≠ 1 then [] else
  seqs [fset (nb c) CNV.CNV_STAT_FAIL_MAP fail, fset (nb c) CNV.CNV_TEMP_DIE (tc 16 die),
    if fail % 256 = 0 then
      seqs [trimsPut c trims, fbset (nb c) CNV.CNV_STAT_FG_DONE true, fbset (nb c) CNV.CNV_STAT_FG_FAIL false,
        fbset (nb c) CNV.CNV_STAT_STORED_IN_USE false, raise (nb c) 0]
    else seqs [fbset (nb c) CNV.CNV_STAT_FG_DONE false, fbset (nb c) CNV.CNV_STAT_FG_FAIL true, raise (nb c) 1],
    calTo c 0] s

/-- Background calibration runs (R82). -/
def State.bgActive (s : State) (c : Nat) : Bool :=
  s.live ⟨.cnv, c⟩ && s.fb (nb c) CNV.CNV_CTL_BG_CAL_EN && s.calState c == 0

/-- One step of a trim of `w` bits at bit `lo`, up or down, kept inside ±`m`. -/
def trimStep (v : Word) (lo w m : Nat) (up : Bool) : Word :=
  let x := sx w (bitsGet v lo w)
  bitsPut v lo w (tc w (if up then min (m : Int) (x + 1) else max (-(m : Int)) (x - 1)))

/-- A trim that background calibration moves: a lane skew or gain, or a field of an interleave entry. -/
def trimMove (c tbl idx fld : Nat) (up : Bool) : Prog := fun s =>
  if tbl = 0 then
    let a := nb c + 0x110 + 4 * (idx % 16)
    [.regs a (if idx % 16 < 8 then trimStep (s.reg a) 0 12 1000 up else trimStep (s.reg a) 0 10 300 up)]
  else
    let k := tabKey (nb c) (tbl - 1) idx 0
    [.tabs k (if fld = 0 then trimStep (s.tab k) 0 8 127 up else if fld = 1 then trimStep (s.tab k) 8 10 511 up
      else trimStep (s.tab k) 18 12 2047 up)]

/-- A background update: each named trim moves by one step, and the update is counted (R82). -/
def bgUpdate (c : Nat) (die : Int) (moves : List (Nat × Nat × Nat × Bool)) : Prog := fun s =>
  if s.bgActive c then
    seqs [forP moves fun m => trimMove c m.1 m.2.1 m.2.2.1 m.2.2.2, fset (nb c) CNV.CNV_TEMP_DIE (tc 16 die),
      fincSat (nb c) CNV.BG_CAL_CNT_COUNT 1] s
  else []

/-- STORE_GO (R84). -/
def storeGo (c : Nat) : Prog := fun s => if s.calState c = 0 then calTo c 3 s else []

/-- The record is written, or not; the earlier record then stays (R84). The record begins with the die temperature. -/
def storeDone (c : Nat) (ok : Bool) : Prog := fun s =>
  if s.calState c ≠ 3 then [] else
  seqs [if ok then seqs [cnvUpd c fun r => { r with stored := BitVec.ofNat 32 (s.fg (nb c) CNV.CNV_TEMP_DIE) :: s.trims c },
        raise (nb c) 4]
      else errPage (nb c) CNV.CNV_CTL srcNone cSTORE_FAIL,
    calTo c 0] s

/-- LOAD_STORED (R84). -/
def loadStored (src c : Nat) : Prog := fun s =>
  match (s.cnv c).stored with
  | [] => errPage (nb c) CNV.CNV_CTL src cNO_STORED s
  | _ :: l => seqs [trimsPut c l, fbset (nb c) CNV.CNV_STAT_STORED_IN_USE true] s

/-- CHECK_GO (R85). -/
def checkGo (c : Nat) : Prog := fun s => if s.calState c = 0 then calTo c 2 s else []

/-- The lowest of a list of values with its place, the first of equals. -/
def lowest (l : List Nat) : Nat × Nat :=
  l.zipIdx.foldl (fun m e => if e.1 < m.1 then e else m) (l.headD 0, 0)

/-- The check ends with the ENOB of the eight converters in 0.01 bit; an error that waits for it is classified
(R85, R519). -/
def checkDone (c : Nat) (enob : List Nat) : Prog := fun s =>
  if s.calState c ≠ 2 then [] else
  let bad := (enob.take 4).any (fun e => decide (e < s.fg (nb c) CNV.CHECK_LIMIT_ADC_LIM))
    || (enob.drop 4).any fun e => decide (e < s.fg (nb c) CNV.CHECK_LIMIT_DAC_LIM)
  seqs [fset (nb c) CNV.CHECK_RES_ENOB (lowest enob).1, fset (nb c) CNV.CHECK_RES_LANE (lowest enob).2,
    fbset (nb c) CNV.CNV_STAT_CHECK_FAIL bad, if bad then raise (nb c) 2 else skip,
    calTo c 0,
    match s.waitingTest 6 fun e => e.page == nb c with
    | some q => classify q bad
    | none => skip] s

/-- CAP_GO: only in a raw-converter session (R86). -/
def capGo (src c : Nat) : Prog := fun s =>
  if s.scopeOpen 1 then
    seqs [cnvUpd c fun r => { r with capBusy := true }, fbset (nb c) CNV.CAP_CTL_CAP_DONE false] s
  else errPage (nb c) CNV.CAP_CTL src cNO_SCOPE s

/-- A capture completes: 16,384 words of four samples, earliest lowest (R86, R89). -/
def capDone (c : Nat) (samples : List Word) : Prog := fun s =>
  if (s.cnv c).capBusy then
    seqs [fun _ => ((List.range 16384).zip samples).map fun p => .tabs (tabKey (nb c) 2 p.1 0) p.2,
      cnvUpd c fun r => { r with capBusy := false },
      fbset (nb c) CNV.CAP_CTL_CAP_DONE true, raise (nb c) 5] s
  else []

/-- The sample clock loses lock: CLK_UNLOCK, a DEGRADED error, the SOA shut (R80, R508). -/
def clkUnlock (c : Nat) : Prog := fun s =>
  if s.pageOn ⟨.cnv, c⟩ ∧ !(s.cnv c).clkLost then
    seqs [fbset (nb c) CNV.CNV_STAT_CLK_LOCKED false, cnvUpd c fun r => { r with clkLost := true }, raise (nb c) 3,
      soaEval c, report eCNV_CLK (4 + c) (nb c) 0 c] s
  else []

/-- The sample clock locks: the SOA may open again, and a check that waits for the lock starts (R80, R508). -/
def clkRelock (c : Nat) : Prog := fun s =>
  if s.pageOn ⟨.cnv, c⟩ then
    seqs [fbset (nb c) CNV.CNV_STAT_CLK_LOCKED true, cnvUpd c fun r => { r with clkLost := false }, soaEval c,
      if (s.waitingTest 6 fun e => e.page == nb c).isSome then checkGo c else skip] s
  else []

/-- The offsets of the trims that need the DAC domain (R88). -/
def dacTrim (off : Nat) : Bool := decide ((0x120 ≤ off ∧ off < 0x130) ∨ (0x140 ≤ off ∧ off < 0x150))

/-- A trim register. -/
def isTrim (off : Nat) : Bool := decide (0x110 ≤ off ∧ off < 0x150)

/-- The host may write trims: background calibration off and no run active (R83). -/
def State.trimOpen (s : State) (c : Nat) : Bool := !s.fb (nb c) CNV.CNV_CTL_BG_CAL_EN && s.calState c == 0

/-- A write of a trim register: a value outside its range is unpredictable (R91). -/
def trimWrite (src c : Nat) (r : RegRow) (v : Word) : Prog := fun s =>
  if dacTrim r.off ∧ !s.pdOn (11 * c + 2) then errPage (nb c) r.off src cPAGE_OFF s
  else if !s.trimOpen c then errPage (nb c) r.off src cCAL_BUSY s
  else
    let ok := if r.off < 0x130 then decide ((sx 12 v.toNat).natAbs ≤ 1000) else decide ((sx 10 v.toNat).natAbs ≤ 300)
    if ok then plainWrite (nb c) r [] v s else withFree (plainWrite (nb c) r []) s

/-- A write of a CNVc register. -/
def cnvWrite (src c : Nat) (r : RegRow) (v : Word) : Prog := fun s =>
  if isTrim r.off then trimWrite src c r v s
  else if r.off = CNV.CAP_CTL then
    seqs [if (s.cnv c).capBusy ∧ wrote v CNV.CAP_CTL_LANE ≠ s.fg (nb c) CNV.CAP_CTL_LANE then
        withFree (plainWrite (nb c) r []) else plainWrite (nb c) r [] v,
      if wroteB v CNV.CAP_CTL_CAP_GO then capGo src c else skip] s
  else if r.off = CNV.CNV_CTL then
    seqs [plainWrite (nb c) r [] v,
      if wroteB v CNV.CNV_CTL_FG_CAL_GO then fgCalGo src c else skip,
      if wroteB v CNV.CNV_CTL_STORE_GO then storeGo c else skip,
      if wroteB v CNV.CNV_CTL_LOAD_STORED then loadStored src c else skip,
      if wroteB v CNV.CNV_CTL_CHECK_GO then checkGo c else skip] s
  else plainWrite (nb c) r [⟨CNV.CHECK_LIMIT_ADC_LIM, 1, 65535⟩, ⟨CNV.CHECK_LIMIT_DAC_LIM, 1, 65535⟩] v s

/-- The computed registers of CNVc. -/
def cnvView (c : Nat) (s : State) (off : Nat) : Option Word :=
  if dacTrim off ∧ !s.pdOn (11 * c + 2) then some 0
  else if off = CNV.CNV_STAT then
    some (bitsPut (bitsPut (s.reg (nb c + off)) 10 1 (b2n (s.bgActive c))) 6 1 (b2n (!(s.cnv c).stored.isEmpty)))
  else if off = CNV.CNV_TEMP then
    some (bitsPut (s.reg (nb c + off)) 16 16 (match (s.cnv c).stored with | w :: _ => w.toNat | [] => 0))
  else none

/-- A write of a window word of CNVc: ADC_IL, DAC_IL, CAPTURE (R83, R86, R88, R89). -/
def cnvTab (src c t e : Nat) (v : Word) : Prog := fun s =>
  let refuse := errPage (nb c) (oWIN_DATA 0) src
  if t = 2 then refuse cRO_WRITE s
  else if t = 1 ∧ !s.pdOn (11 * c + 2) then refuse cPAGE_OFF s
  else if !s.trimOpen c then refuse cCAL_BUSY s
  else [.tabs (tabKey (nb c) t e 0) (v &&& 0x3FFFFFFF)]

/-- Window words of CNVc as they read: DAC_IL needs the DAC domain, CAPTURE a raw-converter session (R86, R88). -/
def cnvTabView (s : State) (c t e : Nat) : Word :=
  if (t = 1 ∧ !s.pdOn (11 * c + 2)) ∨ (t = 2 ∧ !s.scopeOpen 1) then 0 else s.tab (tabKey (nb c) t e 0)

end Sys2Proof.Machine
end

