-- ==== Sys2Proof/Machine/Swap.lean ====
section
/-!
DEFINITION. Machine/Swap.lean: the swap of coefficient banks with a cross-fade, which TXDc (R110), RXMc (R152), the
dedicated streams of SCBc.s (R155) and SNS (R365) share: a request is served at once while stopped, refused in
stopped-only mode, or starts a fade at the next boundary; one request is queued during a fade.
-/

namespace Sys2Proof.Machine

/-- Where a page keeps its banks: its base, the fields that show them, the event bits, the refusal. -/
structure SwapPage where
  b : Nat
  active : Fld
  fading : Fld
  queued : Fld
  qbank : Fld
  mode : Fld
  cnt : Option Fld
  evDone : Nat
  evRefused : Nat
  evQueued : Option Nat
  req : Nat
  code : Nat
  refCnt : Option Fld
  deriving DecidableEq, Repr

/-- Changes the record of a swap. -/
def swapUpd (b : Nat) (f : SwapRec → SwapRec) : Prog := fun s => [.swaps b (f (s.swap b))]

/-- The swap to a bank completes: counted and SWAP_DONE raised. -/
def swapDone (p : SwapPage) (bank : Nat) : Prog :=
  seqs [fset p.b p.active bank, match p.cnt with | some f => fincSat p.b f 1 | none => skip, raise p.b p.evDone]

/-- A refusal: counted with its code, SWAP_REFUSED raised. -/
def swapRefuse (p : SwapPage) (src code : Nat) : Prog :=
  seqs [errPage p.b p.req src code, match p.refCnt with | some f => fincSat p.b f 1 | none => skip,
    raise p.b p.evRefused]

/-- A request for a bank, with no fade running: no effect, at once, refused, or a fade at the next boundary. -/
def swapServe (p : SwapPage) (stopped : Bool) (src bank : Nat) : Prog := fun s =>
  if s.fg p.b p.active = bank then []
  else if stopped then seqs [swapUpd p.b fun r => { r with wait := none }, swapDone p bank] s
  else if s.fg p.b p.mode = 0 then swapRefuse p src p.code s
  else swapUpd p.b (fun r => { r with wait := some bank }) s

/-- A request for a bank: during a fade it is queued, and a later one replaces it. -/
def swapReq (p : SwapPage) (stopped : Bool) (src bank : Nat) : Prog := fun s =>
  if s.fb p.b p.fading then
    seqs [fbset p.b p.queued true, fset p.b p.qbank bank,
      match p.evQueued with | some n => raise p.b n | none => skip] s
  else swapServe p stopped src bank s

/-- The boundary at which a waiting fade starts, to last `len` boundaries; a running fade comes one nearer its end. -/
def swapBoundary (p : SwapPage) (len : Nat) : Prog := fun s =>
  match (s.swap p.b).wait with
  | some bank => seqs [swapUpd p.b fun r => { r with wait := none, dest := bank, left := len }, fbset p.b p.fading true] s
  | none => if s.fb p.b p.fading then swapUpd p.b (fun r => { r with left := r.left - 1 }) s else []

/-- The fade ends: its bank is active, a LOAD_MODE written during it applies, and a queued request is served as if it
had just arrived. -/
def swapFinish (p : SwapPage) (stopped : Bool) : Prog := fun s =>
  let r := s.swap p.b
  seqs [fbset p.b p.fading false, swapUpd p.b fun r => { r with mode := none, left := 0 }, swapDone p r.dest,
    match r.mode with | some m => fset p.b p.mode m | none => skip,
    if s.fb p.b p.queued then
      seqs [fbset p.b p.queued false, swapServe p stopped srcNone (s.fg p.b p.qbank)]
    else skip] s

/-- The end of a fade arrives: it takes effect once the fade has lasted its length. -/
def swapFadeEnd (p : SwapPage) (stopped : Bool) : Prog := fun s =>
  if s.fb p.b p.fading ∧ (s.swap p.b).left = 0 then swapFinish p stopped s else []

/-- Writes to a bank are refused during a fade in which it takes part, and to the active bank while not stopped. -/
def State.bankBusy (s : State) (p : SwapPage) (stopped : Bool) (bank : Nat) : Bool :=
  s.fb p.b p.fading || (s.fg p.b p.active == bank && !stopped)

end Sys2Proof.Machine
end

