-- ==== Sys2Proof/Machine/Txd.lean ====
section
/-!
DEFINITION. Machine/Txd.lean: the transmit chains of the TXDc pages: profiles (R97, R99, R100), subcarrier sets (R105),
coefficient banks (R108–R111) and the run control (R112).
-/

namespace Sys2Proof.Machine

/-- The base of TXDc. -/
def xb (c : Nat) : Nat := pageBase .txd c

def cPROFILE_BUSY : Nat := 0x80
def cPROFILE_BAD : Nat := 0x81
def cSC_ACTIVE : Nat := 0x82
def cBOND_ALIGN : Nat := 0x83
def cSWAP_LIVE : Nat := 0x84
def cTXD_BANK_BUSY : Nat := 0x85

/-- The banks of TXDc (R110). -/
def txdSwap (c : Nat) : SwapPage :=
  { b := xb c, active := TXD.TXD_STAT_ACTIVE, fading := TXD.TXD_STAT_FADING, queued := TXD.TXD_STAT_QUEUED,
    qbank := TXD.TXD_STAT_QBANK, mode := TXD.TXD_CTL_LOAD_MODE, cnt := some TXD.SWAP_CNT_COUNT, evDone := 0,
    evRefused := 1, evQueued := some 3, req := TXD.SWAP_REQ, code := cSWAP_LIVE, refCnt := none }

/-- Changes the record of a transmit chain. -/
def txdUpd (c : Nat) (f : TxdRec → TxdRec) : Prog := fun s => [.txds c (f (s.txd c))]

/-- The chain may run: TX_RUN, its page live, a timeline, and not MON (R92, R112). -/
def State.txMay (s : State) (c : Nat) : Bool :=
  s.fb (xb c) TXD.TXD_CTL_TX_RUN && s.live ⟨.txd, c⟩ && (s.tl c).run && s.modeNow c != mMON

/-- The chain runs (TXD_STAT.RUNNING). -/
def State.txRunning (s : State) (c : Nat) : Bool := s.fb (xb c) TXD.TXD_STAT_RUNNING

/-- The transmitter is stopped: TX_RUN is 0, the SOA is shut, or the chain does not run (R109). -/
def State.txStopped (s : State) (c : Nat) : Bool :=
  !s.fb (xb c) TXD.TXD_CTL_TX_RUN || !s.soaOpen c || !s.txRunning c

/-- The chain stops when it may not run; while stopped, a fade completes at once and a waiting one too (R110, R112). -/
def txdEval (c : Nat) : Prog := fun s =>
  seqs [if s.txRunning c ∧ !s.txMay c then fbset (xb c) TXD.TXD_STAT_RUNNING false else skip,
    fun t =>
      if !t.txStopped c then []
      else if t.fb (xb c) TXD.TXD_STAT_FADING then swapFinish (txdSwap c) true t
      else match (t.swap (xb c)).wait with
        | some bank => swapServe (txdSwap c) true srcNone bank t
        | none => []] s

/-! ### Profiles (R97, R99, R100) -/

/-- A word of profile `e` of the table at a page base. -/
def State.prof (s : State) (b e w : Nat) : Word := s.tab (tabKey b 0 e w)

/-- The counts N1, N3, N5, N7 of a profile (R114). -/
def profCounts (s : State) (b e : Nat) : List Nat :=
  [bitsGet (s.prof b e 2) 0 11, bitsGet (s.prof b e 2) 16 11, bitsGet (s.prof b e 3) 0 11, bitsGet (s.prof b e 3) 16 11]

/-- 1024! / (N1! N3! N5! N7!), rounded down (R97). -/
def profWays (l : List Nat) : Nat := multinomial 1024 l

/-- VALID of a profile: the counts sum to 1,024, N5 and N7 are 0 for the 2-amplitude alphabet, and K ≤ KMAX (R97). -/
def profValid (alph k : Nat) (l : List Nat) : Bool :=
  l.foldl (· + ·) 0 == 1024 && (alph == 0 || (l.getD 2 0 == 0 && l.getD 3 0 == 0)) && decide (k ≤ Nat.log2 (profWays l))

/-- KMAX, VALID and H_EFF of a profile are computed, H in 1/4096 bit (R97). Where the quotient is below 1, which no
sum of 1,024 gives, KMAX is not stated. -/
def profCompute (b e : Nat) : Prog := fun s =>
  let l := profCounts s b e
  let k := bitsGet (s.prof b e 1) 0 12
  let alph := bitsGet (s.prof b e 0) 0 1
  let put (kmax : Nat) : Prog := fun t =>
    [.tabs (tabKey b 0 e 4) (BitVec.ofNat 32 ((8192 + 8 * k) % 65536 * 65536 + kmax % 4096)),
     .tabs (tabKey b 0 e 0) (bitsPut (t.prof b e 0) 31 1 (b2n (profValid alph k l)))]
  if profWays l = 0 then withFree (fun w => put w.toNat) s else put (Nat.log2 (profWays l)) s

/-- VALID and ALPH of a profile as they stand. -/
def State.profOk (s : State) (b e : Nat) (alph : Nat) : Bool :=
  bitsGet (s.prof b e 0) 31 1 == 1 && bitsGet (s.prof b e 0) 0 1 == alph

/-- The alphabet of a single-carrier mode: 0 four amplitudes, 1 two, none where the mode does not shape (R98). -/
def modeAlph (m : Nat) : Option Nat :=
  if m = mL2400 ∨ m = mL2000 then some 0 else if m = mL1600 ∨ m = mL1200 then some 1 else none

/-- A carrier's profile may be selected: valid, of the alphabet that the mode's format has (R99). -/
def State.selectOk (s : State) (b e m : Nat) : Bool :=
  match modeAlph m with
  | some a => s.profOk b e a
  | none => bitsGet (s.prof b e 0) 31 1 == 1

/-- An entry of the subcarrier table. -/
def State.scEntry (s : State) (c set sc : Nat) : Word := s.tab (tabKey (xb c) 1 (set * 64 + sc) 0)

/-- An entry is covered by a bonded group whose first entry is enabled, and is ignored (R104, R105). -/
def State.scCovered (s : State) (c set i : Nat) : Bool :=
  let leads (j bond : Nat) : Bool := bitsGet (s.scEntry c set j) 0 1 == 1 && bitsGet (s.scEntry c set j) 3 2 == bond
  (i % 2 == 1 && leads (i - 1) 1) || (i % 4 != 0 && leads (i / 4 * 4) 2)

/-- A subcarrier set may be selected: every enabled PCS-64QAM entry that no bonded group covers names a valid
4-amplitude profile (R99, R105). -/
def State.setOk (s : State) (c set : Nat) : Bool :=
  (List.range 64).all fun i =>
    let w := s.scEntry c set i
    bitsGet w 0 1 == 0 || s.scCovered c set i || bitsGet w 1 2 != 2 || s.profOk (xb c) (bitsGet w 8 4) 0

/-- A profile is in use: the live selection names it, an entry of the active set, or a staged selection of a pending
deal (R99). -/
def State.profInUse (s : State) (c e : Nat) : Bool :=
  s.fg (xb c) TXD.TXD_SHAPE_PROFILE == e
  || (List.range 64).any (fun i => bitsGet (s.scEntry c (s.fg (xb c) TXD.TXD_SC_SEL_SET) i) 8 4 == e)
  || s.deals.any fun d => d.pending && d.acts.any fun a =>
      match a with
      | .write ad v => ad == xb c + TXD.TXD_SHAPE && wrote v TXD.TXD_SHAPE_PROFILE == e
      | _ => false

/-- A write of TXD_SHAPE: the profile is selected or refused (R99, R100). -/
def shapeWrite (src c : Nat) (v : Word) : Prog := fun s =>
  let e := wrote v TXD.TXD_SHAPE_PROFILE
  if s.selectOk (xb c) e (s.frameMode c) then
    seqs [fset (xb c) TXD.TXD_SHAPE_PROFILE e, txdUpd c fun r => { r with shape := 1 }] s
  else seqs [errPage (xb c) TXD.TXD_SHAPE src cPROFILE_BAD, raise (xb c) 2] s

/-- A write of TXD_SC_SEL: the set is selected or refused (R99, R100). -/
def scSelWrite (src c : Nat) (v : Word) : Prog := fun s =>
  let e := wrote v TXD.TXD_SC_SEL_SET
  if s.setOk c e then seqs [fset (xb c) TXD.TXD_SC_SEL_SET e, txdUpd c fun r => { r with shape := 1 }] s
  else seqs [errPage (xb c) TXD.TXD_SC_SEL src cPROFILE_BAD, raise (xb c) 2] s

/-- The first shaping group after the multiframe start: the selected profile and set are in effect (R100). -/
def shapingSwitch (c : Nat) : Prog := fun s =>
  if (s.txd c).shape ≠ 2 then [] else
  let e := s.fg (xb c) TXD.TXD_SHAPE_PROFILE
  let set := s.fg (xb c) TXD.TXD_SC_SEL_SET
  seqs [fset (xb c) TXD.TXD_SHAPE_PROFILE_NOW e,
    fset (xb c) TXD.SHAPE_STAT_H_NOW (bitsGet (s.prof (xb c) e 4) 16 16),
    if s.fg (xb c) TXD.TXD_STAT_SET_NOW = set then skip else raise (xb c) 5,
    fset (xb c) TXD.TXD_STAT_SET_NOW set,
    txdUpd c fun r => { r with shape := 0 }] s

/-- A word of the profile table is written: refused while the profile is in use (R99); VALID and word 4 are RO. -/
def profWrite (b : Nat) (busy : Bool) (code src e w : Nat) (v : Word) : Prog := fun s =>
  if busy then errPage b (oWIN_DATA w) src code s
  else if w = 4 then errPage b (oWIN_DATA w) src cRO_WRITE s
  else
    let m : Word := if w = 0 then 1 else if w = 1 then 0xFFF else 0x07FF07FF
    [.tabs (tabKey b 0 e w) ((s.prof b e w &&& ~~~m) ||| (v &&& m))]

/-! ### Subcarriers (R104, R105) -/

/-- A bonding is allowed at an index: single anywhere, pairs and quads at multiples of their size, none in H16
(R104). -/
def bondOk (h16 : Bool) (i bond : Nat) : Bool :=
  bond == 0 || (!h16 && ((bond == 1 && i % 2 == 0) || (bond == 2 && i % 4 == 0) || bond == 3))

/-- A write of a subcarrier entry (R105, R116). -/
def scWrite (src c e : Nat) (v : Word) : Prog := fun s =>
  let off := oWIN_DATA 0
  let m : Word := 0x00FF0F1F
  let gain := sx 8 (bitsGet v 16 8)
  let put (x : Word) : Prog := fun _ => [.tabs (tabKey (xb c) 1 e 0) (x &&& m)]
  if e / 64 = s.fg (xb c) TXD.TXD_SC_SEL_SET ∧ s.txRunning c then errPage (xb c) off src cSC_ACTIVE s
  else if !bondOk (s.modeNow c == mH16) (e % 64) (bitsGet v 3 2) then errPage (xb c) off src cBOND_ALIGN s
  else if bitsGet v 1 2 = 3 ∨ bitsGet v 3 2 = 3 ∨ gain < -60 ∨ 60 < gain then withFree put s
  else put v s

/-! ### Banks (R108–R111) -/

/-- A write of BANKb_CD (R111, R116). -/
def txdCdWrite (src c bank : Nat) (v : Word) : Prog := fun s =>
  let off := TXD.BANK0_CD + 4 * bank
  if s.bankBusy (txdSwap c) (s.txStopped c) bank then errPage (xb c) off src cTXD_BANK_BUSY s
  else if (sx 21 (bitsGet v 0 21)).natAbs ≤ 20000 then rset (xb c + off) (v &&& 0x1FFFFF) s
  else withFree (fun w => rset (xb c + off) (w &&& 0x1FFFFF)) s

/-- A write of a TXEQ coefficient (R111). -/
def txeqWrite (src c e : Nat) (v : Word) : Prog := fun s =>
  if s.bankBusy (txdSwap c) (s.txStopped c) (e / 96) then errPage (xb c) (oWIN_DATA 0) src cTXD_BANK_BUSY s
  else [.tabs (tabKey (xb c) 2 e 0) (v &&& 0xFFF)]

/-- The factory coefficients go into both banks (R109). -/
def txeqFactory (c : Nat) : Prog := fun _ =>
  (List.range 192).map fun e => .tabs (tabKey (xb c) 2 e 0) (Config.factoryTxeq e &&& 0xFFF)

/-- The ranges outside of which TXDc fields are unpredictable (R116). -/
def txdLims : List Lim := [⟨TXD.FADE_CFG_LEN, 1, 4095⟩, ⟨TXD.PILOT_CFG_BOOST, 0, 30⟩, ⟨TXD.CLIP_CFG_LEVEL, 60, 140⟩]

/-- A write of a TXDc register. -/
def txdWrite (src c : Nat) (r : RegRow) (v : Word) : Prog := fun s =>
  if r.off = TXD.TXD_SHAPE then shapeWrite src c v s
  else if r.off = TXD.TXD_SC_SEL then scSelWrite src c v s
  else if r.off = TXD.BANK0_CD then txdCdWrite src c 0 v s
  else if r.off = TXD.BANK1_CD then txdCdWrite src c 1 v s
  else if r.off = TXD.SWAP_REQ then swapReq (txdSwap c) (s.txStopped c) src (wrote v TXD.SWAP_REQ_BANK) s
  else seqs [plainWrite (xb c) r txdLims v, txdEval c] s

/-- A write of a TXDc table word. -/
def txdTab (src c t e w : Nat) (v : Word) : Prog := fun s =>
  if t = 0 then profWrite (xb c) (s.profInUse c e) cPROFILE_BUSY src e w v s
  else if t = 1 then scWrite src c e v s
  else txeqWrite src c e v s

/-- The computed registers of TXDc; H_NOW is 0 in hub, leaf and uniform modes (R113). -/
def txdView (c : Nat) (s : State) (off : Nat) : Option Word :=
  if off = TXD.TXD_STAT then some (bitsPut (s.reg (xb c + off)) 1 1 (b2n (s.txStopped c)))
  else if off = TXD.SHAPE_STAT ∧ (modeAlph (s.frameMode c)).isNone then some 0
  else none

/-- What a line frame boundary of the timeline brings to the chain: a waiting chain starts, a waiting fade starts or a
running one comes nearer its end (R110, R112). -/
def txdFrame (c : Nat) : Prog := fun s =>
  seqs [if s.txMay c then fbset (xb c) TXD.TXD_STAT_RUNNING true else skip,
    fun t => if t.live ⟨.txd, c⟩ then swapBoundary (txdSwap c) (t.fg (xb c) TXD.FADE_CFG_LEN) t else []] s

/-- The multiframe start after a change of profile or set (R100). -/
def txdMultiframe (c : Nat) : Prog := fun s =>
  if (s.txd c).shape = 1 then txdUpd c (fun r => { r with shape := 2 }) s else []

/-- Clipped samples are counted; CLIP_HIGH when more than 10^6 come in one second (R101, R114). -/
def txdClips (c n : Nat) : Prog := fun s =>
  if n = 0 ∨ !s.txRunning c then [] else
  let cnt := s.fg (xb c) TXD.CLIP_CNT_COUNT
  let late := !s.running (xb c) || s.expired (xb c) 1000000000
  let base := if late then cnt else (s.txd c).clipBase
  seqs [fincSat (xb c) TXD.CLIP_CNT_COUNT n,
    if late then seqs [txdUpd c fun r => { r with clipBase := cnt }, timerStart (xb c)] else skip,
    if cnt - base ≤ 1000000 ∧ 1000000 < cnt + n - base then raise (xb c) 4 else skip] s

end Sys2Proof.Machine
end

