-- ==== Sys2Proof/Machine/Rxf.lean ====
section
/-!
DEFINITION. Machine/Rxf.lean: the dispersion equaliser's banks, scan, acquisition, tracking and timing recovery of the
RXFc pages (R117–R136, R553).
-/

namespace Sys2Proof.Machine

/-- The base of RXFc. -/
def rb (c : Nat) : Nat := pageBase .rxf c

/-- Changes the record of an equaliser. -/
def rxfUpd (c : Nat) (f : RxfRec → RxfRec) : Prog := fun s => [.rxfs c (f (s.rxf c))]

/-! ### States and codes (R128, R136) -/

def qIDLE : Nat := 0
def qWAIT : Nat := 1
def qTRY_ACTIVE : Nat := 2
def qTRY_ALT : Nat := 3
def qSCAN : Nat := 4
def qTIMING : Nat := 5
def qRUN : Nat := 6

def cRXF_SWAP_LIVE : Nat := 0x80
def cRXF_BANK_BUSY : Nat := 0x81
def cCD_RANGE : Nat := 0x82
def cACQ_BUSY : Nat := 0x83
def cTRACK_ON : Nat := 0x84
def cSCAN_BUSY : Nat := 0x85

/-- ACQ_STAT.STATE. -/
def State.acq (s : State) (c : Nat) : Nat := s.fg (rb c) RXF.ACQ_STAT_STATE

/-- The receiver is running: TIMING or RUN (R120). -/
def State.rxRunning (s : State) (c : Nat) : Bool := decide (qTIMING ≤ s.acq c)

/-- A trial or scan of acquisition is under way. -/
def State.acqTrying (s : State) (c : Nat) : Bool := decide (qTRY_ACTIVE ≤ s.acq c ∧ s.acq c ≤ qSCAN)

/-- The time limits of RXFc: the TIMING state, the time since ACQ_FAIL, the fade, the residual over its threshold, the
scan. -/
def tTiming (c : Nat) : Nat := rb c
def tAcqFail (c : Nat) : Nat := rb c + 1
def tCdFade (c : Nat) : Nat := rb c + 2
def tTrack (c : Nat) : Nat := rb c + 3
def tScan (c : Nat) : Nat := rb c + 4

/-- The dispersion range of a mode in ps/nm (R118). -/
def cdRange (m : Nat) : Nat :=
  if m = mL2400 ∨ m = mH64 ∨ m = mZ400 then 20000
  else if m = mL2000 ∨ m = mH16 ∨ m = mLEAF then 40000
  else if m = mL1600 then 80000
  else if m = mL1200 then 120000
  else if m = mL800 then 200000
  else if m = mL400 then 250000
  else Config.openNat m

/-- BANKb_CD as a number. -/
def State.cdBank (s : State) (c b : Nat) : Int := sx 20 (bitsGet (s.reg (rb c + RXF.BANK0_CD + 4 * b)) 0 20)

/-- The fields of a bank. -/
def fldREADY (b : Nat) : Fld := if b = 0 then RXF.CD_STAT_READY0 else RXF.CD_STAT_READY1
def fldRANGE (b : Nat) : Fld := if b = 0 then RXF.CD_STAT_RANGE0 else RXF.CD_STAT_RANGE1

/-- The active bank, and the other. -/
def State.cdActive (s : State) (c : Nat) : Nat := s.fg (rb c) RXF.CD_STAT_ACTIVE
def State.cdInactive (s : State) (c : Nat) : Nat := 1 - s.cdActive c

/-- A bank's coefficients are being computed. -/
def RxfRec.busy (r : RxfRec) (b : Nat) : Bool := if b = 0 then r.busy0 else r.busy1

/-- The computation of a bank starts: it is not ready (R119). -/
def cdCompute (c b : Nat) : Prog :=
  seqs [fbset (rb c) (fldREADY b) false,
    rxfUpd c fun r => if b = 0 then { r with busy0 := true } else { r with busy1 := true }]

/-- A bank takes a value, and its computation starts (R119). -/
def cdLoad (c b : Nat) (v : Int) : Prog :=
  seqs [rset (rb c + RXF.BANK0_CD + 4 * b) (BitVec.ofNat 32 (tc 20 v)), fbset (rb c) (fldRANGE b) false, cdCompute c b]

/-- A refused bank write or swap request is counted in REFUSE_CNT and ERR_CNT (R123). -/
def cdRefuse (c off src code : Nat) : Prog :=
  seqs [fincSat (rb c) RXF.REFUSE_CNT_COUNT 1, errPage (rb c) off src code]

/-- The swap to a bank completes. -/
def cdSwapDone (c b : Nat) : Prog :=
  seqs [fset (rb c) RXF.CD_STAT_ACTIVE b, fincSat (rb c) RXF.SWAP_CNT_COUNT 1, raise (rb c) 0]

/-! ### Swap requests (R121, R122) -/

/-- No request waits any longer. -/
def cdUnqueue (c : Nat) : Prog := fbset (rb c) RXF.CD_STAT_QUEUED false

/-- A request waits (R122). -/
def cdQueue (c b : Nat) (hard : Bool) : Prog :=
  seqs [fbset (rb c) RXF.CD_STAT_QUEUED true, fset (rb c) RXF.CD_STAT_QBANK b, fbset (rb c) RXF.CD_STAT_QHARD hard]

/-- A swap request is served, joins the wait, or is refused (R121, R122). -/
def cdSwapReq (src c b : Nat) (hard : Bool) : Prog := fun s =>
  if s.acqTrying c then seqs [cdRefuse c RXF.SWAP_REQ src cACQ_BUSY, raise (rb c) 1] s
  else if s.fb (rb c) RXF.CD_STAT_FADING then seqs [cdQueue c b hard, raise (rb c) 2] s
  else seqs [cdUnqueue c,
    if s.fb (rb c) (fldRANGE b) then seqs [cdRefuse c RXF.SWAP_REQ src cCD_RANGE, raise (rb c) 1]
    else if !s.fb (rb c) (fldREADY b) then cdQueue c b hard
    else if s.cdActive c = b then skip
    else if !s.rxRunning c then seqs [rxfUpd c fun r => { r with boundary := .none }, cdSwapDone c b]
    else if hard then rxfUpd c fun r => { r with boundary := .hard b }
    else if s.fb (rb c) RXF.CD_CTL_LOAD_MODE then rxfUpd c fun r => { r with boundary := .fade b }
    else seqs [cdRefuse c RXF.SWAP_REQ src cRXF_SWAP_LIVE, raise (rb c) 1]] s

/-- The waiting request is served as if it had just arrived, once no fade runs and its bank is ready; one that names a
bank out of range is discarded (R122). -/
def cdServeWait (c : Nat) : Prog := fun s =>
  if s.fb (rb c) RXF.CD_STAT_QUEUED ∧ !s.fb (rb c) RXF.CD_STAT_FADING then
    let b := s.fg (rb c) RXF.CD_STAT_QBANK
    if s.fb (rb c) (fldREADY b) ∨ s.fb (rb c) (fldRANGE b) then
      seqs [cdUnqueue c, cdSwapReq srcNone c b (s.fb (rb c) RXF.CD_STAT_QHARD)] s
    else []
  else []

/-! ### Bank writes (R119, R123) -/

/-- The module's own write of a bank, under the first two cases of R123 and the range; whether it is accepted. -/
def State.ownWriteOk (s : State) (c b : Nat) (v : Int) : Bool :=
  !s.fb (rb c) RXF.CD_STAT_FADING && !(s.cdActive c == b && s.rxRunning c)
    && decide (v.natAbs ≤ cdRange (s.rxMode c))

/-- The module's own write, refused ones counted. -/
def ownWrite (c b : Nat) (v : Int) : Prog := fun s =>
  let off := RXF.BANK0_CD + 4 * b
  if s.ownWriteOk c b v then cdLoad c b v s
  else cdRefuse c off srcNone
    (if v.natAbs ≤ cdRange (s.rxMode c) ∨ s.fb (rb c) RXF.CD_STAT_FADING then cRXF_BANK_BUSY else cCD_RANGE) s

/-- A write of BANKb_CD by a requester or a deal; `staged` raises SWAP_REFUSED on a refusal (R119, R123, R125). -/
def cdBankWrite (src c b : Nat) (staged : Bool) (v : Word) : Prog := fun s =>
  let off := RXF.BANK0_CD + 4 * b
  let x := sx 20 (bitsGet v 0 20)
  let no (code : Nat) : Prog := seqs [cdRefuse c off src code, if staged then raise (rb c) 1 else skip]
  if s.fb (rb c) RXF.CD_STAT_FADING ∨ (s.cdActive c = b ∧ s.rxRunning c) then no cRXF_BANK_BUSY s
  else if s.acqTrying c then no cACQ_BUSY s
  else if s.fb (rb c) RXF.CD_CTL_TRACK_EN then no cTRACK_ON s
  else if cdRange (s.rxMode c) < x.natAbs then no cCD_RANGE s
  else cdLoad c b x s

/-! ### Acquisition (R128) -/

/-- Enters an acquisition state: what only RUN or a running scan shows is cleared elsewhere. -/
def acqTo (c st : Nat) : Prog :=
  seqs [fset (rb c) RXF.ACQ_STAT_STATE st,
    if st = qRUN then skip else seqs [fbset (rb c) RXF.TR_STAT_LOCK false, fbset (rb c) RXF.CD_MON_VALID false,
      timerStop (tTrack c)],
    if st = qTIMING then timerStart (tTiming c) else timerStop (tTiming c),
    if st = qSCAN then seqs [fset (rb c) RXF.SCAN_STAT_STATE 1, fbset (rb c) RXF.SCAN_STAT_DONE false, timerStart (tScan c)]
    else if st = qIDLE ∨ st = qWAIT ∨ st = qTRY_ACTIVE ∨ st = qTRY_ALT then
      seqs [fset (rb c) RXF.SCAN_STAT_STATE 0, timerStop (tScan c)]
    else skip,
    if st = qTRY_ACTIVE ∨ st = qTRY_ALT ∨ st = qSCAN then skip
    else rxfUpd c fun r => { r with acqWait := none, rewrite := none }]

/-- Acquisition fails: WAIT, with ACQ_FAIL (R128). -/
def acqFail (c : Nat) : Prog :=
  seqs [acqTo c qWAIT, raise (rb c) 4, fincSat (rb c) RXF.ACQ_STAT_FAILS 1, timerStart (tAcqFail c)]

/-- The equaliser may run: RX_RUN, its page live, the ADC domain ON (R128, R135). -/
def State.rxMay (s : State) (c : Nat) : Bool :=
  s.fb (rb c) RXF.RXF_CTL_RX_RUN && s.live ⟨.rxf, c⟩ && s.pdOn (11 * c + 1)

/-- RX_RUN, the page and the ADC domain hold the state at IDLE or let it leave for WAIT; to IDLE, a waiting swap request
is discarded (R128, R135). A swap that waits for a block boundary takes effect when the receiver stops (R121). -/
def rxfEval (c : Nat) : Prog := fun s =>
  if s.rxMay c then
    if s.acq c = qIDLE then acqTo c qWAIT s
    else if s.rxRunning c then []
    else match (s.rxf c).boundary with
      | .none => []
      | .hard b | .fade b => seqs [rxfUpd c fun r => { r with boundary := .none }, cdSwapDone c b] s
  else if s.acq c = qIDLE then []
  else seqs [acqTo c qIDLE, cdUnqueue c, rxfUpd c fun r => { r with boundary := .none }] s

/-- Acquisition rewrites a bank and moves on when it is ready; a fade makes the rewrite wait (R123, R128). -/
def acqRewrite (c b : Nat) (v : Int) : Prog := fun s =>
  if s.fb (rb c) RXF.CD_STAT_FADING then rxfUpd c (fun r => { r with rewrite := some (b, v) }) s
  else seqs [cdLoad c b v, rxfUpd c fun r => { r with acqWait := some b, rewrite := none }] s

/-- Acquisition moves on once the rewritten bank is ready; a bank that was not active becomes so, which is a swap. -/
def acqMoveOn (c : Nat) : Prog := fun s =>
  match (s.rxf c).acqWait with
  | some b =>
    if s.acqTrying c ∧ s.fb (rb c) (fldREADY b) then
      seqs [if s.cdActive c = b then skip else cdSwapDone c b, acqTo c qTIMING] s
    else []
  | none => []

/-- LOS_RAW has been 0 for 10 µs; 10 ms have passed since the last ACQ_FAIL (R128). -/
def acqTryStart (c : Nat) : Prog := fun s =>
  if s.acq c = qWAIT ∧ !s.fb (ob c) OPT.RX_STAT_LOS_RAW then
    seqs [clockEnd (tAcqFail c) 10000000, acqTo c qTRY_ACTIVE] s
  else []

/-- From a rejected trial: the alternate bank, a scan, or failure (R128). -/
def acqReject (c : Nat) : Prog := fun s =>
  if s.acq c = qTRY_ACTIVE ∧ s.fb (rb c) RXF.CD_CTL_ALT_EN ∧ s.fb (rb c) (fldREADY (s.cdInactive c)) then
    acqTo c qTRY_ALT s
  else if s.fb (rb c) RXF.CD_CTL_ACQ_SCAN_EN then acqTo c qSCAN s
  else acqFail c s

/-- A trial ends with its best point and confidence: accepted where the bank is usable, the confidence suffices and the
point does not lie at an edge of the window (R128). -/
def acqTrialDone (c : Nat) (best : Int) (conf : Nat) : Prog := fun s =>
  if (s.acq c ≠ qTRY_ACTIVE ∧ s.acq c ≠ qTRY_ALT) ∨ (s.rxf c).acqWait.isSome ∨ (s.rxf c).rewrite.isSome then [] else
  let b := if s.acq c = qTRY_ACTIVE then s.cdActive c else s.cdInactive c
  let fine := s.fg (rb c) RXF.SCAN_CFG_FINE
  let edge := s.fg (rb c) RXF.ALT_CFG_TOL / fine * fine
  let ok := s.fb (rb c) (fldREADY b) && decide (s.fg (rb c) RXF.SCAN_CFG_CONF_MIN ≤ conf)
    && decide ((best - s.cdBank c b).natAbs < edge)
  seqs [fset (rb c) RXF.SCAN_STAT_CONF conf, if ok then acqRewrite c b best else acqReject c] s

/-- A bank's computation ends: READY; a request that waits for it is served, acquisition moves on (R119, R122, R128). -/
def cdBankReady (c b : Nat) : Prog := fun s =>
  if (s.rxf c).busy b then
    seqs [fbset (rb c) (fldREADY b) true,
      rxfUpd c fun r => if b = 0 then { r with busy0 := false } else { r with busy1 := false },
      acqMoveOn c, cdServeWait c] s
  else []

/-! ### Fades and block boundaries (R121, R122, R124, R553) -/

/-- A block boundary of the equaliser: a hard swap takes effect, a fade starts. -/
def cdBoundary (c : Nat) : Prog := fun s =>
  if !s.rxRunning c then [] else
  match (s.rxf c).boundary with
  | .none => []
  | .hard b => seqs [rxfUpd c fun r => { r with boundary := .none }, cdSwapDone c b] s
  | .fade b => seqs [rxfUpd c fun r => { r with boundary := .none, fadeTo := b }, fbset (rb c) RXF.CD_STAT_FADING true,
      timerStart (tCdFade c)] s

/-- Tracking writes CD_MON into the inactive bank and requests it; a write that a fade refuses is retried (R130). -/
def trackRetarget (c : Nat) : Prog := fun s =>
  let v := sx 20 (s.fg (rb c) RXF.CD_MON_PS)
  let b := s.cdInactive c
  seqs [ownWrite c b v,
    if s.ownWriteOk c b v then seqs [rxfUpd c fun r => { r with trackRetry := false }, cdSwapReq srcNone c b false]
    else rxfUpd c fun r => { r with trackRetry := s.fb (rb c) RXF.CD_STAT_FADING }] s

/-- The fade ends: its bank is active, LOAD_MODE written during it applies, acquisition's rewrite is made, tracking's
write retried, the waiting request served (R122–R124, R130). -/
def cdFadeFinish (c : Nat) : Prog := fun s =>
  let r := s.rxf c
  seqs [fbset (rb c) RXF.CD_STAT_FADING false, timerStop (tCdFade c), cdSwapDone c r.fadeTo,
    match r.mode with | some m => fset (rb c) RXF.CD_CTL_LOAD_MODE m | none => skip,
    rxfUpd c fun r => { r with mode := none },
    match r.rewrite with | some (b, v) => acqRewrite c b v | none => skip,
    if r.trackRetry then trackRetarget c else skip,
    cdServeWait c] s

/-- The length of a fade in ns, where the mode's line-frame period is given (R120): none in Z400. -/
def State.cdFadeNs (s : State) (c : Nat) : Nat :=
  if s.rxMode c = mZ400 then Config.openNat mZ400
  else s.fg (rb c) RXF.FADE_CFG_LEN * (if s.rxMode c = mL400 then 128 else 64)

/-- The end of a fade, once it has lasted its length. -/
def cdFadeEnd (c : Nat) : Prog := fun s =>
  if s.fb (rb c) RXF.CD_STAT_FADING ∧ s.running (tCdFade c) then seqs [clockEnd (tCdFade c) (s.cdFadeNs c), cdFadeFinish c] s else []

/-- Loss of signal in TIMING or RUN: WAIT; a fade is aborted in favour of its target bank, the waiting request is kept
(R128). -/
def rxfLos (c : Nat) : Prog := fun s =>
  if s.rxRunning c ∧ s.fb (ob c) OPT.RX_STAT_LOS_RAW then
    seqs [acqTo c qWAIT, if s.fb (rb c) RXF.CD_STAT_FADING then cdFadeFinish c else skip] s
  else []

/-! ### Scan (R126, R127) -/

/-- A scan is in progress. -/
def State.scanning (s : State) (c : Nat) : Bool := s.fg (rb c) RXF.SCAN_STAT_STATE != 0

/-- SCAN_GO: while the receiver runs; refused during a scan or a trial (R127). -/
def scanGo (src c : Nat) : Prog := fun s =>
  if s.scanning c ∨ s.acqTrying c then errPage (rb c) RXF.CD_CTL src cSCAN_BUSY s
  else if s.rxRunning c then
    seqs [fset (rb c) RXF.SCAN_STAT_STATE 1, fbset (rb c) RXF.SCAN_STAT_DONE false, timerStart (tScan c)] s
  else []

/-- A scan ends with its estimate and confidence; acquisition loads it into the active bank, a host's scan may load it
into the inactive one (R126–R128). -/
def scanDone (c : Nat) (est : Int) (conf : Nat) : Prog := fun s =>
  if !s.scanning c then [] else
  let fail := decide (conf < s.fg (rb c) RXF.SCAN_CFG_CONF_MIN)
  let b := s.cdInactive c
  seqs [fset (rb c) RXF.SCAN_RES_CD_EST (tc 20 est), fset (rb c) RXF.SCAN_STAT_CONF conf,
    fbset (rb c) RXF.SCAN_STAT_FAIL fail, fbset (rb c) RXF.SCAN_STAT_DONE true, fset (rb c) RXF.SCAN_STAT_STATE 0,
    timerStop (tScan c), raise (rb c) 5,
    if s.acq c = qSCAN then (if fail then acqFail c else acqRewrite c (s.cdActive c) est)
    else if !fail ∧ s.fb (rb c) RXF.CD_CTL_SCAN_LOAD ∧ s.fg (rb c) RXF.SCAN_CFG_FINE < (est - s.cdBank c (s.cdActive c)).natAbs
    then seqs [ownWrite c b est,
      if s.ownWriteOk c b est ∧ s.fb (rb c) RXF.CD_CTL_LOAD_MODE then cdSwapReq srcNone c b false else skip]
    else skip] s

/-- The evaluations of the coarse pass in ns (R126): the view of SCAN_STAT.STATE turns to FINE after it. -/
def State.coarseNs (s : State) (c : Nat) : Nat :=
  let r : Int := cdRange (s.rxMode c)
  let lo := sx 20 (s.fg (rb c) RXF.SCAN_MIN_PS)
  let hi := sx 20 (s.fg (rb c) RXF.SCAN_MAX_PS)
  let lo' := if lo = 0 ∧ hi = 0 then -r else max lo (-r)
  let hi' := if lo = 0 ∧ hi = 0 then r else min hi r
  ((hi' - lo').toNat / s.fg (rb c) RXF.SCAN_CFG_COARSE + 1) * s.fg (rb c) RXF.SCAN_CFG_AVG * 25000

/-! ### Timing, monitoring and tracking (R129–R134) -/

/-- The TIMING limit by bandwidth in ns (R132). -/
def timingLimit (bw : Nat) : Nat :=
  if bw = 0 then 800000 else if bw = 1 then 400000 else if bw = 2 then 200000 else if bw = 3 then 100000
  else if bw = 4 then 60000 else Config.openNat bw

/-- TR_STAT.PPM and RANGE, in 0.01 ppm (R132). -/
def ppmSet (c : Nat) (ppm : Int) : Prog :=
  seqs [fset (rb c) RXF.TR_STAT_PPM (tc 16 (clampS 16 ppm)), fbset (rb c) RXF.TR_STAT_RANGE (decide (20000 < ppm.natAbs))]

/-- The timing loop locks: RUN, with ACQ_DONE (R128, R132). -/
def trLock (c : Nat) (ppm : Int) : Prog := fun s =>
  if s.acq c = qTIMING then
    seqs [acqTo c qRUN, fbset (rb c) RXF.TR_STAT_LOCK true, ppmSet c ppm, raise (rb c) 3] s
  else []

/-- No lock within the TIMING limit (R128). -/
def timingTimeout (c : Nat) : Prog := fun s =>
  if s.acq c = qTIMING ∧ s.running (tTiming c) then
    seqs [clockEnd (tTiming c) (timingLimit (s.fg (rb c) RXF.TR_CTL_BW)), acqFail c] s else []

/-- The timing error exceeds 0.15 UI for 10 µs in RUN (R128, R132). -/
def trLockLost (c : Nat) : Prog := fun s =>
  if s.acq c = qRUN ∧ !s.fb (ob c) OPT.RX_STAT_LOS_RAW then seqs [acqTo c qTRY_ACTIVE, raise (rb c) 6] s else []

/-- A slip of one output sample (R134). -/
def trSlip (c : Nat) : Prog := fun s =>
  if s.rxRunning c then seqs [fincSat (rb c) RXF.TR_SLIP_CNT_COUNT 1, raise (rb c) 7] s else []

/-- The residual dispersion and the clock offset are reported, every 10 µs in RUN (R129, R132). -/
def cdMonUpdate (c : Nat) (resid ppm : Int) : Prog := fun s =>
  if s.acq c ≠ qRUN then [] else
  let thr := s.fg (rb c) RXF.TRACK_CFG_THR
  seqs [fset (rb c) RXF.CD_RESID_PS (tc 16 (clampS 16 resid)),
    fset (rb c) RXF.CD_MON_PS (tc 20 (clampS 20 (s.cdBank c (s.cdActive c) + resid))), fbset (rb c) RXF.CD_MON_VALID true,
    ppmSet c ppm,
    if resid.natAbs ≤ thr then timerStop (tTrack c)
    else if s.running (tTrack c) ∨ (s.fb (rb c) RXF.CD_MON_VALID ∧ thr < (sx 16 (s.fg (rb c) RXF.CD_RESID_PS)).natAbs) then skip
    else timerStart (tTrack c)] s

/-- The residual has exceeded its threshold for HOLD: TRACK_EVENT, and with tracking on, in cross-fade mode, the
inactive bank is retargeted (R130). -/
def trackEvent (c : Nat) : Prog := fun s =>
  if s.acq c = qRUN ∧ s.running (tTrack c) then
    seqs [clockEnd (tTrack c) (s.fg (rb c) RXF.TRACK_CFG_HOLD * 1000000), raise (rb c) 8, timerStop (tTrack c),
      if s.fb (rb c) RXF.CD_CTL_TRACK_EN ∧ s.fb (rb c) RXF.CD_CTL_LOAD_MODE then trackRetarget c else skip] s
  else []

/-! ### Mode and grid changes (R119, R120) -/

/-- After a mode change, a bank outside the new range is not ready and shows RANGE; acquisition restarts if the active
bank is affected (R120). -/
def cdModeChange (c : Nat) : Prog := fun s =>
  let out (b : Nat) : Bool := decide (cdRange (s.rxMode c) < (s.cdBank c b).natAbs)
  let mark (b : Nat) : Prog := if out b then
      seqs [fbset (rb c) (fldREADY b) false, fbset (rb c) (fldRANGE b) true,
        rxfUpd c fun r => if b = 0 then { r with busy0 := false } else { r with busy1 := false }]
    else skip
  seqs [mark 0, mark 1, if out 0 || out 1 then raise (rb c) 9 else skip,
    if out (s.cdActive c) ∧ qTRY_ACTIVE ≤ s.acq c then acqTo c qWAIT else skip, cdServeWait c] s

/-- Where the laser's grid index is no longer `old`, both banks are computed anew (R119). -/
def cdGridChange (c old : Nat) : Prog := fun s =>
  if s.fg (ob c) OPT.LASER_CUR_CH_N ≠ old ∧ s.pageOn ⟨.rxf, c⟩ then
    seqs [if s.fb (rb c) RXF.CD_STAT_RANGE0 then skip else cdCompute c 0,
      if s.fb (rb c) RXF.CD_STAT_RANGE1 then skip else cdCompute c 1] s
  else []

/-! ### Registers -/

/-- The ranges outside of which RXFc fields are unpredictable (R137). -/
def rxfLims : List Lim := [⟨RXF.RXF_CTL_MON_AS, 0, 9⟩, ⟨RXF.FADE_CFG_LEN, 1, 4095⟩, ⟨RXF.TRACK_CFG_HOLD, 1, 255⟩,
  ⟨RXF.TRACK_CFG_THR, 20, 2000⟩, ⟨RXF.SCAN_CFG_CONF_MIN, 1, 255⟩, ⟨RXF.SCAN_CFG_AVG, 1, 15⟩, ⟨RXF.SCAN_CFG_FINE, 5, 200⟩,
  ⟨RXF.SCAN_CFG_COARSE, 50, 4000⟩, ⟨RXF.ALT_CFG_TOL, 40, 2000⟩, ⟨RXF.TR_CTL_MODE, 0, 1⟩, ⟨RXF.TR_CTL_BW, 0, 4⟩]

/-- A write of SCAN_MIN or SCAN_MAX leaves them in order; otherwise the value is unpredictable (R137). -/
def scanLimWrite (c : Nat) (r : RegRow) (v : Word) : Prog := fun s =>
  let x := sx 20 (bitsGet v 0 20)
  let bad := if r.off = RXF.SCAN_MIN then decide (sx 20 (s.fg (rb c) RXF.SCAN_MAX_PS) < x)
    else decide (x < sx 20 (s.fg (rb c) RXF.SCAN_MIN_PS))
  if bad ∧ r.off = RXF.SCAN_MIN then withFree (plainWrite (rb c) r []) s else plainWrite (rb c) r [] v s

/-- A write of CD_CTL: LOAD_MODE waits for a fade to end (R124); SCAN_GO (R127). -/
def cdCtlWrite (src c : Nat) (r : RegRow) (v : Word) : Prog := fun s =>
  let fading := s.fb (rb c) RXF.CD_STAT_FADING
  seqs [plainWrite (rb c) r [] v,
    if fading then seqs [fset (rb c) RXF.CD_CTL_LOAD_MODE (s.fg (rb c) RXF.CD_CTL_LOAD_MODE),
      rxfUpd c fun r => { r with mode := some (wrote v RXF.CD_CTL_LOAD_MODE) }] else skip,
    if wroteB v RXF.CD_CTL_SCAN_GO then scanGo src c else skip] s

/-- A write of an RXFc register. -/
def rxfWrite (src c : Nat) (staged : Bool) (r : RegRow) (v : Word) : Prog := fun s =>
  if r.off = RXF.BANK0_CD then cdBankWrite src c 0 staged v s
  else if r.off = RXF.BANK1_CD then cdBankWrite src c 1 staged v s
  else if r.off = RXF.SWAP_REQ then cdSwapReq src c (wrote v RXF.SWAP_REQ_BANK) (wroteB v RXF.SWAP_REQ_HARD) s
  else if r.off = RXF.CD_CTL then cdCtlWrite src c r v s
  else if r.off = RXF.SCAN_MIN ∨ r.off = RXF.SCAN_MAX then scanLimWrite c r v s
  else plainWrite (rb c) r rxfLims v s

/-- The computed registers of RXFc. -/
def rxfView (c : Nat) (s : State) (off : Nat) : Option Word :=
  if off = RXF.CD_STAT then
    let w := s.reg (rb c + off)
    let held := s.fb (rb c) RXF.CD_STAT_QUEUED && !s.fb (rb c) RXF.CD_STAT_FADING
      && !s.fb (rb c) (fldREADY (s.fg (rb c) RXF.CD_STAT_QBANK))
    some (bitsPut (bitsPut (bitsPut w 8 1 (b2n held)) 1 1 (b2n (!s.rxRunning c))) 0 1 (b2n (s.rxRunning c)))
  else if off = RXF.TR_STAT then
    some (bitsPut (s.reg (rb c + off)) 1 1 (b2n (s.fb (ob c) OPT.RX_STAT_LOS_RAW && s.acq c != qIDLE)))
  else if off = RXF.SCAN_STAT then
    some (if s.scanning c ∧ s.coarseNs c ≤ s.elapsed (tScan c) then bitsPut (s.reg (rb c + off)) 0 2 2 else s.reg (rb c + off))
  else none

end Sys2Proof.Machine
end

