-- ==== Sys2Proof/Machine/Rxm.lean ====
section
/-!
DEFINITION. Machine/Rxm.lean: the equalised streams: receiver state machine, quality gate and leaking, anchor banks,
rotation tracker, harmonic predictor and quality figures, on the RXMc pages and, for the streams of hubs and leaves, on
the SCBc.s pages (R138–R161, R287).
-/

namespace Sys2Proof.Machine

/-- The base of RXMc, and of SCBc.s. -/
def mb (c : Nat) : Nat := pageBase .rxm c
def sb (c sc : Nat) : Nat := pageBase .scb (c * 64 + sc)

/-- A stream: a carrier, or a subcarrier of it whose SCBc.s page shows the stream (R138, R287). -/
structure Strm where
  c : Nat
  sub : Option Nat
  deriving DecidableEq, Repr

/-- The page that shows a stream's receiver. -/
def Strm.b (x : Strm) : Nat :=
  match x.sub with
  | none => mb x.c
  | some s => sb x.c s

/-- The page itself. -/
def Strm.page (x : Strm) : Page :=
  match x.sub with
  | none => ⟨.rxm, x.c⟩
  | some s => ⟨.scb, x.c * 64 + s⟩

/-- A field on the one kind of page or the other. -/
def Strm.fld (x : Strm) (rxm scb : Fld) : Fld := if x.sub.isNone then rxm else scb

def Strm.fState (x : Strm) : Fld := x.fld RXM.RXM_STAT_STATE SCB.STR_STAT_STATE
def Strm.fLock (x : Strm) : Fld := x.fld RXM.RXM_STAT_LOCK SCB.STR_STAT_LOCK
def Strm.fGate (x : Strm) : Fld := x.fld RXM.RXM_STAT_GATE_OPEN SCB.STR_STAT_GATE_OPEN
def Strm.fLeak (x : Strm) : Fld := x.fld RXM.RXM_STAT_LEAKING SCB.STR_STAT_LEAKING

/-- A field that only RXMc has. -/
def carOnly (x : Strm) (p : Prog) : Prog := if x.sub.isNone then p else skip

/-- An event whose bit differs between the pages, or that SCBc.s has not. -/
def strRaise (x : Strm) (rxm : Nat) (scb : Option Nat) : Prog :=
  match x.sub, scb with
  | none, _ => raise x.b rxm
  | some _, some n => raise x.b n
  | some _, none => skip

def rxmUpd (b : Nat) (f : RxmRec → RxmRec) : Prog := fun s => [.rxms b (f (s.rxm b))]

/-! ### States, limits, thresholds (R139, R140, R151) -/

def zIDLE : Nat := 0
def zSTART : Nat := 1
def zBLIND : Nat := 2
def zCONVERGE : Nat := 3
def zTRACK : Nat := 4
def zRECOVER : Nat := 5
def zFREEZE : Nat := 6

def cRXM_SWAP_LIVE : Nat := 0x80
def cRXM_BANK_BUSY : Nat := 0x81
def cAUTO_ON : Nat := 0x82
def cNOT_TRACK : Nat := 0x83

/-- The receiver state of a stream. -/
def State.strSt (s : State) (x : Strm) : Nat := s.fg x.b x.fState

/-- The time limits of a stream, by its page: freeze, 200 µs of BLIND and RECOVER, gate closed, fade; of the predictor. -/
def tFreeze (x : Strm) : Nat := x.b
def tBlind (x : Strm) : Nat := x.b + 1
def tGate (x : Strm) : Nat := x.b + 2
def tFade (x : Strm) : Nat := x.b + 3
def tHpLocking (c : Nat) : Nat := mb c + 4
def tHpHold (c : Nat) : Nat := mb c + 5
def tHpRate (c : Nat) : Nat := mb c + 6

/-- The number of taps of a mode (R139). -/
def tapLen (m : Nat) : Nat :=
  if m = mL2400 ∨ m = mZ400 then 64 else if m = mL2000 then 96 else if m = mL1600 then 128
  else if m = mL1200 then 192 else if m = mL800 ∨ m = mL400 then 256 else if m = mLEAF then 128 else 256

/-- The threshold SNR of a single-carrier mode in 0.01 dB: the required OSNR less 10 log10(Rs / 12.5 GHz), rounded to
the nearest 0.01 dB (R140, R163); not given for Z400. -/
def thrSnr100 (m : Nat) : Int :=
  if m = mL2400 then 1839 else if m = mL2000 then 1489 else if m = mL1600 then 1139
  else if m = mL1200 then 789 else if m = mL800 then 389 else if m = mL400 then 340
  else Config.openNat (256 + m)

/-- The threshold SNR of a stream in 0.01 dB: that of the mode, or for a hub or leaf stream the gate SNR of its format
(R281), which is not stated for the reserved format. -/
def State.strThr (s : State) (x : Strm) : Int :=
  match x.sub with
  | none => thrSnr100 (s.rxMode x.c)
  | some _ => 10 * (match (s.rxm x.b).fmt with
    | 0 => s.fg x.b SCB.BRX_GATE_GQ
    | 1 => s.fg x.b SCB.BRX_GATE_G16
    | 2 => s.fg x.b SCB.BRX_GATE_G64
    | _ => Config.openNat 768)

/-- The pilot SNR at which the gate opens and RECOVER ends, and below which lock is lost, in 0.01 dB (R141, R151). -/
def State.gateSnr (s : State) (x : Strm) : Int :=
  s.strThr x + sx 10 (s.fg (mb x.c) RXM.GATE_CFG_OFS) * 10
def State.lostSnr (s : State) (x : Strm) : Int :=
  s.strThr x + sx 10 (s.fg (mb x.c) RXM.GATE_CFG_LOST_OFS) * 10

/-! ### Taps (R139, R151–R155) -/

/-- The entries of one bank or of the live taps: 256 a filter on RXMc, 8 on SCBc.s. -/
def Strm.nTaps (x : Strm) : Nat := if x.sub.isNone then 1024 else 32

/-- The key of a live tap, of an entry of the LIVE table, and of an anchor tap. -/
def Strm.liveKey (x : Strm) (i : Nat) : Nat := tabKey x.b (if x.sub.isNone then 2 else 5) i 0
def Strm.anchorKey (x : Strm) (bank i : Nat) : Nat := tabKey x.b (if x.sub.isNone then 0 else 4) (bank * x.nTaps + i) 0

/-- A component moved from one value to another by `num / den` of the difference. -/
def blend16 (a b : Nat) (num den : Nat) : Nat := tc 16 (sx 16 a + (sx 16 b - sx 16 a) * (num : Int) / (den : Int))

/-- A tap moved from one to another by `num / den` of the difference, both components. -/
def blendTap (a b : Word) (num den : Nat) : Word :=
  BitVec.ofNat 32 (blend16 (bitsGet a 16 16) (bitsGet b 16 16) num den * 65536
    + blend16 (bitsGet a 0 16) (bitsGet b 0 16) num den)

/-- The banks of a stream (R152, R155). -/
def Strm.swap (x : Strm) : SwapPage :=
  { b := x.b, active := x.fld RXM.ANCHOR_STAT_ACTIVE SCB.STR_ANCHOR_STAT_ACTIVE,
    fading := x.fld RXM.ANCHOR_STAT_FADING SCB.STR_ANCHOR_STAT_FADING,
    queued := x.fld RXM.ANCHOR_STAT_QUEUED SCB.STR_ANCHOR_STAT_QUEUED,
    qbank := x.fld RXM.ANCHOR_STAT_QBANK SCB.STR_ANCHOR_STAT_QBANK,
    mode := x.fld RXM.ANCHOR_CTL_LOAD_MODE SCB.STR_ANCHOR_CTL_LOAD_MODE,
    cnt := if x.sub.isNone then some RXM.SWAP_CNT_COUNT else none, evDone := 5, evRefused := 6, evQueued := some 7,
    req := if x.sub.isNone then RXM.SWAP_REQ else SCB.STR_ANCHOR_CTL, code := if x.sub.isNone then cRXM_SWAP_LIVE else 0x93,
    refCnt := if x.sub.isNone then some RXM.REFUSE_CNT_COUNT else none }

/-- The line-frame period of a mode in ns (R120). -/
def State.framePeriod (s : State) (c : Nat) : Nat :=
  if s.rxMode c = mZ400 then Config.openNat (512 + mZ400) else if s.rxMode c = mL400 then 128 else 64

/-- The length of an anchor fade in ns (R152). -/
def State.fadeNs (s : State) (x : Strm) : Nat := s.fg (mb x.c) RXM.FADE_CFG_LEN * s.framePeriod x.c

/-- An anchor tap as START and leaking see it: of the active bank, or the blend of a fade under way (R151, R152). -/
def State.anchorTap (s : State) (x : Strm) (i : Nat) : Word :=
  let a := s.fg x.b x.swap.active
  if s.fb x.b x.swap.fading then
    blendTap (s.tab (x.anchorKey a i)) (s.tab (x.anchorKey (s.swap x.b).dest i))
      (min (s.elapsed (tFade x)) (s.fadeNs x)) (max 1 (s.fadeNs x))
  else s.tab (x.anchorKey a i)

/-- The live taps take values. -/
def tapsPut (x : Strm) (f : State → Nat → Word) : Prog := fun s =>
  (List.range x.nTaps).map fun i => .taps (x.liveKey i) (f s i)

/-- The equaliser of a stream is stopped: IDLE or FREEZE (R151, R155). -/
def State.strStopped (s : State) (x : Strm) : Bool := s.strSt x == zIDLE || s.strSt x == zFREEZE

/-- The anchor fade starts within one line-frame period of the request; it starts at once here (R152; log 9). -/
def anchorBegin (x : Strm) : Prog := fun s =>
  match (s.swap x.b).wait with
  | some _ => seqs [swapBoundary x.swap 0, timerStart (tFade x)] s
  | none => []

/-- SCBc.s has no events for its anchor banks (R289): the request is served without them. -/
def strSwapReq (x : Strm) (src bank : Nat) : Prog := fun s =>
  let keep (p : Prog) : Prog := match x.sub with
    | none => p
    | some _ => fun t => (p t).filter fun e =>
        match e with
        | .regs a _ => a != x.b + oINT_STAT && a != x.b + oINT_FIRST
        | _ => true
  seqs [keep (swapReq x.swap (s.strStopped x) src bank), anchorBegin x] s

/-- The end of an anchor fade, once it has lasted its length. -/
def anchorFadeEnd (x : Strm) : Prog := fun s =>
  if s.fb x.b x.swap.fading ∧ s.running (tFade x) then
    seqs [clockEnd (tFade x) (s.fadeNs x), fun t => (swapFinish x.swap (s.strStopped x) t).filter fun e =>
        match e with
        | .regs a _ => x.sub.isNone || (a != x.b + oINT_STAT && a != x.b + oINT_FIRST)
        | _ => true,
      anchorBegin x] s
  else []

/-- A refused anchor write (R153, R155). -/
def anchorRefuse (x : Strm) (off src : Nat) : Prog :=
  seqs [errPage x.b off src (if x.sub.isNone then cRXM_BANK_BUSY else 0x94),
    carOnly x (seqs [fincSat x.b RXM.REFUSE_CNT_COUNT 1, raise x.b 6])]

/-- A write of an anchor tap through the window (R153, R159): a tap at or beyond the mode's length is ignored. -/
def anchorWrite (x : Strm) (src e : Nat) (v : Word) : Prog := fun s =>
  if s.bankBusy x.swap (s.strStopped x) (e / x.nTaps) then anchorRefuse x (oWIN_DATA 0) src s
  else if x.sub.isNone ∧ tapLen (s.rxMode x.c) ≤ e % 256 then []
  else [.tabs (tabKey x.b (if x.sub.isNone then 0 else 4) e 0) v]

/-- SAVE: the live taps go into the inactive bank, in TRACK only (R154). -/
def anchorSave (x : Strm) (src : Nat) : Prog := fun s =>
  let off := if x.sub.isNone then RXM.ANCHOR_CTL else SCB.STR_ANCHOR_CTL
  let bank := 1 - s.fg x.b x.swap.active
  if s.strSt x ≠ zTRACK then errPage x.b off src (if x.sub.isNone then cNOT_TRACK else 0x95) s
  else if s.fb x.b x.swap.fading then anchorRefuse x off src s
  else (List.range x.nTaps).map fun i => .tabs (x.anchorKey bank i) (s.tap (x.liveKey i))

/-! ### The receiver state machine (R151) -/

/-- Enters a receiver state: LOCK is TRACK; PILOT_MODE is left with the frame; leaking and the gate belong to the
adapting states. -/
def strTo (x : Strm) (st : Nat) : Prog :=
  seqs [fset x.b x.fState st, fbset x.b x.fLock (st == zTRACK),
    if st = zTRACK then carOnly x (fbset x.b RXM.RXM_STAT_PILOT_MODE true)
    else if st = zRECOVER ∨ st = zFREEZE then skip
    else carOnly x (fbset x.b RXM.RXM_STAT_PILOT_MODE false),
    if st = zBLIND ∨ st = zRECOVER then timerStart (tBlind x) else timerStop (tBlind x),
    if st = zFREEZE then timerStart (tFreeze x) else timerStop (tFreeze x),
    if st = zBLIND ∨ st = zCONVERGE ∨ st = zTRACK then skip
    else seqs [fbset x.b x.fLeak false, timerStop (tGate x)],
    if st = zIDLE then seqs [tapsPut x fun _ _ => 0, fbset x.b x.fGate false] else skip]

/-- A stream is present: the carrier in single-carrier modes and LEAF; a subcarrier that is dedicated in a hub, or in
use in a leaf (R138, R287). -/
def State.strOn (s : State) (x : Strm) : Bool :=
  match x.sub with
  | none => s.live ⟨.rxm, x.c⟩
  | some sc => s.live ⟨.rxm, x.c⟩ && s.live x.page && modeHasRounds (s.rxMode x.c)
      && ((s.hub x.c).groups.any fun g => g.low == sc && (g.role == 1 || s.rxMode x.c == mLEAF))

/-- The receiver may run: RUN, the stream present, the RXF domain ON (R151, R158). -/
def State.strMay (s : State) (x : Strm) : Bool :=
  s.fb (mb x.c) RXM.RXM_CTL_RUN && s.strOn x && s.pageOn ⟨.rxf, x.c⟩
    && !(x.sub.isNone && (s.rxMode x.c == mH64 || s.rxMode x.c == mH16))

/-- RUN, the pages and RXF's state hold the receiver at IDLE, start it, or freeze it (R151). -/
def strEval (x : Strm) : Prog := fun s =>
  let st := s.strSt x
  if !s.strMay x then (if st = zIDLE then [] else strTo x zIDLE s)
  else if st = zIDLE then (if s.acq x.c = qRUN then strTo x zSTART s else [])
  else if st ≠ zFREEZE ∧ s.acq x.c ≠ qRUN then strTo x zFREEZE s
  else []

/-- Every stream of a carrier. -/
def strms (c : Nat) : List Strm := ⟨c, none⟩ :: (List.range 64).map fun i => ⟨c, some i⟩

/-- Evaluates the receivers of a carrier. -/
def rxmEval (c : Nat) : Prog := forP (strms c) strEval

/-- RXF is back in RUN: the frozen receiver continues from its held taps, or starts anew after FREEZE_MAX (R151). -/
def freezeExit (x : Strm) : Prog := fun s =>
  if s.strSt x = zFREEZE ∧ s.acq x.c = qRUN then
    (if s.elapsed (tFreeze x) ≤ s.fg (mb x.c) RXM.ANCHOR_CFG_FREEZE_MAX * 1000000 then strTo x zCONVERGE else strTo x zSTART) s
  else []

/-- The coarse estimate brings the offset within ±50 MHz: the taps are loaded from the active anchor (R149, R151). -/
def coarseDone (x : Strm) (mhz : Int) : Prog := fun s =>
  if s.strSt x = zSTART then
    seqs [carOnly x (fset x.b RXM.FO_EST_MHZ (tc 16 mhz)), tapsPut x fun t i => t.anchorTap x i, strTo x zBLIND] s
  else []

/-- Blind adaptation has converged (R151). -/
def blindConverged (x : Strm) : Prog := fun s =>
  if s.strSt x = zBLIND ∧ s.elapsed (tBlind x) ≤ 200000 then strTo x zCONVERGE s else []

/-- 200 µs in BLIND or RECOVER: START anew (R151). -/
def mimoFail (x : Strm) : Prog := fun s =>
  if (s.strSt x = zBLIND ∨ s.strSt x = zRECOVER) ∧ s.running (tBlind x) then
    seqs [clockEnd (tBlind x) 200000, strTo x zSTART, strRaise x 9 none, carOnly x (fincSat x.b RXM.RXM_STAT_FAILS 1)] s
  else []

/-- The pilot SNR has stayed below the threshold plus LOST_OFS for 20 µs (R151). -/
def snrLoss (x : Strm) (snr : Int) : Prog := fun s =>
  if s.strSt x = zTRACK ∧ snr < s.lostSnr x then seqs [strTo x zRECOVER, strRaise x 1 (some 10)] s else []

/-- The pilot SNR has reached the threshold plus OFS for 2 µs (R151). -/
def recoverDone (x : Strm) (snr : Int) : Prog := fun s =>
  if s.strSt x = zRECOVER ∧ s.gateSnr x ≤ snr then seqs [strTo x zTRACK, strRaise x 0 none] s else []

/-- What the framer's state means for the receiver: in frame, CONVERGE leads to TRACK; out of frame, TRACK leads back
(R151). -/
def strFrame (x : Strm) (inFrame : Bool) : Prog := fun s =>
  if inFrame ∧ s.strSt x = zCONVERGE then seqs [strTo x zTRACK, strRaise x 0 none] s
  else if !inFrame ∧ s.strSt x = zTRACK then seqs [strTo x zCONVERGE, strRaise x 1 (some 10)] s
  else []

/-! ### Adaptation, gate and leaking (R140–R142) -/

/-- A block of 256 symbols: its gate opens or closes; the taps take the values that the step from pilots (and, with the
gate open, decisions) gave them, and while leaking move towards the anchor (R140–R142). -/
def adaptBlock (x : Strm) (snr : Int) (slip : Bool) (adapted : List Word) : Prog := fun s =>
  let st := s.strSt x
  if st ≠ zBLIND ∧ st ≠ zCONVERGE ∧ st ≠ zTRACK then [] else
  let gate := decide (s.gateSnr x ≤ snr) && !slip
  let leak := s.fb x.b x.fLeak && !gate
  let den := 2 ^ s.fg (mb x.c) RXM.ANCHOR_CFG_LEAK
  seqs [fbset x.b x.fGate gate,
    if gate then seqs [timerStop (tGate x), fbset x.b x.fLeak false]
    else seqs [carOnly x (fincSat x.b RXM.GATE_CNT_COUNT 1), if s.running (tGate x) then skip else timerStart (tGate x)],
    tapsPut x fun t i =>
      let a := adapted.getD i (t.tap (x.liveKey i))
      if leak then blendTap a (t.anchorTap x i) 1 den else a] s

/-- The gate has stayed closed for longer than IDLE: the stream leaks (R142). -/
def leakStart (x : Strm) : Prog := fun s =>
  if s.running (tGate x) ∧ !s.fb x.b x.fLeak then
    seqs [clockEnd (tGate x) (s.fg (mb x.c) RXM.ANCHOR_CFG_IDLE * 1000000 + 1), fbset x.b x.fLeak true, strRaise x 8 none] s
  else []

/-- A corrected slip of the phase search (R150). -/
def cprSlip (x : Strm) : Prog := fun s =>
  if s.strSt x = zTRACK then carOnly x (seqs [fincSat x.b RXM.CPR_SLIP_CNT_COUNT 1, raise x.b 10]) s else []

/-! ### Rotation tracker and harmonic predictor (R143–R148) -/

def hOFF : Nat := 0
def hSEARCH : Nat := 1
def hLOCKING : Nat := 2
def hLOCKED : Nat := 3
def hHOLD : Nat := 4

/-- HP_STAT.STATE. -/
def State.hp (s : State) (c : Nat) : Nat := s.fg (mb c) RXM.HP_STAT_STATE

/-- The stream that the predictor serves (R138). -/
def State.hpStrm (s : State) (c : Nat) : Strm :=
  if s.rxMode c = mH64 ∨ s.rxMode c = mH16 then ⟨c, some (s.fg (mb c) RXM.HP_CFG2_STREAM)⟩ else ⟨c, none⟩

/-- HP_STAT.ADAPT_FROZEN: fast rotation, or the served stream not in TRACK (R148). -/
def State.hpFrozen (s : State) (c : Nat) : Bool :=
  s.hp c != hOFF && ((s.rxm (mb c)).rotFrozen || s.strSt (s.hpStrm c) != zTRACK)

/-- Enters a predictor state; OFF and the return to SEARCH from HOLD clear the coefficients (R147). -/
def hpTo (c st : Nat) (clear : Bool) : Prog :=
  seqs [fset (mb c) RXM.HP_STAT_STATE st,
    if st = hLOCKING then timerStart (tHpLocking c) else timerStop (tHpLocking c),
    if st = hHOLD then timerStart (tHpHold c) else timerStop (tHpHold c),
    if clear then fun _ => (List.range 120).map fun i => .tabs (tabKey (mb c) 1 i 0) 0 else skip]

/-- HP_CFG.EN moves the predictor between OFF and SEARCH (R147). -/
def hpEval (c : Nat) : Prog := fun s =>
  let on := s.fb (mb c) RXM.HP_CFG_EN && s.live ⟨.rxm, c⟩
  if !on ∧ s.hp c ≠ hOFF then hpTo c hOFF true s
  else if on ∧ s.hp c = hOFF then hpTo c hSEARCH false s
  else []

/-- A second of tracker rotation has been searched: its strongest line in 45–65 Hz, in mHz and 0.1 mrad (R147). -/
def hpSearchDone (c freq amp : Nat) : Prog := fun s =>
  if s.hp c = hSEARCH ∧ 45000 ≤ freq ∧ freq ≤ 65000 ∧ s.fg (mb c) RXM.HP_CFG_MIN_AMP ≤ amp then
    seqs [fset (mb c) RXM.HP_STAT_FREQ freq, hpTo c hLOCKING false] s
  else []

/-- The fundamental has stayed within ±0.02 Hz for 2 s, or is back in HOLD (R147). -/
def hpLock (c freq amp : Nat) : Prog := fun s =>
  if (s.hp c = hLOCKING ∧ s.elapsed (tHpLocking c) ≤ 10000000000) ∨ (s.hp c = hHOLD ∧ s.fg (mb c) RXM.HP_CFG_MIN_AMP ≤ amp) then
    seqs [fset (mb c) RXM.HP_STAT_FREQ freq, hpTo c hLOCKED false, raise (mb c) 3] s
  else []

/-- 10 s in LOCKING (R147). -/
def hpLockingTimeout (c : Nat) : Prog := fun s =>
  if s.hp c = hLOCKING ∧ s.running (tHpLocking c) then seqs [clockEnd (tHpLocking c) 10000000000, hpTo c hSEARCH false] s else []

/-- The fundamental has stayed below MIN_AMP / 2 for 1 s (R147). -/
def hpUnlock (c amp : Nat) : Prog := fun s =>
  if s.hp c = hLOCKED ∧ 2 * amp < s.fg (mb c) RXM.HP_CFG_MIN_AMP then seqs [hpTo c hHOLD false, raise (mb c) 4] s else []

/-- HOLD_MAX seconds in HOLD (R147). -/
def hpHoldTimeout (c : Nat) : Prog := fun s =>
  if s.hp c = hHOLD ∧ s.running (tHpHold c) then
    seqs [clockEnd (tHpHold c) (s.fg (mb c) RXM.HP_CFG2_HOLD_MAX * 1000000000), hpTo c hSEARCH true] s else []

/-- The tracker reports its rate in 0.1 Mrad/s, and the predictor its phase, suppression and coefficients, which stay
while its adaptation is frozen (R143, R145, R146, R148). -/
def rotUpdate (c rate phase supp : Nat) (harm : List Word) : Prog := fun s =>
  if !s.live ⟨.rxm, c⟩ then [] else
  let thr := s.fg (mb c) RXM.ROT_THR_RATE
  let old := s.fg (mb c) RXM.ROT_STAT_RATE
  let runs := s.hp c == hLOCKED || s.hp c == hHOLD
  seqs [fset (mb c) RXM.ROT_STAT_RATE rate, fset (mb c) RXM.ROT_STAT_PEAK (max (s.fg (mb c) RXM.ROT_STAT_PEAK) rate),
    if old < thr ∧ thr ≤ rate then raise (mb c) 2 else skip,
    if thr ≤ rate then seqs [rxmUpd (mb c) fun r => { r with rotFrozen := true }, timerStop (tHpRate c)]
    else if (s.rxm (mb c)).rotFrozen ∧ !s.running (tHpRate c) then timerStart (tHpRate c) else skip,
    if runs then fset (mb c) RXM.HP_PHASE_PHASE phase else skip,
    fun t => if t.hp c = hLOCKED ∧ !t.hpFrozen c then
        .regs (mb c + RXM.HP_PHASE) (bitsPut (t.reg (mb c + RXM.HP_PHASE)) 16 16 supp) ::
          ((List.range 120).zip harm).map fun p => .tabs (tabKey (mb c) 1 p.1 0) p.2
      else []] s

/-- The rate has stayed below ROT_THR for 10 ms (R148). -/
def hpResume (c : Nat) : Prog := fun s =>
  if s.running (tHpRate c) then
    seqs [clockEnd (tHpRate c) 10000000, rxmUpd (mb c) fun r => { r with rotFrozen := false }, timerStop (tHpRate c)] s
  else []

/-! ### Quality figures (R156, R157) -/

/-- The offsets of the figures on the one kind of page or the other. -/
def Strm.oSNR (x : Strm) : Nat := if x.sub.isNone then RXM.Q_SNR else SCB.Q_SNR
def Strm.oBER (x : Strm) : Nat := if x.sub.isNone then RXM.Q_BER else SCB.Q_BER
def Strm.oGMI (x : Strm) : Nat := if x.sub.isNone then RXM.Q_GMI else SCB.Q_GMI
def Strm.oMARGIN (x : Strm) : Nat := if x.sub.isNone then RXM.Q_MARGIN else SCB.Q_MARGIN

/-- A millisecond's figures: outside TRACK the figures hold; the LIVE table takes the live taps as a whole
(R156, R157, R159). -/
def qualityUpdate (x : Strm) (q : Quality) : Prog := fun s =>
  let r := s.rxm x.b
  let low (o cur : Nat) : Nat := if r.has then min (bitsGet (s.reg (x.b + o)) 16 16) cur else cur
  seqs [if s.strSt x = zIDLE then skip else fun t => (List.range x.nTaps).map fun i => .tabs (x.liveKey i) (t.tap (x.liveKey i)),
    if s.strSt x ≠ zTRACK then skip else seqs [
      rset (x.b + x.oSNR) (BitVec.ofNat 32 (low x.oSNR q.snr1 * 65536 + q.snr % 65536)),
      rset (x.b + x.oBER) (BitVec.ofNat 32 (low x.oBER q.ber1 * 65536 + q.ber % 65536)),
      rset (x.b + x.oGMI) (BitVec.ofNat 32 (q.gmi % 65536)),
      rset (x.b + x.oMARGIN) (BitVec.ofNat 32 (tc 16 (clampS 16 q.margin))),
      rxmUpd x.b fun r => { r with has := true, snr1 := q.snr1 % 65536, ber1 := q.ber1 % 65536 },
      carOnly x (seqs [fset x.b RXM.Q_EVM_EVM q.evm, fset x.b RXM.DGD_PDL_DGD q.dgd, fset x.b RXM.DGD_PDL_PDL q.pdl,
        fset x.b RXM.FO_EST_MHZ (tc 16 q.fo), fset x.b RXM.FO_EST_RATE (tc 16 q.foRate)])]] s

/-- A read of Q_SNR or Q_BER resets the worst value to the current one (R157). -/
def qualityReadFx (x : Strm) (off : Nat) : Prog := fun s =>
  let r := s.rxm x.b
  if off = x.oSNR then [.regs (x.b + off) (bitsPut (s.reg (x.b + off)) 16 16 r.snr1)]
  else if off = x.oBER then [.regs (x.b + off) (bitsPut (s.reg (x.b + off)) 16 16 r.ber1)]
  else []

/-- A read of ROT_STAT resets PEAK to RATE (R145); reads of the figures reset their worst values. -/
def rxmReadFx (c off : Nat) : Prog := fun s =>
  if off = RXM.ROT_STAT then fset (mb c) RXM.ROT_STAT_PEAK (s.fg (mb c) RXM.ROT_STAT_RATE) s
  else qualityReadFx ⟨c, none⟩ off s

/-! ### Registers -/

/-- The ranges outside of which RXMc fields are unpredictable (R161); GATE_CFG is signed and stands apart. -/
def rxmLims : List Lim := [⟨RXM.MIMO_ADAPT_MU, 6, 20⟩, ⟨RXM.ROT_CFG_UNWIND, 6, 15⟩, ⟨RXM.ROT_CFG_KI, 4, 15⟩,
  ⟨RXM.ROT_CFG_KP, 1, 8⟩, ⟨RXM.ROT_THR_RATE, 1, 1000⟩, ⟨RXM.HP_CFG_MIN_AMP, 1, 255⟩, ⟨RXM.HP_CFG_MU, 8, 20⟩,
  ⟨RXM.HP_CFG_NHARM, 1, 40⟩, ⟨RXM.HP_CFG2_HOLD_MAX, 1, 60⟩, ⟨RXM.CPR_CFG_WIN, 8, 63⟩, ⟨RXM.CPR_CFG_NTEST, 0, 2⟩,
  ⟨RXM.ANCHOR_CFG_FREEZE_MAX, 1, 255⟩, ⟨RXM.ANCHOR_CFG_LEAK, 8, 24⟩, ⟨RXM.ANCHOR_CFG_IDLE, 1, 65535⟩,
  ⟨RXM.FADE_CFG_LEN, 1, 4095⟩]

/-- A write of GATE_CFG: its two signed fields keep to their ranges, or take free values (R141, R151, R161). -/
def gateCfgWrite (c : Nat) (r : RegRow) (v : Word) : Prog := fun s =>
  let ofs := sx 10 (wrote v RXM.GATE_CFG_OFS)
  let lost := sx 10 (wrote v RXM.GATE_CFG_LOST_OFS)
  if -200 ≤ ofs ∧ ofs ≤ 200 ∧ -300 ≤ lost ∧ lost ≤ 0 then plainWrite (mb c) r [] v s
  else withFree (plainWrite (mb c) r []) s

/-- MU, KP and KI belong to cluster c while AUTO is 1: another's write of them is ignored and counted (R140, R143). -/
def autoBars (s : State) (src c : Nat) : Bool := s.fb (mb c) RXM.RXM_CTL_AUTO && src != 0x10 + c

/-- HP_CFG2.STREAM names no dedicated stream's lowest subcarrier in a hub (R161). -/
def hpStreamBad (s : State) (c : Nat) (v : Word) : Bool :=
  (s.rxMode c == mH64 || s.rxMode c == mH16)
    && s.fg (sb c (wrote v RXM.HP_CFG2_STREAM)) SCB.SC_STAT_ROLE_NOW != 1

/-- A write of an RXMc register. -/
def rxmWrite (src c : Nat) (r : RegRow) (v : Word) : Prog := fun s =>
  let x : Strm := ⟨c, none⟩
  if r.off = RXM.MIMO_ADAPT ∧ autoBars s src c then errPage (mb c) r.off src cAUTO_ON s
  else if r.off = RXM.ROT_CFG ∧ autoBars s src c then
    seqs [plainWrite (mb c) r rxmLims (bitsPut (bitsPut v 8 4 (s.fg (mb c) RXM.ROT_CFG_KI)) 0 4 (s.fg (mb c) RXM.ROT_CFG_KP)),
      if wrote v RXM.ROT_CFG_KI = s.fg (mb c) RXM.ROT_CFG_KI ∧ wrote v RXM.ROT_CFG_KP = s.fg (mb c) RXM.ROT_CFG_KP
      then skip else errPage (mb c) r.off src cAUTO_ON] s
  else if r.off = RXM.GATE_CFG then gateCfgWrite c r v s
  else if r.off = RXM.SWAP_REQ then strSwapReq x src (wrote v RXM.SWAP_REQ_BANK) s
  else if r.off = RXM.ANCHOR_CTL then
    seqs [if s.fb x.b x.swap.fading then swapUpd x.b (fun q => { q with mode := some (wrote v RXM.ANCHOR_CTL_LOAD_MODE) })
        else plainWrite (mb c) r [] v,
      if wroteB v RXM.ANCHOR_CTL_SAVE then anchorSave x src else skip] s
  else if r.off = RXM.HP_CFG2 ∧ hpStreamBad s c v then withFree (fun w => plainWrite (mb c) r rxmLims
      (bitsPut v 0 6 (bitsGet w 0 6))) s
  else seqs [plainWrite (mb c) r rxmLims v, hpEval c] s

/-- A write of an RXMc table word: HARM and LIVE are RO (R159). -/
def rxmTab (src c t e : Nat) (v : Word) : Prog :=
  if t = 0 then anchorWrite ⟨c, none⟩ src e v else errPage (mb c) (oWIN_DATA 0) src cRO_WRITE

/-- The computed registers of RXMc. -/
def rxmView (c : Nat) (s : State) (off : Nat) : Option Word :=
  if off = RXM.ANCHOR_STAT then some (bitsPut (s.reg (mb c + off)) 4 1 (b2n (s.strStopped ⟨c, none⟩)))
  else if off = RXM.HP_STAT then some (bitsPut (s.reg (mb c + off)) 3 1 (b2n (s.hpFrozen c)))
  else if off = RXM.Q_MARGIN then some (bitsPut (s.reg (mb c + off)) 31 1 (b2n (s.strSt ⟨c, none⟩ == zTRACK)))
  else none

end Sys2Proof.Machine
end

