-- ==== Sys2Proof/Machine/Fec.lean ====
section
/-!
DEFINITION. Machine/Fec.lean: carrier modes and their changes, code periods and code phase, the decoder with its
counters, dematcher profiles and test vectors of the FECc pages (R162–R188).
-/

namespace Sys2Proof.Machine

/-- The base of FECc. -/
def feb (c : Nat) : Nat := pageBase .fec c

def fecUpd (c : Nat) (f : FecRec → FecRec) : Prog := fun s => [.fecs c (f (s.fec c))]

/-- Changes the framer record of a stream. -/
def frUpd (x : Strm) (f : FrRec → FrRec) : Prog := fun s => [.frs x.b (f (s.fr x.b))]

def cMODE_LIVE : Nat := 0x80
def cMODE_MISMATCH : Nat := 0x81
def cFEC_PROFILE_BUSY : Nat := 0x82
def cFEC_PROFILE_BAD : Nat := 0x83
def cTV_BUSY : Nat := 0x84

/-- The live set: L2400, L2000, L1600, L1200, L800 (R167). -/
def liveSet (m : Nat) : Bool := decide (m ≤ mL800)

/-- The TS capacity of a native single-carrier mode (R163). -/
def modeTs (m : Nat) : Nat :=
  if m = mL2400 then 192 else if m = mL2000 then 160 else if m = mL1600 then 128
  else if m = mL1200 then 96 else if m = mL800 then 64 else if m = mL400 then 32 else 0

/-- The domains that a mode requires, bits 0–10 as OPT, ADC, DAC, RXF, RXM, SCB, TXD, FECD, FECE, LFR, CIP (R165). -/
def modeDomains (m : Nat) : Nat := if modeHasRounds m then 0x3FF else if m = mMON then 0x09B else 0x3DF

/-- The mode that the decoder decodes, if it is a decoding mode (R162, R169, R170). -/
def State.decMode (s : State) (c : Nat) : Option Nat :=
  let mon := s.fg (feb c) FEC.FEC_MODE_RX_MODE_NOW == mMON
  if mon && !(s.fb (feb c) FEC.FEC_CTL_DEC_EN && s.pdOn (11 * c + 9)) then none
  else if s.rxMode c ≤ mLEAF then some (s.rxMode c) else none

/-- The decoder runs (R166, R170). -/
def State.decRun (s : State) (c : Nat) : Bool :=
  s.fb (feb c) FEC.FEC_CTL_DEC_EN && s.live ⟨.fec, c⟩ && (s.decMode c).isSome

/-- The encoder runs (R165, R186). -/
def State.encRun (s : State) (c : Nat) : Bool :=
  s.fb (feb c) FEC.FEC_CTL_ENC_EN && s.pdOn (11 * c + 8) && s.live ⟨.fec, c⟩ && s.modeNow c != mMON

/-- FEC_STAT.REGEN_OK (R169). -/
def State.regenOk (s : State) (c : Nat) : Bool :=
  let p := s.fg (feb c) FEC.FEC_MODE_PARTNER
  let ras (i : Nat) := modeTs (s.fg (feb i) FEC.FEC_MODE_REGEN_AS)
  s.modeNow c == mREGEN && p != c && s.present ⟨.fec, p⟩ && s.modeNow p == mREGEN
    && s.fg (feb p) FEC.FEC_MODE_PARTNER == c && ras c == ras p && ras c != 0

/-- −log10 × 1000 of a mode's threshold BER (R163; THR_BER). -/
def thrBer (m : Nat) : Nat :=
  if m = mL2400 ∨ m = mL2000 then 1699 else if m = mL1600 ∨ modeHasRounds m then 1585
  else if m = mZ400 then 1914 else 1495

/-- The code of a native mode (R162, R171). -/
def modeCode (m : Nat) : Ldpc :=
  if m = mL2400 ∨ m = mL2000 then ldpc868 else if m = mL1600 ∨ modeHasRounds m then ldpc833 else ldpc800

/-! ### Changes of mode (R167, R168) -/

/-- The time limit of the interruption that a receive-mode change makes (R168). -/
def tRxInt (c : Nat) : Nat := feb c

/-- Seconds in which a stream's carrier changed its mode are suspect (R209). -/
def pmSuspect (c : Nat) : Prog :=
  forP (strms c) fun x => frUpd x fun r => { r with acc := { r.acc with suspect := true } }

/-- A waiting change takes effect and raises MODE_DONE; a receive-mode change re-dimensions the equaliser (R168). -/
def modeTake (c : Nat) (rx : Bool) : Prog := fun s =>
  if rx then
    seqs [fset (feb c) FEC.FEC_MODE_RX_MODE_NOW (s.fg (feb c) FEC.FEC_MODE_RX_MODE),
      fbset (feb c) FEC.FEC_MODE_RX_PEND false,
      if s.fb (rb c) RXF.RXF_CTL_RX_RUN then timerStart (tRxInt c) else skip,
      raise (feb c) 0, pmSuspect c, cdModeChange c] s
  else
    seqs [fset (feb c) FEC.FEC_MODE_MODE_NOW (s.fg (feb c) FEC.FEC_MODE_MODE),
      fbset (feb c) FEC.FEC_MODE_TX_PEND false, raise (feb c) 0, pmSuspect c] s

/-- No transmit code period runs, and no received one is followed (R168). -/
def State.noTxPeriod (s : State) (c : Nat) : Bool := !s.fb (xb c) TXD.TXD_CTL_TX_RUN || !(s.fec c).codeRun
def State.noRxPeriod (s : State) (c : Nat) : Bool := !(s.fr (mb c)).plock

/-- A waiting change takes effect at once where no code period runs (R168). -/
def modeEval (c : Nat) : Prog := fun s =>
  seqs [if s.fb (feb c) FEC.FEC_MODE_TX_PEND ∧ s.noTxPeriod c then modeTake c false else skip,
    if s.fb (feb c) FEC.FEC_MODE_RX_PEND ∧ s.noRxPeriod c then modeTake c true else skip] s

/-- The start of a code period: a waiting change of that direction takes effect (R168). -/
def modeAtPeriod (c : Nat) (rx : Bool) : Prog := fun s =>
  if s.fb (feb c) (if rx then FEC.FEC_MODE_RX_PEND else FEC.FEC_MODE_TX_PEND)
      ∧ (if rx then s.noRxPeriod c ∨ (s.fr (mb c)).phase = 0 else s.noTxPeriod c ∨ (s.fec c).codePos = 0)
  then modeTake c rx s else []

/-- The word that a write of FEC_MODE stands for once open encodings have become free values (R188). -/
def fecModeOpen (s : State) (c : Nat) (v w : Word) : Word :=
  let v := if mMON < wrote v FEC.FEC_MODE_MODE then bitsPut v 0 4 (bitsGet w 0 4) else v
  let v := if mMON < wrote v FEC.FEC_MODE_RX_MODE ∧ liveSet (wrote v FEC.FEC_MODE_MODE) then bitsPut v 4 4 (bitsGet w 4 4) else v
  let v := if 5 < wrote v FEC.FEC_MODE_REGEN_AS then bitsPut v 8 4 (bitsGet w 8 4) else v
  let p := wrote v FEC.FEC_MODE_PARTNER
  if wrote v FEC.FEC_MODE_MODE = mREGEN ∧ (p = c ∨ !s.present ⟨.fec, p⟩) then bitsPut v 12 2 (bitsGet w 12 2) else v

/-- A write of FEC_MODE holds an open encoding (R188). -/
def fecModeBad (s : State) (c : Nat) (v : Word) : Bool :=
  let p := wrote v FEC.FEC_MODE_PARTNER
  decide (mMON < wrote v FEC.FEC_MODE_MODE)
    || (decide (mMON < wrote v FEC.FEC_MODE_RX_MODE) && liveSet (wrote v FEC.FEC_MODE_MODE))
    || decide (5 < wrote v FEC.FEC_MODE_REGEN_AS)
    || (wrote v FEC.FEC_MODE_MODE == mREGEN && (p == c || !s.present ⟨.fec, p⟩))

/-- A write of FEC_MODE: a mode outside the live set sets both directions; a difference outside the live set, and a
change that leaves or enters the live set while the carrier runs, are ignored whole (R167, R168). -/
def fecModeWrite (src c : Nat) (staged : Bool) (v : Word) : Prog := fun s =>
  let m := wrote v FEC.FEC_MODE_MODE
  let r := if liveSet m then wrote v FEC.FEC_MODE_RX_MODE else m
  let m0 := s.fg (feb c) FEC.FEC_MODE_MODE
  let r0 := s.fg (feb c) FEC.FEC_MODE_RX_MODE
  let runs := s.fb (xb c) TXD.TXD_CTL_TX_RUN || s.fb (rb c) RXF.RXF_CTL_RX_RUN
  let outside (a b : Nat) : Bool := a != b && !(liveSet a && liveSet b)
  if m ≠ r ∧ !(liveSet m && liveSet r) then errPage (feb c) FEC.FEC_MODE src cMODE_MISMATCH s
  else if runs ∧ (outside m m0 ∨ outside r r0) then
    seqs [errPage (feb c) FEC.FEC_MODE src cMODE_LIVE, if staged then raise (feb c) 1 else skip] s
  else
    seqs [fset (feb c) FEC.FEC_MODE_PARTNER (wrote v FEC.FEC_MODE_PARTNER),
      fset (feb c) FEC.FEC_MODE_REGEN_AS (wrote v FEC.FEC_MODE_REGEN_AS),
      fset (feb c) FEC.FEC_MODE_MODE m, fset (feb c) FEC.FEC_MODE_RX_MODE r,
      fbset (feb c) FEC.FEC_MODE_TX_PEND (m != s.modeNow c),
      fbset (feb c) FEC.FEC_MODE_RX_PEND (r != s.fg (feb c) FEC.FEC_MODE_RX_MODE_NOW),
      modeEval c] s

/-! ### Code periods and code phase (R175) -/

/-- A transmit multiframe start: the first one at or after the chain's start begins a code period, and every fifth
multiframe from then on. -/
def codeMultiframe (c : Nat) : Prog := fun s =>
  if !s.txRunning c then fecUpd c (fun r => { r with codeRun := false, codePos := 0 }) s
  else fecUpd c (fun r => if r.codeRun then { r with codePos := (r.codePos + 1) % 5 }
    else { r with codeRun := true, codePos := 0 }) s

/-- A received multiframe start: the accepted phase runs on one step. -/
def phaseStep (x : Strm) : Prog := frUpd x fun r =>
  { r with phase := if r.plock then (r.phase + 1) % 5 else r.phase, cpPrev := r.cpNow, cpNow := none }

/-- A code phase taken from a valid overhead: two multiframes in a row accept it, three that disagree lose it. -/
def phaseTake (x : Strm) (p : Nat) : Prog := fun s =>
  let r := s.fr x.b
  if r.plock then
    if p = r.phase then frUpd x (fun r => { r with cpNow := some p, cpDis := 0 }) s
    else if r.cpDis < 2 then frUpd x (fun r => { r with cpNow := some p, cpDis := r.cpDis + 1 }) s
    else seqs [frUpd x fun r => { r with plock := false, cpNow := some p, cpDis := 0 }, carOnly x (raise (feb x.c) 6)] s
  else if p < 5 ∧ r.cpPrev.any (fun q => decide ((q + 1) % 5 = p)) then
    frUpd x (fun r => { r with plock := true, phase := p, cpNow := some p, cpDis := 0 }) s
  else frUpd x (fun r => { r with cpNow := some p }) s

/-! ### Decoding and counters (R178–R182) -/

/-- Adds to a 48-bit counter, which wraps (R186). -/
def cntWrap (lo n : Nat) : Prog := fun s => [.cnts lo ((s.cnt lo + n) % 2 ^ 48)]

/-- The read of a counter's LO register latches its HI register (R186). -/
def cntLatch (lo : Nat) : Prog := fun s => [.regs (lo + 4) (BitVec.ofNat 32 (s.cnt lo / 2 ^ 32))]

/-- A decoded codeword enters the counts of its carrier and its stream (R181, R206, R193). -/
def codewordCount (x : Strm) (d : Decoded) : Prog :=
  let u := b2n d.unc
  let win (r : FrRec) : FrRec := { r with
    wCw := r.wCw + 1, wUnc := r.wUnc + u, wIt := r.wIt + d.iters, wMax := max r.wMax d.iters, reiMf := r.reiMf + u,
    acc := { r.acc with cw := r.acc.cw + 1, unc := r.acc.unc + u } }
  seqs [cntWrap (feb x.c + FEC.CW_LO) 1, cntWrap (feb x.c + FEC.COR_LO) d.cor, cntWrap (feb x.c + FEC.UNC_LO) u,
    cntWrap (feb x.c + FEC.ITMAX_LO) (b2n d.itmax), fincSat (feb x.c) FEC.OUTC_COUNT d.outer,
    frUpd ⟨x.c, none⟩ win,
    match x.sub with
    | none => skip
    | some _ => seqs [frUpd x win, cntWrap (x.b + SCB.CW_LO) 1, cntWrap (x.b + SCB.UNC_LO) u]]

/-- What the decoder of a carrier makes of a codeword's log-likelihood ratios: the native code of the mode, or the
agreement's CFEC in Z400 (R178, R179, R184). -/
def State.decodeOut (s : State) (c : Nat) (m : Nat) (lam : List Int) : Decoded :=
  let inp := lam.map (softIn (s.fg (feb c) FEC.SM_CFG_SCALE))
  if m = mZ400 then
    let r := Config.cfec inp
    { iters := 0, itmax := false, unc := r.2, outer := 0, cor := if r.2 then 0 else r.1, info := [] }
  else (modeCode m).decode (s.fg (feb c) FEC.FEC_CTL_MAX_IT) (s.fb (feb c) FEC.FEC_CTL_EARLY_STOP) inp

/-- A codeword of a continuous stream is decoded: before PHASE_LOCK it is discarded; one of the interruption of a
receive-mode change, whose length is open up to 200 µs, counts as uncorrectable (R168, R175). -/
def codewordDecode (x : Strm) (lam : List Int) : Prog := fun s =>
  match s.decMode x.c with
  | none => []
  | some m =>
    if !s.decRun x.c ∨ (m ≠ mZ400 ∧ !(s.fr x.b).plock) then []
    else
      let d := s.decodeOut x.c m lam
      if s.running (tRxInt x.c) ∧ s.elapsed (tRxInt x.c) ≤ 200000 then
        withFree (fun w => codewordCount x (if w.getLsbD 0 then { d with unc := true, cor := 0, outer := 0 } else d)) s
      else codewordCount x d s

/-- The raw conditions of signal degrade and excessive errors (R182). -/
def rawSet (x : Strm) (sd exc : Bool) : Prog := fun s =>
  let r := s.fr x.b
  seqs [frUpd x fun q => { q with sd := sd, exc := exc },
    carOnly x (seqs [fbset (feb x.c) FEC.FEC_STAT_SD_RAW sd, fbset (feb x.c) FEC.FEC_STAT_EXC_RAW exc,
      if sd = r.sd then skip else raise (feb x.c) (if sd then 2 else 3),
      if exc = r.exc then skip else raise (feb x.c) (if exc then 4 else 5)])] s

/-- A millisecond ends: SD_RAW from its margin index, while the stream is in TRACK, EXC_RAW from its uncorrectable
codewords, and the iteration figures (R182, DEC_IT). -/
def fecQuality (x : Strm) (margin1 : Int) : Prog := fun s =>
  let r := s.fr x.b
  let sd := if s.strSt x = zTRACK then decide (margin1 < sx 16 (s.fg (feb x.c) FEC.SD_CFG_SD_MARGIN)) else r.sd
  seqs [rawSet x (sd && s.decRun x.c) (decide (s.fg (feb x.c) FEC.SD_CFG_EXC_THR < r.wUnc) && s.decRun x.c),
    carOnly x (seqs [fset (feb x.c) FEC.DEC_IT_AVG (if r.wCw = 0 then 0 else r.wIt * 256 / r.wCw),
      fset (feb x.c) FEC.DEC_IT_MAX r.wMax]),
    frUpd x fun q => { q with wCw := 0, wUnc := 0, wIt := 0, wMax := 0 }] s

/-- The decoder has stopped: PHASE_LOCK clears, and the raw conditions with it (R175). -/
def decStop (x : Strm) : Prog := fun s =>
  let r := s.fr x.b
  if r.plock ∨ r.sd ∨ r.exc then
    seqs [frUpd x fun q => { q with plock := false, cpNow := none, cpPrev := none, cpDis := 0 }, rawSet x false false] s
  else []

/-- What the conditions of a carrier mean for its code: the code periods end with the chain, the phase with the decoder,
and waiting changes take effect where no period runs. -/
def fecEval (c : Nat) : Prog := fun s =>
  seqs [if s.txRunning c then skip else if (s.fec c).codeRun then fecUpd c fun r => { r with codeRun := false, codePos := 0 } else skip,
    if s.decRun c && s.fb (rb c) RXF.RXF_CTL_RX_RUN then skip else forP (strms c) decStop,
    if s.pageOn ⟨.fec, c⟩ then modeEval c else skip] s

/-! ### Dematcher profiles (R183) -/

/-- A dematcher profile is in use: selected live, named by a stream or group of the subcarrier pages, or by a staged
selection of a pending deal (R99, R183, R288). -/
def State.demInUse (s : State) (c e : Nat) : Bool :=
  s.fg (feb c) FEC.FEC_SHAPE_PROFILE == e
  || (List.range 64).any (fun i => s.fg (sb c i) SCB.RX_SC_FORMAT == 2 && s.fg (sb c i) SCB.RX_SC_PROFILE == e)
  || s.deals.any fun d => d.pending && d.acts.any fun a =>
      match a with
      | .write ad v => (ad == feb c + FEC.FEC_SHAPE && wrote v FEC.FEC_SHAPE_PROFILE == e)
          || (decide (sb c 0 ≤ ad ∧ ad < sb c 64) && ad % 0x1000 == SCB.RX_SC && wrote v SCB.RX_SC_FORMAT == 2
            && wrote v SCB.RX_SC_PROFILE == e)
      | _ => false

/-- A write of FEC_SHAPE: the profile is selected or refused (R99, R183). -/
def fecShapeWrite (src c : Nat) (v : Word) : Prog := fun s =>
  let e := wrote v FEC.FEC_SHAPE_PROFILE
  if s.selectOk (feb c) e (s.rxMode c) then
    seqs [fset (feb c) FEC.FEC_SHAPE_PROFILE e, fecUpd c fun r => { r with shape := 1 }] s
  else seqs [errPage (feb c) FEC.FEC_SHAPE src cFEC_PROFILE_BAD, raise (feb c) 8] s

/-- The received multiframe start after a change of profile, and its first shaping group (R100, R183). -/
def demMultiframe (c : Nat) : Prog := fun s =>
  if (s.fec c).shape = 1 then fecUpd c (fun r => { r with shape := 2 }) s else []
def demSwitch (c : Nat) : Prog := fun s =>
  if (s.fec c).shape = 2 then
    seqs [fset (feb c) FEC.FEC_SHAPE_PROFILE_NOW (s.fg (feb c) FEC.FEC_SHAPE_PROFILE), fecUpd c fun r => { r with shape := 0 }] s
  else []

/-! ### Test vectors (R185) -/

/-- TV_GO. -/
def tvGo (src c : Nat) : Prog := fun s =>
  if !s.fb (feb c) FEC.FEC_CTL_DEC_EN ∨ (s.fec c).tvBusy then errPage (feb c) FEC.TV_CTL src cTV_BUSY s
  else seqs [fecUpd c fun r => { r with tvBusy := true }, fbset (feb c) FEC.TV_CTL_TV_DONE false] s

/-- The test run ends with a number of codewords, of 64, that did not decode to their stored result. -/
def tvDone (c errs : Nat) : Prog := fun s =>
  if (s.fec c).tvBusy ∧ errs ≤ 64 then
    seqs [fecUpd c fun r => { r with tvBusy := false }, fset (feb c) FEC.TV_CTL_TV_ERRS errs,
      fbset (feb c) FEC.TV_CTL_TV_FAIL (errs != 0), fbset (feb c) FEC.TV_CTL_TV_DONE true, raise (feb c) 7] s
  else []

/-! ### Registers -/

def fecLims : List Lim := [⟨FEC.FEC_CTL_MAX_IT, 1, 18⟩, ⟨FEC.SM_CFG_SCALE, 16, 255⟩, ⟨FEC.SD_CFG_EXC_THR, 1, 65535⟩]

/-- A write of FEC_CTL: while FECE is not ON its ENC_EN bit is ignored (R186); DEC_EN in MON with a MON_AS that does not
frame natively leaves DEC_EN open (R188). -/
def fecCtlWrite (src c : Nat) (r : RegRow) (v : Word) : Prog := fun s =>
  let off := !s.pdOn (11 * c + 8)
  let v1 := if off then bitsPut v 1 1 (s.fg (feb c) FEC.FEC_CTL_ENC_EN) else v
  let open' := wroteB v FEC.FEC_CTL_DEC_EN && s.modeNow c == mMON
    && decide (mZ400 ≤ s.fg (rb c) RXF.RXF_CTL_MON_AS ∧ s.fg (rb c) RXF.RXF_CTL_MON_AS ≤ mLEAF)
  seqs [if off ∧ wroteB v FEC.FEC_CTL_ENC_EN then errPage (feb c) r.off src cPAGE_OFF else skip,
    if open' then withFree fun w => plainWrite (feb c) r fecLims (bitsPut v1 0 1 (bitsGet w 0 1))
    else plainWrite (feb c) r fecLims v1] s

/-- A write of a FECc register. -/
def fecWrite (src c : Nat) (staged : Bool) (r : RegRow) (v : Word) : Prog := fun s =>
  if r.off = FEC.FEC_MODE then
    (if fecModeBad s c v then withFree fun w => fecModeWrite src c staged (fecModeOpen s c v w)
     else fecModeWrite src c staged v) s
  else if r.off = FEC.FEC_CTL then fecCtlWrite src c r v s
  else if r.off = FEC.FEC_SHAPE then fecShapeWrite src c v s
  else if r.off = FEC.TV_CTL then (if wroteB v FEC.TV_CTL_TV_GO then tvGo src c else skip) s
  else if r.off = FEC.SD_CFG then
    let m := sx 16 (wrote v FEC.SD_CFG_SD_MARGIN)
    if -500 ≤ m ∧ m ≤ 1000 then plainWrite (feb c) r fecLims v s
    else withFree (fun w => plainWrite (feb c) r fecLims (bitsPut v 0 16 (bitsGet w 0 16))) s
  else plainWrite (feb c) r fecLims v s

/-- A write of a DMPROFILE word. -/
def fecTab (src c e w : Nat) (v : Word) : Prog := fun s =>
  profWrite (feb c) (s.demInUse c e) cFEC_PROFILE_BUSY src e w v s

/-- The LO registers of FECc's counters. -/
def fecCounters : List Nat := [FEC.CW_LO, FEC.COR_LO, FEC.UNC_LO, FEC.ITMAX_LO]

/-- The computed registers of FECc. -/
def fecView (c : Nat) (s : State) (off : Nat) : Option Word :=
  let miss := (List.range 11).foldl (fun n i =>
    n + b2n (bitOf (modeDomains (s.modeNow c)) i && !s.pdOn (11 * c + i)) * 2 ^ i) 0
  if fecCounters.contains off then some (BitVec.ofNat 32 (s.cnt (feb c + off)))
  else if off = FEC.FEC_CTL then
    some (if s.pdOn (11 * c + 8) then s.reg (feb c + off) else bitsPut (s.reg (feb c + off)) 1 1 0)
  else if off = FEC.FEC_STAT then
    some (BitVec.ofNat 32 (b2n (s.regenOk c) * 2 ^ 11 + (s.fr (mb c)).phase * 2 ^ 8 + b2n (s.fr (mb c)).plock * 2 ^ 4
      + s.fg (feb c) FEC.FEC_STAT_EXC_RAW * 8 + s.fg (feb c) FEC.FEC_STAT_SD_RAW * 4 + b2n (s.encRun c) * 2 + b2n (s.decRun c)))
  else if off = FEC.FEC_DOM then some (BitVec.ofNat 32 (miss * 2 ^ 16 + modeDomains (s.modeNow c)))
  else if off = FEC.THR_BER then some (BitVec.ofNat 32 (match s.decMode c with | some m => thrBer m | none => 0))
  else none

end Sys2Proof.Machine
end

