-- ==== Sys2Proof/Machine/Lfr.lean ====
section
/-!
DEFINITION. Machine/Lfr.lean: the framer of each stream, defects and signal fail, the transmitted overhead, and the
performance record, on the LFRc pages and the SCBc.s pages (R189–R212, R245, R287).
-/

namespace Sys2Proof.Machine

/-- The base of LFRc, and the page that holds a stream's framer. -/
def lb (c : Nat) : Nat := pageBase .lfr c
def Strm.lb (x : Strm) : Nat :=
  match x.sub with
  | none => Machine.lb x.c
  | some s => sb x.c s

def Strm.fFr (x : Strm) : Fld := x.fld LFR.FR_STAT_STATE SCB.STR_STAT_FR_STATE
def Strm.fMfl (x : Strm) : Fld := x.fld LFR.FR_STAT_MF_LOCK SCB.STR_STAT_MF_LOCK

def fSEARCH : Nat := 0
def fPRESYNC : Nat := 1
def fIF : Nat := 2

/-- The framer state of a stream. -/
def State.frSt (s : State) (x : Strm) : Nat := s.fg x.lb x.fFr

/-- The number of 4 GBd subcarriers that a stream of a group spans: 1, 2 or 4 (R196, R242). -/
def State.scWidth (s : State) (c sc : Nat) : Nat :=
  if s.rxMode c = mH16 then 4
  else match (s.hub c).groups.find? fun g => g.low == sc with
    | some g => g.size
    | none => 1

/-- The frames of a stream's multiframe (R189, R196). -/
def State.mfFrames (s : State) (x : Strm) : Nat :=
  match x.sub with
  | none => 256
  | some sc => 256 * s.scWidth x.c sc

/-- The framer runs: FR_EN, its page live, the receiver past BLIND (R199). -/
def State.frMay (s : State) (x : Strm) : Bool :=
  s.fb (lb x.c) LFR.LFR_CTL_FR_EN && s.live ⟨.lfr, x.c⟩ && decide (zCONVERGE ≤ s.strSt x)

/-- Changes MF_LOCK; gaining and losing it by the count are events of LFRc. -/
def mflSet (x : Strm) (on : Bool) : Prog :=
  seqs [fbset x.lb x.fMfl on, frUpd x fun r => { r with mfLock := on, dis := 0, cand := none, smMiss := 0, smSeen := false }]

/-- Leaves or enters a framer state; out of IF, MF_LOCK clears (R199, R200). -/
def frTo (x : Strm) (st : Nat) : Prog := fun s =>
  seqs [fset x.lb x.fFr st, frUpd x fun r => { r with miss := 0, hits := 0, fields := [] },
    if s.frSt x = fIF ∧ st ≠ fIF then seqs [mflSet x false, strFrame x false] else skip] s

/-- The conditions that hold a framer in SEARCH (R199). -/
def frEval (x : Strm) : Prog := fun s =>
  if !s.frMay x ∧ s.frSt x ≠ fSEARCH then frTo x fSEARCH s else []

/-! ### Alignment (R198–R201) -/

/-- A word matches: FAW of a carrier; SFAW of a subcarrier, or SMFAW where that is allowed (R198). -/
def State.fawHit (s : State) (x : Strm) (sm : Bool) (w : Nat) : Bool :=
  match x.sub with
  | none => decide (bitDiff 256 w fawWord ≤ s.fg (lb x.c) LFR.FR_CFG_FAW_TOL)
  | some _ => decide (bitDiff 16 w sfawWord ≤ s.fg (lb x.c) LFR.FR_CFG_SFAW_TOL)
      || (sm && decide (bitDiff 16 w smfawWord ≤ s.fg (lb x.c) LFR.FR_CFG_SFAW_TOL))

/-- A subcarrier word is SMFAW: it matches SMFAW, and differs from it in fewer bits than from SFAW (R196, R198). -/
def State.smHit (s : State) (x : Strm) (w : Nat) : Bool :=
  decide (bitDiff 16 w smfawWord ≤ s.fg (lb x.c) LFR.FR_CFG_SFAW_TOL) && decide (bitDiff 16 w smfawWord < bitDiff 16 w sfawWord)

/-- The count that a carrier overhead field carries: MFN × 256 + FN (R192). -/
def fieldNum (i : List Bool) : Nat := bitsNum ((i.drop 8).take 32) * 256 + bitsNum (i.take 8)

/-- The consistency check on three frames: at least two valid fields, and the valid ones count on by one a frame
(R199). -/
def fieldsOk (l : List (Option Nat)) : Bool :=
  let v := (l.mapIdx fun i o => o.map fun n => (n + 2 ^ 40 - i) % 2 ^ 40).filterMap id
  decide (2 ≤ v.length) && v.all fun n => some n == v.head?

/-- A deal-free part of the multiframe overhead: slots 0, 1–8 and 9 (R193, R200). -/
def slotTake (x : Strm) (fn : Nat) (slot : List Bool) : Prog := fun s =>
  if fn = 0 then
    seqs [if (s.fr x.b).mfLock then phaseTake x (bitsNum ((slot.drop 49).take 3)) else skip,
      frUpd x fun r => { r with tti := [] }] s
  else if fn ≤ 8 then
    let l := (s.fr x.b).tti ++ [bitsNum slot]
    let run := if l = (s.fr x.b).ttiPrev then (s.fr x.b).ttiRun + 1 else 1
    if fn < 8 then frUpd x (fun r => { r with tti := l }) s
    else if l.length ≠ 8 then frUpd x (fun r => { r with tti := [], ttiRun := 0 }) s
    else seqs [frUpd x fun r => { r with tti := [], ttiPrev := l, ttiRun := run },
      if run < 3 then skip else fun _ => (List.range 16).map fun w =>
        .tabs (tabKey (lb x.c) 1 1 w) (BitVec.ofNat 32 (l.getD (w / 2) 0 / (if w % 2 = 0 then 2 ^ 32 else 1)))] s
  else if fn = 9 ∧ (s.fr x.b).mfLock then
    let v := slot.getD 16 false
    let n := bitsNum (slot.take 16)
    seqs [carOnly x (seqs [fset (lb x.c) LFR.REI_RX_COUNT n, fbset (lb x.c) LFR.REI_RX_VALID v]),
      if v then frUpd x fun r => { r with acc := { r.acc with rei := r.acc.rei + n } } else skip] s
  else []

/-- The framer's own count against a valid field: five that disagree lose MF_LOCK, two consistent ones regain it; an
invalid field is as if not received (R200). -/
def countCheck (x : Strm) (v : Nat) : Prog := fun s =>
  let r := s.fr x.b
  if r.mfLock then
    if v = r.num then frUpd x (fun r => { r with dis := 0 }) s
    else if r.dis < 4 then frUpd x (fun r => { r with dis := r.dis + 1 }) s
    else seqs [mflSet x false, frUpd x fun r => { r with cand := some v }, carOnly x (raise x.lb 3)] s
  else if r.cand = some v then
    seqs [mflSet x true, frUpd x fun r => { r with num := v }, carOnly x (raise x.lb 2)] s
  else frUpd x (fun r => { r with cand := some v }) s

/-- The overhead of a carrier frame: an invalid field is counted, a valid one is taken (R191–R193). -/
def ohTake (x : Strm) (inIf : Bool) (fld : Option (List Bool)) : Prog :=
  match fld with
  | none => seqs [fincSat (lb x.c) LFR.OH_ERR_CNT_COUNT 1, carOnly x (fbset (lb x.c) LFR.FR_STAT_OH_VALID false)]
  | some i => seqs [carOnly x (fbset (lb x.c) LFR.FR_STAT_OH_VALID true),
      frUpd x fun r => { r with bdi := i.getD 40 false, rdi := i.getD 41 false },
      if inIf then seqs [countCheck x (fieldNum i), slotTake x (fieldNum i % 256) ((i.drop 48).take 64)] else skip]

/-- A subcarrier codeword has been received (R197): codeword 0 carries the count and the status bits, the others the
hub channel, whose messages are commands of their own. -/
def scCodeword (x : Strm) (idx : Nat) (coded : List Bool) : Prog := fun s =>
  match scField coded with
  | none => fincSat (lb x.c) LFR.OH_ERR_CNT_COUNT 1 s
  | some i =>
    if idx ≠ 0 then [] else
    let r := s.fr x.b
    let mf := bitsNum (i.take 32)
    let rei := bitsNum ((i.drop 87).take 16)
    seqs [frUpd x fun r => { r with bdi := i.getD 35 false, rdi := i.getD 36 false },
      if !r.mfLock ∧ r.smSeen then
        seqs [mflSet x true, frUpd x fun r => { r with num := mf * s.mfFrames x + 31 }] else skip,
      fun t => if !(t.fr x.b).mfLock then [] else
        seqs [phaseTake x (bitsNum ((i.drop 32).take 3)),
          if i.getD 86 false then frUpd x fun r => { r with acc := { r.acc with rei := r.acc.rei + rei } } else skip] t] s

/-- A frame of a subcarrier stream in IF: SMFAW at the multiframe's frame 0, and the eight coded bits (R196, R197,
R200). -/
def scFrame (x : Strm) (w : Nat) (bits : List Bool) : Prog := fun s =>
  let r := s.fr x.b
  let n := s.mfFrames x
  let fn := r.num % n
  let acc := (if fn % 32 = 0 then [] else r.cwBits) ++ bits
  let start := !r.mfLock && s.smHit x w
  if start then frUpd x (fun r => { r with num := r.num / n * n, smSeen := true, cwBits := bits }) s
  else
    seqs [if r.mfLock ∧ fn = 0 then
        (if s.smHit x w then frUpd x fun r => { r with smMiss := 0 }
         else if r.smMiss < 4 then frUpd x fun r => { r with smMiss := r.smMiss + 1 }
         else mflSet x false) else skip,
      frUpd x fun r => { r with cwBits := acc },
      if fn % 32 = 31 ∧ acc.length = 256 then scCodeword x (fn / 32) acc else skip] s

/-- A received frame begins: the framer's count goes on by one; a multiframe start moves the code phase, the counts of
REI and a waiting dematcher profile. -/
def frCount (x : Strm) : Prog := fun s =>
  let n := s.mfFrames x
  let num := ((s.fr x.b).num + 1) % (2 ^ 32 * n)
  seqs [frUpd x fun r => { r with num := num, cand := r.cand.map fun v => (v + 1) % (2 ^ 32 * n) },
    if num % n = 0 then seqs [phaseStep x, frUpd x fun r => { r with reiTx := r.reiMf, reiMf := 0 },
      if x.sub.isSome then rxmUpd x.b fun r => { r with fmt := s.fg x.b SCB.RX_SC_FORMAT } else demMultiframe x.c] else skip] s

/-- OOF, on the framer's page of a stream. -/
def strRaise9 (x : Strm) : Prog :=
  match x.sub with
  | none => raise x.lb 1
  | some _ => raise x.b 9

/-- The word of a frame in IF that matches: at the held offset, or a symbol before or after it (R201). -/
def State.heldWord (s : State) (x : Strm) (f : FrameRx) : Nat :=
  if s.fawHit x true f.word then f.word
  else if s.fawHit x true f.before then f.before
  else if s.fawHit x true f.after then f.after
  else f.word

/-- The held word of a frame in IF, allowing for a slip of one symbol (R201). -/
def inFrameWord (x : Strm) (f : FrameRx) : Prog := fun s =>
  let adj (o : Nat) : Prog := seqs [frUpd x fun r => { r with off := o, miss := 0 },
    carOnly x (seqs [fset (lb x.c) LFR.FR_STAT_OFFSET o, fincSat (lb x.c) LFR.ADJ_CNT_COUNT 1, raise (lb x.c) 10])]
  let len := if x.sub.isNone then 16384 else 256
  let o := (s.fr x.b).off
  if s.fawHit x true f.word then frUpd x (fun r => { r with miss := 0 }) s
  else if s.fawHit x true f.before then adj ((o + len - 1) % len) s
  else if s.fawHit x true f.after then adj ((o + 1) % len) s
  else if (s.fr x.b).miss < 4 then frUpd x (fun r => { r with miss := r.miss + 1 }) s
  else seqs [frTo x fSEARCH, fincSat x.lb (x.fld LFR.OOF_CNT_COUNT SCB.OOF_CNT_COUNT) 1, strRaise9 x] s

/-- In-frame is declared: the count is taken from the fields, MF_LOCK with it on a carrier (R199, R200). -/
def frDeclare (x : Strm) (num : Option Nat) : Prog :=
  seqs [fset x.lb x.fFr fIF, frUpd x fun r => { r with miss := 0, hits := 0, fields := [], cwBits := [] },
    match x.sub, num with
    | none, some n => seqs [mflSet x true, frUpd x fun r => { r with num := n }, raise x.lb 2]
    | _, _ => skip,
    match x.sub with
    | none => raise x.lb 0
    | some _ => raise x.b 8,
    strFrame x true]

/-- A received frame moves the framer (R198–R201); an accepted code phase runs on through loss of frame (R175), and a
receiver that is back in CONVERGE under a framer still in frame goes on to TRACK (DEDUCED, log 39; R151); in Z400 the agreement's own frame state is reported (R194). -/
def lineFrame (x : Strm) (f : FrameRx) : Prog := fun s =>
  if !s.frMay x then seqs [frEval x, if (s.fr x.b).plock then frCount x else skip] s
  else if s.rxMode x.c = mZ400 then
    seqs [if f.zState = fIF ∧ s.frSt x ≠ fIF then frDeclare x none
      else if f.zState ≠ fIF ∧ s.frSt x = fIF then seqs [frTo x (f.zState % 2), fincSat x.lb LFR.OOF_CNT_COUNT 1, raise x.lb 1]
      else fset x.lb x.fFr (f.zState % 3),
      fun t => if t.frSt x = fIF ∧ (t.fr x.b).mfLock ≠ f.zLock then
        seqs [mflSet x f.zLock, raise x.lb (if f.zLock then 2 else 3)] t else []] s
  else
    let fld : Option (List Bool) := if x.sub.isNone then ohField f.oh else none
    let num := fld.map fieldNum
    seqs [frCount x, fun t =>
      if t.frSt x = fSEARCH then
        (if t.fawHit x false f.word then
          seqs [fset x.lb x.fFr fPRESYNC,
            frUpd x fun r => { r with off := f.off, hyp := f.hyp, hits := 1, fields := [num], smSeen := false },
            carOnly x (seqs [fset (lb x.c) LFR.FR_STAT_OFFSET f.off, fset (lb x.c) LFR.FR_STAT_HYP f.hyp, ohTake x false fld])]
         else skip) t
      else if t.frSt x = fPRESYNC then
        let r := t.fr x.b
        let fields := r.fields ++ [num]
        let sm := r.smSeen || (x.sub.isSome && t.smHit x f.word)
        let last := (fields.mapIdx fun i o => o.map fun n => (n + (2 - i)) % 2 ^ 40).filterMap id
        if !t.fawHit x true f.word then frTo x fSEARCH t
        else seqs [carOnly x (ohTake x false fld),
          if r.hits < 2 then frUpd x fun r => { r with hits := r.hits + 1, fields := fields, smSeen := sm }
          else if (if x.sub.isNone then fieldsOk fields else !sm) then frDeclare x last.getLast?
          else frTo x fSEARCH] t
      else seqs [inFrameWord x f, fun u =>
        if u.frSt x ≠ fIF then [] else
          seqs [if x.sub.isNone then ohTake x true fld else scFrame x (t.heldWord x f) f.oh, strFrame x true] u] t] s

/-- The read of RX_MFN latches RX_FN (R200). -/
def lfrReadFx (c off : Nat) : Prog := fun s =>
  if off = LFR.RX_MFN then fset (lb c) LFR.RX_FN_FN ((s.fr (mb c)).num % 256) s else []

/-! ### Defects (R202–R205) -/

/-- A SET or CLR time in samples of 10 µs (R202). -/
def defSamples (code : Nat) : Nat :=
  let n := code % 2 ^ 14
  match code / 2 ^ 14 with
  | 0 => n
  | 1 => n * 100
  | 2 => n * 10000
  | _ => Config.openNat (2048 + n)

/-- One sample of a defect's integrator: its state and the run of samples that differ from it (R202). -/
def integrate (act raw : Bool) (run times : Nat) : Bool × Nat :=
  if raw = act then (act, 0)
  else if (if raw then defSamples (times / 2 ^ 16) else defSamples (times % 2 ^ 16)) ≤ run then (raw, 0)
  else (act, run + 1)

/-- The LFRc copies of a hub's or leaf's stream: which subcarrier page they come from (R245). -/
def State.refStream (s : State) (c : Nat) : Option Nat :=
  if s.rxMode c = mLEAF then some (s.fg (pageBase .hub 0) (HUB.LEAF_STAT_HOME c))
  else
    let sc := s.fg (pageBase .hub 0) (HUB.CAR_CFG_REF_SC c)
    if (s.hub c).groups.any fun g => g.low == sc && g.role == 1 then some sc else none

/-- DEF_STAT of LFRc as it reads, with the copies of R245. -/
def State.lfrDefStat (s : State) (c : Nat) : Word :=
  let own := s.reg (lb c + LFR.DEF_STAT)
  if modeHasRounds (s.rxMode c) then
    let own2 := bitsPut (bitsPut own 2 6 0) 18 6 0
    match s.refStream c with
    | none => own2
    | some sc => bitsPut (bitsPut own2 2 6 (s.fg (sb c sc) SCB.DEF_STAT_DEF % 64)) 18 6 (s.fg (sb c sc) SCB.DEF_STAT_RAW % 64)
  else own

/-- The defects of a stream, in LFRc's bit order. -/
def State.defs (s : State) (x : Strm) : Nat :=
  match x.sub with
  | none => bitsGet (s.lfrDefStat x.c) 0 8
  | some _ => bitsGet (s.reg (lb x.c + LFR.DEF_STAT)) 0 2 + s.fg x.b SCB.DEF_STAT_DEF % 64 * 4

/-- Signal fail and signal degrade of a stream or carrier (R205). -/
def State.sigFail (s : State) (x : Strm) : Bool := decide (s.defs x &&& 0x2F ≠ 0)
def State.sigDeg (s : State) (x : Strm) : Bool := bitOf (s.defs x) 4

/-- The raw conditions of a stream (R203); of the carrier in a hub, whose LOCK is not stated, a free value. -/
def State.rawDefs (s : State) (x : Strm) (w : Word) : List Bool :=
  let r := s.fr x.b
  let hub := s.rxMode x.c == mH64 || s.rxMode x.c == mH16
  [s.fb (ob x.c) OPT.RX_STAT_LOS_RAW,
   s.fb (rb x.c) RXF.RXF_CTL_RX_RUN && (if hub then w.getLsbD 0 else s.strSt ⟨x.c, none⟩ != zTRACK),
   s.fb (lb x.c) LFR.LFR_CTL_FR_EN && s.frSt x != fIF,
   s.frSt x == fIF && !r.mfLock, r.sd, r.exc, r.bdi, r.rdi]

/-- The eight integrators of a stream at one sample, with the holds of R204: set bits and runs. `d` counts up. -/
def defStep (x : Strm) (s : State) (raws : List Bool) (acc : List Bool × List Nat) (d : Nat) : List Bool × List Nat :=
  let on (i : Nat) : Bool := acc.1.getD i false
  let held := match d with
    | 0 => false
    | 1 => on 0
    | 2 => on 0 || on 1
    | 3 => on 2
    | _ => on 0 || on 1 || on 2 || on 3
  let times := match x.sub with
    | none => (s.reg (lb x.c + LFR.DEF_TIME d)).toNat
    | some _ => (s.reg (x.b + SCB.DEF_TIME (d - 2))).toNat
  let r := if held then (false, 0) else integrate (bitOf (s.defs x) d) (raws.getD d false) ((s.fr x.b).runs.getD d 0) times
  (acc.1 ++ [r.1], acc.2 ++ [r.2])

/-- The number of a list of bits, lowest first. -/
def bitsLow (l : List Bool) : Nat := l.foldr (fun b n => 2 * n + b2n b) 0

/-- What a sample of a stream's defects means for its transmitter and its performance second (R205–R207). -/
def defAfter (x : Strm) : Prog := fun s =>
  let sf := s.sigFail x
  let sd := s.sigDeg x
  frUpd x (fun r =>
    let r := { r with acc := { r.acc with sf := r.acc.sf || sf, bdi := r.acc.bdi || bitOf (s.defs x) 6 } }
    let r := if sf = r.sf then r else { r with sfWas := r.sf, sf := sf, sfAt := s.ticks }
    if sd = r.sdeg then r else { r with sdegWas := r.sdeg, sdeg := sd, sdegAt := s.ticks }) s

/-- A sample of a carrier's defects: all eight, or in the modes with rounds dLOS and dLOL (R202–R204). -/
def defSampleCar (c : Nat) : Prog := fun s =>
  let x : Strm := ⟨c, none⟩
  let go (w : Word) : Prog := fun s =>
    let raws := s.rawDefs x w
    let rounds := modeHasRounds (s.rxMode c)
    let out := (List.range (if rounds then 2 else 8)).foldl (defStep x s raws) ([], [])
    let old := s.fg (lb c) LFR.DEF_STAT_DEF
    let new := bitsLow out.1
    seqs [fset (lb c) LFR.DEF_STAT_DEF new, fset (lb c) LFR.DEF_STAT_RAW (bitsLow (if rounds then raws.take 2 else raws)),
      frUpd x fun r => { r with runs := out.2 },
      if new &&& (0xFF ^^^ old) = 0 then skip else raise (lb c) 4,
      if old &&& (0xFF ^^^ new) = 0 then skip else raise (lb c) 5, defAfter x] s
  if !s.live ⟨.lfr, c⟩ then []
  else if s.rxMode c = mH64 ∨ s.rxMode c = mH16 then withFree go s else go 0 s

/-- A sample of a subcarrier stream's six defects; dLOS and dLOL are the carrier's (R203, R287). Bit 6 of DEF_STAT, the
leaves' loss of bursts, is sampled apart. -/
def defSampleSub (c sc : Nat) : Prog := fun s =>
  let x : Strm := ⟨c, some sc⟩
  let raws := s.rawDefs x 0
  let car := s.fg (lb c) LFR.DEF_STAT_DEF
  let out := (List.range 6).foldl (fun acc i => defStep x s raws acc (i + 2)) ([bitOf car 0, bitOf car 1], [0, 0])
  let old := s.fg (sb c sc) SCB.DEF_STAT_DEF % 64
  let new := bitsLow (out.1.drop 2)
  if !s.strOn x then []
  else seqs [fset (sb c sc) SCB.DEF_STAT_DEF (s.fg (sb c sc) SCB.DEF_STAT_DEF / 64 * 64 + new),
    fset (sb c sc) SCB.DEF_STAT_RAW (s.fg (sb c sc) SCB.DEF_STAT_RAW / 64 * 64 + bitsLow (raws.drop 2)),
    frUpd x fun r => { r with runs := out.2 },
    if new &&& (0x3F ^^^ old) = 0 then skip else raise (sb c sc) 4,
    if old &&& (0x3F ^^^ new) = 0 then skip else raise (sb c sc) 5, defAfter x] s

/-! ### The transmitted overhead (R192, R193, R205) -/

/-- A status bit as sent: it changes from the first frame at least 1 µs after its cause (R205). -/
def sentBit (now was : Bool) (at' ticks : Nat) : Bool := if at' + 1000 ≤ ticks then now else was

/-- BDI and RDI as a stream sends them in a frame that starts now. -/
def State.bdiOut (s : State) (x : Strm) : Bool :=
  let r := s.fr x.b
  s.fb (lb x.c) LFR.LFR_CTL_BDI_FORCE || (s.fb (lb x.c) LFR.LFR_CTL_BDI_AUTO && sentBit r.sf r.sfWas r.sfAt s.ticks)
def State.rdiOut (s : State) (x : Strm) : Bool :=
  let r := s.fr x.b
  s.fb (lb x.c) LFR.LFR_CTL_RDI_FORCE || (s.fb (lb x.c) LFR.LFR_CTL_RDI_AUTO && sentBit r.sdeg r.sdegWas r.sdegAt s.ticks)

/-- REI and REI_V of slot 9 (R193). -/
def State.reiSlot (s : State) (c : Nat) : Nat :=
  min 0xFFFF (s.fr (mb c)).reiTx * 2 ^ 48 + b2n (s.frSt ⟨c, none⟩ == fIF) * 2 ^ 47

/-- Slots 1–8: the transmitted trail trace, or in REGEN the partner's received one (R193, R194). -/
def State.ttiSlot (s : State) (c i : Nat) : Nat :=
  let (p, e) := if s.modeNow c = mREGEN ∧ s.regenOk c then (s.fg (feb c) FEC.FEC_MODE_PARTNER, 1) else (c, 0)
  (s.tab (tabKey (lb p) 1 e (2 * i))).toNat * 2 ^ 32 + (s.tab (tabKey (lb p) 1 e (2 * i + 1))).toNat

/-- The information bits of the overhead of a carrier frame that starts now, with the slot and the GCC it carries
(R192). -/
def State.ohOut (s : State) (c slot gcc : Nat) : List Bool :=
  let t := s.tl c
  ohInfo (bitsOf 8 t.frame ++ bitsOf 32 t.mf.toNat ++ [s.bdiOut ⟨c, none⟩, s.rdiOut ⟨c, none⟩] ++ List.replicate 6 false
    ++ bitsOf 64 slot ++ bitsOf 128 gcc ++ List.replicate 6 false)

/-! ### Performance (R206–R209) -/

/-- The table of a stream's bins, and the words of a 48-bit count in a bin. -/
def Strm.pmKey (x : Strm) (e w : Nat) : Nat := tabKey x.lb (if x.sub.isNone then 0 else 2) e w

/-- Adds to count `i` (NE_ES, NE_SES, NE_UAS, FE_ES, FE_SES, FE_UAS) of a bin; it saturates. -/
def pmAdd (x : Strm) (e i : Nat) : Prog := fun s =>
  let v := satAdd 48 ((s.tab (x.pmKey e (3 + 2 * i))).toNat + (s.tab (x.pmKey e (4 + 2 * i))).toNat % 2 ^ 16 * 2 ^ 32) 1
  [.tabs (x.pmKey e (3 + 2 * i)) (BitVec.ofNat 32 v), .tabs (x.pmKey e (4 + 2 * i)) (BitVec.ofNat 32 (v / 2 ^ 32))]

/-- Marks a bin SUSPECT. -/
def pmMark (x : Strm) (e : Nat) : Prog := fun s => [.tabs (x.pmKey e 0) (bitsPut (s.tab (x.pmKey e 0)) 30 1 1)]

/-- The start of a bin of a length that holds a second (R209). -/
def pmStart (ofs len sec : Nat) : Nat := sec - (sec + len - ofs % len) % len

/-- Begins a bin: valid, empty, with its start. -/
def pmOpen (x : Strm) (e start : Nat) : Prog := fun _ =>
  .tabs (x.pmKey e 0) 0x80000000 :: .tabs (x.pmKey e 1) (BitVec.ofNat 32 start)
    :: .tabs (x.pmKey e 2) (BitVec.ofNat 32 (start / 2 ^ 32 % 2 ^ 16))
    :: (List.range 12).map fun w => .tabs (x.pmKey e (3 + w)) 0

/-- The length of the current bins: entry 0 a quarter of an hour, entry 1 a day. -/
def pmLen (e : Nat) : Nat := if e = 0 then 900 else 86400

/-- A second becomes final: it enters both current bins (R208). -/
def pmFinal (x : Strm) (q : PmSec) : Prog :=
  let one (e : Nat) : Prog := seqs [
    if q.suspect then pmMark x e else skip,
    if q.void then skip else seqs [
      if q.neU then pmAdd x e 2 else seqs [if q.neEs then pmAdd x e 0 else skip, if q.neSes then pmAdd x e 1 else skip],
      if q.feU then pmAdd x e 5 else seqs [if q.feEs then pmAdd x e 3 else skip, if q.feSes then pmAdd x e 4 else skip]]]
  seqs [one 0, one 1]

/-- Whether the last ten seconds all agree. -/
def lastTen (l : List PmSec) (f : PmSec → Bool) : Bool := decide (10 ≤ l.length) && (l.take 10).all f

/-- A device-time second completes (R206–R208): it is judged, unavailable time begins or ends on the tenth second in a
row, and the second ten before it is counted. -/
def pmSecond (x : Strm) : Prog := fun s =>
  let now := s.nowNs.toNat / 1000000000
  if now = 0 ∨ !s.live ⟨.lfr, x.c⟩ ∨ !s.present ⟨.lfr, x.c⟩ then [] else
  let sec := now - 1
  let r := s.fr x.b
  let a := r.acc
  let thr := s.fg (lb x.c) LFR.PM_CFG_SES_THR
  let off := a.void || !s.fb (lb x.c) LFR.PM_CFG_PM_EN
  let neSes := !off && (a.sf || decide (0 < a.unc ∧ thr * a.cw ≤ 100 * a.unc))
  let feSes := !off && (a.bdi || decide (0 < a.rei ∧ thr * a.cw ≤ 100 * a.rei))
  let q : PmSec := {
    sec := sec, neSes := neSes, neEs := !off && (neSes || decide (0 < a.unc)), neU := r.uNe,
    feSes := feSes, feEs := !off && (feSes || decide (0 < a.rei)), feU := r.uFe, suspect := a.suspect || off, void := off }
  let l := q :: r.secs
  let neIn := !r.uNe && lastTen l fun p => p.neSes
  let neOut := r.uNe && lastTen l fun p => !p.neSes
  let feIn := !r.uFe && lastTen l fun p => p.feSes
  let feOut := r.uFe && lastTen l fun p => !p.feSes
  let l := if neIn || neOut then (l.take 10).map (fun p => { p with neU := neIn }) ++ l.drop 10 else l
  let l := if feIn || feOut then (l.take 10).map (fun p => { p with feU := feIn }) ++ l.drop 10 else l
  let uNe := if neIn then true else if neOut then false else r.uNe
  let uFe := if feIn then true else if feOut then false else r.uFe
  let openBin (e : Nat) : Prog := fun t =>
    if bitOf (t.tab (x.pmKey e 0)).toNat 31 then [] else pmOpen x e (pmStart (t.fg (lb x.c) LFR.PM_CFG_DAY_OFS) (pmLen e) sec) t
  seqs [openBin 0, openBin 1,
    frUpd x fun r => { r with acc := {}, secs := l.take 10, uNe := uNe, uFe := uFe },
    carOnly x (seqs [fbset (lb x.c) LFR.PM_STAT_UAS_NE uNe, fbset (lb x.c) LFR.PM_STAT_UAS_FE uFe,
      if neIn ∨ feIn then raise (lb x.c) 8 else skip, if neOut ∨ feOut then raise (lb x.c) 9 else skip]),
    match l.getD 10 q with
    | p => if 10 < l.length then pmFinal x p else skip] s

/-- A bin closes ten seconds after its end: it enters history, newest first, and the next bin begins (R209). -/
def pmClose (x : Strm) (day : Bool) : Prog := fun s =>
  let now := s.nowNs.toNat / 1000000000
  let e := if day then 1 else 0
  let h := if day then 34 else 2
  let n := if day then 2 else 32
  let start := (s.tab (x.pmKey e 1)).toNat + (s.tab (x.pmKey e 2)).toNat * 2 ^ 32
  if !bitOf (s.tab (x.pmKey e 0)).toNat 31 ∨ now < start + pmLen e + 10 then []
  else seqs [fun _ => (List.range (n - 1)).flatMap fun i => (List.range 15).map fun w =>
        .tabs (x.pmKey (h + n - 1 - i) w) (s.tab (x.pmKey (h + n - 2 - i) w)),
    fun _ => (List.range 15).map fun w => .tabs (x.pmKey h w) (s.tab (x.pmKey e w)),
    pmOpen x e (pmStart (s.fg (lb x.c) LFR.PM_CFG_DAY_OFS) (pmLen e) (now - 10)),
    carOnly x (seqs [if day then fset (lb x.c) LFR.PM_STAT_N24 (min 2 (s.fg (lb x.c) LFR.PM_STAT_N24 + 1))
        else fset (lb x.c) LFR.PM_STAT_N15 (min 32 (s.fg (lb x.c) LFR.PM_STAT_N15 + 1)),
      raise (lb x.c) (if day then 7 else 6)])] s

/-- PM_CMD.CLR: both current bins are cleared and marked SUSPECT (R209). -/
def pmClear (x : Strm) : Prog :=
  let one (e : Nat) : Prog := fun s =>
    .tabs (x.pmKey e 0) (s.tab (x.pmKey e 0) ||| 0x40000000) :: (List.range 12).map fun w => .tabs (x.pmKey e (3 + w)) 0
  seqs [one 0, one 1]

/-- Device time was stepped, or PM_EN fell: the seconds in progress are suspect (R209). -/
def pmStepped : Prog := forP (List.range 4) pmSuspect
def pmSkip (c : Nat) : Prog :=
  forP (strms c) fun x => frUpd x fun r => { r with acc := { r.acc with void := true, suspect := true } }

/-! ### Registers -/

/-- The streams of a carrier whose bins PM_CMD.CLR clears: the carrier's own, or in the modes with rounds its streams'. -/
def State.pmStreams (s : State) (c : Nat) : List Strm :=
  if modeHasRounds (s.rxMode c) then (strms c).drop 1 else [⟨c, none⟩]

def lfrLims : List Lim := [⟨LFR.FR_CFG_FAW_TOL, 0, 64⟩, ⟨LFR.FR_CFG_SFAW_TOL, 0, 8⟩, ⟨LFR.PM_CFG_SES_THR, 1, 100⟩,
  ⟨LFR.PM_CFG_DAY_OFS, 0, 86399⟩]
  ++ (List.range 8).flatMap fun d => [⟨⟨LFR.DEF_TIME d, 30, 2⟩, 0, 2⟩, ⟨⟨LFR.DEF_TIME d, 14, 2⟩, 0, 2⟩]

/-- Evaluates every framer of a carrier. -/
def lfrEval (c : Nat) : Prog := forP (strms c) frEval

/-- A write of a LFRc register. -/
def lfrWrite (c : Nat) (r : RegRow) (v : Word) : Prog := fun s =>
  if r.off = LFR.PM_CMD then (if wroteB v LFR.PM_CMD_CLR then forP (s.pmStreams c) pmClear else skip) s
  else seqs [plainWrite (lb c) r lfrLims v,
    if r.off = LFR.PM_CFG ∧ !wroteB v LFR.PM_CFG_PM_EN then pmSkip c else skip, lfrEval c] s

/-- A write of a LFRc table word: the transmitted trail trace (R211); written while it is sent, the word of one
multiframe may be mixed, and the word that stays is the one written (R212). -/
def lfrTab (src c t e w : Nat) (v : Word) : Prog :=
  if t = 1 ∧ e = 0 then fun _ => [.tabs (tabKey (lb c) 1 0 w) v] else errPage (lb c) (oWIN_DATA w) src cRO_WRITE

/-- A LFRc table word as it reads: in the modes with rounds the bins read 0 (R209). -/
def lfrTabView (s : State) (c t e w : Nat) : Word :=
  if t = 0 ∧ modeHasRounds (s.rxMode c) then 0 else s.tab (tabKey (lb c) t e w)

/-- The computed registers of LFRc. -/
def lfrView (c : Nat) (s : State) (off : Nat) : Option Word :=
  if off = LFR.DEF_STAT then some (s.lfrDefStat c)
  else if off = LFR.RX_MFN then some (BitVec.ofNat 32 ((s.fr (mb c)).num / 256))
  else none

end Sys2Proof.Machine
end

