-- ==== Sys2Proof/Machine/Mem.lean ====
section
/-!
DEFINITION. Machine/Mem.lean: attached memory: regions and their budget, errors, row tests and remaps, the scrubber, of
the MEM and DDRn pages (R400–R423), and errors of on-die and engine SRAM (R409–R413).
-/

namespace Sys2Proof.Machine

/-- The bases of MEM and DDRn. -/
def meb : Nat := pageBase .mem 0
def db (n : Nat) : Nat := pageBase .ddr n

def cREGION_ACTIVE : Nat := 0x80
def cREGION_IN_USE : Nat := 0x81
def cBUDGET : Nat := 0x82
def cREGION_LIMIT : Nat := 0x83
def cREGION_RANGE : Nat := 0x84
def cNO_DDR : Nat := 0x85
def cSCRUB_BUSY : Nat := 0x86
def cSCRUB_RANGE : Nat := 0x87
def cSCRUB_BW : Nat := 0x88
def cMEM_OFF : Nat := 0x89

/-- The number of populated channels. -/
def State.nch (s : State) : Nat := s.fg meb MEM.MEM_STAT_NCH

/-- The transfer rate of a bin in MT/s. -/
def binRate (b : Nat) : Nat := if b ≤ 4 then 4800 + 800 * b else Config.openNat (4096 + b)

/-- The budget in 0.1 GB/s (R405). -/
def budgetOf (n rate : Nat) : Nat := n * rate * 6 / 100

/-- A word of a region's entry. -/
def State.region (s : State) (r w : Nat) : Nat := (s.tab (tabKey meb 0 r w)).toNat

/-- A region is enabled; its base and length in MiB. -/
def State.regionOn (s : State) (r : Nat) : Bool := bitOf (s.region r 0) 0
def State.regionBase (s : State) (r : Nat) : Nat := s.region r 1
def State.regionLen (s : State) (r : Nat) : Nat := s.region r 2

/-- The reservations of a set of regions in 0.1 GB/s; the heaps share one (R404). -/
def reserved (on : Nat → Bool) : Nat :=
  b2n (on 0) * 6000 + b2n (on 1) * 1500 + b2n (on 2) * 5 + b2n ((List.range 8).any fun k => on (3 + k)) * 160

/-- The user of a region is running (R407). -/
def State.regionUsed (s : State) (r : Nat) : Bool :=
  match r with
  | 0 => s.pairs.any (fun e => e.2.on)
      || s.suits.any fun e => e.2.on && (s.tab (tabKey (pageBase .suit 0) 0 e.1 0)).getLsbD 2
  | 1 => s.fb (pageBase .qmg 0) QMG.QMG_CTL_OVF_EN
  | 2 => s.fb (pageBase .sns 0) SNS.SNS_CTL_ARCH_EN
  | _ => !s.fb (pageBase .eng (r - 3)) ENG.CL_STAT_HALTED

/-- The owning island of a region (R404). -/
def regionIsland (r : Nat) : Nat := if r ≤ 1 then 22 else if r = 2 then 23 else 11 + (r - 3)

/-- The enabled region that holds a module address. -/
def State.regionAt (s : State) (a : Nat) : Option Nat :=
  (List.range 11).find? fun r => s.regionOn r && decide (s.regionBase r * 2 ^ 20 ≤ a ∧ a < (s.regionBase r + s.regionLen r) * 2 ^ 20)

/-- The populated channel of a module address, and the address in it (R403). -/
def State.chanOf (s : State) (a : Nat) : Nat := a / 4096 % s.nch
def State.chanAddr (s : State) (a : Nat) : Nat := a / 4096 / s.nch * 4096 + a % 4096

/-! ### Regions (R404–R407) -/

/-- The first check that enabling a region fails (R406); before the fill completes none can be enabled (R410). -/
def State.regionCheck (s : State) (r : Nat) : Option Nat :=
  let len := s.regionLen r
  let heaps := (List.range 8).foldl (fun n k => n + if s.regionOn (3 + k) then s.regionLen (3 + k) else 0) 0
  let lim := if r = 0 then 8192 else if r = 1 then 65536 else if r = 2 then s.fg meb MEM.USABLE_MIB else 16384
  if s.fb meb MEM.MEM_STAT_NO_DDR ∨ !s.fb meb MEM.MEM_STAT_FILL_DONE then some cNO_DDR
  else if len = 0 ∨ lim < len ∨ (3 ≤ r ∧ 16384 < heaps + len) then some cREGION_LIMIT
  else if s.fg meb MEM.USABLE_MIB < s.regionBase r + len then some cREGION_RANGE
  else if s.fg meb MEM.BUDGET_TOTAL < reserved (fun k => s.regionOn k || k == r) then some cBUDGET
  else none

/-- Setting EN of a region (R406). -/
def regionEnable (src r : Nat) : Prog := fun s =>
  match s.regionCheck r with
  | some code => seqs [errPage meb (oWIN_DATA 0) src code, raise meb 5] s
  | none => [.tabs (tabKey meb 0 r 0) (BitVec.ofNat 32 1)]

/-- Clearing EN of a region (R407). -/
def regionDisable (src r : Nat) : Prog := fun s =>
  if s.regionUsed r then errPage meb (oWIN_DATA 0) src cREGION_IN_USE s else [.tabs (tabKey meb 0 r 0) 0]

/-- A write of a MEM table word: the regions; the repair list is RO (R420). -/
def memTab (src t e w : Nat) (v : Word) : Prog := fun s =>
  if t ≠ 0 then errPage meb (oWIN_DATA w) src cRO_WRITE s
  else if w = 0 then
    (if bitOf v.toNat 0 then (if s.regionOn e then skip else regionEnable src e)
     else if s.regionOn e then regionDisable src e else skip) s
  else if s.regionOn e then errPage meb (oWIN_DATA w) src cREGION_ACTIVE s
  else [.tabs (tabKey meb 0 e w) (v &&& 0x3FFFFF)]

/-- A MEM table word as it reads: IN_USE is computed (R407). -/
def memTabView (s : State) (t e w : Nat) : Word :=
  let v := s.tab (tabKey meb t e w)
  if t = 0 ∧ w = 0 then bitsPut v 1 1 (b2n (s.regionOn e && s.regionUsed e)) else v

/-! ### DDR errors and row tests (R411–R415) -/

def ddrUpd (n : Nat) (f : DdrRec → DdrRec) : Prog := fun s => [.ddrs n (f (s.ddr n))]

/-- The row of an error within its channel: its place (subchannel, rank, bank group, bank) and its number. -/
def rowId (place row : Nat) : Nat := place % 128 * 2 ^ 18 + row % 2 ^ 18

/-- The first and last failing address and the counts of a scrub that finds an error (R417). -/
def scrubFind (a : Nat) (ue : Bool) : Prog := fun s =>
  if !s.fb meb MEM.SCRUB_STAT_BUSY then [] else
  let first := (s.reg (meb + MEM.SCR_CORR)).toNat + (s.reg (meb + MEM.SCR_UNC)).toNat == 0
  seqs [fincSat meb ⟨if ue then MEM.SCR_UNC else MEM.SCR_CORR, 0, 32⟩ 1,
    if ue then fbset meb MEM.SCRUB_STAT_UNC_SEEN true else skip,
    if first then seqs [rset (meb + MEM.SCR_FIRST_LO) (BitVec.ofNat 32 a), rset (meb + MEM.SCR_FIRST_HI) (BitVec.ofNat 32 (a / 2 ^ 32))]
    else skip,
    rset (meb + MEM.SCR_LAST_LO) (BitVec.ofNat 32 a), rset (meb + MEM.SCR_LAST_HI) (BitVec.ofNat 32 (a / 2 ^ 32))] s

/-- An access or the scrubber finds an error of the word at a module address: it is counted and reported, and a row test
is queued or, with eight queued, skipped (R411, R412, R414, R417, R508, R509). -/
def ddrError (a place row : Nat) (ue scrub : Bool) : Prog := fun s =>
  if s.nch = 0 ∨ s.fg meb MEM.INSTALLED_MIB * 2 ^ 20 ≤ a then [] else
  let n := s.chanOf a
  if !s.pdOn (56 + n / 2) then [] else
  let id := rowId place row
  let own := s.regionAt a
  let island := match own with | some r => regionIsland r | none => pageIsland ⟨.ddr, n⟩
  let src := if !ue then eDDR_CE else if own.isSome then eDDR_UE else eDDR_UE_FREE
  let seq := s.fg eb ERR.SEQ_NEXT
  seqs [fincSat meb ⟨if ue then MEM.UE_CNT else MEM.CE_CNT, 0, 32⟩ 1,
    rset (meb + if ue then MEM.LAST_UE_LO else MEM.LAST_CE_LO) (BitVec.ofNat 32 a),
    rset (meb + if ue then MEM.LAST_UE_HI else MEM.LAST_CE_HI) (BitVec.ofNat 32 (a / 2 ^ 32)),
    fincSat (db n) (if ue then DDR.UE_CNT_COUNT else DDR.CE_CNT_COUNT) 1,
    raise meb (if ue then 1 else 0), raise (db n) (if ue then 1 else 0),
    if scrub then scrubFind a ue else skip,
    report src island (db n) a n (2 ^ 32 * (n + 1) + id),
    ddrUpd n fun r => { r with hits := (r.hits.filter fun h => decide (s.ticks < h.2 + 10000000000)) ++ [(id, s.ticks)] },
    if (s.ddr n).tests.length < 8 then ddrUpd n fun r => { r with tests := r.tests ++ [{ row := id, seq := seq, addr := a, ue := ue }] }
    else fincSat (db n) DDR.SKIP_CNT_COUNT 1] s

/-- A lasting error moves its row to a spare row of the channel, or finds none (R415). After an uncorrectable error the
failing word reads zeros. Tests that wait for the same row end with it, lasting, since the row has moved. -/
def rowRemap (n : Nat) (q : RowTest) : Prog := fun s =>
  let same := (s.ddr n).tests.filter fun t => t.row == q.row
  let free := (List.range 32).find? fun i => !bitOf (s.tab (tabKey meb 1 (n * 32 + i) 0)).toNat 0
  match free, decide (0 < s.fg (db n) DDR.SPARE_LEFT_ROWS) with
  | some i, true =>
    seqs [fun t => [.regs (db n + DDR.SPARE_LEFT) (BitVec.ofNat 32 (t.fg (db n) DDR.SPARE_LEFT_ROWS - 1)),
        .regs (meb + MEM.REPAIR_STAT) (BitVec.ofNat 32 (t.fg meb MEM.REPAIR_STAT_SPARE_LEFT - 1)),
        .tabs (tabKey meb 1 (n * 32 + i) 0) (BitVec.ofNat 32 (1 + q.row / 2 ^ 18 * 8)),
        .tabs (tabKey meb 1 (n * 32 + i) 1) (BitVec.ofNat 32 (q.row % 2 ^ 18))],
      markRemapped q.seq, forP same fun t => seqs [markRemapped t.seq, classify t.seq true],
      ddrUpd n fun r => { r with tests := r.tests.filter fun t => t.row != q.row }, raise meb 3,
      if s.fb meb MEM.SCRUB_STAT_BUSY then fincSat meb ⟨MEM.SCR_REMAP, 0, 16⟩ 1 else skip,
      forP ((q :: same).filter RowTest.ue) fun t _ => (List.range 64).map fun b => .ddrMem (t.addr / 64 * 64 + b) 0] s
  | _, _ => seqs [raise meb 4, report eSPARE_OUT (pageIsland ⟨.ddr, n⟩) (db n) q.addr n] s

/-- The oldest row test of a channel ends, with an error found in the row or not: lasting, too, when a second error of
the row was reported within 10 s (R414, R519). -/
def rowTest (n : Nat) (found : Bool) : Prog := fun s =>
  match (s.ddr n).tests with
  | [] => []
  | q :: rest =>
    let lasting := found || decide (2 ≤ ((s.ddr n).hits.filter fun h => h.1 == q.row).length)
    seqs [ddrUpd n fun r => { r with tests := rest }, if lasting then rowRemap n q else skip, classify q.seq lasting] s

/-! ### SRAM errors (R411–R413) -/

/-- An access or the patrol finds an error in on-die SRAM, or engine SRAM, of a page's block (R411, R412). -/
def sramError (page addr unit : Nat) (eng ue : Bool) : Prog :=
  report (if eng then (if ue then eESRAM_UE else eESRAM_CE) else if ue then eSRAM_UE else eSRAM_CE)
    (islandAt page) page addr unit (2 ^ 50 + page * 2 ^ 12 + addr)

/-- The time since the last patrol (R413). -/
def tPatrol : Nat := meb + 1

/-- A patrol, once every 10 s: what it finds is handled as an access would (R413). -/
def sramPatrol (found : List SramErr) : Prog := fun s =>
  seqs [if s.running tPatrol then clockEnd tPatrol 10000000000 else skip, timerStart tPatrol, forP found fun e => sramError e.page e.addr e.unit e.eng e.ue] s

/-! ### The scrubber (R417) -/

/-- A populated pair is not ON. -/
def State.pairOff (s : State) : Bool := (List.range (s.nch / 2)).any fun i => !s.pdOn (56 + i)

/-- A scrub ends, early or not. -/
def scrubEnd (aborted : Bool) (words : Nat) : Prog :=
  seqs [fun _ => [.cnts (meb + MEM.SCR_WORDS_LO) words], fbset meb MEM.SCRUB_STAT_BUSY false,
    fbset meb MEM.SCRUB_STAT_DONE true, fbset meb MEM.SCRUB_STAT_ABORTED aborted, raise meb 2]

/-- The words of a whole scrub. -/
def State.scrubTotal (s : State) : Nat := s.fg meb MEM.SCRUB_LEN_MIB * 16384

/-- SCRUB_CMD.GO: refused, or the summary is cleared and the scrub runs. -/
def scrubGo (src : Nat) : Prog := fun s =>
  let no (c : Nat) := errPage meb MEM.SCRUB_CMD src c
  if s.fb meb MEM.SCRUB_STAT_BUSY then no cSCRUB_BUSY s
  else if s.fg meb MEM.INSTALLED_MIB < s.fg meb MEM.SCRUB_BASE_MIB + s.fg meb MEM.SCRUB_LEN_MIB then no cSCRUB_RANGE s
  else if (s.fg meb MEM.BUDGET_TOTAL - reserved s.regionOn) * 100 < s.fg meb MEM.SCRUB_RATE_MBS then no cSCRUB_BW s
  else if s.pairOff then no cMEM_OFF s
  else seqs [fun _ => [.regs (meb + MEM.SCRUB_STAT) 1, .cnts (meb + MEM.SCR_WORDS_LO) 0],
    forP [MEM.SCR_WORDS_HI, MEM.SCR_CORR, MEM.SCR_UNC, MEM.SCR_REMAP, MEM.SCR_FIRST_LO, MEM.SCR_FIRST_HI, MEM.SCR_LAST_LO,
      MEM.SCR_LAST_HI] fun o => rset (meb + o) 0] s

/-- ABORT, or a populated pair that leaves ON, ends the scrub; how far it has come is not stated. -/
def scrubAbort : Prog := fun s =>
  if s.fb meb MEM.SCRUB_STAT_BUSY then withFree (fun w => scrubEnd true (w.toNat % (s.scrubTotal + 1))) s else []

/-- The scrub reaches its end. -/
def scrubDone : Prog := fun s => if s.fb meb MEM.SCRUB_STAT_BUSY then scrubEnd false s.scrubTotal s else []

/-! ### Registers -/

def memLims : List Lim := [⟨MEM.MEM_CFG_MAX_BIN, 0, 4⟩, ⟨MEM.SCRUB_RATE_MBS, 1, 1000000⟩, ⟨MEM.SCRUB_LEN_MIB, 1, 2 ^ 22⟩]

/-- A write of a MEM register. -/
def memWrite (src : Nat) (r : RegRow) (v : Word) : Prog := fun s =>
  if r.off = MEM.SCRUB_CMD then
    seqs [if wroteB v MEM.SCRUB_CMD_GO then scrubGo src else skip, if wroteB v MEM.SCRUB_CMD_ABORT then scrubAbort else skip] s
  else plainWrite meb r memLims v s

/-- The computed registers of MEM. -/
def memView (s : State) (off : Nat) : Option Word :=
  if off = MEM.BUDGET then some (bitsPut (s.reg (meb + off)) 0 16 (reserved s.regionOn))
  else if off = MEM.SCR_WORDS_LO then some (BitVec.ofNat 32 (s.cnt (meb + off)))
  else none

/-- The computed registers of DDRn: SELF_REF while the pair's domain is in RET. -/
def ddrView (n : Nat) (s : State) (off : Nat) : Option Word :=
  if off = DDR.DDR_STAT then some (bitsPut (s.reg (db n + off)) 29 1 (b2n (s.pdSt (56 + n / 2) == 1))) else none

/-- TEMP_HIGH of a DIMM: its temperature in 0.1 °C has reached the threshold; refresh doubles above 85 °C (R422). -/
def ddrTemp (n : Nat) (t : Int) : Prog := fun s =>
  let lim := sx 16 (s.fg (db n) DDR.DDR_TEMP_LIM_DEG)
  let old := sx 16 (s.fg (db n) DDR.DDR_TEMP_DEG)
  seqs [fset (db n) DDR.DDR_TEMP_DEG (tc 16 t), fbset (db n) DDR.DDR_TEMP_REF2X (decide (850 < t)),
    if lim ≤ t ∧ old < lim then raise (db n) 2 else skip] s

end Sys2Proof.Machine
end

