-- ==== Sys2Proof/Machine/Suit.lean ====
section
/-!
DEFINITION. Machine/Suit.lean: suits, their members, hitless resizing, member loss, deskew, and route-diverse
protection, on the SUIT and TSH pages (R213–R241).
-/

namespace Sys2Proof.Machine

/-- The bases of SUIT and TSH. -/
def sub' : Nat := pageBase .suit 0
def tsb : Nat := pageBase .tsh 0

def cTS_OVERLAP : Nat := 0x80
def cMEMBER_ACTIVE : Nat := 0x81
def cSUIT_ACTIVE : Nat := 0x82
def cSOURCE_BUSY : Nat := 0x83
def cTSH_BUDGET : Nat := 0x90
def cTSH_SHORT : Nat := 0x91
def cPAIR_ACTIVE : Nat := 0x92
def cNO_REGION : Nat := 0x93
def cVLG_FULL : Nat := 0x81

def suitUpd (i : Nat) (f : SuitRec → SuitRec) : Prog := fun s => [.suits i (f (s.suit i))]
def pairUpd (i : Nat) (f : PairRec → PairRec) : Prog := fun s => [.pairs i (f (s.pair i))]

/-! ### Tables -/

/-- The words of a suit entry, a member entry, a plan, a pair. -/
def State.suitW (s : State) (i w : Nat) : Word := s.tab (tabKey sub' 0 i w)
def State.member (s : State) (i k : Nat) : Word := s.tab (tabKey sub' 1 (i * 16 + k) 0)
def State.planW (s : State) (p w : Nat) : Word := s.tab (tabKey sub' 2 p w)
def State.pairW (s : State) (p w : Nat) : Word := s.tab (tabKey tsb 0 p w)

/-- Fields of a member entry (R237). -/
def mEn (m : Word) : Bool := m.getLsbD 0
def mSub (m : Word) : Bool := m.getLsbD 1
def mModule (m : Word) : Nat := bitsGet m 2 2
def mCarrier (m : Word) : Nat := bitsGet m 6 2
def mSc (m : Word) : Nat := bitsGet m 8 6
def mFirst (m : Word) : Nat := bitsGet m 16 8
def mCount (m : Word) : Nat := bitsGet m 24 8

/-- Fields of a suit entry (R237). -/
def State.suitEn (s : State) (i : Nat) : Bool := (s.suitW i 0).getLsbD 0
def State.suitTsh (s : State) (i : Nat) : Bool := (s.suitW i 0).getLsbD 2
def State.suitProtect (s : State) (i : Nat) : Bool := (s.suitW i 0).getLsbD 3
def State.reqTs (s : State) (i : Nat) : Nat := bitsGet (s.suitW i 0) 16 9
def State.maxSkew (s : State) (i : Nat) : Nat := bitsGet (s.suitW i 1) 0 15

/-- The suits and pairs that are enabled. -/
def State.suitIds (s : State) : List Nat := s.suits.map (·.1)
def State.pairIds (s : State) : List Nat := s.pairs.map (·.1)

/-- A member lies on this module (R237). -/
def State.mLocal (s : State) (m : Word) : Bool := mModule m == s.fg vb0 VLG.STACK_CFG_POS

/-- The members of a suit in a map, by number. -/
def mapMembers (map : Nat) : List Nat := (List.range 16).filter (bitOf map)

/-- The TS total of a map (R215, R216). -/
def State.tsOf (s : State) (i map : Nat) : Nat := (mapMembers map).foldl (fun n k => n + mCount (s.member i k)) 0

/-- The members of a suit that are enabled in the table. -/
def State.provisioned (s : State) (i : Nat) : Nat :=
  (List.range 16).foldl (fun n k => n + b2n (mEn (s.member i k)) * 2 ^ k) 0

/-- The stream that a local member is. -/
def mStrm (m : Word) : Strm := ⟨mCarrier m, if mSub m then some (mSc m) else none⟩

/-! ### The stack, as members on other modules see it (R443, R458) -/

/-- The port that carries stack traffic to a position. -/
def State.peerPort (s : State) (pos : Nat) : Option Nat :=
  (List.range 4).find? fun p =>
    let b := pageBase .vlg p
    s.fb b VLG.PEER_VALID && s.fg b VLG.PEER_POS == pos && s.fg b VLG.VLG_STAT_STATE == 2 && !s.fb b VLG.VLG_STAT_PEER_DUP

/-- A word of a transit entry of a port (R462). -/
def State.transit (s : State) (p e w : Nat) : Word := s.tab (tabKey (pageBase .vlg p) 0 e w)

/-- The enabled transit entries of a port. -/
def State.transitOn (s : State) (p : Nat) : List Nat := (List.range 32).filter fun e => (s.transit p e 0).getLsbD 0

/-- The TS that a port carries in each direction: those of its transit entries and of the remote members, on the module to
which it links, of some suits (R452, R453). -/
def State.vlgTs (s : State) (p : Nat) (suits : List Nat) : Nat :=
  ((s.transitOn p).map fun e => bitsGet (s.transit p e 1) 8 8).sum
    + (suits.map fun i => ((List.range 16).map fun k =>
        let m := s.member i k
        if mEn m && !s.mLocal m && s.peerPort (mModule m) == some p then mCount m else 0).sum).sum

/-- A module has left the stack, or the link to it is lost. -/
def State.moduleGone (s : State) (pos : Nat) : Bool :=
  !bitOf (s.fg vb0 VLG.STACK_STAT_MEMBERS) pos ||
    match s.peerPort pos with
    | none => true
    | some p => s.fb (pageBase .vlg p) VLG.VLG_STAT_LOL

/-! ### Failed members (R228) -/

/-- A member is failed at the receive side. -/
def State.rxFailed (s : State) (i k : Nat) : Bool :=
  let m := s.member i k
  if !s.mLocal m then s.moduleGone (mModule m)
  else s.sigFail ⟨mCarrier m, none⟩ || (mSub m && s.fg (sb (mCarrier m) (mSc m)) SCB.DEF_STAT_DEF % 2 == 1)

/-- A member is failed at the transmit side. -/
def State.txFailed (s : State) (i k : Nat) : Bool :=
  let m := s.member i k
  let c := mCarrier m
  if !s.mLocal m then s.moduleGone (mModule m)
  else !(s.pdOn (11 * c + 6) && s.pdOn (11 * c + 8) && s.pdOn (11 * c + 9)) || s.laser c != lLOCKED

/-- The members of a map that satisfy a condition. -/
def mapWhere (map : Nat) (f : Nat → Bool) : Nat := (mapMembers map).foldl (fun n k => n + b2n (f k) * 2 ^ k) 0

/-- FAIL_MAP: the members failed at the receive side (R219). -/
def State.failMap (s : State) (i : Nat) : Nat := mapWhere (s.provisioned i) (s.rxFailed i)

/-- The active transmit members that have failed, on either side (R229). -/
def State.txLost (s : State) (i : Nat) : Nat :=
  let r := s.suit i
  mapWhere r.active fun k => bitOf r.farFail k || s.txFailed i k

/-! ### Skew (R221) -/

/-- The largest skew of the receive map's members in ns, once each is measured. -/
def State.suitSkew (s : State) (i : Nat) : Option Nat :=
  let r := s.suit i
  let l := (mapMembers r.rxMap).map fun k => (r.skews.find? fun q => q.1 == k).map (·.2)
  if l.isEmpty || l.any (·.isNone) then none else some ((l.filterMap id).foldl max 0)

/-- A skew is beyond the suit's limit. -/
def State.skewBad (s : State) (i ns : Nat) : Bool :=
  decide ((if s.suitTsh i then s.maxSkew i * 1000 else 16000) < ns)

/-- A member's TMF arrives with its SSN: it enters the deskew store, and the member's skew is measured against the
earliest arrival of that SSN; the receive map changes at the committed SSN (R221, R226). -/
def tmfReceived (i k ssn : Nat) : Prog := fun s =>
  let r := s.suit i
  if !r.on ∨ !mEn (s.member i k) ∨ s.rxFailed i k then [] else
  let old := r.arrivals.find? fun a => a.ssn == ssn
  let a : Arrival := match old with
    | some a =>
      -- `first` and `last` are the arrivals on the earliest and the latest active member
      let act := bitOf r.rxMap k && !bitOf a.members k
      { a with first := if act && a.members &&& r.rxMap == 0 then s.ticks else a.first, last := if act then s.ticks else a.last,
               members := if bitOf a.members k then a.members else a.members + 2 ^ k }
    | none => { ssn := ssn, first := s.ticks, last := s.ticks, members := 2 ^ k }
  let sw := r.rxCommit && decide ((ssn + 2 ^ 32 - r.rxAt) % 2 ^ 32 < 2 ^ 31)
  suitUpd i (fun r =>
    let r := { r with
      arrivals := (a :: r.arrivals.filter fun b => b.ssn != ssn).take 2048,
      skews := (k, s.ticks - a.first) :: r.skews.filter fun q => q.1 != k }
    if sw then { r with
      rxPrev := r.rxMap, rxPrevVer := r.rxVer, rxMap := r.rxNext, rxVer := r.rxNextVer, rxCommit := false, answer := 0, reason := 0 }
    else r) s

/-- The tick at which an SSN was complete on a suit's receive map. -/
def State.suitArrival (s : State) (i ssn : Nat) : Option Nat :=
  let r := s.suit i
  (r.arrivals.find? fun a => a.ssn == ssn && decide (a.members &&& r.rxMap = r.rxMap)).map (·.last)

/-! ### The budget of the time-shift region (R234) -/

/-- TSH_STAT.TS_LIMIT. -/
def State.tsLimit (s : State) : Nat := if s.regionOn 0 then 192 else 0

/-- Suit A of a pair, and suit B. -/
def State.pairA (s : State) (p : Nat) : Nat := bitsGet (s.pairW p 0) 8 8
def State.pairB (s : State) (p : Nat) : Nat := bitsGet (s.pairW p 0) 16 8

/-- TSH_STAT.TS_USED. -/
def State.tsUsed (s : State) : Nat :=
  (s.pairIds.foldl (fun n p => n + s.tsOf (s.pairA p) (s.suit (s.pairA p)).active) 0)
    + ((s.suitIds.filter s.suitTsh).foldl (fun n i => n + s.tsOf i (s.suit i).active) 0)

/-- The length of a delay line for n TS and D µs, in MiB. -/
def delayMib (n d : Nat) : Nat := (n * 25600 * ((d * 1000 + 16383) / 16384 + 2) + 2 ^ 20 - 1) / 2 ^ 20

/-- The check on enabling a delay line for n TS and D µs with a given DDR_LEN. -/
def State.tshCheck (s : State) (n d len : Nat) : Option Nat :=
  if !s.regionOn 0 then some cNO_REGION
  else if s.tsLimit < s.tsUsed + n then some cTSH_BUDGET
  else if len < delayMib n d then some cTSH_SHORT
  else none

/-! ### Pairs (R231–R233) -/

/-- The enabled pair in which a suit takes part. -/
def State.pairOf (s : State) (i : Nat) : Option Nat := s.pairIds.find? fun p => s.pairA p == i || s.pairB p == i

/-- The other suit of a suit's pair. -/
def State.partnerOf (s : State) (i : Nat) : Option Nat :=
  (s.pairOf i).map fun p => if s.pairA p = i then s.pairB p else s.pairA p

/-- The paths of a pair as they stand: a path is lost or back, both are failed or no longer (TSH INT_STAT). -/
def pairEval (p : Nat) : Prog := fun s =>
  let r := s.pair p
  let a := s.failMap (s.pairA p) != 0
  let b := s.failMap (s.pairB p) != 0
  if !r.on ∨ (a = r.aBad ∧ b = r.bBad) then [] else
  seqs [pairUpd p fun r => { r with aBad := a, bBad := b, fail := a && b },
    if (a && !r.aBad) || (b && !r.bBad) then raise tsb 3 else skip,
    if (!a && r.aBad) || (!b && r.bBad) then raise tsb 4 else skip,
    if a && b && !r.fail then raise tsb 0 else skip,
    if !(a && b) && r.fail then raise tsb 1 else skip] s

/-- The differential delay of a pair is measured at an SSN complete on both suits (R233). -/
def pairMeasure (i ssn : Nat) : Prog := fun s =>
  match s.pairOf i with
  | none => []
  | some p =>
    match s.suitArrival (s.pairA p) ssn, s.suitArrival (s.pairB p) ssn with
    | some ta, some tb =>
      let d := if ta ≤ tb then tb - ta else ta - tb
      let exc := decide (bitsGet (s.pairW p 1) 0 15 * 1000 < d)
      seqs [pairUpd p fun r => { r with valid := true, diff := d / 10, late := decide (ta < tb), depthExc := exc, aligned := !exc },
        if exc && !(s.pair p).depthExc then raise tsb 2 else skip] s
    | _, _ => []

/-! ### Resizing (R224–R227) and drops (R229) -/

/-- The distance of a suit's SSN before its switch; it has reached the switch. -/
def SuitRec.toGo (r : SuitRec) : Nat := serialDist 32 r.switchAt r.ssn
def SuitRec.reached (r : SuitRec) : Bool := decide ((r.ssn + 2 ^ 32 - r.switchAt) % 2 ^ 32 < 2 ^ 31)

/-- The new map and REQ_TS of a plan. -/
def State.planSuit (s : State) (p : Nat) : Nat := bitsGet (s.planW p 0) 0 8
def State.planMap (s : State) (p : Nat) : Nat := bitsGet (s.planW p 0) 16 16
def State.planReq (s : State) (p : Nat) : Nat := bitsGet (s.planW p 1) 0 9
def State.planValid (s : State) (p : Nat) : Bool := s.planMap p != 0 && decide (1 ≤ s.planReq p ∧ s.planReq p ≤ 256)

/-- A plan passes its check (R224); `others` are the plans of the same deal. -/
def State.planOk (s : State) (p : Nat) (others : List Nat) : Bool :=
  let i := s.planSuit p
  let map := s.planMap p
  let n := s.tsOf i map
  let old := s.tsOf i (s.suit i).active
  s.planValid p && (s.suit i).on && (mapMembers map).all (fun k => mEn (s.member i k)) && decide (s.planReq p ≤ n)
    && (!(s.suitTsh i || (s.pairOf i).isSome) || decide (s.tsUsed - old + n ≤ s.tsLimit))
    && (match s.partnerOf i with
      | none => true
      | some j => others.any fun q => s.planSuit q == j && s.tsOf j (s.planMap q) == n)

/-- A plan is accepted: ANNOUNCE with its switch SSN, the larger of the two for a pair (R225, R235). -/
def planStart (p : Nat) : Prog := fun s =>
  let i := s.planSuit p
  let lead := s.fg sub' SUIT.SUIT_CFG_RESIZE_LEAD
  let own := ((s.suit i).ssn + lead) % 2 ^ 32
  let at' := match s.partnerOf i with
    | none => own
    | some j => let o := ((s.suit j).ssn + lead) % 2 ^ 32
                if serialAhead 32 o own then o else own
  suitUpd i (fun r => { r with rstate := 1, next := s.planMap p, nextVer := (r.mapVer + 1) % 16, switchAt := at',
                               reqNew := s.planReq p }) s

/-- A plan is executed: it waits while its suit is not IDLE, is refused with PLAN_BAD, or starts (R224, R227). -/
def planExec (p : Nat) (others : List Nat) : Prog := fun s =>
  let i := s.planSuit p
  if (s.suit i).on ∧ (s.suit i).rstate ≠ 0 then
    seqs [suitUpd i fun r => { r with plan := some p }, if (s.suit i).plan.isSome then raise sub' 7 else skip] s
  else if s.planOk p others then planStart p s
  else seqs [if (s.suit i).on then suitUpd i fun r => { r with result := 2 } else skip, raise sub' 3] s

/-- Failed members are dropped from the map, or the drop waits, or it is impossible (R229). -/
def dropTry (i : Nat) : Prog := fun s =>
  let r := s.suit i
  let lost := s.txLost i
  let keep := mapWhere r.active fun k => !bitOf lost k
  if !r.on ∨ lost = 0 ∨ r.rstate = 4 then []
  else if r.rstate ≠ 0 then suitUpd i (fun r => { r with dropWait := true }) s
  else if s.reqTs i ≤ s.tsOf i keep ∧ keep ≠ 0 then
    suitUpd i (fun r => { r with rstate := 4, next := keep, nextVer := (r.mapVer + 1) % 16,
                                 switchAt := (r.ssn + 16) % 2 ^ 32, dropWait := false }) s
  else suitUpd i (fun r => { r with result := 7, dropWait := false }) s

/-- A suit is IDLE again: a waiting drop comes first, then the waiting plan. -/
def suitIdle (i : Nat) : Prog := fun s =>
  let queued := (s.suits.filterMap fun e => e.2.plan)
  seqs [suitUpd i fun r => { r with rstate := 0 },
    if (s.suit i).dropWait then dropTry i else skip,
    fun t => match (t.suit i).plan with
      | some p => if (t.suit i).rstate = 0 then seqs [suitUpd i fun r => { r with plan := none }, planExec p queued] t else []
      | none => []] s

/-- The SSN reaches S − 8 in ANNOUNCE without READY. -/
def noReady (i : Nat) : Prog := fun s =>
  let r := s.suit i
  if r.on ∧ r.rstate = 1 ∧ (r.toGo ≤ 8 ∨ r.reached) then suitUpd i (fun r => { r with rstate := 3, result := 3 }) s else []

/-- The SSN reaches S in COMMIT: the new map, with its REQ_TS, is in use. -/
def resizeDone (i : Nat) : Prog := fun s =>
  let r := s.suit i
  if r.on ∧ r.rstate = 2 ∧ r.reached then
    seqs [suitUpd i fun r => { r with active := r.next, mapVer := r.nextVer, result := 1, resizes := satAdd 32 r.resizes 1 },
      fun t => [.tabs (tabKey sub' 0 i 0) (bitsPut (t.suitW i 0) 16 9 r.reqNew)], raise sub' 2, suitIdle i] s
  else []

/-- The SSN passes S in ABORTING: the old map is kept. -/
def abortEnd (i : Nat) : Prog := fun s =>
  let r := s.suit i
  if r.on ∧ r.rstate = 3 ∧ r.reached ∧ r.ssn ≠ r.switchAt then seqs [raise sub' 3, suitIdle i] s else []

/-- The SSN reaches the drop's S: the drop map is in use. -/
def dropDone (i : Nat) : Prog := fun s =>
  let r := s.suit i
  if r.on ∧ r.rstate = 4 ∧ r.reached then
    seqs [suitUpd i fun r => { r with active := r.next, mapVer := r.nextVer, result := 6, resizes := satAdd 32 r.resizes 1 },
      raise sub' 5, suitIdle i] s
  else []

/-- What changed conditions mean for the enabled suits: a newly failed member raises MEMBER_FAIL; one of an announced
map aborts the resize (R225, R228). -/
def suitsEval : Prog := withP fun s =>
  seqs [forP s.suitIds fun i => fun t =>
      let r := t.suit i
      let f := mapWhere (t.provisioned i) fun k => t.rxFailed i k || t.txFailed i k
      if f = r.failed then []
      else seqs [suitUpd i fun r => { r with failed := f, skews := r.skews.filter fun q => !bitOf f q.1 },
        if f &&& (0xFFFF ^^^ r.failed) = 0 then skip else raise sub' 4,
        if r.rstate = 1 ∧ f &&& r.next ≠ 0 then suitUpd i fun r => { r with rstate := 3, result := 5 } else skip] t,
    forP s.pairIds pairEval]

/-! ### The suit channel (R219, R220, R226) -/

/-- A field of a slot: bits hi down to lo. -/
def slotBits (w : BitVec 64) (lo n : Nat) : Nat := w.toNat / 2 ^ lo % 2 ^ n

/-- Why a receiver refuses an announced map; 0 where it accepts (R226). -/
def State.notReady (s : State) (i k : Nat) (r : SuitRecord) : Nat :=
  let m := s.member i k
  let q := s.suit i
  let x := mStrm m
  let skewBad := match q.skews.find? fun p => p.1 == k with
    | some p => s.skewBad i p.2
    | none => false
  if !mEn m ∨ mFirst m ≠ slotBits r.c 56 8 ∨ mCount m ≠ slotBits r.c 48 8 then 1
  else if s.mLocal m ∧ !(s.frSt x == fIF && (s.fr x.b).mfLock) then 2
  else if skewBad then 3
  else if (s.suitTsh i || (s.pairOf i).isSome) && decide (s.tsLimit < s.tsUsed - s.tsOf i q.active + s.tsOf i q.rxNext) then 4
  else 0

/-- A message of a suit record has been received: it drives the resize and failure protocol (R220, R225, R226, R229). -/
def suitMessage (r : SuitRecord) : Prog := fun s =>
  let i := slotBits r.a 55 8
  let msg := slotBits r.a 52 3
  let ver := slotBits r.a 44 4
  let k := slotBits r.a 40 4
  let at' := slotBits r.b 32 32
  let q := s.suit i
  if slotBits r.a 63 1 = 0 ∨ !q.on then []
  else if msg = 1 then
    let fresh := q.rxNextVer ≠ ver ∨ q.rxAt ≠ at'
    let base := if fresh then 0 else q.rxNext
    let next := if slotBits r.c 46 1 = 1 then setBit base k true else base
    seqs [suitUpd i fun q => { q with
        rxNext := next, rxNextVer := ver, rxAt := at', rxCommit := false, answer := if fresh then 2 else q.answer,
        reason := if fresh then 0 else q.reason },
      fun t => if slotBits r.c 46 1 = 0 then [] else
        let why := t.notReady i k r
        if why = 0 then [] else suitUpd i (fun q => { q with answer := 3, reason := why }) t] s
  else if msg = 2 then
    (if q.rstate = 1 ∧ 8 ≤ q.toGo ∧ !q.reached then suitUpd i (fun q => { q with rstate := 2 }) s else [])
  else if msg = 3 then
    (if q.rstate = 1 then suitUpd i (fun q => { q with rstate := 3, result := 4 }) s else [])
  else if msg = 4 then
    suitUpd i (fun q =>
      if q.rxVer = ver ∧ q.rxNextVer = ver ∧ q.rxAt = at' then q
      else if q.rxNextVer = ver ∧ q.rxAt = at' then
        { q with rxCommit := true, rxNext := setBit q.rxNext k (slotBits r.c 46 1 == 1) }
      else { q with
        rxNext := setBit q.rxMap k (slotBits r.c 46 1 == 1), rxNextVer := ver, rxAt := at', rxCommit := true }) s
  else if msg = 5 then suitUpd i (fun q => { q with rxCommit := false, answer := 0, reason := 0 }) s
  else if msg = 6 then
    seqs [suitUpd i fun q => { q with farFail := slotBits r.b 16 16 }, dropTry i] s
  else if msg = 0 then suitUpd i (fun q => { q with farFail := 0 }) s
  else []

/-- The suit record that a member carries now (R219, R220): a transmitter with a message of its own and an answer sends
them in turn. -/
def State.suitRecordOut (s : State) (i k mf : Nat) : SuitRecord :=
  let r := s.suit i
  let m := s.member i k
  let own := if r.rstate = 1 then 1 else if r.rstate = 2 ∨ r.rstate = 4 then 4 else if r.rstate = 3 then 5 else 0
  let ans := if r.answer ≠ 0 then r.answer else if s.failMap i ≠ 0 then 6 else 0
  let msg := if own = 0 then ans else if ans = 0 then own else if mf % 2 = 0 then own else ans
  let next := if own = 0 then r.active else r.next
  { a := BitVec.ofNat 64 (2 ^ 63 + i * 2 ^ 55 + msg * 2 ^ 52 + r.mapVer * 2 ^ 48 + r.nextVer * 2 ^ 44 + k * 2 ^ 40
      + (if msg = 3 then r.reason else 0) * 2 ^ 32 + r.ssn),
    b := BitVec.ofNat 64 (r.switchAt * 2 ^ 32 + s.failMap i * 2 ^ 16),
    c := BitVec.ofNat 64 (mFirst m * 2 ^ 56 + mCount m * 2 ^ 48 + b2n (bitOf r.active k) * 2 ^ 47 + b2n (bitOf next k) * 2 ^ 46) }

/-- The suits and members to which a carrier gives ranges now, in order: record j of its suit channel. -/
def State.suitChannel (s : State) (c : Nat) : List (Nat × Nat) :=
  s.suitIds.flatMap fun i => ((List.range 16).filter fun k =>
    let m := s.member i k
    mEn m && s.mLocal m && !mSub m && mCarrier m == c
      && (bitOf (s.suit i).active k || ((s.suit i).rstate != 0 && bitOf (s.suit i).next k))).map fun k => (i, k)

/-- The records that a carrier, or its subcarrier, sends for transit members: those that the suit's module forwarded
(R453). -/
def State.transitRecs (s : State) (c : Nat) (sub : Option Nat) : List SuitRecord :=
  (List.range 4).flatMap fun p => (s.transitOn p).filterMap fun e =>
    let w := s.transit p e 0
    if bitsGet w 2 2 = c ∧ (if w.getLsbD 1 then some (bitsGet w 8 6) else none) = sub then
      ((s.vlg p).sendRecs.find? fun q => q.1 == e).map (·.2)
    else none

/-- A slot of the suit channel as sent: slots 128–255 (R219). -/
def State.suitSlot (s : State) (c fn mf : Nat) : Nat :=
  match ((s.suitChannel c).map (fun q => s.suitRecordOut q.1 q.2 mf) ++ s.transitRecs c none)[(fn - 128) / 4]? with
  | none => 0
  | some r =>
    match fn % 4 with
    | 0 => r.a.toNat
    | 1 => r.b.toNat
    | 2 => r.c.toNat
    | _ => 0

/-- A suit record as a SUIT_A and a SUIT_B codeword of the hub channel (R249, R250). -/
def suitWords (r : SuitRecord) : List (BitVec 115) :=
  [BitVec.ofNat 115 (8 * 2 ^ 111 + r.a.toNat * 2 ^ 47 + r.c.toNat / 2 ^ 45 * 2 ^ 28),
   BitVec.ofNat 115 (9 * 2 ^ 111 + slotBits r.a 55 8 * 2 ^ 103 + r.b.toNat / 2 ^ 16 * 2 ^ 55)]

/-- The suit records of a carrier's dedicated subcarriers, one pair of codewords a suit and multiframe (R250). -/
def suitSubSend (c mf : Nat) : Prog := withP fun s =>
  let own := s.suitIds.flatMap fun i => (List.range 16).filterMap fun k =>
    let m := s.member i k
    if mEn m && s.mLocal m && mSub m && mCarrier m == c then some (mSc m, s.suitRecordOut i k mf) else none
  let via := (List.range 64).flatMap fun sc => (s.transitRecs c (some sc)).map fun r => (sc, r)
  forP (own ++ via) fun q => forP (suitWords q.2) fun w => emit (.hubMsg c q.1 w)

/-- The suit records of a suit's remote members, forwarded to their modules (R453, R454). -/
def suitForward (i mf : Nat) : Prog := withP fun s =>
  forP (List.range 16) fun k =>
    let m := s.member i k
    let r := s.suitRecordOut i k mf
    match s.peerPort (mModule m) with
    | some p => if mEn m && !s.mLocal m then emit (.ctl p 16 [r.a.toNat, r.b.toNat, r.c.toNat]) else skip
    | none => skip

/-- A multiframe of a carrier starts: the suits whose lowest local active member lies on it go on to the next SSN
(R218), and their remote members' records are forwarded. -/
def suitMultiframe (c : Nat) : Prog := withP fun s =>
  let mf := (s.tl c).mf.toNat
  seqs [forP (s.suitIds.filter fun i =>
      ((mapMembers (s.suit i).active).filter fun k => s.mLocal (s.member i k)).head?.any fun k => mCarrier (s.member i k) == c)
    fun i => seqs [suitUpd i fun r => { r with ssn := (r.ssn + 1) % 2 ^ 32 }, suitForward i mf],
    suitSubSend c mf]

/-! ### Read-out (R216, R222, R223, R232) -/

/-- The header's CRC checks (R216). -/
def hdrOk (h : Nat) : Bool := crc16 (bitsOf 112 (h / 2 ^ 16)) == h % 2 ^ 16

/-- A suit frame is errored (R222). -/
def State.frameBad (s : State) (i : Nat) (f : FrameCopy) : Bool :=
  f.line || !f.inTime || !hdrOk f.hdr || decide (s.failMap i &&& (s.suit i).rxMap ≠ 0)

/-- What a frame's header means for its suit: headers of the millisecond, and the adoption of another map after three
frames that check under it (R223, R230). -/
def hdrCount (i : Nat) (f : FrameCopy) : Prog := fun s =>
  let r := s.suit i
  let ok := hdrOk f.hdr
  let alt := !ok && (hdrOk f.hdrNext || hdrOk f.hdrPrev)
  let run := if alt then r.hdrRun + 1 else 0
  let roll := decide (r.hdrTick + 1000000 ≤ s.ticks)
  seqs [suitUpd i fun r =>
      let r := if roll then { r with hdrLoa := decide (r.hdrN < 2 * r.hdrBad), hdrN := 0, hdrBad := 0, hdrTick := s.ticks } else r
      { r with hdrN := r.hdrN + 1, hdrBad := r.hdrBad + b2n !ok, hdrErr := satAdd 32 r.hdrErr (b2n !ok), hdrRun := run },
    if run < 3 then skip else
      seqs [suitUpd i fun r =>
          let r := { r with hdrRun := 0, hdrErr := satAdd 32 r.hdrErr 1, rxPrev := r.rxMap, rxPrevVer := r.rxVer }
          if hdrOk f.hdrNext then { r with rxMap := r.rxNext, rxVer := r.rxNextVer, rxCommit := false }
          else { r with rxMap := (s.suit i).rxPrev, rxVer := (s.suit i).rxPrevVer },
        raise sub' 6]] s

/-- Error fill on the egress of the port that a suit's client names, or its end (R310, R327, R331). -/
def suitFill (i : Nat) (fill : Bool) : Prog := fun s =>
  let w := s.suitW i 0
  if bitsGet w 4 2 = 0 ∧ bitsGet w 8 8 < 48 then
    fbset (pageBase .eth (bitsGet w 8 8)) ETH.PORT_STAT_EGR_FILL fill s
  else []

/-- Delivers a suit frame; an errored one with its data bytes treated as 0, counted (R222). -/
def deliver (i : Nat) (f : FrameCopy) (bad : Bool) : Prog :=
  seqs [emit (.suitFrame i (f.hdr / 2 ^ 96) (f.hdr / 2 ^ 90 % 64) (if bad then 0 else f.hdr / 2 ^ 46 % 2 ^ 18) bad),
    if bad then suitUpd i fun r => { r with errf := satAdd 32 r.errf 1 } else skip,
    fun s => if (List.range 4).any fun c => (s.tab (tabKey (pageBase .cip c) 0 i 0)).getLsbD 0 then [] else suitFill i bad s]

/-- The read-out of a frame of a suit, or of the copies of the suits of a pair (R222, R232, R233). A pair that is not
aligned delivers from its preferred path, or the other when that is failed. -/
def frameReadout (i : Nat) (fa fb : FrameCopy) : Prog := fun s =>
  if !(s.suit i).on then [] else
  match s.pairIds.find? fun p => s.pairA p == i with
  | none => if s.suitProtect i then [] else seqs [hdrCount i fa, fun t => deliver i fa (t.frameBad i fa) t] s
  | some p =>
    let j := s.pairB p
    let badA := s.frameBad i fa
    let badB := s.frameBad j fb
    let pref := (s.pairW p 0).getLsbD 1
    let prefBad := if (s.pair p).aligned then (if pref then badB else badA)
      else if pref then s.failMap j != 0 else s.failMap i != 0
    let selB := if pref then !prefBad else prefBad
    let bothBad := badA && badB
    let selB := if bothBad then pref else selB
    let bad := if selB then badB else badA
    seqs [hdrCount i fa, hdrCount j fb,
      pairUpd p fun r => { r with
        sel := selB, alt := satAdd 32 r.alt (b2n (!bothBad && selB != pref)), both := satAdd 32 r.both (b2n bothBad) },
      deliver i (if selB then fb else fa) bad] s

/-! ### dSUIT_LOA (R230) -/

/-- The raw condition of a suit. -/
def State.loaRaw (s : State) (i : Nat) : Bool :=
  let r := s.suit i
  let good := mapWhere r.active fun k => !bitOf (s.failMap i) k && !bitOf (s.txLost i) k
  r.on && r.rstate != 4 && (decide (s.tsOf i good < s.reqTs i) || (s.suitSkew i).any (s.skewBad i) || r.hdrLoa)

/-- A sample of dSUIT_LOA of every enabled suit (R202, R230). -/
def suitSample : Prog := withP fun s =>
  let step (i : Nat) : Bool × Nat := integrate (s.suit i).loa (s.loaRaw i) (s.suit i).run (s.reg (sub' + SUIT.DEF_TIME)).toNat
  let l := if s.pageOn ⟨.suit, 0⟩ then s.suitIds else []
  seqs [forP l fun i => suitUpd i fun r => { r with loa := (step i).1, run := (step i).2 },
    if l.any fun i => (step i).1 && !(s.suit i).loa then raise sub' 0 else skip,
    if l.any fun i => !(step i).1 && (s.suit i).loa then raise sub' 1 else skip]

/-! ### Table writes (R215, R217, R237, R239, R241) -/

/-- Two member entries give ranges of one member. -/
def sameMember (a b : Word) : Bool :=
  mModule a == mModule b && mCarrier a == mCarrier b && mSub a == mSub b && (!mSub a || mSc a == mSc b)

/-- Two ranges overlap. -/
def rangesMeet (f1 n1 f2 n2 : Nat) : Bool := decide (f1 < f2 + n2 ∧ f2 < f1 + n1)

/-- An entry would overlap an enabled range of any suit, or of a transit entry, on its member (R215, R453). -/
def State.tsOverlap (s : State) (e : Nat) (v : Word) : Bool :=
  mEn v && ((List.range 4096).any fun o =>
    let m := s.tab (tabKey sub' 1 o 0)
    o != e && mEn m && sameMember m v && rangesMeet (mFirst m) (mCount m) (mFirst v) (mCount v))
  || mEn v && s.mLocal v && (List.range 4).any fun p => (s.transitOn p).any fun o =>
    let w := s.transit p o 0
    bitsGet w 2 2 == mCarrier v && w.getLsbD 1 == mSub v && (!mSub v || bitsGet w 8 6 == mSc v)
      && rangesMeet (bitsGet (s.transit p o 1) 0 8) (bitsGet (s.transit p o 1) 8 8) (mFirst v) (mCount v)

/-- A member's TS capacity (R213); a bonded group's is its format's times its size. -/
def State.memberTs (s : State) (v : Word) : Nat :=
  if mSub v then
    (match s.fg (sb (mCarrier v) (mSc v)) SCB.RX_SC_FORMAT with | 0 => 1 | 1 => 2 | 2 => 3 | _ => Config.openNat 1100)
      * (if s.rxMode (mCarrier v) = mH16 then 1 else s.scWidth (mCarrier v) (mSc v))
  else modeTs (s.modeNow (mCarrier v))

/-- A member entry that the spec leaves open (R241). -/
def State.memberBad (s : State) (v : Word) : Bool :=
  mEn v && (mCount v == 0 || decide (192 < mCount v) || (s.mLocal v && (!s.present ⟨.fec, mCarrier v⟩
    || (mSub v && s.fg (sb (mCarrier v) (mSc v)) SCB.SC_STAT_ROLE_NOW != 1)
    || decide (s.memberTs v < mFirst v + mCount v)))
    || (!s.mLocal v && !bitOf (s.fg vb0 VLG.STACK_STAT_MEMBERS) (mModule v)))

/-- A write of a member entry (R215, R237). -/
def memberWrite (src e : Nat) (v : Word) : Prog := fun s =>
  let m : Word := 0xFFFF3FCF
  let act := (s.suit (e / 16)).on && bitOf (s.suit (e / 16)).active (e % 16)
  if act then errPage sub' (oWIN_DATA 0) src cMEMBER_ACTIVE s
  else if s.tsOverlap e v then errPage sub' (oWIN_DATA 0) src cTS_OVERLAP s
  else if s.memberBad v then withFree (fun w => fun _ => [.tabs (tabKey sub' 1 e 0) (w &&& m)]) s
  else [.tabs (tabKey sub' 1 e 0) (v &&& m)]

/-- Enabling a suit on a source in use, other than the second suit of a pair (R217). -/
def State.sourceBusy (s : State) (i : Nat) (v : Word) : Bool :=
  let same := s.suitIds.filter fun j => j != i && bitsGet (s.suitW j 0) 4 12 == bitsGet v 4 12
  !same.isEmpty && !(same.length == 1 && v.getLsbD 3 && same.all s.suitProtect)

/-- A suit is enabled with the word written: its enabled members become active, its SSN starts at 0 (R218, R237). -/
def suitStart (i : Nat) (v : Word) : Prog := fun s =>
  let map := s.provisioned i
  [.tabs (tabKey sub' 0 i 0) v, .suits i { on := true, active := map, rxMap := map, hdrTick := s.ticks }]

/-- Setting EN of a suit entry: SOURCE_BUSY, VLG_FULL of a port that would carry too much, or the checks of its delay line
in TSH (R217, R234, R453). -/
def suitEnable (src i : Nat) (v : Word) : Prog := fun s =>
  let n := s.tsOf i (s.provisioned i)
  if s.sourceBusy i v then errPage sub' (oWIN_DATA 0) src cSOURCE_BUSY s
  else if let some p := (List.range 4).find? (fun p => decide (64 < s.vlgTs p (i :: s.suitIds)))
  then errPage (pageBase .vlg p) (oWIN_DATA 0) src cVLG_FULL s
  else if v.getLsbD 2 then
    match s.tshCheck n (s.maxSkew i) (bitsGet (s.tab (tabKey tsb 1 i 0)) 16 16) with
    | some code => errPage tsb (oWIN_DATA 0) src code s
    | none => suitStart i v s
  else suitStart i v s

/-- A suit entry's word 0 that the spec leaves open: a reserved SOURCE or REQ_TS out of range (R241). -/
def suitBad (v : Word) : Bool := decide (2 ≤ bitsGet v 4 2 ∨ bitsGet v 16 9 = 0 ∨ 256 < bitsGet v 16 9)

/-- A write of a word of a suit entry (R237). -/
def suitWrite (src i w : Nat) (v : Word) : Prog := fun s =>
  let m0 : Word := 0x01FFFF3D
  if 2 ≤ w then errPage sub' (oWIN_DATA w) src cRO_WRITE s
  else if s.suitEn i then
    (if w = 0 ∧ !v.getLsbD 0 then [.tabs (tabKey sub' 0 i 0) (bitsPut (s.suitW i 0) 0 1 0), .suits i {}]
     else errPage sub' (oWIN_DATA w) src cSUIT_ACTIVE s)
  else if w = 1 then
    (if 1 ≤ bitsGet v 0 15 ∧ bitsGet v 0 15 ≤ 25000 then [.tabs (tabKey sub' 0 i 1) (v &&& 0x7FFF)]
     else withFree (fun f => fun _ => [.tabs (tabKey sub' 0 i 1) (f &&& 0x7FFF)]) s)
  else
    let put (x : Word) : Prog := if x.getLsbD 0 then suitEnable src i x else fun _ => [.tabs (tabKey sub' 0 i 0) x]
    if v.getLsbD 0 ∧ suitBad v then withFree (fun f => put (((f &&& m0) ||| 1))) s else put (v &&& m0) s

/-- A write of a SUIT table word. -/
def suitTab (src t e w : Nat) (v : Word) : Prog := fun s =>
  if t = 0 then suitWrite src e w v s
  else if t = 1 then memberWrite src e v s
  else [.tabs (tabKey sub' 2 e w) (v &&& if w = 0 then 0xFFFF00FF else 0x1FF)]

/-- A SUIT table word as it reads. -/
def suitTabView (s : State) (t e w : Nat) : Word :=
  let r := s.suit e
  let good := mapWhere r.active fun k => !bitOf r.failed k
  if t = 0 ∧ w = 2 then BitVec.ofNat 32 (r.failed * 2 ^ 16 + r.active)
  else if t = 0 ∧ w = 3 then BitVec.ofNat 32 (s.tsOf e good * 2 ^ 16 + s.tsOf e r.active)
  else if t = 2 ∧ w = 1 then s.planW e 1 ||| BitVec.ofNat 32 (b2n (s.planValid e) * 2 ^ 31)
  else s.tab (tabKey sub' t e w)

/-- A pair that the spec leaves open: one suit twice, or a suit without PROTECT (R241). -/
def State.pairBad (s : State) (v : Word) : Bool :=
  let a := bitsGet v 8 8
  let b := bitsGet v 16 8
  a == b || !s.suitProtect a || !s.suitProtect b

/-- Setting EN of a pair (R234). -/
def pairEnable (src p : Nat) (v : Word) : Prog := fun s =>
  let a := bitsGet v 8 8
  match s.tshCheck (s.tsOf a (s.suit a).active) (bitsGet (s.pairW p 1) 0 15) (bitsGet (s.pairW p 2) 16 16) with
  | some code => errPage tsb (oWIN_DATA 0) src code s
  | none => [.tabs (tabKey tsb 0 p 0) v, .pairs p { on := true }]

/-- A write of a TSH table word (R239). -/
def tshTab (src t e w : Nat) (v : Word) : Prog := fun s =>
  let on := (s.pairW e 0).getLsbD 0
  if t = 1 then
    (if s.suitEn e && s.suitTsh e then errPage tsb (oWIN_DATA w) src cPAIR_ACTIVE s else [.tabs (tabKey tsb 1 e 0) v])
  else if on then
    (if w = 0 ∧ !v.getLsbD 0 then [.tabs (tabKey tsb 0 e 0) (bitsPut (s.pairW e 0) 0 1 0), .pairs e {}]
     else errPage tsb (oWIN_DATA w) src cPAIR_ACTIVE s)
  else if w = 0 then
    let x := v &&& 0x00FFFF03
    (if !x.getLsbD 0 then fun _ => [.tabs (tabKey tsb 0 e 0) x]
     else if s.pairBad x then perhaps (pairEnable src e x) else pairEnable src e x) s
  else if w = 1 then
    (if 1 ≤ bitsGet v 0 15 ∧ bitsGet v 0 15 ≤ 25000 then [.tabs (tabKey tsb 0 e 1) (v &&& 0x7FFF)]
     else withFree (fun f => fun _ => [.tabs (tabKey tsb 0 e 1) (f &&& 0x7FFF)]) s)
  else [.tabs (tabKey tsb 0 e 2) v]

/-! ### Registers -/

def defTimeLims (off : Nat) : List Lim := [⟨⟨off, 30, 2⟩, 0, 2⟩, ⟨⟨off, 14, 2⟩, 0, 2⟩]

/-- Writes of SUIT and TSH registers. -/
def suitRegWrite (r : RegRow) (v : Word) : Prog :=
  plainWrite sub' r (⟨SUIT.SUIT_CFG_RESIZE_LEAD, 16, 4095⟩ :: defTimeLims SUIT.DEF_TIME) v
def tshRegWrite (r : RegRow) (v : Word) : Prog := plainWrite tsb r [⟨TSH.TSH_CFG_GUARD, 1, 255⟩] v

/-- The computed registers of SUIT. -/
def suitView (s : State) (off : Nat) : Option Word :=
  let i := s.fg sub' SUIT.SUIT_SEL_ID
  let r := s.suit i
  let n := s.tsOf i r.active
  let good := s.tsOf i (mapWhere r.active fun k => !bitOf r.failed k)
  let degraded := r.on && (s.provisioned i != r.active || r.failed != 0) && decide (s.reqTs i ≤ good)
  if off = SUIT.SUIT_STAT then some (BitVec.ofNat 32 (r.mapVer * 2 ^ 28 + r.nextVer * 2 ^ 24 + r.rstate * 2 ^ 20
    + r.result * 2 ^ 16 + b2n r.plan.isSome * 2 ^ 15 + b2n (r.on && s.suitTsh i) * 2 ^ 14 + b2n degraded * 2 ^ 13
    + b2n r.loa * 2 ^ 12 + b2n (s.loaRaw i) * 2 ^ 11 + n % 512))
  else if off = SUIT.SKEW then some (match s.suitSkew i with
    | some ns => BitVec.ofNat 32 (2 ^ 31 + min (2 ^ 24 - 1) (ns / 10))
    | none => 0)
  else if off = SUIT.ERRF_CNT then some (BitVec.ofNat 32 r.errf)
  else if off = SUIT.HDR_ERR_CNT then some (BitVec.ofNat 32 r.hdrErr)
  else if off = SUIT.RESIZE_CNT then some (BitVec.ofNat 32 r.resizes)
  else (List.range 8).findSome? fun g => if off = SUIT.LOA_SUM g then
      some (BitVec.ofNat 32 ((List.range 32).foldl (fun n k => n + b2n (s.suit (32 * g + k)).loa * 2 ^ k) 0)) else none

/-- The computed registers of TSH. -/
def tshView (s : State) (off : Nat) : Option Word :=
  let p := s.fg tsb TSH.PAIR_SEL_PAIR
  let r := s.pair p
  if off = TSH.TSH_STAT then some (BitVec.ofNat 32 (s.tsLimit * 2 ^ 16 + s.tsUsed % 512))
  else if off = TSH.PAIR_STAT then some (BitVec.ofNat 32 (b2n r.depthExc * 64 + b2n r.fail * 32 + b2n r.late * 16 + b2n r.sel * 8
    + b2n (r.on && !r.bBad) * 4 + b2n (r.on && !r.aBad) * 2 + b2n r.aligned))
  else if off = TSH.PAIR_DIFF then some (BitVec.ofNat 32 (b2n r.valid * 2 ^ 31 + min (2 ^ 24 - 1) r.diff))
  else if off = TSH.PAIR_ALT_CNT then some (BitVec.ofNat 32 r.alt)
  else if off = TSH.PAIR_BOTH_CNT then some (BitVec.ofNat 32 r.both)
  else none

end Sys2Proof.Machine
end

