-- ==== Sys2Proof/Machine/Hub.lean ====
section
/-!
DEFINITION. Machine/Hub.lean: point to multipoint: groups, rounds, the hub channel, grants, discovery and ranging, the
hub's leaf entries and the leaf state machine, on the HUB page and the scheduling registers of SCBc.s (R242–R267).
-/

namespace Sys2Proof.Machine

/-- The base of HUB. -/
def hb : Nat := pageBase .hub 0

def cRUN_LIVE : Nat := 0x80
def cLEAF_BUSY : Nat := 0x81
def cMAP_ACTIVE : Nat := 0x82
def cMAP_PENDING : Nat := 0x83
def cLEAF_FREE : Nat := 0x84
def cDMAP_OVERLAP : Nat := 0x85
def cSC_ALIGN : Nat := 0x90

def hubUpd (c : Nat) (f : HubRec → HubRec) : Prog := fun s => [.hubs c (f (s.hub c))]
def leafUpd (i : Nat) (f : LeafRec → LeafRec) : Prog := fun s => [.leaves i (f (s.leafRec i))]

/-- Reasons for refusing a grant (R252). -/
def gOVERLAP : Nat := 1
def gRANGE : Nat := 2
def gNOT_SHARED : Nat := 3
def gLEAF_STATE : Nat := 4
def gDISC : Nat := 5
def gFULL : Nat := 6
def gLATE : Nat := 7
def gCHAN_FULL : Nat := 8
def gSHORT : Nat := 9
def gFORMAT : Nat := 10

/-! ### Messages of the hub channel (R249) -/

/-- The bits of a message: type and fields, each most significant bit first, filled with 0 to 115. -/
def msgBits (type : Nat) (fields : List (Nat × Nat)) : List Bool :=
  let l := bitsOf 4 type ++ fields.flatMap fun f => bitsOf f.1 f.2
  l ++ List.replicate (115 - l.length) false

/-- The grant field. -/
def Grant.bits (g : Grant) : List (Nat × Nat) :=
  [(11, g.leaf), (6, g.sc), (2, g.bond), (2, g.format), (14, g.start), (14, g.len), (1, b2n g.rng), (1, b2n g.rpt)]

/-- An empty grant field and an empty downstream entry. -/
def emptyGrant : List (Nat × Nat) := [(11, 0x7FF), (40, 0)]
def emptyDmap : List (Nat × Nat) := [(11, 0x7FF), (33, 0)]
def Dmap.bits (d : Dmap) : List (Nat × Nat) := [(11, d.leaf), (16, d.first), (17, d.count)]

/-- The 115 content bits of a message. -/
def HubMsg.bits : HubMsg → List Bool
  | .round rnd rlen teq => msgBits 1 [(32, rnd), (3, rlen), (24, teq)]
  | .grant rnd gs => msgBits 2 ([(8, rnd % 256)] ++ ((gs[0]?).map Grant.bits).getD emptyGrant
      ++ ((gs[1]?).map Grant.bits).getD emptyGrant)
  | .dmap rnd ds => msgBits 3 ([(8, rnd % 256)] ++ ((ds[0]?).map Dmap.bits).getD emptyDmap
      ++ ((ds[1]?).map Dmap.bits).getD emptyDmap)
  | .discover rnd n rtt rand sc => msgBits 4 [(8, rnd % 256), (6, n), (24, rtt), (10, rand), (6, sc)]
  | .assign serial leaf home eqd => msgBits 5 [(48, serial), (11, leaf), (6, home), (24, eqd)]
  | .range leaf eqd final => msgBits 6 [(11, leaf), (24, eqd), (1, b2n final)]
  | .dereg leaf reason => msgBits 7 [(11, leaf), (4, reason)]
  | .report leaf backlog => msgBits 10 [(11, leaf), (24, backlog)]
  | .hello serial r bond fmt => msgBits 11 [(48, serial), (10, r), (2, bond), (2, fmt)]

/-- Bits of a message's content from one position, as a number. -/
def at115 (m : BitVec 115) (lo w : Nat) : Nat := m.toNat / 2 ^ (115 - lo - w) % 2 ^ w

/-- The content as a number, bit 0 the most significant. -/
def HubMsg.word (m : HubMsg) : BitVec 115 := BitVec.ofNat 115 (bitsNum m.bits)

/-- The grant in a grant field that starts at a bit, unless it is empty. -/
def grantAt (m : BitVec 115) (lo : Nat) : Option Grant :=
  if at115 m lo 11 = 0x7FF then none
  else some ⟨0, at115 m lo 11, at115 m (lo + 11) 6, at115 m (lo + 17) 2, at115 m (lo + 19) 2, at115 m (lo + 21) 14,
    at115 m (lo + 35) 14, at115 m (lo + 49) 1 == 1, at115 m (lo + 50) 1 == 1⟩

/-- The order in which messages are sent (R250). -/
def HubMsg.rank : HubMsg → Nat
  | .round .. => 0
  | .dereg .. => 1
  | .assign .. => 2
  | .range .. => 3
  | .discover .. => 4
  | .grant .. => 5
  | .dmap .. => 6
  | _ => 7

/-- A list in the order of R250; messages of one type keep their order. -/
def inOrder (l : List HubMsg) : List HubMsg := (List.range 8).flatMap fun k => l.filter fun m => m.rank == k

/-! ### Groups in effect (R242, R260) -/

/-- The subcarriers of a carrier's grid. -/
def State.scCount (s : State) (c : Nat) : Nat := if s.modeNow c = mH16 then 16 else 64

/-- The groups that the SC_CFG values of a carrier's pages describe: the lowest page of each governs it; in
H16 each has size 1. -/
def State.cfgGroups (s : State) (c : Nat) : List ScGroup :=
  ((List.range (s.scCount c)).foldl (fun (acc : Nat × List ScGroup) sc =>
    if sc < acc.1 then acc
    else
      let size := if s.modeNow c = mH16 then 1 else 2 ^ s.fg (sb c sc) SCB.SC_CFG_GROUP
      (sc + size, acc.2 ++ [⟨sc, size, s.fg (sb c sc) SCB.SC_CFG_ROLE⟩])) (0, [])).2.filter fun g => g.role != 0

/-- The group in effect that holds a subcarrier. -/
def HubRec.groupOf (h : HubRec) (sc : Nat) : Option ScGroup :=
  h.groups.find? fun g => decide (g.low ≤ sc ∧ sc < g.low + g.size)

/-- A group that receives bursts: SHARED, or removed and draining (R260). -/
def HubRec.burstGroup (h : HubRec) (sc : Nat) : Option ScGroup :=
  ((h.groups.filter fun g => g.role == 2) ++ h.drains.map (·.1)).find? fun g => decide (g.low ≤ sc ∧ sc < g.low + g.size)

/-- The carrier is a hub. -/
def State.isHub (s : State) (c : Nat) : Bool := s.modeNow c == mH64 || s.modeNow c == mH16

/-- The role of a subcarrier's group in a list of groups. -/
def roleIn (l : List ScGroup) (sc : Nat) : Nat × Nat :=
  match l.find? fun g => decide (g.low ≤ sc ∧ sc < g.low + g.size) with
  | some g => (g.role, g.size)
  | none => (0, 0)

/-- SC_CFG takes effect at a round boundary, or at once while RUN is 0: roles in effect, SC_CHANGED, and the draining of
shared groups that are gone (R260). `rnd` is the round that begins. -/
def groupsTake (c : Nat) (rnd : Option Nat) : Prog := fun s =>
  let h := s.hub c
  let new := s.cfgGroups c
  if new = h.groups then [] else
  let gone := h.groups.filter fun g => g.role == 2 && !new.contains g
  let diff := (List.range 64).filter fun sc => roleIn h.groups sc != roleIn new sc
  seqs [hubUpd c fun h => { h with
      groups := new,
      drains := h.drains ++ (match rnd with | some k => gone.map fun g => (g, k) | none => []),
      store := if rnd.isSome then h.store else h.store.filter fun g => !gone.any fun q => q.low == g.home },
    forP diff fun sc => seqs [fset (sb c sc) SCB.SC_STAT_ROLE_NOW (roleIn new sc).1, raise (sb c sc) 0],
    if rnd.isSome then forP gone fun g => fbset (sb c g.low) SCB.SC_STAT_DRAINING true else skip] s

/-- The draining of a group ends with its last round: store entries are released, DRAINED raised (R260). -/
def drained (c sc : Nat) : Prog := fun s =>
  let h := s.hub c
  match h.drains.find? fun d => d.1.low == sc with
  | none => []
  | some d =>
    match h.starts.find? fun q => q.1 == d.2 with
    | none => []
    | some q =>
      seqs [clockTo (q.2 + (s.fg hb (HUB.CAR_TEQ_TEQ c) + 3) / 4 + 2 ^ s.fg hb (HUB.CAR_CFG_RLEN c) * 16384), hubUpd c fun h => { h with
          drains := h.drains.filter fun e => e.1.low != sc,
          store := h.store.filter fun g => g.home != sc || decide (d.2 < g.g.rnd) },
        fbset (sb c sc) SCB.SC_STAT_DRAINING false, raise (sb c sc) 1] s

/-! ### Rounds (R247, R248) -/

/-- The hub or leaf function of a carrier runs: RUN, a mode with rounds, the page live (R263). -/
def State.hubRuns (s : State) (c : Nat) : Bool :=
  bitOf (s.fg hb HUB.HUB_CTL_RUN) c && modeHasRounds (s.modeNow c) && s.live ⟨.hub, 0⟩

/-- ROUND_LEN in multiframes. -/
def State.roundLen (s : State) (c : Nat) : Nat := 2 ^ s.fg hb (HUB.CAR_CFG_RLEN c)

/-- The multiframe of the present downstream round. -/
def State.roundPos (s : State) (c : Nat) : Nat := (s.tl c).mf.toNat % s.roundLen c

/-- The present downstream round, once one has begun. -/
def HubRec.rnd (h : HubRec) : Option Nat := (h.starts.head?).map (·.1)

/-- The start of upstream round k at the hub, in 0.25 ns of the module's clock (R248). -/
def State.upAt (s : State) (c k : Nat) : Option Nat :=
  ((s.hub c).starts.find? fun q => q.1 == k).map fun q => 4 * q.2 + s.fg hb (HUB.CAR_TEQ_TEQ c)

/-- The start of a stored grant at the hub, and the start of its group's window, in 0.25 ns. -/
def State.grantAt (s : State) (c : Nat) (g : Grant) : Option Nat := (s.upAt c g.rnd).map fun u => u + g.start * 256

/-! ### Leaf entries (R246, R258, R264) -/

/-- The states of a leaf entry. -/
def nFREE : Nat := 0
def nWAIT : Nat := 1
def nRANGING : Nat := 2
def nACTIVE : Nat := 3
def nLOST : Nat := 4

/-- Words of a leaf entry and of its grant map entry in the active bank, by module leaf index. -/
def leafKey (i w : Nat) : Nat := tabKey hb 0 i w
def State.leafW (s : State) (i w : Nat) : Word := s.tab (leafKey i w)
def State.mapBank (s : State) (c : Nat) : Nat := s.fg hb (HUB.MAP_STAT_ACTIVE c)
def State.mapW (s : State) (bank i w : Nat) : Word := s.tab (tabKey hb 1 (bank * 4096 + i) w)
def State.mapNow (s : State) (i w : Nat) : Word := s.mapW (s.mapBank (i / 1024)) i w

def State.leafSt (s : State) (i : Nat) : Nat := bitsGet (s.leafW i 0) 0 3
def State.leafHome (s : State) (i : Nat) : Nat := bitsGet (s.leafW i 0) 8 6
def State.leafSerial (s : State) (i : Nat) : Nat := (s.leafW i 1).toNat + bitsGet (s.leafW i 2) 0 16 * 2 ^ 32
def State.leafEqd (s : State) (i : Nat) : Nat := bitsGet (s.leafW i 3) 0 24
def mapEn (m : Word) : Bool := m.getLsbD 0
def mapGroup (m : Word) : Nat := bitsGet m 1 6
def mapBond (m : Word) : Nat := bitsGet m 7 2
def mapFormat (m : Word) : Nat := bitsGet m 9 2
def mapFixed (m : Word) : Bool := m.getLsbD 11
def mapGuar (m : Word) : Nat := bitsGet m 16 12

def leafField (i w lo n x : Nat) : Prog := fun s => [.tabs (leafKey i w) (bitsPut (s.leafW i w) lo n x)]

/-- The clocks of dBURST_LOSS while ACTIVE, and of LOST. -/
def tLeafLoss (i : Nat) : Nat := 2 ^ 30 + i
def tLeafDrop (i : Nat) : Nat := 2 ^ 30 + 4096 + i

/-- A leaf's dBURST_LOSS, and its raw condition, in table LEAFQ (R286, R290). -/
def leafqKey (i w : Nat) : Nat := tabKey (sb (i / 1024) 0) 1 (i % 1024) w
def State.burstLoss (s : State) (i : Nat) : Bool := (s.tab (leafqKey i 0)).getLsbD 0

/-- An entry enters a state. -/
def leafTo (i st : Nat) : Prog := fun s =>
  seqs [leafField i 0 0 3 st,
    if st = nRANGING then skip else leafUpd i fun r => { r with good := 0, missed := 0 },
    if st = nACTIVE then (if s.burstLoss i then timerStart (tLeafLoss i) else timerStop (tLeafLoss i))
    else timerStop (tLeafLoss i),
    if st = nLOST then timerStart (tLeafDrop i) else timerStop (tLeafDrop i),
    if st = nFREE then seqs [leafField i 0 3 1 0, fun _ => [.leaves i {}]] else skip] s

/-- Queues a message for a number of rounds to come. -/
def msgDue (c : Nat) (m : HubMsg) (rounds : Nat) : Prog := hubUpd c fun h => { h with due := h.due ++ [(m, rounds)] }

/-- The round after the present one, and the one from which an EqD sent in it is in use: the leaf applies it from the
first round boundary after the message (R259). -/
def HubRec.nextRnd (h : HubRec) : Nat := match h.rnd with
  | some k => (k + 1) % 2 ^ 32
  | none => 0

/-- Sets an entry's EQD and notes the round from which it is in use. -/
def eqdSet (i eqd : Nat) : Prog := fun s =>
  let from' := ((s.hub (i / 1024)).nextRnd + 1) % 2 ^ 32
  seqs [leafField i 3 0 24 eqd,
    leafUpd i fun r => { r with eqds := ((from', eqd % 2 ^ 24) :: r.eqds).take 8, errors := [] }] s

/-- The EqD that a leaf used in an upstream round. -/
def State.eqdIn (s : State) (i rnd : Nat) : Nat :=
  match (s.leafRec i).eqds.find? fun q => decide (serialDist 32 rnd q.1 < 2 ^ 31) with
  | some q => q.2
  | none => s.leafEqd i

/-- Sends RANGE with a corrected EqD (R258). -/
def rangeSend (i : Nat) (eqd : Int) (final : Bool) : Prog :=
  seqs [eqdSet i (tc 24 eqd), msgDue (i / 1024) (.range (i % 1024) (tc 24 eqd) final) 1]

/-- An entry returns to WAIT with DEREG RERANGE (R258). -/
def leafRerange (i : Nat) : Prog :=
  seqs [leafTo i nWAIT, msgDue (i / 1024) (.dereg (i % 1024) 2) 1, raise hb 2]

/-- An arrival error in 0.25 ns is recorded for a leaf: the rows of R258 that a burst decides. -/
def leafError (i rnd : Nat) (rng : Bool) (err : Int) : Prog := fun s =>
  let c := i / 1024
  let tol : Int := s.fg hb (HUB.RANGE_CFG_RANGE_TOL c)
  let thr : Int := s.fg hb (HUB.RANGE_CFG_TRACK_THR c)
  let inUse : Int := s.eqdIn i rnd
  if s.leafSt i = nRANGING then
    (if !rng then skip
     else if -tol ≤ err ∧ err ≤ tol then
       (if (s.leafRec i).good = 0 then leafUpd i fun r => { r with good := 1, missed := 0 }
        else seqs [rangeSend i (s.leafEqd i) true, leafTo i nACTIVE, raise hb 0])
     else seqs [rangeSend i (inUse - err) false, leafUpd i fun r => { r with good := 0, missed := 0 }]) s
  else if s.leafSt i = nACTIVE then
    if inUse ≠ s.leafEqd i then [] else
    let l := (err :: (s.leafRec i).errors).take 16
    let mean := Int.tdiv (l.foldl (· + ·) 0) 16
    if l.length = 16 ∧ (l.foldl (· + ·) 0 < -16 * thr ∨ 16 * thr < l.foldl (· + ·) 0) then
      rangeSend i ((s.leafEqd i : Int) - mean) false s
    else leafUpd i (fun r => { r with errors := l }) s
  else if s.leafSt i = nLOST ∧ rng ∧ -thr ≤ err ∧ err ≤ thr then seqs [leafTo i nACTIVE, raise hb 0] s
  else []

/-- A RNG grant of a leaf has ended without a burst (R258). -/
def leafNoBurst (i : Nat) : Prog := fun s =>
  if s.leafSt i ≠ nRANGING then []
  else if 7 ≤ (s.leafRec i).missed then leafRerange i s
  else leafUpd i (fun r => { r with missed := r.missed + 1, good := 0 }) s

/-- dBURST_LOSS of an ACTIVE leaf has been set for LOST_TIME (R258). -/
def leafLost (i : Nat) : Prog := fun s =>
  if s.leafSt i = nACTIVE ∧ s.burstLoss i ∧ s.running (tLeafLoss i) then
    seqs [clockEnd (tLeafLoss i) (s.fg hb (HUB.RANGE_CFG_LOST_TIME (i / 1024)) * 1000000), leafTo i nLOST, raise hb 1] s
  else []

/-- DROP_TIME has passed in LOST (R258). -/
def leafDropTimeout (i : Nat) : Prog := fun s =>
  if s.leafSt i = nLOST ∧ s.running (tLeafDrop i) then
    seqs [clockEnd (tLeafDrop i) (s.fg hb (HUB.RANGE_CFG_DROP_TIME (i / 1024)) * 100000000), leafRerange i] s
  else []

/-- A write of LEAF_CMD (R258): REMOVE, or what a reserved command does is open (R267). -/
def leafCmd (src : Nat) (v : Word) : Prog := fun s =>
  let i := wrote v HUB.LEAF_CMD_LEAF
  let remove := seqs [leafTo i nFREE, msgDue (i / 1024) (.dereg (i % 1024) 1) 3]
  if s.leafSt i = nFREE then errPage hb HUB.LEAF_CMD src cLEAF_FREE s
  else if wrote v HUB.LEAF_CMD_CMD = 1 then remove s
  else perhaps remove s

/-- A write of a word of a leaf entry by a requester (R264). -/
def leafTab (src i w : Nat) (v : Word) : Prog := fun s =>
  if s.leafSt i ≠ nFREE then errPage hb (oWIN_DATA w) src cLEAF_BUSY s
  else if w = 3 then errPage hb (oWIN_DATA w) src cRO_WRITE s
  else if w = 0 then
    seqs [leafField i 0 3 1 (bitsGet v 3 1), if bitsGet v 3 1 = 1 then leafTo i nWAIT else skip] s
  else [.tabs (leafKey i w) (if w = 2 then v &&& 0xFFFF else v)]

/-! ### The grant map (R261) -/

/-- A write of the grant map; reserved codes and a WEIGHT of 0 leave the field open (R267). -/
def mapTab (src e w : Nat) (v : Word) : Prog := fun s =>
  let c := e % 4096 / 1024
  let key := tabKey hb 1 e w
  let bad := if w = 0 then bitsGet v 7 2 = 3 ∨ bitsGet v 9 2 = 3 else bitsGet v 14 4 = 0
  if e / 4096 = s.mapBank c ∧ bitOf (s.fg hb HUB.HUB_CTL_RUN) c then errPage hb (oWIN_DATA w) src cMAP_ACTIVE s
  else if e / 4096 ≠ s.mapBank c ∧ s.fb hb (HUB.MAP_STAT_PENDING c) then errPage hb (oWIN_DATA w) src cMAP_PENDING s
  else
    let v := if w = 0 then v &&& 0x0FFF0FFF else v
    if bad then withFree (fun x => fun _ => [.tabs key (if w = 0 then bitsPut v 7 4 (bitsGet x 7 4) else bitsPut v 14 4 (bitsGet x 14 4))]) s
    else [.tabs key v]

/-- GRANT_MAP_SWAP: the other bank becomes active at the next round boundary (R44, R261). -/
def mapSwap (c : Nat) : Prog := fbset hb (HUB.MAP_STAT_PENDING c) true

/-- The swap takes effect at a round boundary: ACTIVE leaves whose home group changes get ASSIGN for two rounds (R261,
R262). -/
def mapTake (c rnd : Nat) : Prog := fun s =>
  if !s.fb hb (HUB.MAP_STAT_PENDING c) then [] else
  let bank := 1 - s.mapBank c
  let moved := ((List.range 1024).map fun k => c * 1024 + k).filter fun i =>
    s.leafSt i == nACTIVE && mapEn (s.mapW bank i 0) && mapGroup (s.mapW bank i 0) != s.leafHome i
  seqs [fset hb (HUB.MAP_STAT_ACTIVE c) bank, fbset hb (HUB.MAP_STAT_PENDING c) false,
    forP moved fun i => fun t => seqs [leafField i 0 8 6 (mapGroup (t.mapW bank i 0)),
      leafUpd i fun r => { r with moved := some rnd },
      msgDue c (.assign (t.leafSerial i) (i % 1024) (mapGroup (t.mapW bank i 0)) (t.leafEqd i)) 2] t,
    raise hb 4] s

/-! ### Grants (R251–R254) -/

/-- GRANT_USED.COUNT. -/
def State.grantUsed (s : State) : Nat := (List.range 4).foldl (fun n c => n + (s.hub c).store.length) 0

/-- The codewords of a group's channel in a multiframe (R197, R250). -/
def State.chanCap (s : State) (c width : Nat) : Nat := if s.modeNow c = mH16 then 31 else 8 * width - 1

/-- Two ranges of numbers meet. -/
def meets (a n b m : Nat) : Bool := decide (a < b + m ∧ b < a + n)

/-- A grant's width. -/
def Grant.width (g : Grant) : Nat := 2 ^ g.bond

/-- Rounds that have gone by since a round, at a round. -/
def since (k : Option Nat) (rnd : Nat) : Option Nat := k.map fun k => serialDist 32 rnd k

/-- The first check that a grant fails (R252), in the order of the reasons; `g.rnd` is the round it is for. -/
def State.grantBad (s : State) (c : Nat) (g : Grant) : Option Nat :=
  let h := s.hub c
  let i := c * 1024 + g.leaf
  let m := s.mapNow i 0
  let slots := s.roundLen c * 256
  let pos := s.roundPos c
  let st := if g.leaf < 1024 then s.leafSt i else nFREE
  let grp := h.groups.find? fun q => q.role == 2 && decide (q.low ≤ g.sc ∧ g.sc + g.width ≤ q.low + q.size)
  if h.store.any fun o => o.g.rnd == g.rnd && meets o.g.sc o.g.width g.sc g.width && meets o.g.start o.g.len g.start g.len then
    some gOVERLAP
  else if slots < g.start + g.len ∨ g.len = 0 then some gRANGE
  else match grp with
    | none => some gNOT_SHARED
    | some q =>
      if g.bond = 3 ∨ g.sc % g.width ≠ 0 ∨ mapBond m < g.bond then some gNOT_SHARED
      else if (if g.rng then !(st == nRANGING || st == nACTIVE || st == nLOST)
          else st != nACTIVE || (match since (s.leafRec i).moved g.rnd with | some d => decide (d < 4) | none => false))
          || q.low != s.leafHome i || !mapEn m then some gLEAF_STATE
      else if (match h.disc with
          | some w => w.sc == q.low && decide (serialDist 32 g.rnd w.first < 64 ∧ serialDist 32 g.rnd w.first ≤ serialDist 32 w.last w.first)
          | none => false) then some gDISC
      else if 8192 ≤ s.grantUsed then some gFULL
      else if s.roundLen c ≤ pos + 2 ∨ !h.on ∨ h.rnd.isNone then some gLATE
      else if (match h.chans.find? fun k => k.low == q.low with
          | some k => decide ((s.roundLen c - 2 - pos) * s.chanCap c k.width < k.ctl.length + (k.grants.length + 2) / 2)
          | none => true) then some gCHAN_FULL
      else if g.len < s.fg hb (HUB.CAR_CFG_MIN_LEN c) then some gSHORT
      else if mapFormat m < g.format then some gFORMAT
      else none

/-- A refused grant is counted and recorded (R252). -/
def grantRefuse (c reason : Nat) : Prog :=
  seqs [fincSat hb HUB.GRANT_REF_CNT_COUNT 1, fset hb HUB.GRANT_REF_LAST_CAR c, fset hb HUB.GRANT_REF_LAST_REASON reason,
    raise hb 5]

/-- A change of one group's channel. -/
def chanUpd (c low : Nat) (f : HubChan → HubChan) : Prog :=
  hubUpd c fun h => { h with chans := h.chans.map fun k => if k.low = low then f k else k }

/-- A submitted grant is checked, and stored and sent, or refused (R251, R252). -/
def grantSubmit (c : Nat) (g : Grant) : Prog := fun s =>
  let h := s.hub c
  let g := { g with rnd := h.nextRnd }
  match s.grantBad c g with
  | some r => grantRefuse c r s
  | none =>
    let home := s.leafHome (c * 1024 + g.leaf)
    seqs [hubUpd c fun h => { h with store := h.store ++ [{ g := g, home := home }] },
      chanUpd c home fun k => { k with grants := k.grants ++ [g] },
      fincSat (sb c home) SCB.GRANT_CNT_COUNT 1, fincSat (sb c home) SCB.SLOT_CNT_COUNT g.len,
      if s.grantUsed + 1 = 8192 then raise hb 7 else skip] s

/-- The grant in the words of GRANT_IN, and its carrier. -/
def grantIn (w0 w1 : Word) : Grant :=
  ⟨0, bitsGet w0 0 11, bitsGet w0 13 6, bitsGet w0 19 2, bitsGet w0 21 2, bitsGet w1 0 14, bitsGet w1 16 14,
   w0.getLsbD 23, w0.getLsbD 24⟩

/-- A submitted downstream entry for the next round, or its refusal for an overlap (R255). -/
def dmapSubmit (src c leaf group first count : Nat) : Prog := fun s =>
  let h := s.hub c
  let d : Dmap := ⟨h.nextRnd, leaf, group, first, count⟩
  if h.dmaps.any fun e => e.rnd == d.rnd && e.group == group && meets e.first e.count first count then
    errPage hb (oWIN_DATA 2) src cDMAP_OVERLAP s
  else seqs [hubUpd c fun h => { h with dmaps := h.dmaps ++ [d] },
    chanUpd c group fun k => { k with dmaps := k.dmaps ++ [d] }] s

/-- A write of a word of a HUB table. -/
def hubTab (src t e w : Nat) (v : Word) : Prog := fun s =>
  let key := tabKey hb t e w
  if t = 0 then leafTab src e w v s
  else if t = 1 then mapTab src e w v s
  else if t = 2 then
    if w = 1 then
      let w0 := s.tab (tabKey hb 2 0 0)
      grantSubmit (bitsGet w0 11 2) (grantIn w0 v) s
    else [.tabs key v]
  else if w = 2 then
    let w0 := s.tab (tabKey hb 3 0 0)
    dmapSubmit src (bitsGet w0 11 2) (bitsGet w0 0 11) (bitsGet w0 13 6) (bitsGet (s.tab (tabKey hb 3 0 1)) 0 16) (bitsGet v 0 17) s
  else [.tabs key v]

/-- A word of a HUB table as it reads: the submission tables are write-only. -/
def hubTabView (s : State) (t e w : Nat) : Word := if t < 2 then s.tab (tabKey hb t e w) else 0

/-- Takes messages of a list two at a time. -/
def pairsOf {α : Type} : List α → List (List α)
  | a :: b :: l => [a, b] :: pairsOf l
  | [a] => [[a]]
  | [] => []

/-- The messages that a group's channel sends in one multiframe, and what is left (R250). -/
def HubChan.take (k : HubChan) (n rnd : Nat) : List HubMsg × HubChan :=
  let ctl := k.ctl.take n
  let n1 := n - ctl.length
  let gs := (pairsOf k.grants).take n1
  let n2 := n1 - gs.length
  let ds := (pairsOf k.dmaps).take n2
  (ctl ++ gs.map (HubMsg.grant rnd) ++ ds.map (HubMsg.dmap rnd),
   { k with ctl := k.ctl.drop n, grants := k.grants.drop (2 * gs.length), dmaps := k.dmaps.drop (2 * ds.length) })

/-- A multiframe of a hub's downstream: each shared group sends what fits; what is left at the last multiframe for the
next round is dropped, and the dropped grants refused (R250). `first` are the messages that come before all others. -/
def hubMultiframe (c : Nat) (first : List HubMsg) : Prog := withP fun s =>
  let h := s.hub c
  let pos := s.roundPos c
  if !h.on || !s.isHub c || h.rnd.isNone || decide (s.roundLen c ≤ pos + 1) then skip else
  let last := decide (s.roundLen c = pos + 2)
  forP (h.chans.map (·.low)) fun low => withP fun t =>
    match (t.hub c).chans.find? fun k => k.low == low with
    | none => skip
    | some k =>
      let out := k.take (t.chanCap c k.width - first.length) (t.hub c).nextRnd
      let left := out.2
      seqs [forP (first ++ out.1) fun m => emit (.hubMsg c low m.word),
        chanUpd c low fun _ => if last then { left with ctl := [], grants := [], dmaps := [] } else left,
        if last then seqs [hubUpd c fun h => { h with
            store := h.store.filter fun o => !left.grants.contains o.g, dmaps := h.dmaps.filter fun d => !left.dmaps.contains d },
          forP left.grants fun _ => grantRefuse c gCHAN_FULL] else skip]

/-! ### The default programs of clusters 4 and 5 (R254) -/

/-- The default program of a carrier's cluster runs. -/
def State.hubProgram (s : State) (c : Nat) : Bool :=
  let k := 4 + c / 2
  s.live ⟨.eng, k⟩ && !s.fb (pageBase .eng k) ENG.CL_STAT_OWNER_PROG && !s.fb (pageBase .eng k) ENG.CL_STAT_HALTED

/-- The grant that the default program makes for a leaf in the next round, with the place and the length that it
chooses: RNG to a leaf in RANGING, from the fourth round after its first ASSIGN, or in LOST; FIXED leaves at FIX_START;
at least GUAR, more only with a backlog reported and up to MAX; the widest width; RPT always. -/
def State.roundGrant (s : State) (c : Nat) (p : RoundGrant) : Option Grant :=
  let i := c * 1024 + p.leaf
  let m := s.mapNow i 0
  let m1 := s.mapNow i 1
  let next := (s.hub c).nextRnd
  let wait := match since (s.leafRec i).assigned next with
    | some d => decide (d < 4)
    | none => false
  if 1024 ≤ p.leaf ∨ !mapEn m then none
  else if (s.leafSt i = nRANGING ∧ !wait) ∨ s.leafSt i = nLOST then
    some ⟨0, p.leaf, p.sc, mapBond m, mapFormat m, p.start, s.fg hb (HUB.CAR_CFG_MIN_LEN c), true, true⟩
  else if s.leafSt i = nACTIVE then
    let len := if mapFixed m ∨ (s.leafRec i).backlog = 0 then mapGuar m else max (mapGuar m) (min p.len (bitsGet m1 0 14))
    if len = 0 then none
    else some ⟨0, p.leaf, p.sc, mapBond m, mapFormat m, if mapFixed m then bitsGet m1 18 14 else p.start, len, false, true⟩
  else none

/-- The grants of a round, one a leaf, in the order of R254: RNG, FIXED, the others. -/
def roundGrants (c : Nat) (ps : List RoundGrant) : Prog := fun s =>
  let one := ps.foldl (fun (l : List RoundGrant) p => if l.any fun q => q.leaf == p.leaf then l else l ++ [p]) []
  let gs := one.filterMap (s.roundGrant c)
  let fixed (g : Grant) : Bool := mapFixed (s.mapNow (c * 1024 + g.leaf) 0)
  forP ((gs.filter (·.rng)) ++ (gs.filter fun g => !g.rng && fixed g) ++ (gs.filter fun g => !g.rng && !fixed g))
    (grantSubmit c) s

/-! ### A downstream round begins (R247, R250, R256, R260, R261) -/

/-- ROUND_START at a hub: the round's number, SC_CFG and the grant map take effect, the channels of the shared groups
are filled, ROUND leads them, and the default program computes the next round's grants and downstream map. -/
def roundStart (c : Nat) (ps : List RoundGrant) (fs : List RoundFrames) : Prog := fun s =>
  let h := s.hub c
  let t := s.tl c
  if !h.on || !s.isHub c || !t.run || s.roundPos c != 0 || (h.rnd.isSome && h.roundMf == t.mf) then [] else
  let rnd := match h.rnd with
    | some k => (k + 1) % 2 ^ 32
    | none => 0
  seqs [rset (hb + HUB.CAR_RND c) (BitVec.ofNat 32 rnd),
    hubUpd c fun h => { h with starts := ((rnd, s.ticks) :: h.starts).take 128, roundMf := t.mf },
    groupsTake c (some rnd), mapTake c rnd,
    hubUpd c fun h => { h with
      dmaps := h.dmaps.filter fun d => d.rnd == rnd,
      chans := (h.groups.filter fun g => g.role == 2).map fun g =>
        { low := g.low, width := g.size, ctl := inOrder (h.due.map (·.1)) },
      due := (h.due.map fun d => (d.1, d.2 - 1)).filter fun d => d.2 != 0 },
    hubMultiframe c [.round rnd (s.fg hb (HUB.CAR_CFG_RLEN c)) (s.fg hb (HUB.CAR_TEQ_TEQ c))],
    fun u => if u.hubProgram c then
        seqs [roundGrants c ps, forP fs fun f => dmapSubmit (0x14 + c / 2) c f.leaf f.group f.first f.count] u else []] s

/-! ### Discovery (R256, R257) -/

/-- The window of the group DISC.SC opens for the rounds from the next one on, and is announced in this round. It does
not come while grants of those rounds lie on the group. -/
def discOpen (c : Nat) : Prog := fun s =>
  let h := s.hub c
  let period := s.fg hb (HUB.CAR_DISC_PERIOD c)
  let sc := s.fg hb (HUB.CAR_DISC_SC c)
  let n := s.fg hb (HUB.CAR_DISC_NROUNDS c)
  let k := h.nextRnd
  let due := match since h.lastDisc k with
    | some d => decide (period ≤ d)
    | none => true
  if !h.on || !s.isHub c || period == 0 || h.rnd.isNone || h.disc.isSome || !due
      || !(h.groups.any fun g => g.low == sc && g.role == 2) || (h.store.any fun g => g.home == sc && g.g.rnd == k)
      || decide (s.roundLen c ≤ s.roundPos c + 2) then []
  else
    let rtt := s.fg hb (HUB.CAR_RTTMIN_RTT c)
    let m := HubMsg.discover k n rtt (s.fg hb (HUB.CAR_CFG_RAND_MAX c)) sc
    hubUpd c (fun h => { h with
      disc := some ⟨k, (k + n + 2 ^ 32 - 1) % 2 ^ 32, sc, rtt⟩, lastDisc := some k,
      chans := h.chans.map fun q => { q with ctl := inOrder (q.ctl ++ [m]) } }) s

/-- A discovery window ends with its last upstream round. -/
def discDone (c : Nat) : Prog := fun s =>
  match (s.hub c).disc with
  | none => []
  | some w =>
    match s.upAt c w.last with
    | none => []
    | some u => seqs [clockTo ((u + 3) / 4 + s.roundLen c * 16384), hubUpd c fun h => { h with disc := none }, raise hb 6] s

/-- A HELLO is received in a window, its burst located at a start in 0.25 ns of the module's clock (R257). -/
def helloRx (c start serial r : Nat) : Prog := fun s =>
  match (s.hub c).disc with
  | none => []
  | some w =>
    match s.upAt c w.first with
    | none => []
    | some u =>
      let rtt : Int := (start : Int) - u - r * 256 + w.rttMin
      let eqd : Int := (s.fg hb (HUB.CAR_TEQ_TEQ c) : Int) - rtt
      let is := ((List.range 1024).map fun k => c * 1024 + k).filter fun i => s.leafSt i != nFREE && s.leafSerial i == serial
      match is with
      | [] => seqs [rset (hb + HUB.UNK_SER_LO) (BitVec.ofNat 32 serial), fset hb HUB.UNK_SER_HI_SER (serial / 2 ^ 32),
          fset hb HUB.UNK_SER_HI_CAR c, raise hb 3] s
      | i :: _ =>
        if s.leafSt i ≠ nWAIT then [] else
        let home := mapGroup (s.mapNow i 0)
        seqs [leafTo i nRANGING, leafField i 0 8 6 home, eqdSet i (tc 24 eqd),
          leafUpd i fun q => { q with assigned := some (s.hub c).nextRnd, good := 0, missed := 0 },
          msgDue c (.assign serial (i % 1024) home (tc 24 eqd)) 2] s

/-- A REPORT gives a leaf's backlog. -/
def reportRx (c leaf backlog : Nat) : Prog := fun s =>
  let i := c * 1024 + leaf
  if s.isHub c ∧ (s.hub c).on ∧ leaf < 1024 ∧ s.leafSt i ≠ nFREE then leafUpd i (fun r => { r with backlog := backlog }) s else []

/-! ### The leaf (R259) -/

def kIDLE : Nat := 0
def kLISTEN : Nat := 1
def kDISCOVER : Nat := 2
def kRANGING : Nat := 3
def kACTIVE : Nat := 4
def kHOLD : Nat := 5
def kREMOVED : Nat := 6

def State.leafFn (s : State) (c : Nat) : Nat := s.fg hb (HUB.LEAF_STAT_STATE c)
def State.isLeaf (s : State) (c : Nat) : Bool := s.modeNow c == mLEAF && (s.hub c).on
def tLeafHold (c : Nat) : Nat := hb + c

/-- The leaf number is forgotten. -/
def leafForget (c : Nat) : Prog :=
  seqs [hubUpd c fun h => { h with lfHas := false, lfNew := none }, fset hb (HUB.LEAF_STAT_LEAF c) 0]

/-- The leaf enters a state. Out of RANGING and ACTIVE, and of DISCOVER, a burst stops and the gate shuts (R75, R259). -/
def leafFnTo (c st : Nat) : Prog :=
  seqs [fset hb (HUB.LEAF_STAT_STATE c) st,
    if st = kHOLD then timerStart (tLeafHold c) else timerStop (tLeafHold c),
    if st = kRANGING ∨ st = kACTIVE ∨ st = kDISCOVER then skip
    else fun s => [.opts c { s.opt c with gate := false }],
    if st = kIDLE then hubUpd c fun h => { h with lfRound := none, lfBursts := [], lfDmaps := [], lfBackoff := 0, lfWin := none }
    else if st = kLISTEN then hubUpd c fun h => { h with lfRound := none }
    else if st = kDISCOVER then hubUpd c fun h => { h with lfWin := none } else skip,
    if st = kIDLE ∨ st = kLISTEN then leafForget c else skip]

/-- A cause that keeps a leaf silent: its home stream out of frame or multiframe, no ROUND for 4 rounds, FOLLOW_OK = 0. -/
def State.leafCause (s : State) (c : Nat) : Bool :=
  let home := s.fg hb (HUB.LEAF_STAT_HOME c)
  let late := match (s.hub c).lfRound with
    | some q => decide (4 * 2 ^ (s.hub c).lfRlen * 16384 < s.ticks - q.2)
    | none => true
  s.fg (sb c home) SCB.DEF_STAT_DEF % 4 != 0 || late || !s.fb (ob c) OPT.LASER_STAT_FOLLOW_OK

/-- HOLD is left when its cause is gone within HOLD_MAX. -/
def leafEval (c : Nat) : Prog := fun s =>
  if s.isLeaf c ∧ s.leafFn c = kHOLD ∧ !s.leafCause c
      ∧ !s.expired (tLeafHold c) (s.fg hb (HUB.LEAF_CFG_HOLD_MAX c) * 1000000) then
    leafFnTo c (s.hub c).lfHeld s
  else []

/-- The hub or leaf function starts or stops as its conditions stand, and SC_CFG takes effect while it does not run. -/
def hubEval (c : Nat) : Prog := fun s =>
  let run := s.hubRuns c
  seqs [if run = (s.hub c).on then skip
      else if run then seqs [hubUpd c fun h => { h with on := true, starts := [], up := none, chans := [], due := [] },
        if s.modeNow c = mLEAF then leafFnTo c kLISTEN else skip]
      else seqs [hubUpd c fun h => { h with on := false, disc := none, lastDisc := none, chans := [], due := [] }, leafFnTo c kIDLE],
    if run then skip else groupsTake c none,
    fun t => let f := t.isHub c && (t.hub c).on && (t.hub c).groups.any fun g => g.role == 2
      if f = (t.opt c).burstFreeze then [] else [.opts c { t.opt c with burstFreeze := f }],
    leafEval c] s

/-- A write of HUB_CTL. -/
def hubRunWrite (v : Word) : Prog := seqs [fset hb HUB.HUB_CTL_RUN (v.toNat % 16), forP (List.range 4) hubEval]

/-- A leaf receives ROUND: the round that begins, and what applies from its start (R248, R249, R259, R260). -/
def roundMsg (c rnd rlen teq : Nat) : Prog := fun s =>
  if !s.isLeaf c then [] else
  let h := s.hub c
  let eqd := match h.lfNew with
    | some q => q.2.2
    | none => s.fg hb (HUB.LEAF_EQD_EQD c)
  let fix (b : LeafBurst) : LeafBurst :=
    if b.g.rnd = rnd ∧ b.at' = none then
      { b with at' := some (4 * s.ticks + (match b.hello with
        | some r => teq - b.rttMin + 256 * r
        | none => eqd + 256 * b.g.start)) }
    else b
  seqs [match h.lfNew with
      | some q => seqs [fset hb (HUB.LEAF_STAT_LEAF c) q.1, fset hb (HUB.LEAF_STAT_HOME c) q.2.1,
          fset hb (HUB.LEAF_EQD_EQD c) q.2.2]
      | none => skip,
    rset (hb + HUB.CAR_RND c) (BitVec.ofNat 32 rnd),
    hubUpd c fun h => { h with
      lfRound := some (rnd, s.ticks), lfRlen := rlen, lfTeq := teq, lfNew := none,
      lfBursts := (h.lfBursts.map fix).filter fun b => b.at'.isSome || serialAhead 32 b.g.rnd rnd,
      lfDmaps := h.lfDmaps.filter fun d => d.rnd == rnd || serialAhead 32 d.rnd rnd },
    groupsTake c (some rnd), leafEval c] s

/-- The leaf number that messages to this leaf name: the new one once it has been received. -/
def State.ownLeaf (s : State) (c : Nat) : Option Nat :=
  let h := s.hub c
  if !h.lfHas then none
  else match h.lfNew with
    | some q => some q.1
    | none => some (s.fg hb (HUB.LEAF_STAT_LEAF c))

/-- The round after the one that a leaf is receiving. -/
def HubRec.lfNext (h : HubRec) : Option Nat := h.lfRound.map fun q => (q.1 + 1) % 2 ^ 32

/-- A leaf receives a grant (R251). -/
def grantMsg (c rnd8 : Nat) (g : Grant) : Prog := fun s =>
  if !s.isLeaf c ∨ s.ownLeaf c ≠ some g.leaf then [] else
  match (s.hub c).lfNext with
  | some k => if k % 256 = rnd8 then hubUpd c (fun h => { h with lfBursts := h.lfBursts ++ [{ g := { g with rnd := k } }] }) s
      else fincSat hb (HUB.LEAF_CNT_RND_MISS c) 1 s
  | none => fincSat hb (HUB.LEAF_CNT_RND_MISS c) 1 s

/-- A leaf receives a downstream map entry (R255). -/
def dmapMsg (c sc rnd8 leaf first count : Nat) : Prog := fun s =>
  if !s.isLeaf c ∨ s.ownLeaf c ≠ some leaf then [] else
  match (s.hub c).lfNext with
  | some k => if k % 256 = rnd8 then hubUpd c (fun h => { h with lfDmaps := h.lfDmaps ++ [⟨k, leaf, sc, first, count⟩] }) s else []
  | none => []

/-- A leaf receives DISCOVER: it passes the window over, or draws its offset and has a HELLO to send (R256, R259). -/
def discoverMsg (c rnd8 n rttMin randMax sc : Nat) : Prog := fun s =>
  let h := s.hub c
  match h.lfNext with
  | none => []
  | some k =>
    if !s.isLeaf c ∨ s.leafFn c ≠ kDISCOVER ∨ k % 256 ≠ rnd8 then []
    else if h.lfBackoff ≠ 0 then hubUpd c (fun h => { h with lfBackoff := h.lfBackoff - 1 }) s
    else withFree (fun w => hubUpd c fun h => { h with
      lfWin := some ((k + n + 2 ^ 32 - 1) % 2 ^ 32),
      lfBursts := h.lfBursts ++ [{ g := ⟨k, 0x7FF, sc, 0, 0, 0, s.fg hb (HUB.CAR_CFG_MIN_LEN c), false, false⟩,
                                   hello := some (w.toNat % max 1 randMax), rttMin := rttMin }] }) s

/-- A leaf receives ASSIGN with its serial (R259). -/
def assignMsg (c serial leaf home eqd : Nat) : Prog := fun s =>
  let st := s.leafFn c
  if !s.isLeaf c ∨ serial ≠ Config.serial.toNat ∨ !(st == kDISCOVER || st == kRANGING || st == kACTIVE) then []
  else seqs [hubUpd c fun h => { h with lfHas := true, lfNew := some (leaf, home, eqd) },
    if st = kDISCOVER then leafFnTo c kRANGING else skip] s

/-- A leaf receives RANGE (R259). -/
def rangeMsg (c leaf eqd : Nat) (final : Bool) : Prog := fun s =>
  let st := s.leafFn c
  if !s.isLeaf c ∨ s.ownLeaf c ≠ some leaf ∨ !(st == kRANGING || st == kACTIVE) then []
  else
    let home := match (s.hub c).lfNew with
      | some q => q.2.1
      | none => s.fg hb (HUB.LEAF_STAT_HOME c)
    seqs [hubUpd c fun h => { h with lfNew := some (leaf, home, eqd) },
      if st = kRANGING ∧ final then leafFnTo c kACTIVE else skip] s

/-- A leaf receives DEREG (R259); a reserved reason asks for nothing. -/
def deregMsg (c leaf reason : Nat) : Prog := fun s =>
  let st := s.leafFn c
  if !s.isLeaf c ∨ s.ownLeaf c ≠ some leaf then []
  else if reason = 2 ∧ (st = kRANGING ∨ st = kACTIVE ∨ st = kHOLD) then seqs [leafForget c, leafFnTo c kDISCOVER] s
  else if reason = 1 ∧ (st = kDISCOVER ∨ st = kRANGING ∨ st = kACTIVE ∨ st = kHOLD) then leafFnTo c kREMOVED s
  else []

/-- LISTEN ends: a shared stream in IF with MF_LOCK, a valid ROUND, FOLLOW_OK (R259). -/
def leafListenDone (c : Nat) : Prog := fun s =>
  let h := s.hub c
  if s.isLeaf c ∧ s.leafFn c = kLISTEN ∧ h.lfRound.isSome ∧ s.fb (ob c) OPT.LASER_STAT_FOLLOW_OK
      ∧ h.groups.any fun g => g.role == 2 && s.frSt ⟨c, some g.low⟩ == fIF && (s.fr (sb c g.low)).mfLock then
    leafFnTo c kDISCOVER s
  else []

/-- No ASSIGN within 4 rounds of the window's end: the leaf backs off for 1 to BACKOFF windows, drawn uniformly (R259). -/
def leafBackoff (c : Nat) : Prog := fun s =>
  let h := s.hub c
  match h.lfWin, h.lfRound with
  | some last, some q =>
    if s.isLeaf c ∧ s.leafFn c = kDISCOVER ∧ serialAhead 32 q.1 ((last + 4) % 2 ^ 32) then
      withFree (fun w => hubUpd c fun h => { h with
        lfWin := none, lfBackoff := 1 + w.toNat % max 1 (s.fg hb (HUB.LEAF_CFG_BACKOFF c)) }) s
    else []
  | _, _ => []

/-- RANGING or ACTIVE is left for HOLD (R259). -/
def leafHoldEntry (c : Nat) : Prog := fun s =>
  let st := s.leafFn c
  if s.isLeaf c ∧ (st = kRANGING ∨ st = kACTIVE) ∧ s.leafCause c then
    seqs [hubUpd c fun h => { h with lfHeld := st }, leafFnTo c kHOLD] s
  else []

/-- HOLD_MAX has passed in HOLD (R259). -/
def leafHoldTimeout (c : Nat) : Prog := fun s =>
  if s.isLeaf c ∧ s.leafFn c = kHOLD ∧ s.running (tLeafHold c) then
    seqs [clockEnd (tLeafHold c) (s.fg hb (HUB.LEAF_CFG_HOLD_MAX c) * 1000000), leafFnTo c kLISTEN] s
  else []

/-- The units of a burst's payload: the largest n that fits the grant (R272). -/
def burstUnits (len bond format : Nat) : Nat :=
  let room := len * 256 * 2 ^ bond - (128 * 2 ^ bond + 384)
  let u := if format = 1 then 2560 else 5120
  ((List.range (room / u + 1)).filter fun n => decide (n * u + (n * u + 126) / 127 ≤ room)).getLast?.getD 0

/-- The burst of a list that comes first by a time, with the time. -/
def firstBurst (time : LeafBurst → Option Nat) (l : List LeafBurst) : Option (LeafBurst × Nat) :=
  l.foldl (fun o b => match time b, o with
    | some a, some (c, m) => if a < m then some (b, a) else some (c, m)
    | some a, none => some (b, a)
    | none, o => o) none

/-- A leaf reaches the start of one of its bursts: it sends what its state allows, with its SOA gate open (R75, R259,
R273). `backlog` is its upstream backlog in 64-byte units. -/
def leafGrantStart (c backlog : Nat) : Prog := fun s =>
  let h := s.hub c
  let st := s.leafFn c
  match firstBurst (fun b => b.at') (h.lfBursts.filter fun b => !b.sent) with
  | none => []
  | some (b, at'') =>
    let may := if b.hello.isSome then st == kDISCOVER else if b.g.rng then st == kRANGING || st == kACTIVE else st == kACTIVE
    if !s.isLeaf c then []
    else if !may then seqs [clockTo ((at'' + 3) / 4), hubUpd c fun h => { h with lfBursts := h.lfBursts.filter fun q => q != b }] s
    else
      let msg := match b.hello with
        | some r => HubMsg.hello Config.serial.toNat r (Config.openNat 1100) (Config.openNat 1101)
        | none => HubMsg.report b.g.leaf (min backlog (2 ^ 24 - 1))
      let units := if b.hello.isSome ∨ b.g.rng then 0 else burstUnits b.g.len b.g.bond b.g.format
      seqs [clockTo ((at'' + 3) / 4), hubUpd c fun h => { h with lfBursts := h.lfBursts.map fun q => if q = b then { q with sent := true } else q },
        fun t => [.opts c { t.opt c with gate := true }],
        emit (.burst c b.g.sc b.g.bond b.g.format b.g.len units msg.word)] s

/-- A leaf reaches the end of one of its bursts: the gate falls (R273). -/
def leafGrantEnd (c : Nat) : Prog := fun s =>
  let h := s.hub c
  match firstBurst (fun b => b.at'.map fun a => a + b.g.len * 256) (h.lfBursts.filter fun b => b.sent) with
  | none => []
  | some (b, at'') =>
    let rest := h.lfBursts.filter fun q => q != b
    seqs [clockTo ((at'' + 3) / 4), hubUpd c fun h => { h with lfBursts := rest },
      fun t => if rest.any (·.sent) then [] else [.opts c { t.opt c with gate := false }]] s

/-! ### Suit records in the hub channel (R220, R249, R250) -/

/-- The first codeword of a suit record on a dedicated stream. -/
def suitAMsg (c sc : Nat) (m : BitVec 115) : Prog := fun s =>
  let n := (s.fr (sb c sc)).num / s.mfFrames ⟨c, some sc⟩
  hubUpd c (fun h => { h with suitA := (sc, n, BitVec.ofNat 64 (at115 m 4 64), BitVec.ofNat 64 (at115 m 68 19 * 2 ^ 45)) ::
    (h.suitA.filter fun q => q.1 != sc) }) s

/-- The second codeword, of the same multiframe: the record is taken when it has come on two multiframes in a row. -/
def suitBMsg (c sc : Nat) (m : BitVec 115) : Prog := fun s =>
  let h := s.hub c
  let n := (s.fr (sb c sc)).num / s.mfFrames ⟨c, some sc⟩
  match h.suitA.find? fun q => q.1 == sc && q.2.1 == n with
  | none => []
  | some q =>
    let r : SuitRecord := ⟨q.2.2.1, BitVec.ofNat 64 (at115 m 12 48 * 2 ^ 16), q.2.2.2⟩
    let id := at115 m 4 8
    if q.2.2.1.toNat / 2 ^ 55 % 256 ≠ id then []
    else
      let again := h.suitLast.any fun l => l.1 == sc && (l.2.1 + 1) % 2 ^ 32 == n % 2 ^ 32
        && l.2.2.b == r.b && l.2.2.c == r.c && l.2.2.a.toNat / 2 ^ 32 == r.a.toNat / 2 ^ 32
      seqs [hubUpd c fun h => { h with
          suitA := h.suitA.filter fun l => l.1 != sc,
          suitLast := (sc, n, r) :: h.suitLast.filter fun l => !(l.1 == sc && l.2.2.a.toNat / 2 ^ 55 % 256 == id) },
        if again then suitMessage r else skip] s

/-! ### Registers -/

def hubLims : List Lim := (List.range 4).flatMap fun c => [⟨HUB.CAR_CFG_RAND_MAX c, 1, 1023⟩, ⟨HUB.CAR_CFG_MIN_LEN c, 2, 63⟩,
  ⟨HUB.CAR_CFG_RLEN c, 2, 6⟩, ⟨HUB.CAR_TEQ_TEQ c, 80000, 8800000⟩, ⟨HUB.CAR_DISC_NROUNDS c, 1, 32⟩,
  ⟨HUB.RANGE_CFG_DROP_TIME c, 1, 255⟩, ⟨HUB.RANGE_CFG_LOST_TIME c, 1, 255⟩, ⟨HUB.RANGE_CFG_TRACK_THR c, 1, 255⟩,
  ⟨HUB.RANGE_CFG_RANGE_TOL c, 1, 255⟩, ⟨HUB.LEAF_CFG_HOLD_MAX c, 1, 255⟩, ⟨HUB.LEAF_CFG_BACKOFF c, 1, 15⟩]

/-- A write of a HUB register: while RUN is 1, a change of RLEN or TEQ is ignored and counted (R247, R248). -/
def hubWrite (src : Nat) (r : RegRow) (v : Word) : Prog := fun s =>
  let live (c : Nat) : Bool := bitOf (s.fg hb HUB.HUB_CTL_RUN) c
  if r.off = HUB.HUB_CTL then hubRunWrite v s
  else if r.off = HUB.LEAF_CMD then leafCmd src v s
  else match (List.range 4).find? fun c => r.off == HUB.CAR_CFG c || r.off == HUB.CAR_TEQ c with
    | none => plainWrite hb r hubLims v s
    | some c =>
      if r.off = HUB.CAR_CFG c ∧ live c ∧ wrote v (HUB.CAR_CFG_RLEN c) ≠ s.fg hb (HUB.CAR_CFG_RLEN c) then
        seqs [errPage hb r.off src cRUN_LIVE, plainWrite hb r hubLims (bitsPut v 0 3 (s.fg hb (HUB.CAR_CFG_RLEN c)))] s
      else if r.off = HUB.CAR_TEQ c ∧ live c ∧ wrote v (HUB.CAR_TEQ_TEQ c) ≠ s.fg hb (HUB.CAR_TEQ_TEQ c) then
        errPage hb r.off src cRUN_LIVE s
      else plainWrite hb r hubLims v s

/-- The leaf entries of a carrier that satisfy a condition. -/
def State.leafCount (s : State) (c : Nat) (f : Nat → Bool) : Nat :=
  (s.tabs.filter fun e => e.1 % 16 == 0 && e.1 / 2 ^ 28 == hb / 0x1000 * 8 && e.1 / 16 % 2 ^ 24 / 1024 == c
    && f (e.1 / 16 % 2 ^ 24)).length

/-- The computed registers of HUB. -/
def hubView (s : State) (off : Nat) : Option Word :=
  if off = HUB.GRANT_USED then some (BitVec.ofNat 32 s.grantUsed)
  else if off = HUB.SERIAL_LO then some (Config.serial.extractLsb' 0 32)
  else if off = HUB.SERIAL_HI then some ((Config.serial.extractLsb' 32 16).zeroExtend 32)
  else (List.range 4).findSome? fun c =>
    if off = HUB.LEAF_NUM c then
      some (BitVec.ofNat 32 (s.leafCount c (fun i => s.leafSt i != nFREE) * 2 ^ 16 + s.leafCount c (fun i => s.leafSt i == nACTIVE)))
    else none

/-- A write of SC_CFG (R242): a GROUP that breaks the rules is ignored and counted; what the reserved ROLE does is open. -/
def scCfgWrite (src c sc : Nat) (r : RegRow) (v : Word) : Prog := fun s =>
  let g := wrote v SCB.SC_CFG_GROUP
  let put (v : Word) : Prog := seqs [rset (sb c sc + r.off) (r.merge (s.reg (sb c sc + r.off)) v), hubEval c]
  if g = 3 ∨ sc % 2 ^ g ≠ 0 ∨ (s.modeNow c = mH16 ∧ g ≠ 0) then errPage (sb c sc) r.off src cSC_ALIGN s
  else if wrote v SCB.SC_CFG_ROLE = 3 then withFree (fun w => put (bitsPut v 0 2 (w.toNat % 3))) s
  else put v s

/-- SC_STAT as it reads (R265). -/
def State.scStat (s : State) (c sc : Nat) : Word :=
  let open' := match (s.hub c).disc with
    | some w => w.sc == sc && (match s.upAt c w.first with | some u => decide (u ≤ 4 * s.ticks) | none => false)
    | none => false
  let n := s.leafCount c fun i => decide (nRANGING ≤ s.leafSt i) && s.leafHome i == sc
  bitsPut (bitsPut (s.reg (sb c sc + SCB.SC_STAT)) 3 1 (b2n open')) 8 8 n

end Sys2Proof.Machine
end

