-- ==== Sys2Proof/Machine/Scb.lean ====
section
/-!
DEFINITION. Machine/Scb.lean: burst reception and what the SCBc.s pages hold of it: detection, capture, training, sync,
report, association, the leaves' figures and dBURST_LOSS, prior taps, and the pages' registers (R268–R292).
-/

namespace Sys2Proof.Machine

def cANCHOR_BUSY : Nat := 0x91
def cSC_PROFILE_BAD : Nat := 0x92

def brxUpd (b : Nat) (f : BrxRec → BrxRec) : Prog := fun s => [.brxs b (f (s.brx b))]

/-- The states of a burst receiver (R278). -/
def bSEARCH : Nat := 0
def bTRAIN : Nat := 1
def bSYNC : Nat := 2
def bRECEIVE : Nat := 3

def State.bst (s : State) (c sc : Nat) : Nat := s.fg (sb c sc) SCB.BRX_STAT_BSTATE
def State.bwidth (s : State) (c sc : Nat) : Nat := 2 ^ s.fg (sb c sc) SCB.BRX_STAT_WIDTH

/-- A burst's rate in units of 4 GBd, so that a symbol lasts 1 / rate of 0.25 ns (R270); H16 has 16 GBd alone (R274). -/
def State.rateW (s : State) (c bond : Nat) : Nat := if s.modeNow c = mH16 then 4 else 2 ^ bond

/-- The receptions in progress: the lowest subcarriers. -/
def State.receptions (s : State) (c : Nat) : List Nat := (List.range 64).filter fun sc => s.bst c sc != bSEARCH

/-- The page that holds a group's settings (R268). -/
def State.brxPage (s : State) (c sc : Nat) : Nat :=
  match (s.hub c).burstGroup sc with
  | some g => sb c g.low
  | none => sb c sc

/-- The burst receivers of a subcarrier's group run (R274, R278). -/
def State.brxOn (s : State) (c sc : Nat) : Bool :=
  s.isHub c && s.live ⟨.scb, c * 64 + sc⟩ && ((s.hub c).burstGroup sc).isSome && s.fb (s.brxPage c sc) SCB.BRX_CFG_BRX_EN

/-- A reception ends, its subcarriers back in SEARCH (R278). -/
def brxIdle (c sc : Nat) : Prog :=
  seqs [fset (sb c sc) SCB.BRX_STAT_BSTATE bSEARCH, brxUpd (sb c sc) fun r => { r with taps := [], assoc := none }]

/-- Receptions whose receivers no longer run are discarded (R278). -/
def brxEval (c : Nat) : Prog := fun s =>
  forP ((s.receptions c).filter fun sc => !s.brxOn c sc) (brxIdle c) s

/-! ### Grants by time and place (R282, R283) -/

/-- A distance in 0.25 ns. -/
def apart (a b : Nat) : Nat := if a ≤ b then b - a else a - b

/-- The stored grants of a carrier with their starts. -/
def State.timed (s : State) (c : Nat) : List (Stored × Nat) :=
  (s.hub c).store.filterMap fun o => (s.grantAt c o.g).map fun a => (o, a)

/-- The nearest of some grants to a time. -/
def nearest (l : List (Stored × Nat)) (t : Nat) : Option (Stored × Nat) :=
  l.foldl (fun best q => match best with
    | none => some q
    | some b => if apart q.2 t < apart b.2 t then some q else best) none

/-- The positional grant of a burst: on its subcarriers, within ASSOC_WIN of its start (R282). -/
def State.positional (s : State) (c sc bond start : Nat) : Option (Stored × Nat) :=
  let win := 4 * s.fg (s.brxPage c sc) SCB.ASSOC_CFG_ASSOC_WIN
  nearest ((s.timed c).filter fun q => q.1.g.sc == sc && q.1.g.bond == bond && decide (apart q.2 start ≤ win)) start

/-- The grants on a burst's subcarriers within ASSOC_FAR of its start (R282, R283). -/
def State.farGrants (s : State) (c sc w start : Nat) : List (Stored × Nat) :=
  let far := 4 * s.fg (s.brxPage c sc) SCB.ASSOC_CFG_ASSOC_FAR
  (s.timed c).filter fun q => meets q.1.g.sc q.1.g.width sc w && decide (apart q.2 start ≤ far)

/-! ### Leaf figures (R285, R290) -/

def leafqPut (i w : Nat) (f : Word → Word) : Prog := fun s => [.tabs (leafqKey i w) (f (s.tab (leafqKey i w)))]
def leafqCount (i w n : Nat) : Prog := leafqPut i w fun v => BitVec.ofNat 32 (satAdd 32 v.toNat n)

/-- An arrival error in 0.25 ns: the last one and the mean, with weight 1/16, truncated towards zero; the ranging rules
(R258, R282, R285). -/
def arrival (i rnd : Nat) (rng : Bool) (err : Int) (assoc : Bool) : Prog := fun s =>
  let mean := sx 16 (bitsGet (s.tab (leafqKey i 1)) 16 16)
  let new := mean + Int.tdiv (err - mean) 16
  seqs [leafqPut i 1 fun _ => BitVec.ofNat 32 (tc 16 new * 65536 + tc 16 err),
    leafqPut i 0 fun v => bitsPut v 2 1 (b2n assoc), leafError i rnd rng err] s

/-- A burst's figures enter its leaf's (R285). -/
def leafFigures (i : Nat) (f : BurstFigures) : Prog :=
  seqs [leafqPut i 0 fun v => bitsPut v 16 16 f.snr,
    leafqPut i 2 fun _ => BitVec.ofNat 32 (tc 16 f.power * 65536 + f.ber % 65536),
    leafqCount i 6 f.cw, leafqCount i 7 f.unc]

/-- The grant of a leaf ends (R253, R258, R283, R286): its entry is released, the raw condition of dBURST_LOSS follows,
the leaf's figures are updated. -/
def grantEnd (c sc start : Nat) : Prog := fun s =>
  let ended (q : Stored × Nat) : Bool :=
    q.1.g.sc == sc && q.1.g.start == start
  match (s.timed c).find? ended with
  | none => []
  | some (o, t) =>
    let i := c * 1024 + o.g.leaf
    seqs [clockTo ((t + o.g.len * 256 + 3) / 4), hubUpd c fun h => { h with store := h.store.filter fun q => q != o },
      leafqPut i 0 fun v => bitsPut v 1 1 (b2n !o.hit),
      if o.hit then leafqCount i 3 1
      else seqs [leafqCount i 4 1, fincSat (sb c sc) SCB.MISS_CNT_COUNT 1, if o.g.rng then leafNoBurst i else skip],
      match o.figs with
      | some f => leafFigures i f
      | none => skip] s

/-- A sample of the leaves' dBURST_LOSS of a carrier (R202, R286). -/
def lossSample (c : Nat) : Prog := fun s =>
  let times := (s.reg (sb c 0 + SCB.DEF_TIME 6)).toNat
  let is := (s.tabs.filter fun e => e.1 % 16 == 0 && e.1 / 2 ^ 28 == sb c 0 / 0x1000 * 8 + 1).map fun e => c * 1024 + e.1 / 16 % 2 ^ 24
  seqs [forP is fun i => fun t =>
      let w := t.tab (leafqKey i 0)
      let was := w.getLsbD 0
      let o := integrate was (w.getLsbD 1) (t.leafRec i).lossRun times
      seqs [leafUpd i fun r => { r with lossRun := o.2 },
        if o.1 = was then skip else seqs [leafqPut i 0 fun v => bitsPut v 0 1 (b2n o.1),
          raise (sb c 0) (if o.1 then 2 else 3),
          if o.1 ∧ t.leafSt i = nACTIVE then timerStart (tLeafLoss i) else timerStop (tLeafLoss i)]] t,
    fun t =>
      let has (n : Nat) := is.any fun i => bitOf (t.tab (leafqKey i 0)).toNat n
      seqs [fset (sb c 0) ⟨SCB.DEF_STAT, 6, 1⟩ (b2n (has 0)), fset (sb c 0) ⟨SCB.DEF_STAT, 22, 1⟩ (b2n (has 1))] t] s

/-! ### Detection and capture (R274–R278, R283, R284) -/

/-- A new reception (R277, R278). -/
def brxBegin (c sc bond start gain : Nat) (corr : Int) : Prog := fun s =>
  seqs [fset (sb c sc) SCB.BRX_STAT_BSTATE bTRAIN, fset (sb c sc) SCB.BRX_STAT_WIDTH bond, fset (sb c sc) SCB.BRX_STAT_GAIN gain,
    brxUpd (sb c sc) fun r => { r with tick := s.ticks, start := start, corr := corr, taps := [], assoc := none }] s

/-- A leaf's grant was in a collision. -/
def collLeaf (c : Nat) (o : Option (Stored × Nat)) : Prog :=
  match o with
  | some q => leafqCount (c * 1024 + q.1.g.leaf) 5 1
  | none => skip

/-- A detection on subcarrier `sc` of width code `bond`: its burst's start lies `ago` quarter-nanoseconds back; the
correlation in 0.1 dB and the gain set from its window. -/
def brxDetect (c sc bond ago gain : Nat) (corr : Int) : Prog := fun s =>
  let w := 2 ^ bond
  let start := 4 * s.ticks - ago
  let inGroup := match (s.hub c).burstGroup sc with
    | some g => decide (bond < 3 ∧ sc % w = 0 ∧ sc + w ≤ g.low + g.size)
    | none => false
  if !s.brxOn c sc || !inGroup then [] else
  let held := (s.receptions c).filter fun h => meets h (s.bwidth c h) sc w
  -- R275: detections of different widths within 16 symbols of the narrowest rate
  let same (h : Nat) : Bool := s.bst c h == bTRAIN && s.bwidth c h != w
    && decide (4 * (s.ticks - (s.brx (sb c h)).tick) * s.rateW c (min bond (s.fg (sb c h) SCB.BRX_STAT_WIDTH)) ≤ 16)
  let narrow := held.filter fun h => same h && decide (s.bwidth c h < w)
  let rest := held.filter fun h => !(same h)
  if held.any fun h => same h && decide (w < s.bwidth c h) then [] else
  let may (h : Nat) : Bool := (s.bst c h == bTRAIN || s.bst c h == bSYNC)
    && decide ((s.brx (sb c h)).corr + 10 * (s.fg (s.brxPage c sc) SCB.BRX_CFG_CAP_MARGIN : Nat) ≤ corr)
  let heldGrant (h : Nat) := nearest (s.farGrants c h (s.bwidth c h) (s.brx (sb c h)).start) (s.brx (sb c h)).start
  let taken := rest.filterMap heldGrant
  let own := nearest ((s.farGrants c sc w start).filter fun q => !taken.contains q) start
  seqs [forP narrow (brxIdle c),
    forP rest fun h => seqs [fincSat (sb c h) SCB.COLL_CNT_COUNT 1, raise (sb c h) 6, collLeaf c (heldGrant h), collLeaf c own],
    if rest.all may then
      seqs [forP rest fun h => seqs [fincSat (sb c h) SCB.CAPTURE_CNT_COUNT 1, brxIdle c h], brxBegin c sc bond start gain corr]
    else skip] s

/-- A bin of the burst equaliser that is held at zero: beyond ±0.525 × Rs, bins being Rs / 64 apart (R279). -/
def binZero (e : Nat) : Bool := decide (34 ≤ e % 128 ∧ e % 128 ≤ 94)

/-- Taps with the held bins at zero. -/
def binTaps (l : List Word) : List Word := (List.range 512).map fun e => if binZero e then 0 else l.getD e 0

/-- Entries of the PRIOR and ANCHOR tables. -/
def priorKey (c sc e : Nat) : Nat := tabKey (sb c sc) 3 e 0
def brxAnchorKey (c sc e : Nat) : Nat := tabKey (sb c sc) 0 e 0

/-- T2 has been received: the taps fitted, or the prior ones where the fit's SNR (0.1 dB) is below TRAIN_MIN (R279). -/
def brxTrained (c sc snr : Nat) (fit : List Word) : Prog := fun s =>
  if s.bst c sc ≠ bTRAIN then [] else
  let taps := if snr < s.fg (s.brxPage c sc) SCB.BRX_TRK_TRAIN_MIN
    then (List.range 512).map fun e => s.tab (priorKey c sc e) else binTaps fit
  seqs [fset (sb c sc) SCB.BRX_STAT_BSTATE bSYNC, brxUpd (sb c sc) fun r => { r with taps := taps }] s

/-- The sync word is found with some bits differing, and the burst's start located (R278, R282); every
subcarrier that it covers has had a burst (R280). -/
def brxSync (c sc errs ago : Nat) : Prog := fun s =>
  if s.bst c sc ≠ bSYNC ∨ s.fg (s.brxPage c sc) SCB.BRX_CFG_SYNC_TOL < errs then [] else
  let start := 4 * s.ticks - ago
  seqs [fset (sb c sc) SCB.BRX_STAT_BSTATE bRECEIVE, brxUpd (sb c sc) fun r => { r with start := start, burst := true },
    forP (List.range (s.bwidth c sc - 1)) fun k => brxUpd (sb c (sc + k + 1)) fun r => { r with burst := true },
    hubUpd c fun h => { h with upBurst := true },
    match s.positional c sc (s.fg (sb c sc) SCB.BRX_STAT_WIDTH) start with
    | some q => fset (sb c sc) SCB.BRX_STAT_LEAF q.1.g.leaf
    | none => skip] s

/-- No sync within 192 symbols of the preamble's end: a false detection (R278); FALSE_HIGH beyond 100 in a second. -/
def brxFalse (c sc : Nat) : Prog := fun s =>
  let b := sb c sc
  let r := s.brx b
  let w := s.rateW c (s.fg b SCB.BRX_STAT_WIDTH)
  if (s.bst c sc ≠ bTRAIN ∧ s.bst c sc ≠ bSYNC) ∨ w * (4 * s.ticks - r.start) < 128 * w + 320 then [] else
  let late := decide (r.falseTick + 1000000000 ≤ s.ticks)
  let n := if late then 1 else r.falseN + 1
  seqs [fincSat b SCB.FALSE_CNT_COUNT 1, brxIdle c sc,
    brxUpd b fun r => { r with falseN := n, falseTick := if late then s.ticks else r.falseTick },
    if n = 101 then raise b 11 else skip] s

/-! ### Report and classification (R282) -/

/-- A start lies in the open discovery window of a subcarrier. -/
def State.inWindow (s : State) (c sc bond start : Nat) : Bool :=
  match (s.hub c).disc with
  | none => false
  | some w => w.sc == sc && bond == 0 && (match s.upAt c w.first, s.upAt c w.last with
      | some a, some z => decide (a ≤ start ∧ start < z + s.roundLen c * 65536)
      | some a, none => decide (a ≤ start)
      | _, _ => false)

/-- The report codeword is decoded from its 256 coded bits, and the burst classified. -/
def brxReport (c sc : Nat) (coded : List Bool) : Prog := fun s =>
  let b := sb c sc
  let r := s.brx b
  let bond := s.fg b SCB.BRX_STAT_WIDTH
  if s.bst c sc ≠ bRECEIVE ∨ r.assoc.isSome then [] else
  let named : Option Nat := match scField coded with
    | some i => if bitsNum (i.take 4) = 10 then some (bitsNum ((i.drop 4).take 11)) else none
    | none => none
  let pos := s.positional c sc bond r.start
  let stray : Option (Stored × Nat) := match named with
    | some l => if s.leafSt (c * 1024 + l) = nACTIVE ∧ l < 1024 then
        nearest ((s.farGrants c sc (2 ^ bond) r.start).filter fun q => q.1.g.leaf == l) r.start else none
    | none => none
  let err (a : Nat) : Int := (r.start : Int) - a
  let mismatch := fincSat b SCB.MISMATCH_CNT_COUNT 1
  let leaf (l : Nat) := fset b SCB.BRX_STAT_LEAF l
  if s.inWindow c sc bond r.start then brxIdle c sc s
  else match pos with
    | some q =>
      if named = none ∨ named = some q.1.g.leaf then
        seqs [leaf q.1.g.leaf, brxUpd b fun r => { r with assoc := some q.1.g },
          hubUpd c fun h => { h with store := h.store.map fun o => if o = q.1 then { o with hit := true } else o },
          arrival (c * 1024 + q.1.g.leaf) q.1.g.rnd q.1.g.rng (err q.2) true] s
      else match stray with
        | some t => seqs [leaf t.1.g.leaf, arrival (c * 1024 + t.1.g.leaf) t.1.g.rnd t.1.g.rng (err t.2) false,
            fincSat b SCB.STRAY_CNT_COUNT 1, raise b 7, mismatch, brxIdle c sc] s
        | none => seqs [leaf (named.getD 0), mismatch, brxIdle c sc] s
    | none => match stray with
      | some t => seqs [leaf t.1.g.leaf, arrival (c * 1024 + t.1.g.leaf) t.1.g.rnd t.1.g.rng (err t.2) false,
          fincSat b SCB.STRAY_CNT_COUNT 1, raise b 7, brxIdle c sc] s
      | none => seqs [match named with | some l => leaf l | none => skip,
          fincSat b SCB.UNASSOC_CNT_COUNT 1, brxIdle c sc] s

/-- An associated burst has passed its end marker, found with some bits differing, or its grant's end; the taps it
ended with become the prior ones (R278, R280). -/
def brxClose (c sc errs : Nat) (final : List Word) (f : BurstFigures) : Prog := fun s =>
  let b := sb c sc
  match (s.brx b).assoc with
  | none => []
  | some g =>
    if s.bst c sc ≠ bRECEIVE then [] else
    let stored := (s.hub c).store.any fun o => o.g == g
    seqs [fincSat b SCB.BURST_CNT_COUNT 1,
      if s.fg (s.brxPage c sc) SCB.BRX_CFG_SYNC_TOL < errs then fincSat b SCB.END_ERR_CNT_COUNT 1 else skip,
      fun _ => (List.range 512).map fun e => .tabs (priorKey c sc e) ((binTaps final).getD e 0),
      cntWrap (feb c + FEC.CW_LO) f.cw, cntWrap (feb c + FEC.COR_LO) f.cor, cntWrap (feb c + FEC.UNC_LO) f.unc,
      cntWrap (feb c + FEC.ITMAX_LO) f.itmax, fincSat (feb c) FEC.OUTC_COUNT f.outer,
      if stored then hubUpd c fun h => { h with store := h.store.map fun o => if o.g = g then { o with figs := some f } else o }
      else leafFigures (c * 1024 + g.leaf) f,
      brxIdle c sc] s

/-! ### Upstream rounds (R269, R280) -/

/-- An upstream round begins at the hub's receiver: the TIA gain moves towards its level by at most one step of 0.5 dB,
if the last round had a burst; priors that have been idle for IDLE_ROUNDS leak towards their anchors. -/
def upstreamRound (c : Nat) (gain : Nat) : Prog := fun s =>
  let h := s.hub c
  let next := match h.up with
    | some k => some ((k + 1) % 2 ^ 32)
    | none => (h.starts.getLast?).map (·.1)
  match next with
  | none => []
  | some k =>
    match s.upAt c k with
    | none => []
    | some u =>
      if !h.on || !s.isHub c then [] else
      let now := s.fg (ob c) OPT.RX_STAT_GAIN
      let step := if gain < now then now - 1 else if now < gain then min 63 (now + 1) else now
      let scs := (List.range 64).filter fun sc => (h.burstGroup sc).isSome
      seqs [clockTo ((u + 3) / 4), hubUpd c fun h => { h with up := some k, upBurst := false },
        if (s.opt c).burstFreeze && h.upBurst && s.fb (ob c) OPT.TIA_CTL_AGC_EN then fset (ob c) OPT.RX_STAT_GAIN step else skip,
        forP scs fun sc => fun t =>
          let r := t.brx (sb c sc)
          let low := t.brxPage c sc
          if r.burst then brxUpd (sb c sc) (fun r => { r with idle := 0, burst := false }) t
          else seqs [brxUpd (sb c sc) fun r => { r with idle := r.idle + 1 },
            if r.idle < t.fg low SCB.BRX_TRK_IDLE_ROUNDS then skip
            else fun u => (List.range 512).map fun e =>
              .tabs (priorKey c sc e) (blendTap (u.tab (priorKey c sc e)) (u.tab (brxAnchorKey c sc e)) 1
                (2 ^ u.fg low SCB.BRX_TRK_LEAK))] t] s

/-! ### Registers -/

def scbLims : List Lim := [⟨SCB.BRX_CFG_DET_THR, 16, 255⟩, ⟨SCB.BRX_CFG_CAP_MARGIN, 1, 15⟩, ⟨SCB.BRX_CFG_SYNC_TOL, 0, 40⟩,
  ⟨SCB.BRX_TRK_IDLE_ROUNDS, 1, 255⟩, ⟨SCB.BRX_TRK_LEAK, 1, 16⟩, ⟨SCB.BRX_TRK_BMU, 6, 20⟩, ⟨SCB.ASSOC_CFG_ASSOC_FAR, 0, 8000⟩,
  ⟨SCB.ASSOC_CFG_ASSOC_WIN, 8, 1000⟩]
  ++ (List.range 7).flatMap fun d => [⟨⟨SCB.DEF_TIME d, 30, 2⟩, 0, 2⟩, ⟨⟨SCB.DEF_TIME d, 14, 2⟩, 0, 2⟩]

/-- A write of RX_SC (R288, R291, R292): a shaped format needs a valid profile; a 2-amplitude one, or the reserved
format, leaves the outcome open. In effect at the next received multiframe, at once while no stream is in frame. -/
def rxScWrite (src c sc : Nat) (r : RegRow) (v : Word) : Prog := fun s =>
  let x : Strm := ⟨c, some sc⟩
  let e := wrote v SCB.RX_SC_PROFILE
  let put (v : Word) : Prog := seqs [plainWrite x.b r [] v,
    if s.frSt x = fIF then skip else rxmUpd x.b fun r => { r with fmt := wrote v SCB.RX_SC_FORMAT }]
  if wrote v SCB.RX_SC_FORMAT = 3 then withFree (fun w => put (bitsPut v 0 2 (bitsGet w 0 2))) s
  else if wrote v SCB.RX_SC_FORMAT = 2 ∧ !s.profOk (feb c) e 0 then
    (if bitsGet (s.prof (feb c) e 0) 31 1 = 1 then withFree fun w => if w.getLsbD 0 then put v else errPage x.b r.off src cSC_PROFILE_BAD
     else errPage x.b r.off src cSC_PROFILE_BAD) s
  else put v s

/-- A write of STR_ANCHOR_CTL (R155). -/
def strAnchorWrite (src c sc : Nat) (r : RegRow) (v : Word) : Prog := fun s =>
  let x : Strm := ⟨c, some sc⟩
  seqs [if s.fb x.b x.swap.fading then swapUpd x.b fun q => { q with mode := some (wrote v SCB.STR_ANCHOR_CTL_LOAD_MODE) }
      else plainWrite x.b r [] v,
    if wroteB v SCB.STR_ANCHOR_CTL_SAVE then anchorSave x src else skip,
    if wroteB v SCB.STR_ANCHOR_CTL_SWAP_GO then strSwapReq x src (wrote v SCB.STR_ANCHOR_CTL_SWAP_BANK) else skip] s

/-- The prior taps become the anchor taps (R280). -/
def brxAnchorSave (c sc : Nat) : Prog := fun s =>
  (List.range 512).map fun e => .tabs (brxAnchorKey c sc e) (s.tab (priorKey c sc e))

/-- A write of BRX_CFG: BRX_EN of a page that is not its group's lowest, other than the lowest one's, leaves it open
whether the group's receivers follow it (R292). -/
def brxCfgWrite (c sc : Nat) (r : RegRow) (v : Word) : Prog := fun s =>
  let low := s.brxPage c sc
  seqs [plainWrite (sb c sc) r scbLims v,
    if low ≠ sb c sc ∧ wroteB v SCB.BRX_CFG_BRX_EN ≠ s.fb low SCB.BRX_CFG_BRX_EN then
      perhaps (fbset low SCB.BRX_CFG_BRX_EN (wroteB v SCB.BRX_CFG_BRX_EN)) else skip,
    brxEval c] s

/-- A write of ASSOC_CFG: ASSOC_WIN above ASSOC_FAR leaves ASSOC_WIN open (R292). -/
def assocWrite (c sc : Nat) (r : RegRow) (v : Word) : Prog :=
  if wrote v SCB.ASSOC_CFG_ASSOC_FAR < wrote v SCB.ASSOC_CFG_ASSOC_WIN then
    withFree fun w => plainWrite (sb c sc) r scbLims (bitsPut v 0 10 (bitsGet w 0 10))
  else plainWrite (sb c sc) r scbLims v

/-- A write of a SCBc.s register. -/
def scbWrite (src c sc : Nat) (r : RegRow) (v : Word) : Prog :=
  if r.off = SCB.SC_CFG then seqs [scCfgWrite src c sc r v, brxEval c]
  else if r.off = SCB.BRX_CFG then brxCfgWrite c sc r v
  else if r.off = SCB.ASSOC_CFG then assocWrite c sc r v
  else if r.off = SCB.RX_SC then rxScWrite src c sc r v
  else if r.off = SCB.ANCHOR_CTL then (if wroteB v SCB.ANCHOR_CTL_SAVE then brxAnchorSave c sc else skip)
  else if r.off = SCB.STR_ANCHOR_CTL then strAnchorWrite src c sc r v
  else plainWrite (sb c sc) r scbLims v

/-- A write of a SCBc.s table word (R290). -/
def scbTab (src c sc t e w : Nat) (v : Word) : Prog := fun s =>
  if t = 0 then
    if s.fb (s.brxPage c sc) SCB.BRX_CFG_BRX_EN then errPage (sb c sc) (oWIN_DATA w) src cANCHOR_BUSY s
    else [.tabs (brxAnchorKey c sc e) v]
  else if t = 4 then anchorWrite ⟨c, some sc⟩ src e v s
  else errPage (sb c sc) (oWIN_DATA w) src cRO_WRITE s

/-- The LO registers of a page's counters. -/
def scbCounters : List Nat := [SCB.CW_LO, SCB.UNC_LO]

/-- What a read of a SCBc.s register does beside answering. -/
def scbReadFx (c sc off : Nat) : Prog :=
  if scbCounters.contains off then cntLatch (sb c sc + off) else qualityReadFx ⟨c, some sc⟩ off

/-- The computed registers of SCBc.s. -/
def scbView (c sc : Nat) (s : State) (off : Nat) : Option Word :=
  if off = SCB.SC_STAT then some (s.scStat c sc)
  else if scbCounters.contains off then some (BitVec.ofNat 32 (s.cnt (sb c sc + off)))
  else if off = SCB.STR_ANCHOR_STAT then
    some (bitsPut (s.reg (sb c sc + off)) 4 1 (b2n (s.strStopped ⟨c, some sc⟩)))
  else none

end Sys2Proof.Machine
end

