-- ==== Sys2Proof/Machine/Cip.lean ====
section
/-!
DEFINITION. Machine/Cip.lean: line encryption: associations, key slots and their loading, rolls, units on the line, the
kitty, dKEY and dAUTH, parity and the known-answer test, on the CIPc pages (R293–R318).
-/

namespace Sys2Proof.Machine

/-- The base of CIPc. -/
def cb (c : Nat) : Nat := pageBase .cip c

def cKEY_NOT_OWNER : Nat := 0x80
def cSLOT_BUSY : Nat := 0x81
def cKEY_SHORT : Nat := 0x82
def cKEY_LONG : Nat := 0x83
def cBAD_STATE : Nat := 0x84
def cNO_NEXT : Nat := 0x85
def cNOT_HOME : Nat := 0x86
def cASSOC_ELSEWHERE : Nat := 0x87
def cSUIT_LIVE : Nat := 0x88
def cCIP_FULL : Nat := 0x89

/-- The states of a key slot (R296). -/
def tFREE : Nat := 0
def tLOADED : Nat := 1
def tARMED : Nat := 2
def tACTIVE : Nat := 3
def tDRAINING : Nat := 4
def tSPENT : Nat := 5

/-- Slot n of CIPc, association a of CIPc. -/
def State.slotAt (s : State) (c n : Nat) : SlotRec := s.slot (c * 512 + n)
def State.assocAt (s : State) (c a : Nat) : AssocRec := s.assoc (c * 256 + a)
def slotUpd (c n : Nat) (f : SlotRec → SlotRec) : Prog := fun s => [.slots (c * 512 + n) (f (s.slotAt c n))]
def assocUpd (c a : Nat) (f : AssocRec → AssocRec) : Prog := fun s => [.assocs (c * 256 + a) (f (s.assocAt c a))]
def cipUpd (c : Nat) (f : CipRec → CipRec) : Prog := fun s => [.cips c (f (s.cip c))]

/-- A slot's state, its sibling, and whether it counts as active (R297). -/
def State.slotSt (s : State) (c n : Nat) : Nat := (s.slotAt c n).st
def sibling (n : Nat) : Nat := if n % 2 = 0 then n + 1 else n - 1
def State.slotLive (s : State) (c n : Nat) : Bool := s.slotSt c n == tACTIVE || s.slotSt c n == tDRAINING

/-- The ASSOC table (R316). -/
def assocKey (c a : Nat) : Nat := tabKey (cb c) 0 a 0
def State.assocEn (s : State) (c a : Nat) : Bool := (s.tab (assocKey c a)).getLsbD 0
def State.assocDir (s : State) (c a : Nat) : Nat := bitsGet (s.tab (assocKey c a)) 1 1

/-- The associations enabled in a page. -/
def State.assocIds (s : State) (c : Nat) : List Nat := (List.range 256).filter (s.assocEn c)

/-! ### The slot state machine (R297) -/

/-- A slot enters a state; FREE holds nothing. -/
def slotTo (c n st : Nat) : Prog := slotUpd c n fun r => if st = tFREE then {} else { r with st := st }

/-- A slot that the association may no longer name: neither key index names it (R297). -/
def slotLeft (c a n : Nat) : Prog := fun s =>
  let r := s.assocAt c a
  if s.slotSt c n ≠ tACTIVE ∨ n = 2 * a + r.txKi ∨ n = 2 * a + r.rxKi then []
  else
    let recent := match (s.slotAt c n).left with
      | some t => decide (s.ticks - t < s.fg (cb c) CIP.RX_GRACE_MS * 1000000)
      | none => false
    slotTo c n (if recent then tDRAINING else tSPENT) s

/-- An enabled association with an ARMED slot and a sibling that is not ACTIVE takes that slot into use (R297). -/
def slotUse (c a : Nat) : Prog := fun s =>
  if !s.assocEn c a then [] else
  match [2 * a, 2 * a + 1].find? fun n => s.slotSt c n == tARMED && !s.slotLive c (sibling n) with
  | none => []
  | some n => seqs [slotUpd c n fun r => { r with st := tACTIVE, uctr := 0 },
      assocUpd c a fun r => { r with txKi := n % 2, rxKi := n % 2, txOld := none }] s

/-- The grace of a DRAINING slot has passed. -/
def slotGrace (c n : Nat) : Prog := fun s =>
  match (s.slotAt c n).left with
  | none => []
  | some t =>
    if s.slotSt c n = tDRAINING then seqs [clockTo (t + s.fg (cb c) CIP.RX_GRACE_MS * 1000000), slotTo c n tSPENT] s else []

/-! ### Rolls (R300, R301, R305) -/

/-- The transmitter moves to the sibling slot, which is ARMED. -/
def txMove (c a : Nat) : Prog := fun s =>
  let old := (s.assocAt c a).txKi
  let n := 2 * a + (1 - old)
  seqs [slotUpd c n fun r => { r with st := tACTIVE, uctr := 0 },
    assocUpd c a fun r => { r with txKi := 1 - old, txOld := some old, txHalt := false },
    slotLeft c a (2 * a + old), raise (cb c) 0] s

/-- The sibling of the slot that TX_KI names is ARMED. -/
def State.txNext (s : State) (c a : Nat) : Bool := s.slotSt c (2 * a + (1 - (s.assocAt c a).txKi)) == tARMED

/-- A roll is discarded for want of a sibling. -/
def rollRefuse (c : Nat) : Prog := seqs [errPage (cb c) 0 srcNone cNO_NEXT, raise (cb c) 1]

/-- KEY_ROLL_TX. -/
def keyRollTx (c a : Nat) : Prog := fun s =>
  if !s.assocEn c a then errPage (cb c) 0 srcNone cNOT_HOME s
  else if s.txNext c a then txMove c a s else rollRefuse c s

/-- KEY_ROLL_RX. -/
def keyRollRx (c a : Nat) : Prog := fun s =>
  let old := (s.assocAt c a).rxKi
  let n := 2 * a + (1 - old)
  if !s.assocEn c a then errPage (cb c) 0 srcNone cNOT_HOME s
  else if s.slotSt c n = tARMED ∨ s.slotLive c n then
    seqs [slotUpd c n fun r => { r with st := tACTIVE, uctr := if r.st = tARMED then 0 else r.uctr },
      slotUpd c (2 * a + old) fun r => { r with left := some s.ticks },
      assocUpd c a fun r => { r with rxKi := 1 - old },
      slotLeft c a (2 * a + old), raise (cb c) 0] s
  else rollRefuse c s

/-- A forced roll, or the halt of the association while no key is ARMED (R305). -/
def forceRoll (c a : Nat) : Prog := fun s =>
  if s.txNext c a then seqs [txMove c a, raise (cb c) 2] s
  else if (s.assocAt c a).txHalt then []
  else seqs [assocUpd c a fun r => { r with txHalt := true }, raise (cb c) 4] s

/-! ### Loading keys (R297, R299) -/

/-- A refused key write or command is counted and shown in KEY_STAT; `slot` where it names one. -/
def keyRefuse (c off src code : Nat) (slot : Option Nat) : Prog :=
  seqs [errPage (cb c) off src code, fset (cb c) CIP.KEY_STAT_REF_OWNER src, fset (cb c) CIP.KEY_STAT_REF_CODE code,
    match slot with
    | some n => fset (cb c) CIP.KEY_STAT_REF_SLOT n
    | none => skip]

/-- The buffered key words and the salt are cleared. -/
def keyClear (c : Nat) : Prog := cipUpd c fun _ => {}

/-- The requester holds the lock. -/
def State.keyHolder (s : State) (c src : Nat) : Bool := s.fg (cb c) CIP.CIP_LOCK_ID == src && src != 0

/-- A write of CIP_LOCK: the IDs HOST, DEALER, FIELD and ENG7 may claim it, its holder releases it. -/
def cipLockWrite (src c : Nat) (v : Word) : Prog := fun s =>
  let id := wrote v CIP.CIP_LOCK_ID
  let held := s.fg (cb c) CIP.CIP_LOCK_ID
  let may := src == 1 || src == 3 || src == 4 || src == 0x17
  if (held = 0 ∧ id = src ∧ may) ∨ (held = src ∧ held ≠ 0 ∧ id = 0) then
    seqs [fset (cb c) CIP.CIP_LOCK_ID id, keyClear c] s
  else keyRefuse c CIP.CIP_LOCK src cKEY_NOT_OWNER none s

/-- A write of KEY_DATA. -/
def keyDataWrite (src c : Nat) (v : Word) : Prog := fun s =>
  if !s.keyHolder c src then keyRefuse c CIP.KEY_DATA src cKEY_NOT_OWNER none s
  else if 8 ≤ (s.cip c).words.length then keyRefuse c CIP.KEY_DATA src cKEY_LONG none s
  else cipUpd c (fun r => { r with words := r.words ++ [v] }) s

/-- A write of KEY_SALT. -/
def keySaltWrite (src c : Nat) (v : Word) : Prog := fun s =>
  if !s.keyHolder c src then keyRefuse c CIP.KEY_SALT src cKEY_NOT_OWNER none s
  else cipUpd c (fun r => { r with salt := v }) s

/-- The key of eight words, byte 0 in bits 31:24 of the first. -/
def keyOf (l : List Word) : BitVec 256 := l.foldl (fun k w => (k <<< 32) ||| w.zeroExtend 256) 0

/-- A write of KEY_COMMIT. -/
def keyCommit (src c : Nat) (v : Word) : Prog := fun s =>
  let n := wrote v CIP.KEY_COMMIT_SLOT
  let r := s.cip c
  let st := s.slotSt c n
  if !s.keyHolder c src then keyRefuse c CIP.KEY_COMMIT src cKEY_NOT_OWNER (some n) s
  else seqs [keyClear c,
    if st = tARMED ∨ st = tACTIVE ∨ st = tDRAINING then
      seqs [keyRefuse c CIP.KEY_COMMIT src cSLOT_BUSY (some n), raise (cb c) 11]
    else if st = tSPENT then keyRefuse c CIP.KEY_COMMIT src cBAD_STATE (some n)
    else if r.words.length < 8 then keyRefuse c CIP.KEY_COMMIT src cKEY_SHORT (some n)
    else slotUpd c n fun q => { q with st := tLOADED, key := keyOf r.words, salt := r.salt, owner := src, seen := none,
                                       uctr := 0, left := none }] s

/-- The commands of KEY_CMD: 1 ARM, 2 DISARM, 3 ERASE. -/
def keyArm (src c n : Nat) : Prog := fun s =>
  if s.slotSt c n = tLOADED ∧ s.slotSt c (sibling n) ≠ tARMED then
    seqs [slotTo c n tARMED, slotUse c (n / 2),
      fun t => if t.assocEn c (n / 2) && (t.assocAt c (n / 2)).txHalt && t.txNext c (n / 2) then forceRoll c (n / 2) t else []] s
  else keyRefuse c CIP.KEY_CMD src cBAD_STATE (some n) s

def keyDisarm (src c n : Nat) : Prog := fun s =>
  if s.slotSt c n = tARMED then slotTo c n tLOADED s
  else if s.slotLive c n then seqs [keyRefuse c CIP.KEY_CMD src cSLOT_BUSY (some n), raise (cb c) 11] s
  else keyRefuse c CIP.KEY_CMD src cBAD_STATE (some n) s

def keyErase (src c n : Nat) : Prog := fun s =>
  if s.slotSt c n = tLOADED ∨ s.slotSt c n = tSPENT then slotTo c n tFREE s
  else if s.slotSt c n = tARMED ∨ s.slotLive c n then
    seqs [keyRefuse c CIP.KEY_CMD src cSLOT_BUSY (some n), raise (cb c) 11] s
  else keyRefuse c CIP.KEY_CMD src cBAD_STATE (some n) s

/-- A write of KEY_CMD; what the reserved command does is open (R318). -/
def keyCmdWrite (src c : Nat) (v : Word) : Prog := fun s =>
  let n := wrote v CIP.KEY_CMD_SLOT
  if !s.keyHolder c src then keyRefuse c CIP.KEY_CMD src cKEY_NOT_OWNER (some n) s
  else match wrote v CIP.KEY_CMD_CMD with
    | 1 => keyArm src c n s
    | 2 => keyDisarm src c n s
    | 3 => keyErase src c n s
    | _ => withFree (fun w => match w.toNat % 4 with
        | 1 => keyArm src c n
        | 2 => keyDisarm src c n
        | 3 => keyErase src c n
        | _ => skip) s

/-! ### Associations (R293) -/

/-- CIP_STAT.NASSOC and TS_USED. -/
def State.tsHomed (s : State) (c : Nat) : Nat := (s.assocIds c).foldl (fun n a => n + s.reqTs a) 0

/-- The error code with which a change of EN is refused. -/
def State.assocBad (s : State) (c a : Nat) (en : Bool) : Option Nat :=
  if (s.suit a).on then some cSUIT_LIVE
  else if !en then none
  else if (List.range 4).any fun d => d != c && s.assocEn d a then some cASSOC_ELSEWHERE
  else if 128 ≤ (s.assocIds c).length ∨ 256 < s.tsHomed c + s.reqTs a then some cCIP_FULL
  else none

/-- An association is enabled with no unit under way, or disabled with its ACTIVE and DRAINING slots SPENT. -/
def assocSet (c a : Nat) (v : Word) (en : Bool) : Prog :=
  seqs [fun _ => [.tabs (assocKey c a) (v &&& 3)],
    assocUpd c a fun r => { r with txOld := none, txHalt := false, rxSync := false, kitty := none, missTick := none, tagTicks := [],
                                   dkey := r.dkey && en, dauth := r.dauth && en, keyRun := 0, authRun := 0, txKi := if en then r.txKi else 0,
                                   rxKi := if en then r.rxKi else 0 },
    if en then slotUse c a else
      forP [2 * a, 2 * a + 1] fun n => fun s => if s.slotLive c n then slotTo c n tSPENT s else []]

/-- A write of a word of a CIPc table (R316); enabling suit B of a protection pair is open (R318). -/
def cipTab (src c t e : Nat) (v : Word) : Prog := fun s =>
  let en := v.getLsbD 0
  if t ≠ 0 then errPage (cb c) (oWIN_DATA 0) src cRO_WRITE s
  else if en = s.assocEn c e then [.tabs (assocKey c e) (v &&& 3)]
  else match s.assocBad c e en with
    | some code => errPage (cb c) (oWIN_DATA 0) src code s
    | none =>
      if en && s.pairIds.any fun p => s.pairB p == e then perhaps (assocSet c e v en) s else assocSet c e v en s

/-- A word of a CIPc table as it reads. -/
def cipTabView (s : State) (c t e : Nat) : Word :=
  if t = 0 then s.tab (assocKey c e)
  else BitVec.ofNat 32 ((s.slotAt c e).owner * 256 + s.slotSt c e)

/-! ### Units on the line (R303–R306) -/

def uMARK : Nat := 0xA63D71C5

/-- A unit header (R303). -/
def unitHeader (ver ki dir a uctr : Nat) : BitVec 128 :=
  let body := uMARK * 2 ^ 80 + (ver * 16 + ki * 8 + dir * 4) * 2 ^ 72 + a * 2 ^ 64 + uctr % 2 ^ 64
  BitVec.ofNat 128 (body * 2 ^ 16 + crc16 (bitsOf 112 body))

/-- Fields of a received header. -/
def hdrVer (h : BitVec 128) : Nat := h.toNat / 2 ^ 92 % 16
def hdrKi (h : BitVec 128) : Nat := h.toNat / 2 ^ 91 % 2
def hdrDir (h : BitVec 128) : Nat := h.toNat / 2 ^ 90 % 2
def hdrAssoc (h : BitVec 128) : Nat := h.toNat / 2 ^ 80 % 256
def hdrUctr (h : BitVec 128) : Nat := h.toNat / 2 ^ 16 % 2 ^ 64
def hdrFits (h : BitVec 128) : Bool :=
  h.toNat / 2 ^ 96 == uMARK && (hdrVer h == 1 || hdrVer h == 15) && crc16 (bitsOf 112 (h.toNat / 2 ^ 16)) == h.toNat % 2 ^ 16

/-- The IV and the additional data of a unit (R304). -/
def unitIv (salt : Word) (dir uctr : Nat) : BitVec 96 :=
  ((salt ^^^ BitVec.ofNat 32 (dir * 2 ^ 31)).zeroExtend 96 <<< 64) ||| BitVec.ofNat 96 (uctr % 2 ^ 64)
def unitAad (h : BitVec 128) : List Byte := bytesBE 14 (h.toNat / 2 ^ 16)

/-- A void unit (R306). -/
def voidUnit (c a : Nat) : Prog := fun s =>
  emit (.unit c a (unitHeader 15 (s.assocAt c a).txKi (s.assocDir c a) a 0) (List.replicate 16384 0) 0) s

/-- The engine of a carrier works on an association's units. -/
def State.unitsRun (s : State) (c a : Nat) : Bool :=
  s.live ⟨.cip, c⟩ && s.fb (cb c) CIP.CIP_CTL_ENG_EN && s.assocEn c a && (s.suit a).on

/-- A unit is sent (R300, R304–R306): `fresh` when its header lies in a TMF that starts at or after the last roll. A unit
that cannot be sent correctly is void. -/
def unitTransmit (c a : Nat) (fresh : Bool) (plain : List Byte) : Prog := fun s =>
  let r := s.assocAt c a
  let ki := if fresh then r.txKi else r.txOld.getD r.txKi
  let n := 2 * a + ki
  let q := s.slotAt c n
  if !s.unitsRun c a ∨ plain.length ≠ 16384 then []
  else seqs [if fresh then assocUpd c a fun r => { r with txOld := none } else skip,
    if r.txHalt ∨ s.fb (cb c) CIP.CIP_STAT_ENG_HALT ∨ q.st = tFREE ∨ q.st = tLOADED ∨ q.st = tARMED ∨ (q.st = tSPENT ∧ ki = r.txKi)
      then voidUnit c a
    else
      let h := unitHeader 1 ki (s.assocDir c a) a q.uctr
      let sealed' := gcmSeal q.key (unitIv q.salt (s.assocDir c a) q.uctr) (unitAad h) plain
      seqs [emit (.unit c a h sealed'.1 sealed'.2), slotUpd c n fun q => { q with uctr := q.uctr + 1 },
        if q.uctr + 1 = 2 ^ 47 then raise (cb c) 3 else skip,
        if q.uctr + 1 = 2 ^ 48 - 2 ^ 24 ∧ ki = r.txKi then forceRoll c a else skip]] s

/-! ### Reception (R302, R306–R311) -/

/-- Error fill takes the place of a unit. -/
def unitFill (c a : Nat) : Prog := seqs [emit (.errorFill c a), suitFill a true]

/-- A unit is lost, or void. -/
def unitLost (c a : Nat) : Prog := seqs [assocUpd c a fun r => { r with lost := satAdd 32 r.lost 1 }, unitFill c a]

/-- A unit is a key miss. -/
def unitMiss (c a : Nat) : Prog := fun s =>
  seqs [assocUpd c a fun r => { r with keyMiss := satAdd 32 r.keyMiss 1, missTick := some s.ticks }, unitFill c a] s

/-- A unit block comes from the line: `errored` when a suit frame it falls in was delivered errored. -/
def unitReceived (c a : Nat) (errored : Bool) (h : BitVec 128) (cipher : List Byte) (tag : BitVec 128) : Prog := fun s =>
  let r := s.assocAt c a
  let fits := hdrFits h
  let n := 2 * a + hdrKi h
  let q := s.slotAt c n
  if !s.unitsRun c a then []
  else if errored then seqs [assocUpd c a fun r => { r with rxSync := false }, unitLost c a] s
  else if !fits then assocUpd c a (fun r => { r with rxSync := false }) s
  else if hdrAssoc h ≠ a then (if r.rxSync then unitMiss c a s else [])
  else seqs [assocUpd c a fun r => { r with rxSync := true },
    if hdrVer h = 15 then unitLost c a
    else if hdrDir h = s.assocDir c a ∨ !(q.st == tACTIVE || q.st == tDRAINING || q.st == tARMED) then unitMiss c a
    else
      let o := gcmOpen q.key (unitIv q.salt (hdrDir h) (hdrUctr h)) (unitAad h) cipher
      assocUpd c a fun r => { r with kitty := some ⟨hdrKi h, q.st == tARMED, hdrUctr h, o.1, o.2 == tag⟩ }] s

/-- The tag of the unit in the kitty is verified, and the unit released or replaced (R308–R311). -/
def unitVerify (c a : Nat) : Prog := fun s =>
  let r := s.assocAt c a
  match r.kitty with
  | none => []
  | some k =>
    let n := 2 * a + k.ki
    let replay := match (s.slotAt c n).seen with
      | some u => decide (k.uctr ≤ u)
      | none => false
    seqs [assocUpd c a fun r => { r with kitty := none },
      if !k.tagOk then seqs [assocUpd c a fun r => { r with
          tagFail := satAdd 32 r.tagFail 1, tagTicks := (s.ticks :: r.tagTicks).take 65536 }, unitFill c a]
      else if replay then seqs [assocUpd c a fun r => { r with replay := satAdd 32 r.replay 1 }, unitFill c a]
      else seqs [slotUpd c n fun q => { q with seen := some k.uctr },
        if s.fb (cb c) CIP.CIP_STAT_ENG_HALT then
          seqs [assocUpd c a fun r => { r with early := satAdd 32 r.early (b2n k.early) }, unitFill c a]
        else seqs [assocUpd c a fun r => { r with units := satAdd 48 r.units 1, early := satAdd 32 r.early (b2n k.early) },
          emit (.plain c a k.plain), suitFill a false]]] s

/-! ### Defects (R311) -/

/-- The raw conditions of dKEY and dAUTH. -/
def State.keyRaw (s : State) (c a : Nat) : Bool :=
  let r := s.assocAt c a
  s.assocEn c a && (r.txHalt || !(s.slotSt c (2 * a) == tACTIVE || s.slotSt c (2 * a + 1) == tACTIVE)
    || (match r.missTick with | some t => decide (s.ticks - t ≤ 10000000) | none => false))
def State.authRaw (s : State) (c a : Nat) : Bool :=
  let win := s.fg (cb c) CIP.AUTH_CFG_AUTH_WIN * 1000000
  s.assocEn c a && decide (s.fg (cb c) CIP.AUTH_CFG_AUTH_THR <
    ((s.assocAt c a).tagTicks.filter fun t => decide (s.ticks - t ≤ win)).length)

/-- A sample of the defects of a page's associations (R202). -/
def cipSample (c : Nat) : Prog := fun s =>
  if !s.live ⟨.cip, c⟩ then [] else
  forP (s.assocIds c) (fun a => fun t =>
    let r := t.assocAt c a
    let k := integrate r.dkey (t.keyRaw c a) r.keyRun (t.reg (cb c + CIP.DEF_TIME0)).toNat
    let u := integrate r.dauth (t.authRaw c a) r.authRun (t.reg (cb c + CIP.DEF_TIME1)).toNat
    seqs [assocUpd c a fun r => { r with dkey := k.1, keyRun := k.2, dauth := u.1, authRun := u.2 },
      if k.1 = r.dkey then skip else raise (cb c) (if k.1 then 5 else 6),
      if u.1 = r.dauth then skip else raise (cb c) (if u.1 then 7 else 8)] t) s

/-! ### Faults and the known-answer test (R312, R313) -/

/-- The known-answer test starts, unless one runs. -/
def katGo (c : Nat) : Prog := fbset (cb c) CIP.CIP_STAT_KAT_RUN true

/-- A parity fault hits the unit that an association is sending or receiving. -/
def cipParity (c a : Nat) (tx : Bool) : Prog := fun s =>
  if !s.unitsRun c a then [] else
  seqs [if tx then voidUnit c a else seqs [assocUpd c a fun r => { r with kitty := none }, unitLost c a],
    fincSat (cb c) CIP.PAR_CNT_COUNT 1, raise (cb c) 9, report eCIP_PARITY (pageIsland ⟨.cip, c⟩) (cb c), katGo c] s

/-- The known-answer test ends; it classifies an error of this engine that waits for it. -/
def katDone (c : Nat) (pass : Bool) : Prog := fun s =>
  if !s.fb (cb c) CIP.CIP_STAT_KAT_RUN then [] else
  seqs [fbset (cb c) CIP.CIP_STAT_KAT_RUN false, fbset (cb c) CIP.CIP_STAT_KAT_PASS pass,
    fbset (cb c) CIP.CIP_STAT_KAT_FAIL !pass, fbset (cb c) CIP.CIP_STAT_ENG_HALT !pass, raise (cb c) 10,
    match s.waitingTest 3 fun e => e.page == cb c with
    | some q => classify q !pass
    | none => skip] s

/-! ### The key store (R315) -/

/-- What an island reset of CARc_DSP does to the cipher engine. -/
def cipIslandReset (c : Nat) : Prog := fun s =>
  seqs [keyClear c, forP (s.assocIds c) fun a => fun t =>
    seqs [if (t.assocAt c a).kitty.isSome then unitLost c a else skip,
      assocUpd c a fun r => { r with kitty := none, rxSync := false }] t] s

/-- The key store is lost: the CIP domain goes OFF, or the module is reset at a wider scope. -/
def cipLost (c : Nat) : Prog :=
  seqs [keyClear c, fset (cb c) CIP.CIP_LOCK_ID 0, rclear (cb c + CIP.DEF_TIME0), rclear (cb c + CIP.DEF_TIME1),
    fun s => (s.slots.filter fun e => e.1 / 512 == c).map fun e => .slots e.1 {},
    fun s => (s.assocs.filter fun e => e.1 / 256 == c).map fun e => .assocs e.1 {},
    fun s => (s.assocIds c).map fun a => .tabs (assocKey c a) 0]

/-- What a soft reset of the page clears: the counts; the key store stays (R314). -/
def cipSoftReset (c : Nat) : Prog := fun s =>
  .regs (cb c + CIP.PAR_CNT) 0 :: (s.assocs.filter fun e => e.1 / 256 == c).map fun e =>
    .assocs e.1 { e.2 with units := 0, tagFail := 0, lost := 0, keyMiss := 0, replay := 0, early := 0 }

/-! ### Registers -/

def cipLims : List Lim := [⟨CIP.RX_GRACE_MS, 1, 1000⟩, ⟨CIP.AUTH_CFG_AUTH_WIN, 1, 60000⟩]
  ++ [CIP.DEF_TIME0, CIP.DEF_TIME1].flatMap fun o => [⟨⟨o, 30, 2⟩, 0, 2⟩, ⟨⟨o, 14, 2⟩, 0, 2⟩]

/-- A write of a CIPc register. -/
def cipWrite (src c : Nat) (r : RegRow) (v : Word) : Prog :=
  if r.off = CIP.CIP_LOCK then cipLockWrite src c v
  else if r.off = CIP.KEY_DATA then keyDataWrite src c v
  else if r.off = CIP.KEY_SALT then keySaltWrite src c v
  else if r.off = CIP.KEY_COMMIT then keyCommit src c v
  else if r.off = CIP.KEY_CMD then keyCmdWrite src c v
  else if r.off = CIP.CIP_CTL then
    seqs [fset (cb c) CIP.CIP_CTL_ENG_EN (wrote v CIP.CIP_CTL_ENG_EN), if wroteB v CIP.CIP_CTL_KAT_GO then katGo c else skip]
  else plainWrite (cb c) r cipLims v

/-- The 48-bit counts of the selected association: a read of the low word latches the high one (R315). -/
def cipReadFx (c off : Nat) : Prog := fun s =>
  let a := s.fg (cb c) CIP.ASSOC_SEL_ID
  let r := s.assocAt c a
  if off = CIP.TX_UCTR_LO then rset (cb c + CIP.TX_UCTR_HI) (BitVec.ofNat 32 ((s.slotAt c (2 * a + r.txKi)).uctr / 2 ^ 32)) s
  else if off = CIP.UNIT_LO then rset (cb c + CIP.UNIT_HI) (BitVec.ofNat 32 (r.units / 2 ^ 32)) s
  else []

/-- The computed registers of CIPc. -/
def cipView (c : Nat) (s : State) (off : Nat) : Option Word :=
  let a := s.fg (cb c) CIP.ASSOC_SEL_ID
  let r := s.assocAt c a
  let uctr := (s.slotAt c (2 * a + r.txKi)).uctr
  let sum (i : Nat) (f : AssocRec → Bool) : Word :=
    BitVec.ofNat 32 ((List.range 32).foldl (fun n j => n + b2n (f (s.assocAt c (32 * i + j))) * 2 ^ j) 0)
  if off = CIP.KEY_STAT then some (bitsPut (s.reg (cb c + off)) 0 4 (s.cip c).words.length)
  else if off = CIP.CIP_STAT then
    some (bitsPut (bitsPut (s.reg (cb c + off)) 16 9 (s.tsHomed c)) 8 8 (s.assocIds c).length)
  else if off = CIP.ASSOC_STAT then
    some (BitVec.ofNat 32 (b2n r.txHalt * 256 + b2n (decide (2 ^ 47 ≤ uctr)) * 128 + b2n (s.authRaw c a) * 64
      + b2n (s.keyRaw c a) * 32 + b2n r.dauth * 16 + b2n r.dkey * 8 + b2n r.rxSync * 4 + r.rxKi * 2 + r.txKi))
  else if off = CIP.TX_UCTR_LO then some (BitVec.ofNat 32 uctr)
  else if off = CIP.UNIT_LO then some (BitVec.ofNat 32 r.units)
  else if off = CIP.TAG_FAIL_CNT then some (BitVec.ofNat 32 r.tagFail)
  else if off = CIP.LOST_CNT then some (BitVec.ofNat 32 r.lost)
  else if off = CIP.KEY_MISS_CNT then some (BitVec.ofNat 32 r.keyMiss)
  else if off = CIP.REPLAY_CNT then some (BitVec.ofNat 32 r.replay)
  else if off = CIP.EARLY_CNT then some (BitVec.ofNat 32 r.early)
  else (List.range 8).findSome? fun i =>
    if off = CIP.KEY_SUM i then some (sum i (·.dkey)) else if off = CIP.AUTH_SUM i then some (sum i (·.dauth)) else none

end Sys2Proof.Machine
end

