-- ==== Sys2Proof/Machine/Eth.lean ====
section
/-!
DEFINITION. Machine/Eth.lean: host lanes and ports: lane enables, link training, ports and their alignment, RS-FEC
windows, FlexE and FlexO groups, egress timestamps, on the HSLq and ETHp pages (R319–R338).
-/

namespace Sys2Proof.Machine

/-- The bases of HSLq and ETHp. -/
def hsb (q : Nat) : Nat := pageBase .hsl q
def etb (p : Nat) : Nat := pageBase .eth p

def cRATE_MIX : Nat := 0x80
def cLANE_IN_PORT : Nat := 0x81
def cTRAIN_ON : Nat := 0x82
def cPORT_ALIGN : Nat := 0x90
def cRATE_BAD : Nat := 0x91
def cLANE_TAKEN : Nat := 0x92
def cPORT_LIVE : Nat := 0x93
def cSUIT_SHORT : Nat := 0x94
def cCAL_ACTIVE : Nat := 0x95
def cFLEXO_SIZE : Nat := 0x96

/-! ### Lanes and ports (R319, R323) -/

/-- A lane's enable and rate. -/
def State.laneEn (s : State) (l : Nat) : Bool := s.fb (hsb (l / 4)) (HSL.LANE_CTL_EN (l % 4))
def State.laneRate (s : State) (l : Nat) : Nat := s.fg (hsb (l / 4)) (HSL.LANE_CTL_RATE (l % 4))

/-- The lanes of a port type at a lane rate, where the table of R323 gives them. -/
def portLanes (type rate : Nat) : Option Nat :=
  match rate, type with
  | 0, 0 | 0, 4 => some 1
  | 0, 1 | 0, 5 => some 2
  | 0, 2 => some 4
  | 0, 3 => some 8
  | 1, 0 | 1, 4 => some 2
  | 1, 1 | 1, 5 => some 4
  | 1, 2 => some 8
  | 2, 6 => some 4
  | _, _ => none

/-- An enabled port; its type; the number of its lanes. -/
def State.portEn (s : State) (p : Nat) : Bool := s.fb (etb p) ETH.PORT_CFG_EN
def State.portType (s : State) (p : Nat) : Nat := s.fg (etb p) ETH.PORT_CFG_TYPE
def State.portN (s : State) (p : Nat) : Nat := (portLanes (s.portType p) (s.laneRate p)).getD 1

/-- The enabled port that holds a lane. -/
def State.laneOwner (s : State) (l : Nat) : Option Nat :=
  (List.range 48).find? fun p => s.portEn p && decide (p ≤ l ∧ l < p + s.portN p)

/-- The clock of a lane's training. -/
def tTrain (l : Nat) : Nat := hsb (l / 4) + l % 4

/-- A lane's training runs while its conditions hold: it starts with them and stops with them (R322). -/
def trainEval (l : Nat) (was : Bool) : Prog := fun s =>
  let b := hsb (l / 4)
  let go := s.laneEn l && s.laneRate l == 0 && s.fb b (HSL.LANE_CTL_TRAIN_EN (l % 4)) && s.fb b (HSL.LANE_CTL_REACH (l % 4))
  if go && !was then seqs [timerStart (tTrain l), fbset b (HSL.LANE_STAT_TRAIN_DONE (l % 4)) false,
      fbset b (HSL.LANE_STAT_TRAIN_FAIL (l % 4)) false] s
  else if !go then timerStop (tTrain l) s else []

/-- A write of LANE_CTL (R319, R324, R334); what the reserved RATE does is open. -/
def laneWrite (src q i : Nat) (r : RegRow) (v : Word) : Prog := fun s =>
  let b := hsb q
  let l := 4 * q + i
  let en := wroteB v (HSL.LANE_CTL_EN i)
  let rate := wrote v (HSL.LANE_CTL_RATE i)
  let was := s.laneEn l && s.laneRate l == 0 && s.fb b (HSL.LANE_CTL_TRAIN_EN i) && s.fb b (HSL.LANE_CTL_REACH i)
  let put (v : Word) : Prog := seqs [plainWrite b r [] v,
    if en then skip else fun t => [.regs (b + HSL.LANE_STAT i) (t.reg (b + HSL.LANE_STAT i) &&& 0x0000000C)],
    trainEval l was]
  if (s.laneOwner l).isSome ∧ (en ≠ s.laneEn l ∨ rate ≠ s.laneRate l) then errPage b r.off src cLANE_IN_PORT s
  else if en ∧ (List.range 4).any fun j => j != i && s.laneEn (4 * q + j) && s.laneRate (4 * q + j) != rate then
    errPage b r.off src cRATE_MIX s
  else if rate = 3 then withFree (fun w => put (bitsPut v 1 2 (bitsGet w 1 2))) s
  else put v s

/-- Whether the taps of a TX_FFE word lie in their ranges (R321). -/
def ffeOk (v : Word) : Bool :=
  let a := sx 6 (bitsGet v 0 6)
  let b := sx 6 (bitsGet v 8 6)
  let c := sx 6 (bitsGet v 16 6)
  decide (-8 ≤ a ∧ a ≤ 0 ∧ -24 ≤ b ∧ b ≤ 0 ∧ -16 ≤ c ∧ c ≤ 0)

/-- A write of TX_FFE (R321, R322, R324, R338). -/
def ffeWrite (src q i : Nat) (r : RegRow) (v : Word) : Prog := fun s =>
  let l := 4 * q + i
  if (s.laneOwner l).isSome then errPage (hsb q) r.off src cLANE_IN_PORT s
  else if s.running (tTrain l) then errPage (hsb q) r.off src cTRAIN_ON s
  else if ffeOk v then plainWrite (hsb q) r [] v s
  else withFree (fun w => plainWrite (hsb q) r [] w) s

/-- Training ends; the far end's requests have set the taps (R322). -/
def trainDone (l : Nat) (ffe : Word) : Prog := fun s =>
  let b := hsb (l / 4)
  if !s.running (tTrain l) then [] else
  seqs [timerStop (tTrain l), fun t => [.regs (b + HSL.TX_FFE (l % 4)) ((t.reg (b + HSL.TX_FFE (l % 4)) &&& 0xFFC0C0C0) ||| (ffe &&& 0x003F3F3F))],
    fbset b (HSL.LANE_STAT_TRAIN_DONE (l % 4)) true, raise b (4 + l % 4)] s

/-- Training has not ended within 500 ms. -/
def trainFail (l : Nat) (ffe : Word) : Prog := fun s =>
  let b := hsb (l / 4)
  if !s.running (tTrain l) then [] else
  seqs [clockEnd (tTrain l) 500000000, timerStop (tTrain l),
    fun t => [.regs (b + HSL.TX_FFE (l % 4)) ((t.reg (b + HSL.TX_FFE (l % 4)) &&& 0xFFC0C0C0) ||| (ffe &&& 0x003F3F3F))],
    fbset b (HSL.LANE_STAT_TRAIN_FAIL (l % 4)) true, raise b (8 + l % 4)] s

/-- A lane's receiver loses or regains lock; its other status comes with it (R334). -/
def cdrLock (l : Nat) (lock sig adapted : Bool) (snr : Nat) : Prog := fun s =>
  let b := hsb (l / 4)
  let i := l % 4
  if !s.live ⟨.hsl, l / 4⟩ ∨ !s.laneEn l then [] else
  seqs [if s.fb b (HSL.LANE_STAT_CDR_LOCK i) && !lock then seqs [fincSat b (HSL.LOL_CNT_COUNT i) 1, raise b i] else skip,
    fbset b (HSL.LANE_STAT_CDR_LOCK i) lock, fbset b (HSL.LANE_STAT_SIG_DET i) sig,
    fbset b (HSL.LANE_STAT_ADAPTED i) adapted, fset b (HSL.LANE_STAT_SNR i) snr] s

/-- A quad's transmit PLL loses or regains lock. -/
def pllLock (q : Nat) (lock : Bool) : Prog := fun s =>
  if !s.live ⟨.hsl, q⟩ then [] else
  seqs [if s.fb (hsb q) HSL.QUAD_STAT_PLL_LOCK && !lock then raise (hsb q) 12 else skip,
    fbset (hsb q) HSL.QUAD_STAT_PLL_LOCK lock] s

/-- A write of a HSLq register. -/
def hslWrite (src q : Nat) (r : RegRow) (v : Word) : Prog := fun s =>
  match (List.range 4).find? fun i => r.off == HSL.LANE_CTL i || r.off == HSL.TX_FFE i with
  | some i => if r.off = HSL.LANE_CTL i then laneWrite src q i r v s else ffeWrite src q i r v s
  | none => plainWrite (hsb q) r [] v s

/-- The computed registers of HSLq: the main tap. -/
def hslView (q : Nat) (s : State) (off : Nat) : Option Word :=
  (List.range 4).findSome? fun i =>
    if off = HSL.TX_FFE i then
      let v := s.reg (hsb q + off)
      let m := 64 + sx 6 (bitsGet v 0 6) + sx 6 (bitsGet v 8 6) + sx 6 (bitsGet v 16 6)
      some (bitsPut v 24 7 (tc 7 m))
    else none

/-! ### Ports (R324, R326) -/

/-- The least TS of a client of a nominal rate in Gb/s (R326). -/
def tsMin (rate : Nat) : Nat := (rate * 257 * 10001 + 1953 * 256 + 12 * 2560000 + 5 * 256000 - 1) / (12 * 2560000 + 5 * 256000)

/-- The nominal rate of an Ethernet port type. -/
def portRate (type : Nat) : Nat := match type with
  | 0 => 200
  | 1 => 400
  | 2 => 800
  | _ => 1600

/-- The error code with which enabling a port with a PORT_CFG word is refused (R324). -/
def State.portBad (s : State) (p : Nat) (v : Word) : Option Nat :=
  let type := wrote v ETH.PORT_CFG_TYPE
  match portLanes type (s.laneRate p) with
  | none => some cRATE_BAD
  | some n =>
    if p % n ≠ 0 ∨ 48 < p + n then some cPORT_ALIGN
    else if !((List.range n).all fun j => s.laneEn (p + j) && s.laneRate (p + j) == s.laneRate p) then some cRATE_BAD
    else if (List.range n).any fun j => (s.laneOwner (p + j)).isSome then some cLANE_TAKEN
    else if type ≤ 3 ∧ wroteB v ETH.PORT_CFG_MAP ∧ s.suitIds.any fun i =>
        bitsGet (s.suitW i 0) 4 2 == 0 && bitsGet (s.suitW i 0) 8 8 == p && decide (s.reqTs i < tsMin (portRate type)) then
      some cSUIT_SHORT
    else none

/-- A write of PORT_CFG (R324); the reserved TYPE leaves open whether the port is enabled. -/
def portWrite (src p : Nat) (r : RegRow) (v : Word) : Prog := fun s =>
  let put := plainWrite (etb p) r [] v
  if s.portEn p then
    if wroteB v ETH.PORT_CFG_EN then errPage (etb p) r.off src cPORT_LIVE s
    else seqs [put, fun t => [.regs (etb p + ETH.PORT_STAT) (t.reg (etb p + ETH.PORT_STAT) &&& ~~~0x2FF)]] s
  else if !wroteB v ETH.PORT_CFG_EN then put s
  else if wrote v ETH.PORT_CFG_TYPE = 7 then perhaps put s
  else match s.portBad p v with
    | some code => errPage (etb p) r.off src code s
    | none => put s

/-- A port's alignment changes: codeword lock, alignment-marker lock and deskew of its lanes (R325, R327). -/
def alignChange (p : Nat) (block am deskew : Bool) : Prog := fun s =>
  let b := etb p
  let up := block && am && deskew
  let was := s.fb b ETH.PORT_STAT_LINK_UP
  if !s.live ⟨.eth, p⟩ ∨ !s.portEn p then [] else
  seqs [fbset b ETH.PORT_STAT_BLOCK_LOCK block, fbset b ETH.PORT_STAT_AM_LOCK am, fbset b ETH.PORT_STAT_DESKEW_OK deskew,
    fbset b ETH.PORT_STAT_LINK_UP up,
    if up && !was then raise b 0 else if was && !up then raise b 1 else skip] s

/-- A port begins or stops receiving local fault, or remote fault. -/
def faultReceived (p : Nat) (remote on : Bool) : Prog := fun s =>
  let b := etb p
  let f := if remote then ETH.PORT_STAT_RX_RF else ETH.PORT_STAT_RX_LF
  if !s.live ⟨.eth, p⟩ ∨ !s.portEn p then [] else
  seqs [if on && !s.fb b f then raise b (if remote then 3 else 2) else skip, fbset b f on] s

/-- A millisecond of a port's RS-FEC: symbol errors, corrected symbols, corrected and uncorrectable codewords (R328). -/
def fecWindow (p sym corSym cor unc : Nat) : Prog := fun s =>
  let b := etb p
  let hi := decide (5560 < sym)
  let deg := decide (s.fg b ETH.FEC_DEG_CFG_THR < corSym)
  if !s.live ⟨.eth, p⟩ ∨ !s.portEn p then [] else
  seqs [cntAdd (b + ETH.COR_LO) cor, cntAdd (b + ETH.UNC_LO) unc, cntAdd (b + ETH.SYM_LO) sym,
    if hi && !s.fb b ETH.PORT_STAT_HI_SER then raise b 4 else skip, fbset b ETH.PORT_STAT_HI_SER hi,
    if deg && !s.fb b ETH.PORT_STAT_FEC_DEGRADED then raise b 5 else skip, fbset b ETH.PORT_STAT_FEC_DEGRADED deg] s

/-! ### FlexE and FlexO (R329, R330, R336) -/

def flexKey (t e w : Nat) : Nat := tabKey (etb 0) t e w
def State.flexEn (s : State) (g : Nat) : Bool := (s.tab (flexKey 0 g 0)).getLsbD 0
def State.flexCal (s : State) (g : Nat) : Nat := bitsGet (s.tab (flexKey 0 g 0)) 1 1

/-- The member ports of a FlexE group, and the ports of a FlexO group. -/
def State.flexPorts (s : State) (g : Nat) : List Nat :=
  (List.range 48).filter fun p => s.portEn p && (s.portType p == 4 || s.portType p == 5) && s.fg (etb p) ETH.PORT_CFG_GROUP == g
def State.flexoPorts (s : State) (g : Nat) : List Nat :=
  (List.range 48).filter fun p => s.portEn p && s.portType p == 6 && s.fg (etb p) ETH.PORT_CFG_GROUP == g

/-- A write of a FLEXE_GRP word: SWITCH starts the calendar switch protocol, which bit 2 of the stored word marks until
the switch. -/
def flexGrpTab (g w : Nat) (v : Word) : Prog := fun s =>
  let old := s.tab (flexKey 0 g 0)
  if w = 1 then [.tabs (flexKey 0 g 1) (v &&& 0xFF)]
  else [.tabs (flexKey 0 g 0) ((v &&& 0x000FFF05) ||| (old &&& 0x6))]

/-- A write of a FLEXO_GRP entry (R330): an enable is checked; overlapping quads leave it open (R338). -/
def flexoTab (src e : Nat) (v : Word) : Prog := fun s =>
  let k := bitsGet v 1 3 + 1
  let n := bitsGet v 16 6
  let put : Prog := fun _ => [.tabs (flexKey 3 e 0) (v &&& 0x003FFF0F)]
  let clash := (List.range 3).any fun f => f != e && (let u := s.tab (flexKey 3 f 0)
    u.getLsbD 0 && meets (bitsGet u 8 8) (bitsGet u 1 3 + 1) (bitsGet v 8 8) k)
  if !v.getLsbD 0 then put s
  else if n < 4 * k - 3 ∨ 4 * k < n ∨ 30 < n then errPage (etb 0) (oWIN_DATA 0) src cFLEXO_SIZE s
  else if clash then perhaps put s else put s

/-- A write of a word of an ETH0 table. -/
def ethTab (src t e w : Nat) (v : Word) : Prog := fun s =>
  if t = 0 then flexGrpTab e w v s
  else if t = 1 then
    let g := e % 5120 / 640
    if s.flexEn g ∧ e / 5120 = s.flexCal g then errPage (etb 0) (oWIN_DATA 0) src cCAL_ACTIVE s
    else [.tabs (flexKey 1 e 0) (v &&& 0xFF)]
  else if t = 2 then [.tabs (flexKey 2 e 0) (v &&& 0xF)]
  else flexoTab src e v s

/-- A word of an ETH0 table as it reads: SWITCH is write-only; a client's slots in use are those of its group's calendar. -/
def ethTabView (s : State) (t e w : Nat) : Word :=
  let v := s.tab (flexKey t e w)
  if t = 0 ∧ w = 0 then v &&& ~~~4
  else if t = 2 then
    let g := bitsGet v 1 3
    let n := ((List.range 640).filter fun k => (s.tab (flexKey 1 (s.flexCal g * 5120 + g * 640 + k) 0)).toNat == e).length
    bitsPut v 8 8 n
  else v

/-- The calendar of a group switches at the overhead multiframe that the protocol names (R329). -/
def calSwitch (g : Nat) : Prog := fun s =>
  let w := s.tab (flexKey 0 g 0)
  if !(w.getLsbD 0 && w.getLsbD 2) then [] else
  seqs [fun _ => [.tabs (flexKey 0 g 0) (bitsPut w 1 2 (1 - s.flexCal g))], forP (s.flexPorts g) fun p => raise (etb p) 8] s

/-! ### Timestamps (R332, R333) -/

/-- An egress timestamp enters its port's FIFO, or is dropped. -/
def stampPush (p : Nat) (e : Stamp) : Prog := fun s =>
  if 64 ≤ (s.stamp p).length then seqs [fincSat (etb p) ETH.TS_DROP_CNT_COUNT 1, raise (etb p) 7] s
  else seqs [fun t => [.stamps p (t.stamp p ++ [e])], raise (etb p) 6] s

/-- The read of TS_POP pops the oldest entry and latches its time. -/
def stampPop (p : Nat) : Prog := fun s =>
  match s.stamp p with
  | [] => []
  | e :: l => [.stamps p l, .regs (etb p + ETH.TS_NS_LO) (e.time.extractLsb' 16 32),
      .regs (etb p + ETH.TS_NS_HI) (e.time.extractLsb' 48 32), .regs (etb p + ETH.TS_FRAC) (e.time.extractLsb' 0 16 |>.zeroExtend 32)]

/-! ### Registers -/

/-- A write of an ETHp register; the reserved values of TRANSPORT are open: 0 selects nothing, and any set of the three is
defined. -/
def ethWrite (src p : Nat) (r : RegRow) (v : Word) : Prog :=
  if r.off = ETH.PORT_CFG then portWrite src p r v else plainWrite (etb p) r [] v

def ethCounters : List Nat := [ETH.COR_LO, ETH.UNC_LO, ETH.SYM_LO]

/-- What a read of an ETHp register does beside answering. -/
def ethReadFx (p off : Nat) : Prog :=
  if ethCounters.contains off then cntLatch (etb p + off) else if off = ETH.TS_POP then stampPop p else skip

/-- A port's source is in fail (R327, R329, R330): no align status, on it or on a port of its group. -/
def State.srcFail (s : State) (p : Nat) : Bool :=
  let down (q : Nat) : Bool := !s.fb (etb q) ETH.PORT_STAT_LINK_UP
  let g := s.fg (etb p) ETH.PORT_CFG_GROUP
  s.portEn p && (match s.portType p with
    | 4 | 5 => (s.flexPorts g).any down
    | 6 => (s.flexoPorts g).any down
    | _ => s.fb (etb p) ETH.PORT_CFG_MAP && down p)

/-- The computed registers of ETHp. -/
def ethView (p : Nat) (s : State) (off : Nat) : Option Word :=
  if ethCounters.contains off then some (BitVec.ofNat 32 (s.cnt (etb p + off)))
  else if off = ETH.PORT_STAT then some (bitsPut (s.reg (etb p + off)) 8 1 (b2n (s.srcFail p)))
  else if off = ETH.TS_POP then some (match s.stamp p with
    | [] => 0
    | e :: _ => BitVec.ofNat 32 (2 ^ 31 + e.msg * 2 ^ 24 + e.seq))
  else if off = ETH.TS_FILL then some (BitVec.ofNat 32 (s.stamp p).length)
  else none

end Sys2Proof.Machine
end

