-- ==== Sys2Proof/Machine/Pkt.lean ====
section
/-!
DEFINITION. Machine/Pkt.lean: classification and queues: parsing, keys, the ternary and exact tables, the slow path, the
queues with their admission and scheduling, and records on the line, on the CLS and QMG pages (R332, R333, R339–R360).
-/

namespace Sys2Proof.Machine

/-- The bases of CLS and QMG. -/
def clb : Nat := pageBase .cls 0
def qmb : Nat := pageBase .qmg 0

def cENTRY_VALID : Nat := 0x80
def cHASH_MISMATCH : Nat := 0x81
def cDUP_KEY : Nat := 0x82
def cPROF_LONG : Nat := 0x83
def cPROF_LIVE : Nat := 0x84
def cSET_ACTIVE : Nat := 0x90

/-! ### Parsing (R339–R341) -/

/-- What the parser finds in a frame. Absent numbers are 0. -/
structure Parsed where
  otag : Option Nat := none
  itag : Option Nat := none
  etype : Nat := 0
  /-- where the bytes after ETYPE begin -/
  l2 : Nat := 0
  mpls : Option Nat := none
  v4 : Bool := false
  v6 : Bool := false
  sa : Nat := 0
  da : Nat := 0
  proto : Nat := 0
  tos : Nat := 0
  l4 : Nat := 0
  sp : Nat := 0
  dp : Nat := 0
  firstFrag : Bool := false
  /-- 0, or the reason for the slow path: 1 FRAGMENT, 2 DEEP -/
  reason : Nat := 0
  deriving DecidableEq, Repr

/-- The number of `n` bytes at an offset, big-endian, where they lie wholly in the list. -/
def be? (l : List Byte) (off n : Nat) : Option Nat :=
  if off + n ≤ l.length then some (ofBytesBE ((l.drop off).take n)) else none

/-- The number of `n` bytes at an offset, 0 where they do not lie wholly in the list. -/
def be (l : List Byte) (off n : Nat) : Nat := (be? l off n).getD 0

/-- The tags and ETYPE of a frame (R340). -/
def parseL2 (l : List Byte) : Parsed :=
  let t0 := be l 12 2
  let outer := t0 == 0x8100 || t0 == 0x88A8 || t0 == 0x9100
  let inner := outer && be l 16 2 == 0x8100
  let off := if inner then 20 else if outer then 16 else 12
  let et := be l off 2
  { otag := if outer then some (be l 14 2) else none, itag := if inner then some (be l 18 2) else none,
    etype := et, l2 := off + 2,
    mpls := if et = 0x8847 ∨ et = 0x8848 then be? l (off + 2) 4 else none }

/-- TCP, UDP and SCTP have ports, which must lie in the parsed bytes (R341). -/
def parseL4 (l : List Byte) (p : Parsed) : Parsed :=
  if p.proto = 6 ∨ p.proto = 17 ∨ p.proto = 132 then
    match be? l p.l4 4 with
    | some n => { p with sp := n / 65536, dp := n % 65536 }
    | none => { p with reason := 2 }
  else p

/-- The IPv6 header walk (R340): at a next header and its offset. -/
def walkV6 (l : List Byte) : Nat → Nat → Nat → Parsed → Parsed
  | 0, _, _, p => { p with reason := 2 }
  | f + 1, nh, off, p =>
    if nh = 44 then
      match be? l off 8 with
      | none => { p with reason := 2 }
      | some h =>
        let fo := h / 2 ^ 32 % 2 ^ 16
        if fo / 8 ≠ 0 then { p with reason := 1 }
        else walkV6 l f (h / 2 ^ 56) (off + 8) { p with firstFrag := bitOf fo 0 }
    else if nh = 0 ∨ nh = 43 ∨ nh = 60 then
      match be? l off 2 with
      | none => { p with reason := 2 }
      | some h =>
        let n := (h % 256 + 1) * 8
        if off + n ≤ l.length then walkV6 l f (h / 256) (off + n) p else { p with reason := 2 }
    else parseL4 l { p with proto := nh, l4 := off }

/-- The IP header and what follows it. -/
def parseL3 (l : List Byte) (p : Parsed) : Parsed :=
  if p.etype = 0x0800 then
    let n := max 20 (be l p.l2 1 % 16 * 4)
    if p.l2 + n ≤ l.length then
      let fo := be l (p.l2 + 6) 2
      let q := { p with v4 := true, tos := be l (p.l2 + 1) 1, proto := be l (p.l2 + 9) 1,
                        sa := be l (p.l2 + 12) 4, da := be l (p.l2 + 16) 4, l4 := p.l2 + be l p.l2 1 % 16 * 4,
                        firstFrag := bitOf fo 13 && fo % 2 ^ 13 == 0 }
      if fo % 2 ^ 13 ≠ 0 then { q with reason := 1 } else parseL4 l q
    else { p with v4 := true, reason := 2 }
  else if p.etype = 0x86DD then
    if p.l2 + 40 ≤ l.length then
      walkV6 l 16 (be l (p.l2 + 6) 1) (p.l2 + 40)
        { p with v6 := true, tos := be l p.l2 2 / 16 % 256, sa := be l (p.l2 + 8) 16, da := be l (p.l2 + 24) 16 }
    else { p with v6 := true, reason := 2 }
  else p

/-- The parser on the bytes it sees. -/
def parseFrame (l3 : Bool) (l : List Byte) : Parsed :=
  let p := parseL2 l
  if l3 && p.mpls.isNone && p.etype != 0x8847 && p.etype != 0x8848 then parseL3 l p else p

/-- FLAGS (selector 18). -/
def Parsed.flags (p : Parsed) : Nat :=
  b2n p.otag.isSome + b2n p.itag.isSome * 2 + b2n p.v4 * 4 + b2n p.v6 * 8 + b2n p.mpls.isSome * 16
    + b2n (p.proto == 6 && (p.v4 || p.v6)) * 32 + b2n (p.proto == 17 && (p.v4 || p.v6)) * 64 + b2n p.firstFrag * 128

/-! ### Keys (R339, R342, R344) -/

/-- Bytes that a selector takes; how many a reserved one takes is open (R360). -/
def selSize (sel : Nat) : Nat :=
  match sel with
  | 0 => 0
  | 1 | 14 | 15 | 18 => 1
  | 2 | 3 => 6
  | 4 | 5 | 6 | 7 | 8 | 16 | 17 => 2
  | 9 | 10 | 11 => 4
  | 12 | 13 => 16
  | n => Config.openNat (0x5000 + n) % 17

/-- A selector's field, with `w` for what a reserved one holds. -/
def selField (port : Nat) (l : List Byte) (p : Parsed) (w : Word) (sel : Nat) : Nat :=
  match sel with
  | 1 => port
  | 2 => be l 0 6
  | 3 => be l 6 6
  | 4 => p.otag.getD 0
  | 5 => p.otag.getD 0 % 4096
  | 6 => p.itag.getD 0
  | 7 => p.itag.getD 0 % 4096
  | 8 => p.etype
  | 9 => p.mpls.getD 0
  | 10 => if p.v4 then p.sa else 0
  | 11 => if p.v4 then p.da else 0
  | 12 => if p.v6 then p.sa else 0
  | 13 => if p.v6 then p.da else 0
  | 14 => p.proto
  | 15 => p.tos
  | 16 => p.sp
  | 17 => p.dp
  | 18 => p.flags
  | _ => w.toNat

/-- The key of a word of a CLS table. -/
def clsKey (t e w : Nat) : Nat := tabKey clb t e w

/-- The selectors of two profile words, up to the first NONE. -/
def selectors (w0 w1 : Word) : List Nat :=
  ((List.range 8).map fun k => if k < 6 then bitsGet w0 (5 * k) 5 else bitsGet w1 (5 * (k - 6)) 5).takeWhile (· != 0)

/-- The selectors of a profile. -/
def State.profile (s : State) (f : Nat) : List Nat := selectors (s.tab (clsKey 0 f 0)) (s.tab (clsKey 0 f 1))

/-- Some profile lists a reserved selector. -/
def State.profileOpen (s : State) : Bool := (List.range 8).any fun f => (s.profile f).any fun n => decide (18 < n)

/-- The 40-byte key of a profile. -/
def State.lookupKey (s : State) (port : Nat) (l : List Byte) (p : Parsed) (w : Word) (f : Nat) : List Byte :=
  let k := (s.profile f).flatMap fun n => bytesBE (selSize n) (selField port l p w n)
  (k ++ List.replicate 40 0).take 40

/-- CRC-32C over bytes (R344). -/
def crc32c (l : List Byte) : Nat :=
  let bit (c : Nat) : Nat := if c % 2 = 1 then Nat.xor (c / 2) 0x82F63B78 else c / 2
  Nat.xor (l.foldl (fun c b => (List.range 8).foldl (fun c _ => bit c) (Nat.xor c b.toNat)) 0xFFFFFFFF) 0xFFFFFFFF

/-- The bucket of a profile and key (R344). -/
def bucketOf (f : Nat) (key : List Byte) : Nat := crc32c (BitVec.ofNat 8 f :: key) % 65536

/-! ### Entries (R343, R346, R356) -/

def State.entryValid (s : State) (t e : Nat) : Bool := (s.tab (clsKey t e 0)).getLsbD 0
def State.entryProfile (s : State) (t e : Nat) : Nat := bitsGet (s.tab (clsKey t e 0)) 1 3

/-- The bytes of an entry's words, byte 0 in bits 31:24 of the first. -/
def State.entryBytes (s : State) (t e first n : Nat) : List Byte :=
  (List.range n).flatMap fun j => bytesBE 4 (s.tab (clsKey t e (first + j))).toNat

/-- The valid entries of a table, lowest index first. -/
def State.validEntries (s : State) (t : Nat) : List Nat :=
  s.tabs.filterMap fun q => if q.1 % 16 = 0 ∧ q.1 / 2 ^ 28 = clb / 0x1000 * 8 + t ∧ q.2.getLsbD 0 then
    some (q.1 / 16 % 2 ^ 24) else none

/-- The exact entry that holds a profile and key (R344). -/
def State.exactFind (s : State) (f : Nat) (key : List Byte) : Option Nat :=
  ((List.range 4).map fun w => bucketOf f key * 4 + w).find? fun e =>
    s.entryValid 1 e && s.entryProfile 1 e == f && s.entryBytes 1 e 1 10 == key

/-- The ternary entry that matches first (R343), by the key of each profile. -/
def State.ternFind (s : State) (key : Nat → List Byte) : Option Nat :=
  (s.validEntries 2).find? fun e =>
    let k := ofBytesBE ((key (s.entryProfile 2 e)).take 20)
    let v := ofBytesBE (s.entryBytes 2 e 1 5)
    let m := ofBytesBE (s.entryBytes 2 e 6 5)
    Nat.land (Nat.xor k v) m == 0

/-- A refused table write. -/
def clsRefuse (src w code : Nat) : Prog := seqs [errPage clb (oWIN_DATA w) src code, raise clb 3]

/-- The check of setting an entry's VALID (R346). -/
def State.publishBad (s : State) (t e : Nat) (v : Word) : Option Nat :=
  if t ≠ 1 then none
  else
    let f := bitsGet v 1 3
    let key := s.entryBytes 1 e 1 10
    if bucketOf f key ≠ e / 4 then some cHASH_MISMATCH
    else if (s.exactFind f key).any (· != e) then some cDUP_KEY
    else none

/-- The writable bits of an entry's word. -/
def entryMask (w : Nat) : Word := if w = 0 then 0xF else if w = 11 then 0x1FFF01FF else 0xFFFFFFFF

/-- A write of a word of a CLS table (R342, R346). -/
def clsTab (src t e w : Nat) (v : Word) : Prog := fun s =>
  if t = 0 then
    let sel := if w = 0 then selectors v (s.tab (clsKey 0 e 1)) else selectors (s.tab (clsKey 0 e 0)) v
    if s.fb clb CLS.CLS_CTL_EN then clsRefuse src w cPROF_LIVE s
    else if 40 < (sel.map selSize).sum then clsRefuse src w cPROF_LONG s
    else [.tabs (clsKey 0 e w) (v &&& if w = 0 then 0x3FFFFFFF else 0x3FF)]
  else if t = 3 ∨ w = 12 then errPage clb (oWIN_DATA w) src cRO_WRITE s
  else
    let put : Prog := fun _ => [.tabs (clsKey t e w) (v &&& entryMask w)]
    if w = 11 then put s
    else if s.entryValid t e then (if w = 0 ∧ !v.getLsbD 0 then put s else clsRefuse src w cENTRY_VALID s)
    else if w = 0 ∧ v.getLsbD 0 then
      match s.publishBad t e v with
      | some code => clsRefuse src w code s
      | none => put s
    else put s

/-- A word of a CLS table as it reads: table 3 is the head frame of the punt queue. -/
def clsTabView (s : State) (t e w : Nat) : Word :=
  if t = 3 then
    match s.cls.punts with
    | [] => 0
    | q :: _ => BitVec.ofNat 32 (ofBytesLE ((q.bytes.drop (64 * e + 4 * w)).take 4))
  else s.tab (clsKey t e w)

/-! ### Queues (R349, R350) -/

/-- The key of a word of a QMG table. -/
def qmgKey (t e w : Nat) : Nat := tabKey qmb t e w

/-- The 64-byte units that packets take. -/
def unitsOf (l : List Packet) : Nat := (l.map fun p => (p.bytes.length + 63) / 64).sum

/-- A queue's backlog, and a set's. -/
def QueueRec.backlog (q : QueueRec) : Nat := unitsOf q.die + unitsOf q.ddr
def State.setBacklog (s : State) (g : Nat) : Nat := ((List.range 8).map fun k => (s.queue (8 * g + k)).backlog).sum

/-- The units in use on die and in the overflow region. -/
def State.dieUsed (s : State) : Nat := (s.queues.map fun q => unitsOf q.2.die).sum
def State.ovfUsed (s : State) : Nat := (s.queues.map fun q => unitsOf q.2.ddr).sum

/-- The overflow region's size in MiB: 0 with no region. -/
def State.ovfMib (s : State) : Nat := if s.regionOn 1 then s.regionLen 1 else 0

/-- Overflow is in use: a region, and OVF_EN. -/
def State.ovfOn (s : State) : Bool := s.fb qmb QMG.QMG_CTL_OVF_EN && s.ovfMib != 0

/-- Word `w` of a set's entry, and whether the set is enabled. -/
def State.setW (s : State) (g w : Nat) : Word := s.tab (qmgKey 0 g w)
def State.setEn (s : State) (g : Nat) : Bool := (s.setW g 0).getLsbD 0

/-- The queues run. -/
def State.qmgRun (s : State) : Bool := s.live ⟨.qmg, 0⟩ && s.fb qmb QMG.QMG_CTL_EN

/-- A packet is dropped at a queue. -/
def queueDrop (q : Nat) (f : Fld) : Prog := fun s =>
  .queues q { s.queue q with drop := (s.queue q).drop + 1 } :: fincSat qmb f 1 s

/-- A packet comes to a queue (R350); `ddrOk`: the overflow write finds bandwidth (R408). -/
def takePacket (q : Nat) (p : Packet) (ddrOk : Bool) : Prog := fun s =>
  let r := s.queue q
  let u := (p.bytes.length + 63) / 64
  let lim := s.tab (qmgKey 1 q 0)
  let dieRoom := decide (s.dieUsed + u ≤ 2 ^ 20)
  let ddrRoom := s.ovfOn && ddrOk && decide (s.ovfUsed + u ≤ s.ovfMib * 16384)
  let wantDie := !s.ovfOn && r.ddr.isEmpty
    || decide (unitsOf r.die < bitsGet lim 24 8 * 1024) && r.ddr.isEmpty && dieRoom
  let high (n : Nat) : Bool := decide (s.ovfMib * 16384 * 9 < n * 10)
  if !s.live ⟨.qmg, 0⟩ then []
  else if !s.qmgRun ∨ !s.setEn (q / 8) then queueDrop q QMG.DROP_OFF_COUNT s
  else if bitsGet lim 0 20 * 1024 < r.backlog + u then queueDrop q QMG.DROP_TAIL_COUNT s
  else if wantDie ∧ dieRoom then [.queues q { r with die := r.die ++ [p], enq := r.enq + 1 }]
  else if !wantDie ∧ ddrRoom then
    seqs [fun _ => [.queues q { r with ddr := r.ddr ++ [p], enq := r.enq + 1 }],
      if high (s.ovfUsed + u) && !high s.ovfUsed then raise qmb 1 else skip] s
  else seqs [queueDrop q QMG.DROP_NOBUF_COUNT, raise qmb 0] s

/-! ### The slow path (R348) -/

/-- A slow-path frame is dropped; SLOW_DROP rises at most once per second. -/
def slowDrop : Prog := fun s =>
  let late := match s.cls.dropTick with
    | none => true
    | some t => decide (t + 1000000000 ≤ s.ticks)
  seqs [fincSat clb CLS.SLOW_DROP_CNT_COUNT 1,
    if late then seqs [fun t => [.cls { t.cls with dropTick := some s.ticks }], raise clb 0] else skip] s

/-- The units of the punt queue in use, of 16,384. -/
def State.puntUnits (s : State) : Nat := (s.cls.punts.map fun q => (q.bytes.length + 63) / 64).sum

/-- A frame is sent to the slow path with a reason. -/
def slowPath (port reason : Nat) (p : Packet) : Prog := fun s =>
  let fresh := decide (s.cls.slowTick + 1000000000 ≤ s.ticks)
  let n := if fresh then 0 else s.cls.slowN
  seqs [fincSat clb CLS.SLOW_CNT_COUNT 1,
    fun t => [.cls { t.cls with slowN := n + 1, slowTick := if fresh then s.ticks else t.cls.slowTick }],
    if s.fg clb CLS.SLOW_RATE_FPS ≤ n then slowDrop
    else if !s.fb clb CLS.CLS_CTL_SLOW_TO then
      fun t => [.cls { t.cls with slow := t.cls.slow ++ [(t.cls.slowId, p)], slowId := t.cls.slowId + 1 }]
    else if s.puntUnits + (p.bytes.length + 63) / 64 ≤ 16384 then
      seqs [fun t => [.cls { t.cls with punts := t.cls.punts ++ [⟨reason, port, p.bytes⟩] }], raise clb 1]
    else seqs [slowDrop, raise clb 2]] s

/-- PUNT_POP discards the head frame; the next, if any, is ready. -/
def puntPop : Prog := fun s =>
  match s.cls.punts with
  | [] => []
  | _ :: l => .cls { s.cls with punts := l } :: (if l.isEmpty then [] else raise clb 1 s)

/-! ### Lookup (R343, R345) -/

/-- The class of an action: PCP of the outer tag with CLASS_PCP (R345). -/
def actionClass (v : Word) (p : Parsed) : Nat :=
  if v.getLsbD 5 then (match p.otag with
    | some t => t / 8192
    | none => bitsGet v 2 3)
  else bitsGet v 2 3

/-- An action word is carried out. OP = EXACT here, or a SET above 4403, leaves what happens open (R360). -/
def actionDo (port : Nat) (v : Word) (p : Parsed) (k : Packet) (ddrOk : Bool) : Prog :=
  let go (op set : Nat) : Prog :=
    if op = 0 then takePacket (set * 8 + actionClass v p) k ddrOk
    else if op = 1 then fincSat clb CLS.DROP_ACT_CNT_COUNT 1
    else slowPath port 3 k
  if bitsGet v 0 2 = 3 ∨ (bitsGet v 0 2 = 0 ∧ 4403 < bitsGet v 16 13) then
    withFree fun w => go (bitsGet w 0 16 % 3) (bitsGet w 16 16 % 4404)
  else go (bitsGet v 0 2) (bitsGet v 16 13)

/-- PORT_CFG and MISS_ACTION of a port. -/
def State.clsPort (s : State) (p : Nat) : Word := s.tab (clsKey 4 p 0)
def State.missAction (s : State) (p : Nat) : Word := s.tab (clsKey 4 p 1)

/-- A hit of an entry: its own count and the table's. -/
def entryHit (t e : Nat) (f : Fld) : Prog := fun s =>
  .tabs (clsKey t e 12) (BitVec.ofNat 32 (satAdd 32 (s.tab (clsKey t e 12)).toNat 1)) :: fincSat clb f 1 s

/-- The two-table lookup of a parsed frame. -/
def lookup (port : Nat) (l : List Byte) (p : Parsed) (k : Packet) (ddrOk : Bool) (w : Word) : Prog := fun s =>
  let key := s.lookupKey port l p w
  let exact (f : Nat) : Prog := fun t =>
    match t.exactFind f (key f) with
    | some e => seqs [entryHit 1 e CLS.HIT_EX_CNT_COUNT, actionDo port (t.tab (clsKey 1 e 11)) p k ddrOk] t
    | none => seqs [fincSat clb CLS.MISS_CNT_COUNT 1, actionDo port (t.missAction port) p k ddrOk] t
  match s.ternFind key with
  | some e =>
    let a := s.tab (clsKey 2 e 11)
    seqs [entryHit 2 e CLS.HIT_TN_CNT_COUNT,
      if bitsGet a 0 2 = 3 then exact (bitsGet a 6 3) else actionDo port a p k ddrOk] s
  | none => exact (bitsGet (s.clsPort port) 4 3) s

/-! ### Event messages of IEEE 1588 (R332, R333) -/

/-- Where the PTP message of a frame begins, if it is an event message of a selected transport (R332). -/
def State.ptpAt (s : State) (port : Nat) (l : List Byte) : Option (Nat × Parsed) :=
  let p := parseFrame true l
  let tr := s.fg (etb port) ETH.PTP_CFG_TRANSPORT
  let udp := p.reason == 0 && p.proto == 17 && p.dp == 319
  let at' : Option Nat :=
    if p.etype = 0x88F7 ∧ bitOf tr 0 then some p.l2
    else if (p.v4 ∧ udp ∧ bitOf tr 1) ∨ (p.v6 ∧ udp ∧ bitOf tr 2) then some (p.l4 + 8) else none
  match at' with
  | some o => if s.fb (etb port) ETH.PTP_CFG_TS_EN ∧ s.portType port ≤ 3 ∧ o + 34 ≤ l.length ∧ be l o 1 % 16 ≤ 3 then some (o, p) else none
  | none => none

/-- Device time corrected by a port's asymmetry (R332). -/
def State.stampAt (s : State) (asym : Nat) : BitVec 80 :=
  s.now + BitVec.ofInt 80 (sx 32 (s.reg asym).toNat)

/-- Replaces bytes of a frame from an offset. -/
def putBytes (l : List Byte) (off : Nat) (x : List Byte) : List Byte := l.take off ++ x ++ l.drop (off + x.length)

/-- The ones'-complement sum of the 16-bit words of bytes. -/
def sum16 (l : List Byte) : Nat := (List.range ((l.length + 1) / 2)).foldl (fun a i =>
  let t := a + ofBytesBE (((l ++ [0]).drop (2 * i)).take 2)
  t % 65536 + t / 65536) 0

/-- The UDP checksum after bytes of the datagram changed, as RFC 1624 updates it; 0 is sent as all ones. -/
def checksumNew (old : Nat) (was now : List Byte) : Nat :=
  let t := (65535 - old) + (65535 - sum16 was) + sum16 now
  let t := t % 65536 + t / 65536
  let t := t % 65536 + t / 65536
  if 65535 - t = 0 then 65535 else 65535 - t

/-- A Sync whose originTimestamp carries its own timestamp (R333): 48-bit seconds, 32-bit nanoseconds. -/
def syncStamped (l : List Byte) (o : Nat) (p : Parsed) (time : BitVec 80) : List Byte :=
  let ns := time.toNat / 65536
  let x := bytesBE 6 (ns / 1000000000) ++ bytesBE 4 (ns % 1000000000)
  let m := putBytes l (o + 34) x
  if p.v4 then putBytes m (o - 2) [0, 0]
  else if p.v6 then
    let odd := (o - p.l4 + 34) % 2
    let cut (q : List Byte) : List Byte := (q.drop (o + 34 - odd)).take (10 + 2 * odd)
    putBytes m (o - 2) (bytesBE 2 (checksumNew (be l (o - 2) 2) (cut l) (cut m)))
  else m

/-- A frame leaves by a host port: its event message is timestamped (R332, R333). -/
def portSend (port : Nat) (k : Packet) : Prog := fun s =>
  match s.ptpAt port k.bytes with
  | none => emit (.frame port k.bytes) s
  | some (o, p) =>
    let time := s.stampAt (etb port + ETH.TX_ASYM)
    if s.fb (etb port) ETH.PTP_CFG_ONE_STEP ∧ be k.bytes o 1 % 16 = 0 then
      emit (.frame port (if o + 44 ≤ k.bytes.length then syncStamped k.bytes o p time else k.bytes)) s
    else seqs [emit (.frame port k.bytes),
      stampPush port { msg := be k.bytes o 1 % 16, seq := be k.bytes (o + 30) 2, time := time }] s

/-! ### Ingress and the slow path's return (R339–R348, R351) -/

/-- A frame arrives at a host port with MAP = 0. -/
def frameIngress (port : Nat) (l : List Byte) (fcsOk ddrOk : Bool) : Prog := fun s =>
  let p := parseFrame ((s.clsPort port).getLsbD 0) (l.take 64)
  let k : Packet := { bytes := l, stamp := (s.ptpAt port l).map fun _ => s.stampAt (etb port + ETH.RX_ASYM) }
  if !s.live ⟨.eth, port⟩ ∨ !s.portEn port ∨ 3 < s.portType port ∨ s.fb (etb port) ETH.PORT_CFG_MAP
      ∨ !s.fb (etb port) ETH.PORT_STAT_LINK_UP ∨ !s.live ⟨.cls, 0⟩ ∨ !s.fb clb CLS.CLS_CTL_EN then []
  else if !fcsOk then (if s.live ⟨.qmg, 0⟩ then fincSat qmb QMG.DROP_FCS_COUNT 1 s else [])
  else if p.reason ≠ 0 then slowPath port p.reason k s
  else if s.profileOpen then withFree (lookup port (l.take 64) p k ddrOk) s
  else lookup port (l.take 64) p k ddrOk 0 s

/-- Cluster 6 returns a slow-path frame with an action word. -/
def slowReturn (id : Nat) (v : Word) (ddrOk : Bool) : Prog := fun s =>
  match s.cls.slow.find? fun q => q.1 == id with
  | none => []
  | some q =>
    let p := parseFrame false (q.2.bytes.take 64)
    if !s.live ⟨.cls, 0⟩ then [] else
    seqs [fun t => [.cls { t.cls with slow := t.cls.slow.filter fun x => x.1 != id }],
      if 1 < bitsGet v 0 2 then slowDrop else actionDo 0 v p q.2 ddrOk] s

/-! ### Scheduling and records (R352–R354) -/

/-- The header of a record. -/
def recordHeader (len cls : Nat) : List Byte :=
  let h := bytesBE 2 len ++ [BitVec.ofNat 8 (cls * 32), 0, 0, 0]
  h ++ bytesBE 2 (crc16 (h.flatMap fun b => bitsOf 8 b.toNat))

/-- A record: the header, the packet, zeros to a multiple of 8 bytes. -/
def recordOf (cls : Nat) (l : List Byte) : List Byte :=
  recordHeader l.length cls ++ l ++ List.replicate ((8 - l.length % 8) % 8) 0

/-- The next packet of a queue: the on-die part first (R350). -/
def QueueRec.head (q : QueueRec) : Option Packet := (q.die ++ q.ddr).head?

/-- The queue without its next packet. -/
def QueueRec.pop (q : QueueRec) : QueueRec :=
  match q.die with
  | _ :: l => { q with die := l }
  | [] => { q with ddr := q.ddr.tail }

/-- The length at the head of a class of a set, 0 when it is empty. -/
def State.headLen (s : State) (g k : Nat) : Nat :=
  match (s.queue (8 * g + k)).head with
  | some p => p.bytes.length
  | none => 0

/-- A class's weight; a weight of 0 leaves it open (R360). -/
def State.weight (s : State) (g k : Nat) : Nat :=
  let w := bitsGet (s.setW g 1) (4 * k) 4
  if w = 0 then Config.openNat 0x5100 % 15 + 1 else w

/-- Deficit round robin (R352): from the class whose turn it is, the next class served with the deficits left. What one
unit of weight is worth is open. -/
def drrGo (lens weights : List Nat) : Nat → Nat → List Nat → Nat × List Nat
  | 0, turn, defs => (turn, defs)
  | f + 1, turn, defs =>
    let n := lens.getD turn 0
    if n ≠ 0 ∧ n ≤ defs.getD turn 0 then (turn, defs.set turn (defs.getD turn 0 - n))
    else
      let t := (turn + 1) % 8
      drrGo lens weights f t (if lens.getD t 0 = 0 then defs.set t 0
        else defs.set t (defs.getD t 0 + weights.getD t 1 * (Config.openNat 0x5101 % 9216 + 1)))

/-- The class a set serves next, and its round robin after that. -/
def State.classNext (s : State) (g : Nat) : Option (Nat × SchedRec) :=
  let r := s.sched g
  let busy := (List.range 8).filter fun k => s.headLen g k != 0
  let sp := busy.filter fun k => bitOf (bitsGet (s.setW g 0) 8 8) k
  let rr := busy.filter fun k => !bitOf (bitsGet (s.setW g 0) 8 8) k
  match sp.getLast?, rr with
  | some k, _ => some (k, r)
  | none, [] => none
  | none, [k] => some (k, { r with turn := k, deficits := [] })
  | none, _ =>
    let lens := (List.range 8).map fun k => if rr.contains k then s.headLen g k else 0
    let d := (r.deficits ++ List.replicate 8 0).take 8
    let (k, d) := drrGo lens ((List.range 8).map (s.weight g)) (8 * 9217) r.turn d
    some (k, { r with turn := k, deficits := d })

/-- The shaper's tokens at this instant, in 1/800 of a byte: RATE gives RATE of them a nanosecond (R352, R358). -/
def State.tokensNow (s : State) (g : Nat) : Nat :=
  let b := bitsGet (s.setW g 2) 20 12
  let cap := (if b = 0 then Config.openNat 0x5102 else b) * 1024 * 800
  min cap ((s.sched g).tokens + bitsGet (s.setW g 2) 0 18 * (s.ticks - (s.sched g).tick))

/-- Whether the shaper passes a packet of `n` bytes. -/
def State.shaperOk (s : State) (g n : Nat) : Bool :=
  bitsGet (s.setW g 2) 0 18 == 0 || decide (n * 800 ≤ s.tokensNow g)

/-- A set's scheduler decides: a packet as a record on the line or as a frame at its port, or idle records. -/
def schedDecide (g : Nat) : Prog := fun s =>
  let idle : Prog := if g < 4356 then emit (.record g (recordHeader 0 0)) else skip
  if !s.qmgRun ∨ 4404 ≤ g then []
  else if !s.setEn g then idle s
  else match s.classNext g with
    | none => idle s
    | some (k, r) =>
      match (s.queue (8 * g + k)).head with
      | none => idle s
      | some p =>
        let n := p.bytes.length
        if !s.shaperOk g n then idle s
        else
          let r := if bitsGet (s.setW g 2) 0 18 = 0 then r
            else { r with tokens := s.tokensNow g - n * 800, tick := s.ticks }
          seqs [fun t => [.queues (8 * g + k) (t.queue (8 * g + k)).pop, .scheds g r],
            if g < 4356 then emit (.record g (recordOf k p.bytes)) else portSend (g - 4356) p] s

/-- A record header that checks: HCRC, and a LEN of 0 or 60–9,216. -/
def headerOk (l : List Byte) : Bool :=
  decide (8 ≤ l.length) && crc16 ((l.take 6).flatMap fun b => bitsOf 8 b.toNat) == be l 6 2
    && (be l 0 2 == 0 || decide (60 ≤ be l 0 2 ∧ be l 0 2 ≤ 9216))

/-- A new hunt of a stream. -/
def newHunt (g : Nat) : Prog := fun s =>
  seqs [fun t => [.scheds g { t.sched g with sync := false }], fincSat qmb QMG.RX_HUNT_CNT_COUNT 1, raise qmb 3] s

/-- A complete packet is delivered to RX_SET × 8 + CLASS; an RX_SET that names no set or the upstream set of a carrier not
in LEAF leaves it open (R360). -/
def recordDeliver (g cls : Nat) (l : List Byte) (ddrOk : Bool) : Prog := fun s =>
  let d := bitsGet (s.setW g 0) 16 13
  if 4403 < d then withFree (fun w => takePacket (w.toNat % 35232) { bytes := l } ddrOk) s
  else if 4352 ≤ d ∧ d < 4356 ∧ s.modeNow (d - 4352) ≠ mLEAF then perhaps (takePacket (d * 8 + cls) { bytes := l } ddrOk) s
  else takePacket (d * 8 + cls) { bytes := l } ddrOk s

/-- The bytes at the position where a stream looks for its next record (R354); `errored`: some of them come from errored
data; `next`: a second valid header follows where the first implies it. -/
def recordReceived (g : Nat) (l : List Byte) (errored next ddrOk : Bool) : Prog := fun s =>
  let n := be l 0 2
  let take : Prog :=
    if n = 0 then skip
    else if errored ∨ l.length < 8 + n then
      seqs [fincSat qmb QMG.ABORT_CNT_COUNT 1, raise qmb 2, newHunt g]
    else recordDeliver g (be l 2 1 / 32) ((l.drop 8).take n) ddrOk
  if !s.qmgRun ∨ 4356 ≤ g then []
  else if (s.sched g).sync then
    (if headerOk l then (if n = 0 ∧ errored then newHunt g s else take s) else newHunt g s)
  else if headerOk l ∧ next ∧ !errored then
    seqs [fun t => [.scheds g { t.sched g with sync := true }], take] s
  else []

/-! ### Registers -/

/-- FLUSH.GO discards every packet of a set. -/
def flushSet (g : Nat) : Prog := fun s =>
  if 4404 ≤ g then [] else
  let n := ((List.range 8).map fun k => (s.queue (8 * g + k)).die.length + (s.queue (8 * g + k)).ddr.length).sum
  seqs [forP (List.range 8) fun k t => [.queues (8 * g + k) { t.queue (8 * g + k) with die := [], ddr := [] }],
    fincSat qmb QMG.FLUSH_CNT_COUNT n] s

/-- A write of a CLS register. -/
def clsWrite (r : RegRow) (v : Word) : Prog := fun s =>
  let p := s.fg clb CLS.PORT_SEL_PORT
  if r.off = CLS.PORT_CFG then [.tabs (clsKey 4 p 0) (v &&& 0x71)]
  else if r.off = CLS.MISS_ACTION then [.tabs (clsKey 4 p 1) v]
  else if r.off = CLS.PUNT_POP then (if wroteB v CLS.PUNT_POP_POP then puntPop s else [])
  else plainWrite clb r [⟨CLS.PORT_SEL_PORT, 0, 47⟩, ⟨CLS.SLOW_RATE_FPS, 1, 16777215⟩] v s

/-- The computed registers of CLS. -/
def clsView (s : State) (off : Nat) : Option Word :=
  let p := s.fg clb CLS.PORT_SEL_PORT
  if off = CLS.PORT_CFG then some (s.clsPort p)
  else if off = CLS.MISS_ACTION then some (s.missAction p)
  else if off = CLS.EX_USED then some (BitVec.ofNat 32 (s.validEntries 1).length)
  else if off = CLS.TERN_USED then some (BitVec.ofNat 32 (s.validEntries 2).length)
  else if off = CLS.PUNT_STAT then some (match s.cls.punts with
    | [] => 0
    | q :: _ => BitVec.ofNat 32 (2 ^ 31 + q.reason * 2 ^ 28 + q.port * 2 ^ 16 + q.bytes.length))
  else if off = CLS.PUNT_FILL then some (BitVec.ofNat 32 ((s.puntUnits + 15) / 16))
  else none

/-- A soft reset of CLS empties the punt queue and what it holds for cluster 6. -/
def clsSoftReset : Prog := fun _ => [.cls {}]

/-- A write of a word of a QMG table (R358); fields out of range are open (R360). -/
def qmgTab (src t e w : Nat) (v : Word) : Prog := fun s =>
  if t = 0 then
    let old := s.setW e 0
    if w = 0 then
      if old.getLsbD 0 ∧ bitsGet v 16 13 ≠ bitsGet old 16 13 then errPage qmb (oWIN_DATA 0) src cSET_ACTIVE s
      else [.tabs (qmgKey 0 e 0) (v &&& 0x1FFFFF01)]
    else [.tabs (qmgKey 0 e w) (if w = 2 then v &&& 0xFFF3FFFF else v)]
  else if w ≠ 0 then errPage qmb (oWIN_DATA w) src cRO_WRITE s
  else if bitsGet v 0 20 = 0 ∨ bitsGet v 24 8 = 0 then
    withFree (fun u => fun _ => [.tabs (qmgKey 1 e 0) (bitsPut (bitsPut (v &&& 0xFF0FFFFF) 0 20
      (if bitsGet v 0 20 = 0 then bitsGet u 0 20 else bitsGet v 0 20)) 24 8
      (if bitsGet v 24 8 = 0 then bitsGet u 24 8 else bitsGet v 24 8))]) s
  else [.tabs (qmgKey 1 e 0) (v &&& 0xFF0FFFFF)]

/-- A word of a QMG table as it reads. -/
def qmgTabView (s : State) (t e w : Nat) : Word :=
  if t = 1 ∧ w = 1 then BitVec.ofNat 32 (s.queue e).backlog
  else if t = 1 ∧ w = 2 then BitVec.ofNat 32 (min (s.queue e).enq (2 ^ 32 - 1))
  else if t = 1 ∧ w = 3 then BitVec.ofNat 32 (min (s.queue e).drop (2 ^ 32 - 1))
  else s.tab (qmgKey t e w)

/-- A write of a QMG register. -/
def qmgWrite (r : RegRow) (v : Word) : Prog :=
  if r.off = QMG.FLUSH then (if wroteB v QMG.FLUSH_GO then flushSet (wrote v QMG.FLUSH_SET) else skip)
  else plainWrite qmb r [⟨QMG.SET_SEL_SET, 0, 4403⟩] v

/-- The computed registers of QMG. -/
def qmgView (s : State) (off : Nat) : Option Word :=
  if off = QMG.BUF_STAT then some (BitVec.ofNat 32 ((s.dieUsed + 63) / 64))
  else if off = QMG.OVF_STAT then some (BitVec.ofNat 32 ((s.ovfUsed + 16383) / 16384))
  else if off = QMG.OVF_SIZE then some (BitVec.ofNat 32 s.ovfMib)
  else if off = QMG.SET_BKLOG then some (BitVec.ofNat 32 (s.setBacklog (s.fg qmb QMG.SET_SEL_SET)))
  else none

end Sys2Proof.Machine
end

