-- ==== Sys2Proof/Machine/Sns.lean ====
section
/-!
DEFINITION. Machine/Sns.lean: line sensing: streams and presets, coefficient banks, detectors, the archive with its
freezes, and readout, on the SNS page (R361–R380).
-/

namespace Sys2Proof.Machine

/-- The base of SNS. -/
def ssb : Nat := pageBase .sns 0

def cSNS_BANK_BUSY : Nat := 0x80
def cSNS_SWAP_LIVE : Nat := 0x81
def cSNS_NO_REGION : Nat := 0x82
def cFRZ_STATE : Nat := 0x83
def cRD_RANGE : Nat := 0x84
def cDET_ACTIVE : Nat := 0x85

/-- The key of a word of a SNS table. -/
def snsKey (t e w : Nat) : Nat := tabKey ssb t e w

/-! ### Presets and streams (R362–R364, R371) -/

/-- A preset's period and group delay in ns (R363). -/
def presetNs (p : Nat) : Nat := match p with
  | 0 => 500
  | 1 => 50000
  | 2 => 500000
  | _ => 1000000000
def presetDelay (p : Nat) : Nat := match p with
  | 0 => 8000
  | 1 => 800000
  | 2 => 8000000
  | _ => 16000000000

/-- A stream's number as its records carry it (R370). -/
def streamId (c ch p : Nat) : Nat := c * 64 + ch * 4 + p

/-- The presets of a channel's entry, and whether a stream is selected. -/
def State.chanMask (s : State) (e : Nat) : Nat := bitsGet (s.tab (snsKey 0 e 0)) 0 4
def State.streamSel (s : State) (n : Nat) : Bool := bitOf (s.chanMask (n / 4)) (n % 4)

/-- The enabled streams. -/
def State.streamsSel (s : State) : List Nat := (List.range 256).filter s.streamSel

/-- The bytes that a stream writes in a second: 512 for each record, which lasts 240 samples or until it has been open
for FLUSH_CFG.MS (R371). -/
def State.streamRate (s : State) (p : Nat) : Nat :=
  let per := presetNs p
  let open' := (s.fg ssb SNS.FLUSH_CFG_MS * 1000000 + per - 1) / per
  let n := per * max 1 (min 240 open')
  (512 * 1000000000 + n / 2) / n

/-- The write rate of all enabled streams in bytes a second. -/
def State.archRate (s : State) : Nat := (s.streamsSel.map fun n => s.streamRate (n % 4)).sum

/-- The chain runs; the writer runs. -/
def State.snsRun (s : State) : Bool := s.live ⟨.sns, 0⟩ && s.fb ssb SNS.SNS_CTL_RUN
def State.archOn (s : State) : Bool := s.snsRun && s.fb ssb SNS.SNS_CTL_ARCH_EN && s.regionOn 2

/-- A detector's word 0, and the presets in use: those of a selected stream or an enabled detector. -/
def State.detW (s : State) (d : Nat) : Word := s.tab (snsKey 1 d 0)
def State.detEn (s : State) (d : Nat) : Bool := (s.detW d).getLsbD 0
def State.presetsUsed (s : State) : List Nat :=
  (List.range 4).filter fun p => s.streamsSel.any (fun n => n % 4 == p)
    || (List.range 32).any fun d => s.detEn d && bitsGet (s.detW d) 7 2 == p

/-! ### The archive (R369, R370) -/

/-- The positions of the archive. -/
def State.archPositions (s : State) : Nat := if s.regionOn 2 then s.regionLen 2 * 2048 else 0

/-- The sequence number of the last record written. -/
def State.wrSeq (s : State) : Nat := s.fg ssb SNS.WR_SEQ_SEQ

/-- Word `w` of a freeze's entry. -/
def State.frz (s : State) (i w : Nat) : Word := s.tab (snsKey 2 i w)
def State.frzValid (s : State) (i : Nat) : Bool := (s.frz i 0).getLsbD 0
def State.frzOpen (s : State) (i : Nat) : Bool := (s.frz i 0).getLsbD 1

/-- The slots held, and the open freeze. -/
def State.frzHeld (s : State) : List Nat := (List.range 16).filter s.frzValid
def State.openFrz (s : State) : Option Nat := s.frzHeld.find? s.frzOpen

/-- A sequence number lies between two, the first and last included, under R37. -/
def seqIn (a b n : Nat) : Bool := decide (serialDist 32 n a ≤ serialDist 32 b a)

/-- A freeze holds a record: its SEQ is in the freeze's range; an open freeze reaches to the last record. -/
def State.frzHolds (s : State) (i : Nat) (r : ArchRec) : Bool :=
  if s.frzOpen i then r.seq != (s.frz i 1).toNat && serialAhead 32 r.seq (s.frz i 1).toNat || r.seq == (s.frz i 1).toNat
  else seqIn (s.frz i 1).toNat (s.frz i 2).toNat r.seq

/-- The record at a position, and whether a held freeze protects it. -/
def State.frozen (s : State) (p : Nat) : Bool :=
  !(s.arch p).samples.isEmpty && s.frzHeld.any fun i => s.frzHolds i (s.arch p)

/-- The records held in the region: position and record. -/
def State.heldRecs (s : State) : List (Nat × ArchRec) := s.archs.filter fun e => decide (e.1 < s.archPositions)

/-- How many positions no freeze protects. -/
def State.unfrozen (s : State) : Nat := s.archPositions - (s.heldRecs.filter fun e => s.frozen e.1).length

/-- The unfrozen part lies below MIN_FREE. -/
def State.lowFree (s : State) : Bool := decide (s.unfrozen * 256 < s.fg ssb SNS.FRZ_CFG_MIN_FREE * s.archPositions)

/-- The next position from `p` that no freeze protects. -/
def State.nextPos (s : State) : Nat → Nat → Nat
  | 0, p => p
  | f + 1, p => if s.frozen p then s.nextPos f ((p + 1) % s.archPositions) else p

/-- The DDR channel pairs of the archive answer. -/
def State.archReach (s : State) : Bool := !s.pairOff

/-- Samples are lost: counted, GAP raised, and the stream's next record flagged. -/
def samplesLost (n k : Nat) : Prog := fun s =>
  .streams n { s.streams.foldl (fun r e => if e.1 = n then e.2 else r) ({} : StreamRec) with on := true, samples := [], gap := true, stepped := false }
    :: seqs [fincSat ssb SNS.GAP_CNT_COUNT k, raise ssb 9] s

/-- A stream's open record is written at the next position that is not frozen (R369). -/
def writeRecord (n : Nat) : Prog := fun s =>
  let r := s.stream n
  let p := s.nextPos (s.archs.length + 1) (s.sns.pos % max 1 s.archPositions)
  let seq := (s.wrSeq + 1) % 2 ^ 32
  if r.samples.isEmpty then []
  else if !s.archReach ∨ s.archPositions = 0 then samplesLost n r.samples.length s
  else
    [.archs p { stream := n, seq := seq, t0 := r.t0, samples := r.samples, wrote := s.nowNs,
                flags := b2n r.gap + b2n (r.samples.contains 0x8000) * 2 + b2n (decide (r.samples.length < 240)) * 4
                  + b2n r.stepped * 8 },
     .streams n { r with samples := [], gap := false, stepped := false },
     .sns { s.sns with pos := (p + 1) % s.archPositions },
     .regs (ssb + SNS.WR_SEQ) (BitVec.ofNat 32 seq)]

/-- Every open record is written. -/
def flushAll : Prog := fun s => forP (s.streams.map Prod.fst) writeRecord s

/-! ### Freezes (R372–R375) -/

/-- A freeze closes: open records are written, and its last record is fixed. -/
def frzClose (i : Nat) (trunc : Bool) : Prog := fun s =>
  if !s.frzOpen i then [] else
  seqs [flushAll,
    fun t => [.tabs (snsKey 2 i 0) ((t.frz i 0 &&& ~~~2) ||| (if trunc then 4 else 0)),
      .tabs (snsKey 2 i 2) (BitVec.ofNat 32 t.wrSeq)],
    raise ssb 2] s

/-- A freeze opens in a slot, from an instant on (R372). -/
def frzOpenAt (i start stop det reqs : Nat) : Prog := fun s =>
  let recs := s.heldRecs.filter fun e => !s.frozen e.1
  let older (a b : Nat × ArchRec) : Bool := serialAhead 32 b.2.seq a.2.seq
  let first (l : List (Nat × ArchRec)) : Option (Nat × ArchRec) := l.foldl (fun m e => match m with
    | none => some e
    | some x => if older e x then some e else some x) none
  let oldest := first recs
  let trunc := match oldest with
    | some e => decide (start < e.2.wrote.toNat)
    | none => true
  let pick := first (recs.filter fun e => decide (start ≤ e.2.wrote.toNat))
  let (pos, seq) := match pick with
    | some e => (e.1, e.2.seq)
    | none => (s.nextPos (s.archs.length + 1) (s.sns.pos % max 1 s.archPositions), (s.wrSeq + 1) % 2 ^ 32)
  let from' := if trunc then (match oldest with
    | some e => e.2.wrote.toNat
    | none => s.nowNs.toNat) else start
  seqs [fun _ => [
      .tabs (snsKey 2 i 0) (BitVec.ofNat 32 (3 + b2n trunc * 4 + det * 256 + reqs * 65536)),
      .tabs (snsKey 2 i 1) (BitVec.ofNat 32 seq), .tabs (snsKey 2 i 2) 0,
      .tabs (snsKey 2 i 3) (BitVec.ofNat 32 from'), .tabs (snsKey 2 i 4) (BitVec.ofNat 32 (from' / 2 ^ 32)),
      .tabs (snsKey 2 i 5) (BitVec.ofNat 32 stop), .tabs (snsKey 2 i 6) (BitVec.ofNat 32 (stop / 2 ^ 32)),
      .tabs (snsKey 2 i 7) (BitVec.ofNat 32 pos)],
    raise ssb 1] s

/-- The times of a freeze in ns. -/
def State.frzStart (s : State) (i : Nat) : Nat := (s.frz i 3).toNat + (s.frz i 4).toNat * 2 ^ 32
def State.frzEnd (s : State) (i : Nat) : Nat := (s.frz i 5).toNat + (s.frz i 6).toNat * 2 ^ 32

/-- A refused freeze request (R374). -/
def frzRefuse : Prog := seqs [fincSat ssb SNS.FRZ_REF_CNT_COUNT 1, raise ssb 3]

/-- A freeze request at time `t` with PRE and POST in 0.1 s, from a detector (31: manual or call) (R372, R374). -/
def frzRequest (t pre post det : Nat) : Prog := fun s =>
  let stop := t + post * 100000000
  let maxNs := s.fg ssb SNS.FRZ_CFG_FRZ_MAX * 1000000000
  let slot (i : Nat) : Prog := fun s => if det = 31 then [] else
    [.tabs (snsKey 1 det 7) (bitsPut (s.tab (snsKey 1 det 7)) 16 4 i)]
  if !s.archOn ∨ s.frzHeld.length = 16 ∨ s.lowFree then frzRefuse s
  else match s.openFrz with
    | none =>
      match (List.range 16).find? fun i => !s.frzValid i with
      | none => []
      | some i => seqs [frzOpenAt i (t - pre * 100000000) stop det 1, slot i] s
    | some i =>
      let w := bitsPut (s.frz i 0) 16 16 (satAdd 16 (bitsGet (s.frz i 0) 16 16) 1)
      let put (e : Nat) : Prog := fun _ => [.tabs (snsKey 2 i 0) w, .tabs (snsKey 2 i 5) (BitVec.ofNat 32 e),
        .tabs (snsKey 2 i 6) (BitVec.ofNat 32 (e / 2 ^ 32))]
      match s.sns.follow with
      | some n => [.sns { s.sns with follow := some { n with endNs := max n.endNs stop, reqs := n.reqs + 1 } }]
      | none =>
        if s.frzStart i + maxNs < max (s.frzEnd i) stop then
          seqs [put (s.frzStart i + maxNs), fun t => [.sns { t.sns with follow := some ⟨stop, det, 1⟩ }], slot i] s
        else seqs [put (max (s.frzEnd i) stop), slot i] s

/-- The free part fell below MIN_FREE: the open freeze closes with TRUNC (R373). -/
def frzGuard : Prog := fun s =>
  match s.openFrz with
  | some i => if s.lowFree then seqs [frzClose i true, fun t => [.sns { t.sns with follow := none }]] s else []
  | none => []

/-- The largest group delay in use. -/
def State.delayUsed (s : State) : Nat := (s.presetsUsed.map presetDelay).foldl max 0

/-- An open freeze reaches its end time and the largest group delay after it; a freeze that follows opens (R372, R373). -/
def freezeClose : Prog := fun s =>
  match s.openFrz with
  | none => []
  | some i =>
    if s.lowFree then frzGuard s
    else if s.nowNs.toNat < s.frzEnd i + s.delayUsed then []
    else
      let at' := s.frzEnd i
      seqs [frzClose i false,
        match s.sns.follow with
        | none => skip
        | some n => seqs [fun t => [.sns { t.sns with follow := none }], fun t =>
            if t.frzHeld.length = 16 ∨ t.lowFree then frzRefuse t
            else match (List.range 16).find? fun j => !t.frzValid j with
              | none => []
              | some j => frzOpenAt j at' n.endNs n.det n.reqs t]] s

/-- FRZ_CMD.RELEASE (R375). -/
def frzRelease (src i : Nat) : Prog := fun s =>
  if s.frzValid i ∧ !s.frzOpen i then (List.range 8).map fun w => .tabs (snsKey 2 i w) 0
  else errPage ssb SNS.FRZ_CMD src cFRZ_STATE s

/-- FRZ_CMD.MANUAL (R372). -/
def frzManual : Prog := fun s =>
  frzRequest s.nowNs.toNat (s.fg ssb SNS.FRZ_MAN_PRE) (s.fg ssb SNS.FRZ_MAN_POST) 31 s

/-- A write of FRZ_CMD. -/
def frzCmdWrite (src : Nat) (v : Word) : Prog :=
  seqs [if wroteB v SNS.FRZ_CMD_RELEASE then frzRelease src (wrote v SNS.FRZ_CMD_SLOT) else skip,
    if wroteB v SNS.FRZ_CMD_MANUAL then frzManual else skip]

/-- A call of the module was issued, with its number: with ON_CALL it requests a freeze, and the detectors whose call it
is record it (R368, R372). -/
def snsCall (number : Nat) : Prog := fun s =>
  if !s.live ⟨.sns, 0⟩ then [] else
  seqs [forP ((s.dets.filter fun e => e.2.awaits).map Prod.fst) fun d t =>
      [.dets d { t.det d with awaits := false },
       .tabs (snsKey 1 d 7) (bitsPut (t.tab (snsKey 1 d 7)) 0 16 number)],
    if s.fb ssb SNS.FRZ_CFG_ON_CALL then frzManual else skip] s

/-! ### Detectors (R367, R368) -/

/-- The integer square root of a number below 2^64. -/
def isqrt (n : Nat) : Nat :=
  (List.range 32).reverse.foldl (fun r i => if (r + 2 ^ i) * (r + 2 ^ i) ≤ n then r + 2 ^ i else r) 0

/-- A detector takes an output sample: its mean, the sample before, its window and z (R367). -/
def detNext (w : Word) (ch : Nat) (r : DetRec) (x : Int) : DetRec :=
  let tc := bitsGet w 16 4
  let win := bitsGet w 20 12
  let m := match r.mean with
    | none => x * 65536
    | some m => m + (x * 65536 - m) / (2 ^ tc : Nat)
  let y : Option Int := match bitsGet w 5 2 with
    | 0 => some (x * 65536)
    | 1 => some (x * 65536 - m)
    | _ => r.prev.map fun p => (if ch = 3 ∨ ch = 10 then sx 16 (tc16 (x - p)) else x - p) * 65536
  match y with
  | none => { r with mean := some m, prev := some x }
  | some y =>
    let h := (y.natAbs :: r.hist).take (max 1 win)
    let z := match bitsGet w 3 2 with
      | 0 => h.foldl max 0
      | 1 => isqrt ((h.map fun a => a * a).sum / h.length)
      | _ => max y.natAbs (r.z - r.z / 2 ^ tc)
    { r with hist := h, mean := some m, prev := some x, z := z }
where tc16 (i : Int) : Nat := tc 16 i

/-- An acted event requests a call and a freeze as its entry says (R368). -/
def detAct (d t : Nat) : Prog := fun s =>
  let w := s.detW d
  let w2 := s.tab (snsKey 1 d 2)
  seqs [fun u => [.dets d { u.det d with acted := some u.ticks }],
    if w.getLsbD 1 then seqs [fincSat ssb SNS.CALL_REQ_CNT_COUNT 1,
      fun u => [.dets d { u.det d with awaits := !u.callRecent }],
      fun u => if u.callRecent then
        [.tabs (snsKey 1 d 7) (bitsPut (u.tab (snsKey 1 d 7)) 0 16 (u.fg snb SNAP.CALL_CNT_COUNT))] else [],
      wantCall cSNS] else skip,
    if w.getLsbD 2 then frzRequest t (bitsGet w2 0 16) (bitsGet w2 16 16) d else skip] s

/-- A detector's output z meets its thresholds (R368); `t`: the sample's time. -/
def detCheck (d t : Nat) : Prog := fun s =>
  let r := s.det d
  let w1 := s.tab (snsKey 1 d 1)
  let w4 := s.tab (snsKey 1 d 4)
  let act := w4.getLsbD 16
  if act then
    (if r.z ≤ bitsGet w1 16 16 * 65536 then [.tabs (snsKey 1 d 4) (bitsPut w4 16 1 0)] else [])
  else if bitsGet w1 0 16 * 65536 ≤ r.z then
    let held := match r.acted with
      | some a => decide (s.ticks < a + bitsGet (s.tab (snsKey 1 d 3)) 0 16 * 1000000)
      | none => false
    seqs [fun _ => [.tabs (snsKey 1 d 4) (BitVec.ofNat 32 (satAdd 16 (bitsGet w4 0 16) 1 + 65536)),
        .tabs (snsKey 1 d 5) (BitVec.ofNat 32 t), .tabs (snsKey 1 d 6) (BitVec.ofNat 32 (t / 2 ^ 32))],
      fincSat ssb SNS.EVT_CNT_COUNT 1, raise ssb 0,
      if held then skip else detAct d t] s
  else []

/-- The detectors that watch a channel of a carrier at a preset. -/
def State.detsOf (s : State) (c ch p : Nat) : List Nat :=
  (List.range 32).filter fun d => let w := s.detW d
    w.getLsbD 0 && bitsGet w 7 2 == p && bitsGet w 10 4 == ch && bitsGet w 14 2 == c

/-- An invalid sample leaves z unchanged. -/
def detSample (c ch p t : Nat) (x : BitVec 16) : Prog := fun s =>
  forP (s.detsOf c ch p) (fun d => seqs [
    if x = 0x8000 then skip else fun u => [.dets d (detNext (u.detW d) ch (u.det d) x.toInt)],
    detCheck d t]) s

/-! ### Coefficient banks (R365, R366) -/

/-- The banks of the chain. -/
def snsSwap : SwapPage :=
  { b := ssb, active := SNS.SNS_STAT_ACTIVE, fading := SNS.SNS_STAT_FADING, queued := SNS.SNS_STAT_QUEUED,
    qbank := SNS.SNS_STAT_QBANK, mode := SNS.SNS_CTL_LOAD_MODE, cnt := none, evDone := 4, evRefused := 5,
    evQueued := some 6, req := SNS.SWAP_REQ, code := cSNS_SWAP_LIVE, refCnt := some SNS.REFUSE_CNT_COUNT }

/-- A swap request. -/
def snsSwapReq (src bank : Nat) : Prog := fun s =>
  if !s.live ⟨.sns, 0⟩ then swapServe snsSwap true src bank s else swapReq snsSwap (!s.snsRun) src bank s

/-- The clock of a fade. -/
def tSnsFade : Nat := ssb

/-- A waiting fade starts at an output sample. -/
def snsFadeStart : Prog := fun s =>
  if (s.swap ssb).wait.isSome then seqs [swapBoundary snsSwap 0, timerStart tSnsFade] s else []

/-- Every preset in use has blended over FADE_CFG.LEN of its samples: the fade ends (R365). -/
def snsFadeEnd : Prog := fun s =>
  let len := s.fg ssb SNS.FADE_CFG_LEN * (s.presetsUsed.map presetNs).foldl max 0
  seqs [if s.presetsUsed.isEmpty then snsFadeStart else skip,
    fun t => if t.fb ssb SNS.SNS_STAT_FADING ∧ t.running tSnsFade then
      seqs [clockEnd tSnsFade len, timerStop tSnsFade, swapFinish snsSwap (!t.snsRun)] t else []] s

/-! ### Samples (R364, R369) -/

/-- A sample joins its stream's record; a full record is written first. -/
def streamSample (n : Nat) (t : BitVec 80) (x : BitVec 16) : Prog := fun s =>
  if !s.archOn then []
  else if !s.streamSel n then (if (s.stream n).on then [.streams n { s.stream n with on := false }] else [])
  else if !s.archReach then samplesLost n ((s.stream n).samples.length + 1) s
  else
    let add : Prog := fun u =>
      let r := u.stream n
      [.streams n { r with on := true, gap := r.gap || !r.on, samples := r.samples ++ [x],
                           t0 := if r.samples.isEmpty then t else r.t0 }]
    seqs [if 240 ≤ (s.stream n).samples.length then writeRecord n else skip,
      if (s.stream n).on then skip else writeRecord n, add,
      fun u => if (u.stream n).samples.length = 1 then timerStart (ssb * 4096 + n) u else []] s

/-- A preset outputs a sample of a channel (R362–R369): its time is that of the centre of the filter's response. -/
def sensingSample (c ch p : Nat) (x : BitVec 16) : Prog := fun s =>
  let t : BitVec 80 := s.now - BitVec.ofNat 80 (presetDelay p * 65536)
  if !s.snsRun then [] else
  seqs [snsFadeStart, streamSample (streamId c ch p) t x,
    detSample c ch p (t.extractLsb' 16 64).toNat x, frzGuard] s

/-- A stream's open record is full and is written. -/
def recordWrite (n : Nat) : Prog := fun s =>
  if s.archOn ∧ 240 ≤ (s.stream n).samples.length then seqs [writeRecord n, frzGuard] s else []

/-- A record has been open for FLUSH_CFG.MS and is written PARTIAL. -/
def recordFlush (n : Nat) : Prog := fun s =>
  if s.archOn ∧ !(s.stream n).samples.isEmpty ∧ s.running (ssb * 4096 + n) then
    seqs [clockEnd (ssb * 4096 + n) (s.fg ssb SNS.FLUSH_CFG_MS * 1000000), writeRecord n, frzGuard] s else []

/-- A device-time step closes every open record; the next of each stream is STEPPED (R370). -/
def snsStepped : Prog := fun s =>
  if !s.archOn then [] else
  seqs [flushAll, forP (List.range 256) fun n t =>
    if t.streamSel n ∨ (t.stream n).on then [.streams n { t.stream n with stepped := true }] else []] s

/-- The writer stops: open records are written and the open freeze closes with TRUNC (R369, R373); streams begin anew. -/
def archStop : Prog := fun s =>
  seqs [flushAll, match s.openFrz with
      | some i => frzClose i true
      | none => skip,
    fun t => [.sns { t.sns with follow := none }],
    forP (s.streams.map Prod.fst) fun n _ => [.streams n {}]] s

/-! ### Readout (R376) -/

/-- The clocks of a copy and of a seek. -/
def tSnsRead : Nat := ssb + 1
def tSnsSeek : Nat := ssb + 2

/-- A write of RD_REC. -/
def rdRecWrite (src : Nat) (v : Word) : Prog := fun s =>
  if s.archPositions ≤ v.toNat then errPage ssb SNS.RD_REC src cRD_RANGE s
  else seqs [rset (ssb + SNS.RD_REC) v, fbset ssb SNS.RD_STAT_READY false, timerStart tSnsRead] s

/-- The copy completes; `bad`: its CRC failed. -/
def rdReady (bad : Bool) : Prog := fun s =>
  let p := s.fg ssb SNS.RD_REC_POS
  let none' := (s.arch p).samples.isEmpty
  if !s.running tSnsRead then [] else
  seqs [timerStop tSnsRead, fun t => [.sns { t.sns with buf := t.arch p }],
    rset (ssb + SNS.RD_STAT) (BitVec.ofNat 32 (1 + b2n (s.frozen p) * 2 + b2n none' * 4 + b2n (bad && !none') * 8)),
    raise ssb 8] s

/-- A write of SEEK_CMD: the command is kept with GO until the seek ends. -/
def seekGo (v : Word) : Prog := fun s =>
  if !wroteB v SNS.SEEK_CMD_GO then []
  else seqs [rset (ssb + SNS.SEEK_CMD) v, rset (ssb + SNS.SEEK_STAT) 0, timerStart tSnsSeek] s

/-- A seek ends: the record of the stream whose T0 is the latest at or before the seek time. -/
def seekDone : Prog := fun s =>
  let v := s.reg (ssb + SNS.SEEK_CMD)
  let t := (s.reg (ssb + SNS.SEEK_LO)).toNat + (s.reg (ssb + SNS.SEEK_HI)).toNat * 2 ^ 32
  let ok (r : ArchRec) : Bool := (wroteB v SNS.SEEK_CMD_ANY || r.stream == wrote v SNS.SEEK_CMD_STREAM)
    && decide (r.t0.toNat ≤ t * 65536)
  let best := (s.heldRecs.filter fun e => ok e.2).foldl (fun m e => match m with
    | none => some e
    | some x => if x.2.t0.toNat ≤ e.2.t0.toNat then some e else some x) (none : Option (Nat × ArchRec))
  if !s.running tSnsSeek then [] else
  seqs [timerStop tSnsSeek,
    match best with
    | some e => seqs [rset (ssb + SNS.SEEK_RES) (BitVec.ofNat 32 e.1), rset (ssb + SNS.SEEK_STAT) 1]
    | none => rset (ssb + SNS.SEEK_STAT) 3,
    raise ssb 7] s

/-- The bytes of a record (R370). -/
def ArchRec.bytes (r : ArchRec) : List Byte :=
  if r.samples.isEmpty then List.replicate 512 0
  else
    let head := bytesLE 2 0x5E71 ++ bytesLE 1 1 ++ bytesLE 1 r.stream ++ bytesLE 1 r.samples.length ++ bytesLE 1 r.flags
      ++ bytesLE 2 0 ++ bytesLE 4 r.seq ++ bytesLE 8 (r.t0.toNat / 65536) ++ bytesLE 2 (r.t0.toNat % 65536) ++ bytesLE 6 0
    let body := ((r.samples.flatMap fun (x : BitVec 16) => bytesLE 2 x.toNat) ++ List.replicate 480 0).take 480
    head ++ bytesLE 4 (crc32c (head ++ body)) ++ body

/-! ### Registers and tables -/

/-- A write of SNS_CTL (R365, R369, R373). -/
def snsCtlWrite (src : Nat) (v : Word) : Prog := fun s =>
  let was := s.fb ssb SNS.SNS_CTL_RUN
  let run := wroteB v SNS.SNS_CTL_RUN
  let arch := wroteB v SNS.SNS_CTL_ARCH_EN
  let mode := wrote v SNS.SNS_CTL_LOAD_MODE
  if arch ∧ !s.regionOn 2 then errPage ssb SNS.SNS_CTL src cSNS_NO_REGION s
  else seqs [
    if s.archOn ∧ (!run ∨ !arch) then archStop else skip,
    fbset ssb SNS.SNS_CTL_RUN run, fbset ssb SNS.SNS_CTL_ARCH_EN arch,
    if s.fb ssb SNS.SNS_STAT_FADING then swapUpd ssb fun r => { r with mode := some mode }
    else fset ssb SNS.SNS_CTL_LOAD_MODE mode,
    if run && !was then forP (s.dets.map Prod.fst) fun d t => [.dets d { acted := (t.det d).acted, awaits := (t.det d).awaits }]
    else skip,
    if was && !run then seqs [
        if s.fb ssb SNS.SNS_STAT_FADING then seqs [timerStop tSnsFade, swapFinish snsSwap true] else skip,
        fun t => match (t.swap ssb).wait with
          | some b => swapServe snsSwap true srcNone b t
          | none => []]
    else skip] s

def snsLims : List Lim := [⟨SNS.FADE_CFG_LEN, 1, 4095⟩, ⟨SNS.FLUSH_CFG_MS, 10, 60000⟩, ⟨SNS.FRZ_CFG_FRZ_MAX, 60, 3600⟩,
  ⟨SNS.FRZ_CFG_MIN_FREE, 8, 128⟩]

/-- A write of a SNS register. -/
def snsWrite (src : Nat) (r : RegRow) (v : Word) : Prog := fun s =>
  if r.off = SNS.SNS_CTL then snsCtlWrite src v s
  else if r.off = SNS.SWAP_REQ then snsSwapReq src (wrote v SNS.SWAP_REQ_BANK) s
  else if r.off = SNS.FRZ_CMD then frzCmdWrite src v s
  else if r.off = SNS.RD_REC then rdRecWrite src v s
  else if r.off = SNS.SEEK_CMD then seekGo v s
  else plainWrite ssb r snsLims v s

/-- A write of a word of a SNS table (R366, R378); reserved encodings and fields out of range are open (R380). -/
def snsTab (src t e w : Nat) (v : Word) : Prog := fun s =>
  let ro := errPage ssb (oWIN_DATA w) src cRO_WRITE
  if t = 0 then [.tabs (snsKey 0 e 0) (v &&& 0x3F0F)]
  else if t = 4 then
    if s.bankBusy snsSwap (!s.snsRun) (e / 128) then
      seqs [errPage ssb (oWIN_DATA 0) src cSNS_BANK_BUSY, fincSat ssb SNS.REFUSE_CNT_COUNT 1, raise ssb 5] s
    else [.tabs (snsKey 4 e 0) (v &&& 0x3FFFF)]
  else if t ≠ 1 ∨ 4 ≤ w then ro s
  else if w = 0 then
    let bad := bitsGet v 3 2 = 3 ∨ bitsGet v 5 2 = 3 ∨ bitsGet v 16 4 = 0 ∨ bitsGet v 20 12 = 0
    let put (v : Word) : Prog := seqs [fun _ => [.tabs (snsKey 1 e 0) (v &&& 0xFFFFFDFF)],
      if v.getLsbD 0 && !s.detEn e then fun u => [.dets e {}, .tabs (snsKey 1 e 4) (bitsPut (u.tab (snsKey 1 e 4)) 16 1 0)]
      else skip]
    if s.detEn e ∧ v.getLsbD 0 then errPage ssb (oWIN_DATA 0) src cDET_ACTIVE s
    else if v.getLsbD 0 ∧ bad then
      withFree (fun u => put (bitsPut (bitsPut (bitsPut (bitsPut v 3 2 (bitsGet u 0 8 % 3)) 5 2 (bitsGet u 8 8 % 3))
        16 4 (bitsGet u 16 4 % 15 + 1)) 20 12 (bitsGet u 20 12 % 4095 + 1))) s
    else put v s
  else if s.detEn e then errPage ssb (oWIN_DATA w) src cDET_ACTIVE s
  else if w = 1 ∧ bitsGet v 0 16 < bitsGet v 16 16 then withFree (fun u => fun _ => [.tabs (snsKey 1 e 1) u]) s
  else [.tabs (snsKey 1 e w) (if w = 3 then v &&& 0xFFFF else v)]

/-- A word of a SNS table as it reads. -/
def snsTabView (s : State) (t e w : Nat) : Word :=
  if t = 3 then BitVec.ofNat 32 (ofBytesLE ((s.sns.buf.bytes.drop (64 * e + 4 * w)).take 4))
  else s.tab (snsKey t e w)

/-- The computed registers of SNS. A depth at rate 0 is not stated: it is open. -/
def snsView (s : State) (off : Nat) : Option Word :=
  if off = SNS.SNS_STAT then
    some ((s.reg (ssb + off) &&& 0x3C) ||| BitVec.ofNat 32 (s.streamsSel.length * 65536 + s.frzHeld.length * 256
      + b2n (!s.regionOn 2) * 128 + b2n s.archOn * 64 + (if s.snsRun then 1 else 2)))
  else if off = SNS.ARCH_SIZE then some (BitVec.ofNat 32 (if s.regionOn 2 then s.regionLen 2 else 0))
  else if off = SNS.ARCH_RATE then some (BitVec.ofNat 32 (s.archRate / 1024))
  else if off = SNS.ARCH_DEPTH then some (BitVec.ofNat 32 (if s.archPositions = 0 then 0
    else if s.archRate = 0 then Config.openNat 0x5200 else s.unfrozen * 512 / s.archRate))
  else if off = SNS.SEEK_CMD then some 0
  else none

/-- A soft reset of SNS ends RUN and ARCH_EN; freezes, the archive and tables 0, 1 and 4 survive it (R375). -/
def snsSoftReset : Prog := fun s =>
  seqs [if s.archOn then archStop else skip, forP [tSnsFade, tSnsRead, tSnsSeek] timerStop,
    fun t => [.swaps ssb {}, .sns { t.sns with buf := {}, follow := none }],
    forP (s.streams.map Prod.fst) fun n _ => [.streams n {}]] s

end Sys2Proof.Machine
end

