-- ==== Sys2Proof/Machine/Dpl.lean ====
section
/-!
DEFINITION. Machine/Dpl.lean: reference monitors, selection, switching and slewing, holdover, the open loop and the pulse
outputs, on the DPL page (R381–R399).
-/

namespace Sys2Proof.Machine

/-- The base of DPL. -/

def cFFO_CLAMP : Nat := 0x80
def cREF_ABSENT : Nat := 0x81
def cNO_PHASE : Nat := 0x82

/-- Changes the record of a reference, and of a DPLL. -/
def refUpd (k : Nat) (f : RefRec → RefRec) : Prog := fun s => [.refs k (f (s.ref k))]
def dpllUpd (i : Nat) (f : DpllRec → DpllRec) : Prog := fun s => [.dplls i (f (s.dpll i))]

/-- The clocks of qualification, wait-to-restore, the stay in ACQUIRE, a slew, and the SW reference. -/
def tQual (k : Nat) : Nat := dpb + k
def tWtr (k : Nat) : Nat := dpb + 16 + k
def tAcq (i : Nat) : Nat := dpb + 32 + i
def tDplSlew : Nat := dpb + 36
def tSw : Nat := dpb + 37

/-! ### References (R382–R386) -/

/-- The lock bit on which the activity of LINE, HOST and VLG rests (R382); a host lane or port that SRC_SEL does not name
has none. -/
def State.refLock (s : State) (k : Nat) : Bool :=
  let sel := s.fg dpb (DPL.REF_CFG_SRC_SEL k)
  if k < 8 then s.fb (pageBase .rxf (k - 4)) RXF.TR_STAT_LOCK && s.rxMode (k - 4) != mH64 && s.rxMode (k - 4) != mH16
  else if k < 12 then decide (sel < 48) && s.fb (hsb (sel / 4)) (HSL.LANE_STAT_CDR_LOCK (sel % 4))
  else decide (sel < 4) && s.fg (pageBase .vlg sel) VLG.VLG_STAT_STATE == 2

/-- A reference carries time (R382). -/
def State.carriesTime (s : State) (k : Nat) : Bool :=
  if k < 4 then s.fb dpb (DPL.REF_CFG_PPS k) else k == 12 || k == 13

/-- The conditions of qualification hold (R385). -/
def State.refGood (s : State) (k : Nat) : Bool :=
  s.fb dpb (DPL.REF_STAT_ACT_OK k) && s.fb dpb (DPL.REF_STAT_FREQ_OK k)
    && !(s.fb dpb (DPL.REF_CFG_DRIFT_ACT k) && s.fb dpb (DPL.REF_STAT_DRIFTING k))

def State.qualified (s : State) (k : Nat) : Bool := s.fb dpb (DPL.REF_STAT_QUALIFIED k)

/-- A reference is eligible: qualified, its wait-to-restore not running (R386). -/
def State.eligible (s : State) (k : Nat) : Bool := s.qualified k && !s.running (tWtr k)

/-- A reference's conditions are looked at: qualification is lost at once, or its time begins (R385, R386). -/
def refEval (k : Nat) : Prog := fun s =>
  if s.refGood k then (if s.qualified k ∨ s.running (tQual k) then [] else timerStart (tQual k) s)
  else seqs [fbset dpb (DPL.REF_STAT_QUALIFIED k) false, timerStop (tQual k), timerStop (tWtr k)] s

/-! ### Selection (R387, R388, R392) -/

def State.dState (s : State) (i : Nat) : Nat := s.fg dpb (DPL.D_STAT_STATE i)
def State.dSel (s : State) (i : Nat) : Nat := s.fg dpb (DPL.D_STAT_SEL i)

/-- A reference's priority for a DPLL; one that carries no time has none for DPLL-B. -/
def State.prio (s : State) (i k : Nat) : Nat :=
  if i = 0 then s.fg dpb (DPL.REF_CFG_PRIO_A k)
  else if s.carriesTime k then s.fg dpb (DPL.REF_CFG_PRIO_B k) else 0

/-- The module is a stack member (R392). -/
def State.stackMember (s : State) : Bool :=
  s.fg vb0 VLG.STACK_STAT_STATE == 1 || s.fg vb0 VLG.STACK_STAT_STATE == 3

/-- The references a DPLL may select, best first: lowest priority value, then lowest index. -/
def State.candidates (s : State) (i : Nat) : List Nat :=
  (List.range 16).flatMap fun p => if p = 0 then [] else (List.range 14).filter fun k => s.prio i k == p && s.eligible k

/-- The reference a DPLL should follow now. -/
def State.dTarget (s : State) (i : Nat) : Option Nat :=
  let f := s.fg dpb (DPL.D_CTL_FORCE_REF i)
  let cs := s.candidates i
  if f ≠ 15 then (if s.qualified f ∧ (i = 0 ∨ s.carriesTime f) then some f else none)
  else if (s.dpll i).held then none
  else if cs.contains (s.dSel i) && !s.fb dpb (DPL.D_CTL_REVERTIVE i) then some (s.dSel i)
  else cs.head?

/-- An integer written into a register as two's complement. -/
def rsetI (a : Nat) (x : Int) : Prog := rset a (BitVec.ofInt 32 x)

/-- The mean of control values, to the nearest unit. -/
def meanI (l : List Int) : Int := if l.isEmpty then 0 else (2 * l.sum + l.length) / (2 * l.length)

/-- The history freezes: the holdover value is the mean of the span before the guard (R390). -/
def histFreeze (i : Nat) : Prog := fun s =>
  let h := (s.dpll i).hist
  let span := (h.drop (s.fg dpb (DPL.D_HO_GUARD i))).take (s.fg dpb (DPL.D_HO_WIN i))
  if s.fb dpb (DPL.D_STAT_HIST_FROZEN i) then []
  else seqs [fbset dpb (DPL.D_STAT_HIST_FROZEN i) true,
    fbset dpb (DPL.D_STAT_HO_SHORT i) span.isEmpty,
    rsetI (dpb + DPL.D_HO_FFO i) (if span.isEmpty then h.head?.getD (s.ffo i) else meanI span)] s

/-- A DPLL enters HOLDOVER (R390, R391). -/
def enterHoldover (i : Nat) : Prog :=
  seqs [histFreeze i, fset dpb (DPL.D_STAT_STATE i) 3, fset dpb (DPL.D_STAT_SEL i) 15, timerStop (tAcq i),
    fun s => rsetI (dpb + DPL.D_FFO i) (s.reg (dpb + DPL.D_HO_FFO i)).toInt s, raise dpb (1 + 3 * i)]

/-- DPLL-B begins to slew by the phase error to its new reference; one that is not known is a free value (R388). -/
def slewStart (k : Nat) : Prog := fun s =>
  let go (e : Int) : Prog := seqs [dpllUpd 1 fun d => { d with slew := e }, fbset dpb (DPL.D_STAT_SLEWING 1) true, timerStart tDplSlew]
  match (s.ref k).phase with
  | some e => go e s
  | none => withFree (fun w => go w.toInt) s

/-- A change of the selected reference (R388). -/
def dSwitch (i k : Nat) : Prog :=
  seqs [fset dpb (DPL.D_STAT_SEL i) k, fincSat dpb ⟨DPL.D_SWITCH_CNT i, 0, 32⟩ 1, raise dpb (3 * i),
    if i = 1 then slewStart k else skip, timerStart (tAcq i)]

/-- A DPLL's state follows its conditions (R389, R391). -/
def dpllEval (i : Nat) : Prog := fun s =>
  let st := s.dState i
  let ctl (f : Fld) : Bool := s.fb dpb f
  let target := s.dTarget i
  let lostVlg := s.dSel i == 12 && !s.eligible 12 && s.stackMember && ctl (DPL.D_CTL_STACK_HOLD i) && (st == 1 || st == 2)
  let acquire (k : Nat) : Prog := seqs [fset dpb (DPL.D_STAT_STATE i) 1,
    if s.dSel i = k then timerStart (tAcq i) else dSwitch i k]
  if !ctl (DPL.D_CTL_EN i) then
    (if st = 0 then [] else seqs [fset dpb (DPL.D_STAT_STATE i) 0, fset dpb (DPL.D_STAT_SEL i) 15,
      rset (dpb + DPL.D_FFO i) 0, dpllUpd i fun _ => {}, fbset dpb (DPL.D_STAT_HIST_FROZEN i) false,
      fbset dpb (DPL.D_STAT_SLEWING i) false, timerStop (tAcq i)] s)
  else if ctl (DPL.D_STAT_SLEWING i) then []
  else if st = 0 then
    match target with
    | some k => seqs [fset dpb (DPL.D_STAT_STATE i) 1, fset dpb (DPL.D_STAT_SEL i) k, timerStart (tAcq i)] s
    | none => []
  else if ctl (DPL.D_CTL_LOOP_OPEN i) then
    (if st = 4 then [] else seqs [histFreeze i, fset dpb (DPL.D_STAT_STATE i) 4, timerStop (tAcq i),
      dpllUpd i fun d => { d with openVal := s.ffo i }] s)
  else if lostVlg then seqs [dpllUpd i fun d => { d with held := true }, enterHoldover i] s
  else if st = 4 then
    match target with
    | some k => if ctl (DPL.D_CTL_FORCE_HO i) then enterHoldover i s else acquire k s
    | none => enterHoldover i s
  else if st = 3 then
    match target with
    | some k => if ctl (DPL.D_CTL_FORCE_HO i) then [] else acquire k s
    | none => []
  else if ctl (DPL.D_CTL_FORCE_HO i) then enterHoldover i s
  else match target with
    | none => enterHoldover i s
    | some k => if k = s.dSel i then [] else dSwitch i k s

/-- After a change of references: every reference, the freezing of history on the selected one, both DPLLs. -/
def refsEval : Prog := fun s =>
  if !s.live ⟨.dpl, 0⟩ then [] else
  seqs [forP (List.range 14) refEval,
    forP [0, 1] fun i t =>
      let k := t.dSel i
      if (t.dState i = 1 ∨ t.dState i = 2) ∧ (t.fb dpb (DPL.REF_STAT_DRIFTING k) ∨ !t.fb dpb (DPL.REF_STAT_ACT_OK k)
        ∨ !t.fb dpb (DPL.REF_STAT_FREQ_OK k)) then histFreeze i t else [],
    dpllEval 0, dpllEval 1] s

/-! ### Monitor events (R383–R386) -/

/-- A reference shows no activity: pins 0–3 as observed, the others by their lock bit. -/
def activityLoss (k : Nat) : Prog := fun s =>
  if !s.live ⟨.dpl, 0⟩ ∨ 13 ≤ k ∨ (4 ≤ k ∧ s.refLock k) then []
  else seqs [fbset dpb (DPL.REF_STAT_ACT_OK k) false, refUpd k fun r => { r with fofs := [] }, refsEval] s

/-- Activity returns. -/
def activityReturn (k : Nat) : Prog := fun s =>
  if !s.live ⟨.dpl, 0⟩ ∨ 13 ≤ k ∨ (4 ≤ k ∧ !s.refLock k) then []
  else seqs [fbset dpb (DPL.REF_STAT_ACT_OK k) true, refsEval] s

/-- A rounded quotient of an integer by a positive number. -/
def roundDiv (a : Int) (b : Nat) : Int := (2 * a + b) / (2 * (b : Int))

/-- The frequency monitor: the offset of each active reference against OSC_IN, in 10^−12 (R383). -/
def freqMeasure (offs : List Int) : Prog := fun s =>
  if !s.live ⟨.dpl, 0⟩ then [] else
  seqs [forP (List.range 14) fun k t =>
      match offs[k]? with
      | none => []
      | some x =>
        if !t.fb dpb (DPL.REF_STAT_ACT_OK k) then [] else
        let rej := t.fg dpb DPL.MON_CFG_REJECT * 1000
        let acc := t.fg dpb DPL.MON_CFG_ACCEPT * 1000
        seqs [refUpd k fun r => { r with fofs := (x :: r.fofs).take 256 },
          fset dpb (DPL.REF_MON_FOFS k) (tc 16 (clampS 16 (roundDiv x 1000))),
          if rej < x.natAbs then fbset dpb (DPL.REF_STAT_FREQ_OK k) false
          else if x.natAbs < acc then fbset dpb (DPL.REF_STAT_FREQ_OK k) true else skip] t,
    refsEval] s

/-- The drift-rate monitor of a reference: the slope over two halves of W seconds (R384). -/
def driftRef (k : Nat) : Prog := fun t =>
  let w := t.fg dpb DPL.DRIFT_CFG_WIN
  let h := w / 2
  let l := (t.ref k).fofs
  if l.length < 2 * h ∨ h = 0 then [] else
  let d := (l.take h).sum - ((l.drop h).take h).sum
  let big := decide (t.fg dpb DPL.DRIFT_CFG_LIM * 1000 * h * h < 60 * d.natAbs)
  let was := t.fb dpb (DPL.REF_STAT_DRIFTING k)
  let n := (t.ref k).below
  seqs [fset dpb (DPL.REF_MON_SLOPE k) (tc 16 (clampS 16 (roundDiv (60 * d) (1000 * h * h)))),
    refUpd k fun r => { r with below := if big then 0 else n + 1 },
    if big && !was then seqs [fbset dpb (DPL.REF_STAT_DRIFTING k) true, raise dpb 9]
    else if !big && decide (w ≤ n) then fbset dpb (DPL.REF_STAT_DRIFTING k) false else skip] t

/-- The drift-rate monitor evaluates every reference. -/
def driftEvaluate : Prog := fun s =>
  if !s.live ⟨.dpl, 0⟩ then [] else seqs [forP (List.range 14) driftRef, refsEval] s

/-- A reference's conditions have held for QUAL seconds: qualified, with a wait-to-restore unless it is the first time
since a DPLL that uses it was enabled (R385, R386). -/
def refQualified (k : Nat) : Prog := fun s =>
  if !s.live ⟨.dpl, 0⟩ ∨ !s.refGood k ∨ !s.running (tQual k) then []
  else seqs [clockEnd (tQual k) (s.fg dpb DPL.QUAL_CFG_QUAL * 1000000000), timerStop (tQual k), fbset dpb (DPL.REF_STAT_QUALIFIED k) true, refUpd k fun r => { r with quals := r.quals + 1 },
    if (s.ref k).quals ≠ 0 ∧ s.fg dpb DPL.QUAL_CFG_WTR ≠ 0 then timerStart (tWtr k) else skip, refsEval] s

/-- A wait-to-restore timer runs out. -/
def wtrExpiry (k : Nat) : Prog := fun s =>
  if s.live ⟨.dpl, 0⟩ ∧ s.running (tWtr k) then
    seqs [clockEnd (tWtr k) (s.fg dpb DPL.QUAL_CFG_WTR * 1000000000), timerStop (tWtr k), refsEval] s else []

/-- A DPLL records its control value and phase error, as its loop has them, each second (R390). In holdover, in the open
loop and in free run the control value is not the loop's. -/
def historySample (i : Nat) (ffo pherr : Int) : Prog := fun s =>
  let st := s.dState i
  let keep : Prog := seqs [rsetI (dpb + DPL.D_PHERR i) pherr,
    fbset dpb (DPL.D_STAT_PH_BIG i) (decide (1000000000 < pherr.natAbs))]
  if !s.live ⟨.dpl, 0⟩ then []
  else if st = 1 ∨ st = 2 then
    seqs [rsetI (dpb + DPL.D_FFO i) ffo, keep,
      if s.fb dpb (DPL.D_STAT_HIST_FROZEN i) then skip
      else dpllUpd i fun d => { d with hist := (ffo :: d.hist).take 3600 }] s
  else if st = 4 then keep s else []

/-- Frequency and phase have held for 10 s in ACQUIRE (R391). -/
def dpllLocked (i : Nat) : Prog := fun s =>
  if !s.live ⟨.dpl, 0⟩ ∨ s.dState i ≠ 1 ∨ s.fb dpb (DPL.D_STAT_SLEWING i) ∨ !s.running (tAcq i) then []
  else seqs [clockEnd (tAcq i) 10000000000, fset dpb (DPL.D_STAT_STATE i) 2, timerStop (tAcq i), fbset dpb (DPL.D_STAT_HIST_FROZEN i) false,
    dpllUpd i fun d => { d with hist := [] }, raise dpb (2 + 3 * i)] s

/-- A slew completes, and what waited for it takes effect (R389). -/
def slewDone : Prog := fun s =>
  if !s.live ⟨.dpl, 0⟩ ∨ !s.fb dpb (DPL.D_STAT_SLEWING 1) then []
  else seqs [fbset dpb (DPL.D_STAT_SLEWING 1) false, dpllUpd 1 fun d => { d with slew := 0 }, timerStop tDplSlew,
    raise dpb 6, refsEval] s

/-- A phase-error sample of a reference that carries time (R382, R394, R455), with its delay compensation. -/
def refPhase (k : Nat) (e : Int) : Prog := fun s =>
  let x := e + (s.reg (dpb + DPL.REF_DLY k)).toInt
  seqs [refUpd k fun r => { r with phase := some x },
    if s.dSel 1 = k ∧ s.dState 1 ≠ 0 ∧ s.dState 1 ≠ 3 then
      seqs [rsetI (dpb + DPL.D_PHERR 1) x, fbset dpb (DPL.D_STAT_PH_BIG 1) (decide (1000000000 < x.natAbs))]
    else skip] s

/-- A write of SW_PHERR (R383, R394). -/
def swPherr (v : Word) : Prog :=
  seqs [timerStart tSw, fbset dpb (DPL.REF_STAT_ACT_OK 13) true, refPhase 13 v.toInt, refsEval]

/-- No sample has been written within SW_TO (R383). -/
def swTimeout : Prog := fun s =>
  if s.live ⟨.dpl, 0⟩ ∧ s.running tSw then
    seqs [clockEnd tSw (s.fg dpb DPL.SW_CFG_SW_TO * 100000000), timerStop tSw, fbset dpb (DPL.REF_STAT_ACT_OK 13) false, refUpd 13 fun r => { r with fofs := [] },
      raise dpb 10, refsEval] s
  else []

/-- A sample of dREF of every reference (R202, R385). -/
def dplSample : Prog := fun s =>
  if !s.live ⟨.dpl, 0⟩ then [] else
  forP (List.range 14) (fun k t =>
    let act := t.fb dpb (DPL.REF_STAT_DREF k)
    let raw := !(t.fb dpb (DPL.REF_STAT_ACT_OK k) && t.fb dpb (DPL.REF_STAT_FREQ_OK k))
    let (now, run) := integrate act raw (t.ref k).run (t.reg (dpb + DPL.DEF_TIME)).toNat
    seqs [refUpd k fun r => { r with run := run }, fbset dpb (DPL.REF_STAT_DREF k) now,
      if now && !act then raise dpb 7 else if act && !now then raise dpb 8 else skip] t) s

/-! ### Writes (R387, R391, R392, R395, R398, R399) -/

/-- A write of Dd_CTL. -/
def dCtlWrite (i : Nat) (r : RegRow) (v : Word) : Prog := fun s =>
  let was := s.fb dpb (DPL.D_CTL_EN i)
  let go (v : Word) : Prog := seqs [rset (dpb + r.off) (r.merge (s.reg (dpb + r.off)) v),
    if wroteB v (DPL.D_CTL_EN i) && !was then forP (List.range 14) fun k t =>
      if t.prio i k ≠ 0 then refUpd k (fun q => { q with quals := if t.qualified k then 1 else 0 }) t else [] else skip,
    if wroteB v (DPL.D_CTL_STACK_HOLD i) then skip else dpllUpd i fun d => { d with held := false },
    fun t => if wroteB v (DPL.D_CTL_FORCE_HO i) ∧ (t.dState i = 1 ∨ t.dState i = 2) then histFreeze i t else [],
    refsEval]
  if wrote v (DPL.D_CTL_FORCE_REF i) = 14 then
    withFree (fun w => go (bitsPut v 4 4 (if w.getLsbD 31 then 15 else bitsGet w 0 16 % 14))) s
  else go v s

/-- A write of Dd_FFO_SET: in the open loop the output follows it, within the slope limit (R395). -/
def ffoSetWrite (src i : Nat) (v : Word) : Prog := fun s =>
  let o := (s.dpll i).openVal
  let lim : Int := s.fg dpb (DPL.D_SLOPE_NS_S i) * 1000
  let x := max (o - lim) (min (o + lim) v.toInt)
  seqs [rset (dpb + DPL.D_FFO_SET i) v,
    if s.dState i = 4 then seqs [rsetI (dpb + DPL.D_FFO i) x,
      if x = v.toInt then skip else errPage dpb (DPL.D_FFO_SET i) src cFFO_CLAMP] else skip] s

/-- A write of REFk_CFG (R392, R398). -/
def refCfgWrite (src k : Nat) (r : RegRow) (v : Word) : Prog := fun s =>
  let a := wrote v (DPL.REF_CFG_PRIO_A k)
  let b := wrote v (DPL.REF_CFG_PRIO_B k)
  let time := if k < 4 then wroteB v (DPL.REF_CFG_PPS k) else k == 12 || k == 13
  if (k = 6 ∨ k = 7) ∧ s.part = .hq9620C ∧ (a ≠ 0 ∨ b ≠ 0) then errPage dpb r.off src cREF_ABSENT s
  else if b ≠ 0 ∧ !time then errPage dpb r.off src cNO_PHASE s
  else seqs [plainWrite dpb r [⟨DPL.REF_CFG_SRC_SEL k, 0, if k = 12 then 3 else 47⟩] v,
    if src = Requester.host.id then forP [0, 1] fun i => dpllUpd i fun d => { d with held := false } else skip, refsEval] s

/-! ### Pulse outputs (R396) -/

/-- An output carries pulses: PPS or MF_PULSE. -/
def State.outPulse (s : State) (k : Nat) : Bool := s.fg dpb (DPL.OUT_CFG_SRC k) == 3 || s.fg dpb (DPL.OUT_CFG_SRC k) == 4

/-- The misalignment of an output's pulses in ns; MISALIGNED and its event above 10 ns. -/
def outMis (k : Nat) (x : Int) : Prog := fun s =>
  let big := decide (10 < x.natAbs)
  seqs [rsetI (dpb + DPL.OUT_MIS k) x,
    if big && !s.fb dpb (DPL.OUT_STAT_MISALIGNED k) then raise dpb 11 else skip,
    fbset dpb (DPL.OUT_STAT_MISALIGNED k) big] s

/-- The next pulse of an output moves to its next target; no effect on other sources. -/
def realign (k : Nat) : Prog := fun s => if s.outPulse k then outMis k 0 s else []

/-- The representative of a number modulo a period that is nearest to 0. -/
def wrapTo (p : Nat) (x : Int) : Int := let m := x % (p : Int); if (p : Int) < 2 * m then m - p else m

/-- A step of device time by `d` ns leaves 1PPS outputs at their old cadence. -/
def outsStepped (d : Int) : Prog := forP (List.range 4) fun k s =>
  if s.fg dpb (DPL.OUT_CFG_SRC k) = 3 then
    outMis k (wrapTo 1000000000 ((s.reg (dpb + DPL.OUT_MIS k)).toInt + d)) s else []

/-- A carrier's transmit timeline restarted: its outputs keep the cadence of the old one. -/
def outsRestarted (c : Nat) (old new : Timeline) : Prog := forP (List.range 4) fun k s =>
  if s.fg dpb (DPL.OUT_CFG_SRC k) = 4 ∧ s.fg dpb (DPL.OUT_CFG_CARRIER k) = c then
    outMis k (wrapTo new.mfNs ((s.reg (dpb + DPL.OUT_MIS k)).toInt + (old.start.toNat : Int) - (new.start.toNat : Int))) s
  else []

/-- A write of OUTk_CFG: a new source starts at its target; REALIGN realigns. -/
def outCfgWrite (k : Nat) (r : RegRow) (v : Word) : Prog := fun s =>
  let fresh := decide (wrote v (DPL.OUT_CFG_SRC k) ≠ s.fg dpb (DPL.OUT_CFG_SRC k)
    ∨ wrote v (DPL.OUT_CFG_CARRIER k) ≠ s.fg dpb (DPL.OUT_CFG_CARRIER k))
  seqs [plainWrite dpb r [⟨DPL.OUT_CFG_SRC k, 0, 4⟩, ⟨DPL.OUT_CFG_WIDTH k, 1, 255⟩] v,
    if fresh then outMis k 0 else skip, if wroteB v (DPL.OUT_CFG_REALIGN k) then realign k else skip] s

/-! ### Registers -/

def dplLims : List Lim :=
  [⟨DPL.D_SLOPE_NS_S 0, 1, 100000⟩, ⟨DPL.D_SLOPE_NS_S 1, 1, 100000⟩, ⟨DPL.D_HO_GUARD 0, 0, 3600⟩, ⟨DPL.D_HO_WIN 0, 1, 3600⟩,
   ⟨DPL.D_HO_GUARD 1, 0, 3600⟩, ⟨DPL.D_HO_WIN 1, 1, 3600⟩, ⟨DPL.DRIFT_CFG_WIN, 10, 240⟩, ⟨DPL.QUAL_CFG_QUAL, 1, 255⟩,
   ⟨DPL.QUAL_CFG_WTR, 0, 3600⟩, ⟨DPL.SW_CFG_SW_TO, 1, 255⟩]
   ++ (List.range 4).map (fun k => ⟨DPL.OUT_FREQ_KHZ k, 1, 1000000⟩)
   ++ (List.range 14).map fun k => ⟨DPL.REF_NOM_KHZ k, 1, 1000000⟩

/-- A write of a DPL register. -/
def dplWrite (src : Nat) (r : RegRow) (v : Word) : Prog := fun s =>
  match (List.range 2).find? fun i => r.off == DPL.D_CTL i || r.off == DPL.D_FFO_SET i with
  | some i => if r.off = DPL.D_CTL i then dCtlWrite i r v s else ffoSetWrite src i v s
  | none =>
    match (List.range 14).find? fun k => r.off == DPL.REF_CFG k with
    | some k => refCfgWrite src k r v s
    | none =>
      match (List.range 4).find? fun k => r.off == DPL.OUT_CFG k with
      | some k => outCfgWrite k r v s
      | none =>
        if r.off = DPL.SW_PHERR then swPherr v s
        else if (r.off = DPL.MON_CFG ∧ wrote v DPL.MON_CFG_REJECT ≤ wrote v DPL.MON_CFG_ACCEPT)
            ∨ (r.off = DPL.DRIFT_CFG ∧ wrote v DPL.DRIFT_CFG_WIN % 2 = 1) then
          withFree (fun w => rset (dpb + r.off) (r.merge (s.reg (dpb + r.off)) w)) s
        else plainWrite dpb r dplLims v s

/-- The computed registers of DPL. -/
def dplView (s : State) (off : Nat) : Option Word :=
  if off = DPL.REF_SUM then
    some (BitVec.ofNat 32 ((List.range 14).foldl (fun n k => n + b2n (s.qualified k) * 2 ^ (16 + k)
      + b2n (s.fb dpb (DPL.REF_STAT_DREF k)) * 2 ^ k) 0))
  else if off = DPL.D_SLEW_REM 1 then
    let e := (s.dpll 1).slew
    let moved := s.fg dpb (DPL.D_SLOPE_NS_S 1) * (if s.running tDplSlew then s.elapsed tDplSlew else 0) / 1000000
    let left : Int := (e.natAbs - moved : Nat)
    some (BitVec.ofInt 32 (if s.fb dpb (DPL.D_STAT_SLEWING 1) then (if e < 0 then -left else left) else 0))
  else (List.range 14).findSome? fun k =>
    if off = DPL.REF_STAT k then
      let v := s.reg (dpb + off)
      let raw := !(s.fb dpb (DPL.REF_STAT_ACT_OK k) && s.fb dpb (DPL.REF_STAT_FREQ_OK k))
      let left := s.fg dpb DPL.QUAL_CFG_WTR - (s.elapsed (tWtr k)) / 1000000000
      some (bitsPut (bitsPut (bitsPut v 6 1 (b2n raw)) 4 1 (b2n (s.eligible k))) 16 12 (if s.running (tWtr k) then left else 0))
    else none

end Sys2Proof.Machine
end

