-- ==== Sys2Proof/Machine/Meas.lean ====
section
/-!
DEFINITION. Machine/Meas.lean: the measurement M and its log (R496), which the boot and the loading of engine programs
extend.
-/

namespace Sys2Proof.Machine

/-- The bases of SEC and BOOT. -/
def secb : Nat := pageBase .sec 0
def btb : Nat := pageBase .boot 0

/-- Changes the record of the security functions, and of the boot. -/
def secUpd (f : SecRec → SecRec) : Prog := fun s => [.sec (f s.sec)]
def bootUpd (f : BootRec → BootRec) : Prog := fun s => [.boot (f s.boot)]

/-- An item is loaded: M ← SHA-256(M ‖ KIND ‖ D), and the log keeps the first 64 items (R496). -/
def measure (kind : Nat) (d : BitVec 256) : Prog := fun s =>
  let n := s.fg secb SEC.MLOG_N_COUNT
  seqs [secUpd fun r => { r with m := sha256 (bytesBE 32 r.m.toNat ++ bytesBE 4 kind ++ bytesBE 32 d.toNat) },
    if n < 64 then
      seqs [fun _ => .tabs (tabKey secb 3 n 0) (BitVec.ofNat 32 kind) :: (List.range 8).map fun i =>
          .tabs (tabKey secb 3 n (i + 1)) (d.extractLsb' (32 * (7 - i)) 32),
        fset secb SEC.MLOG_N_COUNT (n + 1)]
    else fbset secb SEC.MLOG_N_OVF true] s

/-- The flash bytes that have been written or erased, in address order. -/
def State.flashWrites (s : State) : List (Nat × Byte) := s.flash.filterMap fun e => e.2.map fun b => (e.1, b)

end Sys2Proof.Machine
end

