-- ==== Sys2Proof/Machine/Rv.lean ====
section
/-!
DEFINITION. Machine/Rv.lean: the instructions of the engines: RV32IMC of the RISC-V unprivileged specification in machine
mode, the CSR instructions, and the custom instructions (R425, R427), decoded from the bytes of a program.
-/

namespace Sys2Proof.Machine

/-- An engine instruction. Immediates and offsets are sign-extended; `f` is funct3. -/
inductive Rv
  | lui (rd : Nat) (imm : Word)
  | auipc (rd : Nat) (imm : Word)
  | jal (rd : Nat) (off : Word)
  | jalr (rd rs1 : Nat) (off : Word)
  | branch (f rs1 rs2 : Nat) (off : Word)
  | load (f rd rs1 : Nat) (off : Word)
  | store (f rs1 rs2 : Nat) (off : Word)
  /-- `alt`: SRAI -/
  | opImm (f rd rs1 : Nat) (imm : Word) (alt : Bool)
  /-- `alt`: SUB or SRA -/
  | op (f rd rs1 rs2 : Nat) (alt : Bool)
  | mulDiv (f rd rs1 rs2 : Nat)
  | fence
  | ecall
  | ebreak
  | mret
  | wfi
  /-- `f` 1–3 with a register, 5–7 with the number `rs1` itself -/
  | csr (f rd rs1 no : Nat)
  /-- 0 CMAC, 1 CMACJ, 2 CMUL -/
  | cmac (k rs1 rs2 : Nat)
  | accrd (rd rs2 : Nat)
  | msend (rd rs1 rs2 : Nat)
  | mrecv (rd rs1 : Nat)
  | waitt (rd rs1 rs2 : Nat) (mbox : Bool)
  | brd (rd rs1 : Nat) (off : Word)
  | bwr (rs1 rs2 : Nat) (off : Word)
  | illegal
  deriving DecidableEq, Repr

/-- A sign-extended immediate of `n` bits. -/
def immS (n x : Nat) : Word := BitVec.ofInt 32 (sx n x)

/-- Bits of an instruction word. -/
def ib (w lo n : Nat) : Nat := w / 2 ^ lo % 2 ^ n

/-- The offset of a branch and of JAL. -/
def bOff (w : Nat) : Word := immS 13 (ib w 31 1 * 4096 + ib w 7 1 * 2048 + ib w 25 6 * 32 + ib w 8 4 * 2)
def jOff (w : Nat) : Word := immS 21 (ib w 31 1 * 2 ^ 20 + ib w 12 8 * 4096 + ib w 20 1 * 2048 + ib w 21 10 * 2)

/-- The I-type and S-type immediates. -/
def iImm (w : Nat) : Word := immS 12 (ib w 20 12)
def sImm (w : Nat) : Word := immS 12 (ib w 25 7 * 32 + ib w 7 5)

/-- The custom instructions (R427): the register fields marked x0 must be 0; every other funct3 and funct7 is reserved. -/
def decodeCustom (w : Nat) : Rv :=
  let rd := ib w 7 5
  let rs1 := ib w 15 5
  let rs2 := ib w 20 5
  match ib w 12 3, ib w 25 7 with
  | 0, 0 => if rd = 0 then .cmac 0 rs1 rs2 else .illegal
  | 0, 1 => if rd = 0 then .cmac 1 rs1 rs2 else .illegal
  | 0, 2 => if rd = 0 then .cmac 2 rs1 rs2 else .illegal
  | 0, 3 => if rs1 = 0 then .accrd rd rs2 else .illegal
  | 1, 0 => .msend rd rs1 rs2
  | 2, 0 => if rs2 = 0 then .mrecv rd rs1 else .illegal
  | 3, 0 => .waitt rd rs1 rs2 false
  | 3, 1 => .waitt rd rs1 rs2 true
  | _, _ => .illegal

/-- SYSTEM: ECALL, EBREAK, MRET, WFI and the CSR instructions. -/
def decodeSystem (w : Nat) : Rv :=
  let f := ib w 12 3
  if f = 0 then
    match w with
    | 0x00000073 => .ecall
    | 0x00100073 => .ebreak
    | 0x30200073 => .mret
    | 0x10500073 => .wfi
    | _ => .illegal
  else if f = 4 then .illegal else .csr f (ib w 7 5) (ib w 15 5) (ib w 20 12)

/-- A 32-bit instruction. -/
def decode32 (w : Nat) : Rv :=
  let rd := ib w 7 5
  let f := ib w 12 3
  let rs1 := ib w 15 5
  let rs2 := ib w 20 5
  let f7 := ib w 25 7
  match ib w 0 7 with
  | 0x37 => .lui rd (BitVec.ofNat 32 (w / 4096 * 4096))
  | 0x17 => .auipc rd (BitVec.ofNat 32 (w / 4096 * 4096))
  | 0x6F => .jal rd (jOff w)
  | 0x67 => if f = 0 then .jalr rd rs1 (iImm w) else .illegal
  | 0x63 => if f = 2 ∨ f = 3 then .illegal else .branch f rs1 rs2 (bOff w)
  | 0x03 => if f = 3 ∨ 6 ≤ f then .illegal else .load f rd rs1 (iImm w)
  | 0x23 => if 3 ≤ f then .illegal else .store f rs1 rs2 (sImm w)
  | 0x13 =>
    if f = 1 then (if f7 = 0 then .opImm 1 rd rs1 (BitVec.ofNat 32 rs2) false else .illegal)
    else if f = 5 then (if f7 = 0 then .opImm 5 rd rs1 (BitVec.ofNat 32 rs2) false
      else if f7 = 32 then .opImm 5 rd rs1 (BitVec.ofNat 32 rs2) true else .illegal)
    else .opImm f rd rs1 (iImm w) false
  | 0x33 =>
    if f7 = 0 then .op f rd rs1 rs2 false
    else if f7 = 32 ∧ (f = 0 ∨ f = 5) then .op f rd rs1 rs2 true
    else if f7 = 1 then .mulDiv f rd rs1 rs2 else .illegal
  | 0x0F => if f = 0 then .fence else .illegal
  | 0x73 => decodeSystem w
  | 0x0B => decodeCustom w
  | 0x2B => if f = 0 then .brd rd rs1 (iImm w) else if f = 1 then .bwr rs1 rs2 (sImm w) else .illegal
  | _ => .illegal

/-- A 16-bit instruction of quadrant 0. -/
def decodeC0 (h : Nat) : Rv :=
  let rd := 8 + ib h 2 3
  let rs := 8 + ib h 7 3
  let offW : Word := BitVec.ofNat 32 (ib h 10 3 * 8 + ib h 6 1 * 4 + ib h 5 1 * 64)
  match ib h 13 3 with
  | 0 =>
    let imm := ib h 11 2 * 16 + ib h 7 4 * 64 + ib h 6 1 * 4 + ib h 5 1 * 8
    if imm = 0 then .illegal else .opImm 0 rd 2 (BitVec.ofNat 32 imm) false
  | 2 => .load 2 rd rs offW
  | 6 => .store 2 rs rd offW
  | _ => .illegal

/-- The offset of C.J and C.JAL, and of C.BEQZ and C.BNEZ. -/
def cjOff (h : Nat) : Word :=
  immS 12 (ib h 12 1 * 2048 + ib h 11 1 * 16 + ib h 9 2 * 256 + ib h 8 1 * 1024 + ib h 7 1 * 64 + ib h 6 1 * 128
    + ib h 3 3 * 2 + ib h 2 1 * 32)
def cbOff (h : Nat) : Word :=
  immS 9 (ib h 12 1 * 256 + ib h 10 2 * 8 + ib h 5 2 * 64 + ib h 3 2 * 2 + ib h 2 1 * 32)

/-- A 16-bit instruction of quadrant 1. -/
def decodeC1 (h : Nat) : Rv :=
  let rd := ib h 7 5
  let rs := 8 + ib h 7 3
  let rt := 8 + ib h 2 3
  let imm6 := ib h 12 1 * 32 + ib h 2 5
  match ib h 13 3 with
  | 0 => .opImm 0 rd rd (immS 6 imm6) false
  | 1 => .jal 1 (cjOff h)
  | 2 => .opImm 0 rd 0 (immS 6 imm6) false
  | 3 =>
    if rd = 2 then
      let x := ib h 12 1 * 512 + ib h 6 1 * 16 + ib h 5 1 * 64 + ib h 3 2 * 128 + ib h 2 1 * 32
      if x = 0 then .illegal else .opImm 0 2 2 (immS 10 x) false
    else if imm6 = 0 then .illegal else .lui rd (BitVec.ofInt 32 (sx 6 imm6 * 4096))
  | 4 =>
    match ib h 10 2 with
    | 0 => if 32 ≤ imm6 then .illegal else .opImm 5 rs rs (BitVec.ofNat 32 imm6) false
    | 1 => if 32 ≤ imm6 then .illegal else .opImm 5 rs rs (BitVec.ofNat 32 imm6) true
    | 2 => .opImm 7 rs rs (immS 6 imm6) false
    | _ =>
      if ib h 12 1 = 1 then .illegal
      else match ib h 5 2 with
        | 0 => .op 0 rs rs rt true
        | 1 => .op 4 rs rs rt false
        | 2 => .op 6 rs rs rt false
        | _ => .op 7 rs rs rt false
  | 5 => .jal 0 (cjOff h)
  | 6 => .branch 0 rs 0 (cbOff h)
  | _ => .branch 1 rs 0 (cbOff h)

/-- A 16-bit instruction of quadrant 2. -/
def decodeC2 (h : Nat) : Rv :=
  let rd := ib h 7 5
  let rs2 := ib h 2 5
  match ib h 13 3 with
  | 0 => if ib h 12 1 = 1 then .illegal else .opImm 1 rd rd (BitVec.ofNat 32 rs2) false
  | 2 => if rd = 0 then .illegal
    else .load 2 rd 2 (BitVec.ofNat 32 (ib h 12 1 * 32 + ib h 4 3 * 4 + ib h 2 2 * 64))
  | 4 =>
    if ib h 12 1 = 0 then
      (if rs2 = 0 then (if rd = 0 then .illegal else .jalr 0 rd 0) else .op 0 rd 0 rs2 false)
    else if rs2 = 0 then (if rd = 0 then .ebreak else .jalr 1 rd 0)
    else .op 0 rd rd rs2 false
  | 6 => .store 2 2 rs2 (BitVec.ofNat 32 (ib h 9 4 * 4 + ib h 7 2 * 64))
  | _ => .illegal

/-- The instruction that starts with the low 16 bits of a fetched word, and its length in bytes. -/
def rvDecode (w : Nat) : Rv × Nat :=
  match w % 4 with
  | 0 => (decodeC0 (w % 65536), 2)
  | 1 => (decodeC1 (w % 65536), 2)
  | 2 => (decodeC2 (w % 65536), 2)
  | _ => (decode32 w, 4)

/-- The integer operations by funct3 (RV32I). -/
def aluOp (f : Nat) (alt : Bool) (a b : Word) : Word :=
  match f with
  | 0 => if alt then a - b else a + b
  | 1 => a <<< (b.toNat % 32)
  | 2 => if a.toInt < b.toInt then 1 else 0
  | 3 => if a.toNat < b.toNat then 1 else 0
  | 4 => a ^^^ b
  | 5 => if alt then a.sshiftRight (b.toNat % 32) else a >>> (b.toNat % 32)
  | 6 => a ||| b
  | _ => a &&& b

/-- Multiplication and division by funct3 (the M extension). -/
def mulOp (f : Nat) (a b : Word) : Word :=
  match f with
  | 0 => a * b
  | 1 => BitVec.ofInt 32 (a.toInt * b.toInt / 2 ^ 32)
  | 2 => BitVec.ofInt 32 (a.toInt * (b.toNat : Int) / 2 ^ 32)
  | 3 => BitVec.ofNat 32 (a.toNat * b.toNat / 2 ^ 32)
  | 4 => if b = 0 then 0xFFFFFFFF else BitVec.ofInt 32 (a.toInt.tdiv b.toInt)
  | 5 => if b = 0 then 0xFFFFFFFF else BitVec.ofNat 32 (a.toNat / b.toNat)
  | 6 => if b = 0 then a else BitVec.ofInt 32 (a.toInt.tmod b.toInt)
  | _ => if b = 0 then a else BitVec.ofNat 32 (a.toNat % b.toNat)

/-- Whether a branch is taken, by funct3. -/
def brTaken (f : Nat) (a b : Word) : Bool :=
  match f with
  | 0 => a == b
  | 1 => a != b
  | 4 => decide (a.toInt < b.toInt)
  | 5 => decide (b.toInt ≤ a.toInt)
  | 6 => decide (a.toNat < b.toNat)
  | _ => decide (b.toNat ≤ a.toNat)

/-- The registers that an instruction reads. -/
def Rv.reads : Rv → List Nat
  | .jalr _ a _ | .load _ _ a _ | .opImm _ _ a _ _ | .mrecv _ a | .brd _ a _ | .accrd _ a => [a]
  | .branch _ a b _ | .store _ a b _ | .op _ _ a b _ | .mulDiv _ _ a b | .cmac _ a b | .msend _ a b | .waitt _ a b _
  | .bwr a b _ => [a, b]
  | .csr f _ a _ => if f < 4 then [a] else []
  | _ => []

/-! ### Complex accumulator (R428) -/

/-- A part of ACC saturates at ±(2^39 − 1). -/
def sat40 (x : Int) : Int := max (-(2 ^ 39 - 1)) (min (2 ^ 39 - 1) x)

/-- The real and imaginary parts of a packed operand. -/
def cRe (w : Word) : Int := sx 16 w.toNat
def cIm (w : Word) : Int := sx 16 (w.toNat / 65536)

/-- ACC after CMAC, CMACJ or CMUL. -/
def accNext (k : Nat) (re im : Int) (a b : Word) : Int × Int :=
  let bi := if k = 1 then -cIm b else cIm b
  let r := cRe a * cRe b - cIm a * bi
  let i := cRe a * bi + cIm a * cRe b
  if k = 2 then (sat40 r, sat40 i) else (sat40 (re + r), sat40 (im + i))

/-- ACCRD: a part shifted right with rounding and saturated to 16 bits. -/
def accPart (x : Int) (sh : Nat) : Nat :=
  tc 16 (clampS 16 (if sh = 0 then x else (x + 2 ^ (sh - 1)) / 2 ^ sh))

def accPacked (re im : Int) (sh : Nat) : Word := BitVec.ofNat 32 (accPart im sh * 65536 + accPart re sh)

end Sys2Proof.Machine
end

