-- ==== Sys2Proof/Machine/Eng.lean ====
section
/-!
DEFINITION. Machine/Eng.lean: the engine clusters: instruction execution over the engine address map, traps, mailboxes,
waits, the ledger and its counters, sampled traces, program loads and BAR2, on the ENGk pages (R11, R424–R442). BRD and
BWR, which reach every page, stand in Machine/EngBus.lean.
-/

namespace Sys2Proof.Machine

/-- The base of ENGk. -/
def enb (k : Nat) : Nat := pageBase .eng k

def cENG_NOT_HALTED : Nat := 0x80
def cENG_CLOSED : Nat := 0x81
def cLOAD_BUSY : Nat := 0x82
def cMB_FULL : Nat := 0x83

/-- Changes the record of an engine, and of a cluster. -/
def engUpd (id : Nat) (f : EngRec → EngRec) : Prog := fun s => [.engs id (f (s.eng id))]
def clUpd (k : Nat) (f : ClRec → ClRec) : Prog := fun s => [.cls8 k (f (s.cl k))]

/-- A cluster is out of reset: populated, powered, its island released. -/
def State.clUp (s : State) (k : Nat) : Bool :=
  (s.part != .hq9620C || (k != 2 && k != 3)) && s.pdOn (64 + k) && !s.islandDown (11 + k)

/-- A cluster's engines run. -/
def State.clRun (s : State) (k : Nat) : Bool := s.clUp k && !s.fb (enb k) ENG.CL_STAT_HALTED

/-- Engine cycles since a tick, at 1.5 GHz. -/
def State.cyclesSince (s : State) (t : Nat) : Nat := (s.ticks - t) * 3 / 2

/-- CYCLE of an engine of a cluster. -/
def State.clCycle (s : State) (k : Nat) : Nat := s.cyclesSince (s.cl k).base % 2 ^ 64

/-- A word of an ENGk table as stored. -/
def engKey (k t e w : Nat) : Nat := tabKey (enb k) t e w

/-! ### Registers and memory (R425, R426) -/

def EngRec.reg (r : EngRec) (i : Nat) : Word := if i = 0 then 0 else r.regs.getD i 0
def EngRec.put (r : EngRec) (i : Nat) (v : Word) : EngRec := if i = 0 then r else { r with regs := r.regs.set i v }

/-- Where an engine address lies. -/
inductive EngLoc
  /-- on-die memory by BAR2 address; the kind: 0 instruction SRAM, 1 data SRAM, 2 shared memory -/
  | die (kind addr : Nat)
  | heap (addr : Nat)
  | none
  deriving DecidableEq, Repr

/-- The engine address map (R426): `n` bytes at an address. -/
def State.engLoc (s : State) (id a n : Nat) : EngLoc :=
  let k := id / 64
  let own := k * 0x800000 + 0x400000 + id % 64 * 0x10000
  if a + n ≤ 0x8000 then .die 0 (own + a)
  else if 0x10000000 ≤ a ∧ a + n ≤ 0x10008000 then .die 1 (own + 0x8000 + (a - 0x10000000))
  else if 0x20000000 ≤ a ∧ a + n ≤ 0x20400000 then .die 2 (k * 0x800000 + (a - 0x20000000))
  else if 0x40000000 ≤ a ∧ a + n ≤ 0x80000000 then
    let off := (s.eng id).heapWin * 2 ^ 30 + (a - 0x40000000)
    if s.regionOn (3 + k) ∧ off + n ≤ s.regionLen (3 + k) * 2 ^ 20 then .heap (s.regionBase (3 + k) * 2 ^ 20 + off) else .none
  else .none

/-- The number stored in `n` bytes at a place, little-endian. -/
def State.engGet (s : State) (l : EngLoc) (n : Nat) : Nat :=
  match l with
  | .die _ a => ofBytesLE ((List.range n).map fun i => s.engByte (a + i))
  | .heap a => ofBytesLE ((List.range n).map fun i => s.ddrByte (a + i))
  | .none => 0

/-- Stores bytes at a place. -/
def engStore (l : EngLoc) (x : List Byte) : Prog := fun _ =>
  match l with
  | .die _ a => x.zipIdx.map fun p => .engMem (a + p.2) p.1
  | .heap a => x.zipIdx.map fun p => .ddrMem (a + p.2) p.1
  | .none => []

/-! ### The ledger and the counters (R433–R435) -/

/-- Cycles charged alike: how many, their class (0 COMMIT, 1 FLUSH, 2 FETCH_GAP, 3 HOLD), the stall cause of a hold, and
the PC that they carry. -/
structure Slot where
  n : Nat
  cls : Nat
  cause : Nat
  pc : Word
  deriving DecidableEq, Repr

/-- The EVSEL word of a counter. -/
def State.evsel (s : State) (id i : Nat) : Word := s.tab (engKey (id / 64) 1 (id % 64 * 8 + i) 0)

/-- A counter counts (R435). -/
def State.pmcOn (s : State) (id i : Nat) : Bool :=
  let b := enb (id / 64)
  s.fb b ENG.CL_CTL_PMU_EN && !s.fb b ENG.CL_STAT_FROZEN && (s.evsel id i).getLsbD 8

/-- A counter counts `n` events of an instruction; a wrap sets OVF (R435). -/
def pmcAdd (id i n : Nat) (pc : Word) : Prog := fun s =>
  let x := (s.eng id).pmcs.getD i 0 + n
  let w := s.evsel id i
  if n = 0 then [] else
  seqs [engUpd id fun r => { r with pmcs := r.pmcs.set i (x % 2 ^ 48) },
    if x < 2 ^ 48 then skip
    else seqs [fun _ => [.tabs (engKey (id / 64) 1 (id % 64 * 8 + i) 0) (w ||| 0x10000)],
      engUpd id fun r => { r with ovfPc := pc },
      if w.getLsbD 10 then raise (enb (id / 64)) 2 else skip]] s

/-- How many events of a code some cycles are; what a reserved code counts is open (R442). -/
def slotEvents (code : Nat) (q : Slot) : Nat :=
  if code = 1 then q.n
  else if 2 ≤ code ∧ code ≤ 5 then (if q.cls = code - 2 then q.n else 0)
  else if 8 ≤ code ∧ code ≤ 16 then (if q.cls = 3 ∧ q.cause = code then q.n else 0)
  else if 0x16 ≤ code then Config.openNat (0x7100 + code) * q.n
  else 0

/-- Charges cycles and counts events of an engine (R433, R434). -/
def charge (id : Nat) (slots : List Slot) (evs : List (Nat × Nat)) (pc : Word) : Prog := fun s =>
  let on := (List.range 8).filter (s.pmcOn id)
  let classes := slots.flatMap fun q => List.replicate (min q.n 16) q.cls
  seqs [forP on fun i => seqs [forP slots fun q => pmcAdd id i (slotEvents (bitsGet (s.evsel id i) 0 8) q) q.pc,
      pmcAdd id i ((evs.filter fun e => e.1 == bitsGet (s.evsel id i) 0 8).map Prod.snd).sum pc],
    engUpd id fun r => { r with
      tail := (r.tail ++ classes).drop ((r.tail ++ classes).length - 3),
      trc := r.trc.map fun t => { t with strip := (t.strip ++ classes).take 16 },
      accWait := r.accWait - (slots.map Slot.n).sum }] s

/-! ### Traps (R425) -/

/-- The pending interrupts: MBOX and PMOVF (R425, R435). -/
def State.engMip (s : State) (id : Nat) : Nat :=
  b2n (!(s.eng id).fifo.isEmpty) * 2 ^ 16
    + b2n ((List.range 8).any fun i => (s.evsel id i).getLsbD 16 && (s.evsel id i).getLsbD 9) * 2 ^ 17

/-- The interrupt an engine would take now, lowest number first. -/
def State.engIrq (s : State) (id : Nat) : Option Nat :=
  let r := s.eng id
  if r.mstatus.getLsbD 3 then [16, 17].find? fun n => bitOf (s.engMip id) n && r.mie.getLsbD n else none

/-- A trap: saved PC, cause and value, interrupts disabled, the PC at the vector; with mtvec 0 the engine halts and
raises ENG_FAULT (R425). -/
def engTrap (id cause : Nat) (irq : Bool) (tval : Word) : Prog := fun s =>
  let r := s.eng id
  let k := id / 64
  let flush : Prog := charge id [⟨1, 1, 0, r.pc⟩] [(if irq then 0x14 else 0x13, 1)] r.pc
  if r.mtvec = 0 then
    seqs [engUpd id fun r => { r with st := 4, mcause := BitVec.ofNat 32 (b2n irq * 2 ^ 31 + cause), mtval := tval },
      flush, raise (enb k) 4, report eENG_FAULT (11 + k) (enb k) r.pc.toNat (id % 64)] s
  else
    let base := r.mtvec &&& ~~~3
    seqs [engUpd id fun r => { r with
        st := 0, mepc := r.pc, mcause := BitVec.ofNat 32 (b2n irq * 2 ^ 31 + cause), mtval := tval,
        mstatus := (r.mstatus &&& 0xFFFFFF77) ||| (if r.mstatus.getLsbD 3 then 0x80 else 0),
        pc := if irq && r.mtvec.getLsbD 0 then base + BitVec.ofNat 32 (4 * cause) else base,
        trc := r.trc.map fun t => if t.pc = r.pc ∧ t.strip.length ≤ 3 then { t with outcome := 2 } else t },
      flush] s

/-! ### CSRs (R425, R428, R429) -/

/-- A CSR as it reads; none of the others is implemented. -/
def State.csrGet (s : State) (id no : Nat) : Option Word :=
  let r := s.eng id
  match no with
  | 0x300 => some r.mstatus
  | 0x304 => some r.mie
  | 0x305 => some r.mtvec
  | 0x340 => some r.mscratch
  | 0x341 => some r.mepc
  | 0x342 => some r.mcause
  | 0x343 => some r.mtval
  | 0x344 => some (BitVec.ofNat 32 (s.engMip id))
  | 0xF14 => some (BitVec.ofNat 32 id)
  | 0xC00 => some (BitVec.ofNat 32 (s.clCycle (id / 64)))
  | 0xC80 => some (BitVec.ofNat 32 (s.clCycle (id / 64) / 2 ^ 32))
  | 0x7C0 => some r.mbstat
  | 0x7C1 => some (BitVec.ofInt 32 r.accRe)
  | 0x7C2 => some (BitVec.ofNat 32 (tc 40 r.accRe / 2 ^ 32))
  | 0x7C3 => some (BitVec.ofInt 32 r.accIm)
  | 0x7C4 => some (BitVec.ofNat 32 (tc 40 r.accIm / 2 ^ 32))
  | 0x7C5 => some (BitVec.ofNat 32 r.heapWin)
  | _ => none

/-- A CSR takes a written value. -/
def EngRec.csrPut (r : EngRec) (no : Nat) (v : Word) : EngRec :=
  let lo (x : Int) : Int := sx 40 (tc 40 x / 2 ^ 32 * 2 ^ 32 + v.toNat)
  let hi (x : Int) : Int := sx 40 (tc 40 x % 2 ^ 32 + v.toNat % 256 * 2 ^ 32)
  match no with
  | 0x300 => { r with mstatus := (v &&& 0x88) ||| 0x1800 }
  | 0x304 => { r with mie := v &&& 0x30000 }
  | 0x305 => { r with mtvec := v &&& ~~~2 }
  | 0x340 => { r with mscratch := v }
  | 0x341 => { r with mepc := v &&& ~~~1 }
  | 0x342 => { r with mcause := v }
  | 0x343 => { r with mtval := v }
  | 0x7C0 => { r with mbstat := v &&& 0x800003FF }
  | 0x7C1 => { r with accRe := lo r.accRe }
  | 0x7C2 => { r with accRe := hi r.accRe }
  | 0x7C3 => { r with accIm := lo r.accIm }
  | 0x7C4 => { r with accIm := hi r.accIm }
  | 0x7C5 => { r with heapWin := v.toNat % 16 }
  | _ => r

/-! ### Mailboxes (R429) -/

/-- Whether a destination takes another word: 16 words of an engine, 64 of a host FIFO, those on their way among them. -/
def State.mailRoom (s : State) (src dst : Nat) : Bool :=
  let way := (s.mails.filter fun m => m.dst == dst && (dst != 0x3FF || m.src / 64 == src / 64)).length
  if dst = 0x3FF then decide ((s.cl (src / 64)).host.length + way < 64) else decide ((s.eng dst).fifo.length + way < 16)

/-- MSEND's status for a destination, none where it is open (R442). -/
def State.mailStatus (s : State) (src : Nat) (a : Word) : Option Nat :=
  let dst := a.toNat
  if dst = 0x3FF then some (if s.mailRoom src dst then 0 else 1)
  else if 512 ≤ dst ∨ (s.part = .hq9620C ∧ (dst / 64 = 2 ∨ dst / 64 = 3)) then none
  else if !s.clUp (dst / 64) then some 2
  else some (if s.mailRoom src dst then 0 else 1)

/-- A word on its way arrives, 16 cycles after MSEND in its own cluster and 120 in another; words from one sender to one
destination arrive in order. -/
def mailDeliver (src dst : Nat) : Prog := fun s =>
  match s.mails.find? fun m => m.src == src && m.dst == dst with
  | none => []
  | some m =>
    let k := if dst = 0x3FF then src / 64 else dst / 64
    seqs [clockTo (m.tick + if dst = 0x3FF ∨ dst / 64 = src / 64 then 11 else 80), fun t => [.mails (t.mails.erase m)],
      if !s.clUp k then skip
      else if dst = 0x3FF then seqs [clUpd k fun r => { r with host := r.host ++ [(src, m.word)] }, raise (enb k) 5]
      else engUpd dst fun r => { r with fifo := r.fifo ++ [(src, m.word)] }] s

/-- An engine takes the next word of its mailbox. -/
def EngRec.takeWord (r : EngRec) (rd : Nat) : EngRec :=
  match r.fifo with
  | (from', w) :: l => { r.put rd w with fifo := l, mbstat := BitVec.ofNat 32 (2 ^ 31 + from') }
  | [] => { r.put rd 0 with mbstat := 0 }

/-! ### Execution (R425–R430) -/

/-- What an instruction does: the next PC, a register written, a further change of its engine, other effects, the cycles
it is held and why, what the ledger is charged after it, its events, a register whose result comes late. -/
structure RvDone where
  pc : Word
  rd : Nat := 0
  val : Word := 0
  upd : EngRec → EngRec := id
  also : Prog := skip
  hold : Nat := 0
  cause : Nat := 8
  post : List Slot := []
  evs : List (Nat × Nat) := []
  late : Nat := 0
  commit : Bool := true

/-- An instruction completes, or raises an exception. -/
inductive RvRes
  | done (d : RvDone)
  | trap (cause : Nat) (tval : Word)

/-- How many bytes a load or store moves. -/
def accSize (f : Nat) : Nat := 2 ^ (f % 4)

/-- A load (R426): beyond the data SRAM it stalls, `extra` being what arbitration or the heap adds. -/
def State.rvLoad (s : State) (id f rd : Nat) (a : Word) (next : Word) (extra : Nat) : RvRes :=
  let n := accSize f
  if a.toNat % n ≠ 0 then .trap 4 a
  else
    let l := s.engLoc id a.toNat n
    let x := s.engGet l n
    let v : Word := if f < 3 then BitVec.ofInt 32 (sx (8 * n) x) else BitVec.ofNat 32 x
    match l with
    | .none => .trap 5 a
    | .heap _ => .done { pc := next, rd := rd, val := v, hold := extra, cause := 0xA }
    | .die 0 _ => .done { pc := next, rd := rd, val := v, hold := 1 }
    | .die 1 _ => .done { pc := next, rd := rd, val := v, late := rd }
    | .die _ _ => .done { pc := next, rd := rd, val := v, hold := 3 + extra, cause := 9 }

/-- A store: posted; not to instruction SRAM. -/
def State.rvStore (s : State) (id f : Nat) (a v next : Word) : RvRes :=
  let n := accSize f
  if a.toNat % n ≠ 0 then .trap 6 a
  else match s.engLoc id a.toNat n with
    | .none => .trap 7 a
    | .die 0 _ => .trap 7 a
    | l => .done { pc := next, also := engStore l (bytesLE n v.toNat) }

/-- A branch with the static prediction of R425 and its cycles. -/
def rvBranch (pc next off : Word) (taken : Bool) : RvRes :=
  let back := off.getLsbD 31
  let goal := pc + off
  let dest := if taken then goal else next
  .done { pc := dest,
          post := if taken = back then (if taken then [⟨1, 2, 0, goal⟩] else []) else [⟨2, 1, 0, if taken then next else goal⟩],
          evs := (if taken then [(7, 1)] else []) ++ (if taken = back then [] else [(6, 1)]) }

/-- A CSR instruction: an unimplemented CSR, or a write of a read-only one, is illegal. -/
def State.rvCsr (s : State) (id f rd rs1 no : Nat) (next : Word) : RvRes :=
  let a : Word := if f < 4 then (s.eng id).reg rs1 else BitVec.ofNat 32 rs1
  let write := f % 4 == 1 || rs1 != 0
  match s.csrGet id no with
  | none => .trap 2 0
  | some old =>
    if write ∧ no / 1024 = 3 then .trap 2 0
    else
      let v := if f % 4 = 1 then a else if f % 4 = 2 then old ||| a else old &&& ~~~a
      .done { pc := next, rd := rd, val := old, upd := fun r => if write then r.csrPut no v else r }

/-- What an instruction other than BRD and BWR does; `extra`: cycles that memory adds (R426). -/
def State.rvExec (s : State) (id : Nat) (i : Rv) (len extra : Nat) : RvRes :=
  let r := s.eng id
  let pc := r.pc
  let next := pc + BitVec.ofNat 32 len
  let k := id / 64
  match i with
  | .lui rd v => .done { pc := next, rd := rd, val := v }
  | .auipc rd v => .done { pc := next, rd := rd, val := pc + v }
  | .jal rd off => .done { pc := pc + off, rd := rd, val := next, post := [⟨1, 2, 0, pc + off⟩], evs := [(7, 1)] }
  | .jalr rd a off =>
    let t := (r.reg a + off) &&& ~~~1
    .done { pc := t, rd := rd, val := next, post := [⟨2, 2, 0, t⟩], evs := [(7, 1)] }
  | .branch f a b off => rvBranch pc next off (brTaken f (r.reg a) (r.reg b))
  | .load f rd a off => s.rvLoad id f rd (r.reg a + off) next extra
  | .store f a b off => s.rvStore id f (r.reg a + off) (r.reg b) next
  | .opImm f rd a v alt => .done { pc := next, rd := rd, val := aluOp f alt (r.reg a) v }
  | .op f rd a b alt => .done { pc := next, rd := rd, val := aluOp f alt (r.reg a) (r.reg b) }
  | .mulDiv f rd a b =>
    if f < 4 then .done { pc := next, rd := rd, val := mulOp f (r.reg a) (r.reg b), late := rd }
    else .done { pc := next, rd := rd, val := mulOp f (r.reg a) (r.reg b), hold := 33, cause := 0xF }
  | .fence => .done { pc := next }
  | .wfi => .done { pc := next }
  | .ecall => .trap 11 0
  | .ebreak => .trap 3 pc
  | .mret => .done { pc := r.mepc, upd := fun r => { r with
      mstatus := (r.mstatus &&& 0xFFFFFF77) ||| 0x80 ||| (if r.mstatus.getLsbD 7 then 8 else 0) } }
  | .csr f rd a no => s.rvCsr id f rd a no next
  | .cmac q a b =>
    let x := accNext q r.accRe r.accIm (r.reg a) (r.reg b)
    .done { pc := next, upd := fun r => { r with accRe := x.1, accIm := x.2, accWait := 3 } }
  | .accrd rd b =>
    .done { pc := next, rd := rd, val := accPacked r.accRe r.accIm ((r.reg b).toNat % 32), hold := r.accWait, cause := 0x10 }
  | .msend rd a b =>
    match s.mailStatus id (r.reg a) with
    | none => .done { pc := next, rd := rd, val := s.freeW, also := fun t => [.free (t.free + 1)] }
    | some 0 => .done { pc := next, rd := rd, val := 0,
                        also := fun t => [.mails (t.mails ++ [⟨id, (r.reg a).toNat, r.reg b, t.ticks⟩])] }
    | some n => .done { pc := next, rd := rd, val := BitVec.ofNat 32 n, evs := [(0x11, 1)],
                        also := if n = 1 ∧ (r.reg a).toNat = 0x3FF then raise (enb k) 6 else skip }
  | .mrecv rd a =>
    if r.fifo.isEmpty ∧ (r.reg a).toNat ≠ 0 then
      .done { pc := pc, commit := false,
              upd := fun r => { r with st := 2, rd := rd, limit := (r.reg a).toNat, tick := s.ticks, len := len } }
    else .done { pc := next, upd := fun r => r.takeWord rd, hold := if r.fifo.isEmpty then 0 else 1, cause := 0xD,
                 evs := if r.fifo.isEmpty then [] else [(0x12, 1)] }
  | .waitt rd a b w =>
    let t : BitVec 64 := ((r.reg b).zeroExtend 64 <<< 32) ||| (r.reg a).zeroExtend 64
    if t ≤ s.nowNs then .done { pc := next, rd := rd, val := 0, hold := 1, cause := 0xE }
    else if w ∧ !r.fifo.isEmpty then .done { pc := next, rd := rd, val := 1, hold := 1, cause := 0xE }
    else .done { pc := pc, commit := false,
                 upd := fun r => { r with st := 1, rd := rd, target := t, wake := w, tick := s.ticks, len := len } }
  | .brd _ _ _ | .bwr _ _ _ | .illegal => .trap 2 0

/-- The instruction at an engine's PC: its bytes, decoded, and its length; outside the instruction SRAM none. -/
def State.rvFetch (s : State) (id : Nat) : Option (Rv × Nat × Word) :=
  let pc := (s.eng id).pc.toNat
  if 0x8000 < pc + 2 then none
  else
    let own := id / 64 * 0x800000 + 0x400000 + id % 64 * 0x10000
    let lo := s.engGet (.die 0 (own + pc)) 2
    if lo % 4 ≠ 3 then some ((rvDecode lo).1, 2, BitVec.ofNat 32 lo)
    else if 0x8000 < pc + 4 then none
    else
      let w := s.engGet (.die 0 (own + pc)) 4
      some ((rvDecode w).1, 4, BitVec.ofNat 32 w)

/-- The instruction issues as a sample, or the count to the next sample runs on (R438). -/
def traceIssue (id : Nat) (pc inst : Word) (wait cause : Nat) : Prog := fun s =>
  let b := enb (id / 64)
  let r := s.eng id
  let per := s.fg b ENG.TRC_CFG_PERIOD
  let draw (f : Nat → EngRec → EngRec) : Prog :=
    withFree fun w => engUpd id (f (per - per / 4 + w.toNat % max 1 (per / 4 * 2)))
  if !s.fb b ENG.TRC_CFG_EN then (if r.trcLeft.isNone then [] else engUpd id (fun r => { r with trcLeft := none }) s)
  else match r.trcLeft with
    | none => draw (fun n r => { r with trcLeft := some n }) s
    | some (n + 1) => engUpd id (fun r => { r with trcLeft := some n }) s
    | some 0 =>
      let t : TrcRec := { pc := pc, inst := inst, time := s.nowNs.extractLsb' 0 32, wait := wait, outcome := 0,
                            cause := if wait = 0 then 0 else cause - 8, strip := r.tail }
      if r.trc.isSome then draw (fun n r => { r with trcLeft := some n }) s
      else draw (fun n r => { r with trcLeft := some n, trc := some t }) s

/-- An instruction's effects on its engine and the ledger. -/
def rvCommit (id : Nat) (inst : Word) (reads : List Nat) (d : RvDone) : Prog := fun s =>
  let r := s.eng id
  let use := r.late != 0 && reads.contains r.late
  let held := (if use then [Slot.mk 1 3 8 r.pc] else []) ++ (if d.hold = 0 then [] else [Slot.mk d.hold 3 d.cause r.pc])
  if !d.commit then engUpd id d.upd s else
  seqs [charge id held [] r.pc,
    traceIssue id r.pc inst (d.hold + b2n use) (if d.hold = 0 then 8 else d.cause),
    d.also,
    engUpd id fun r => d.upd { r.put d.rd d.val with pc := d.pc, late := d.late },
    charge id (Slot.mk 1 0 0 r.pc :: d.post) d.evs r.pc] s

/-- An engine runs and may issue an instruction. -/
def State.engReady (s : State) (id : Nat) : Bool := s.clRun (id / 64) && (s.eng id).st == 0

/-- The instructions that the custom rows name; the others are those of the base set. -/
def Rv.base : Rv → Bool
  | .cmac _ _ _ | .accrd _ _ | .msend _ _ _ | .mrecv _ _ | .waitt _ _ _ _ | .brd _ _ _ | .bwr _ _ _ => false
  | _ => true

/-- An engine issues its next instruction if that is one of those named: it completes or traps. -/
def engIssue (id : Nat) (ok : Rv → Bool) (extra : Nat) : Prog := fun s =>
  if !s.engReady id ∨ (s.engIrq id).isSome then []
  else match s.rvFetch id with
    | none => if ok .illegal then engTrap id 1 false (s.eng id).pc s else []
    | some (i, len, inst) =>
      if !ok i then []
      else match s.rvExec id i len extra with
        | .done d => rvCommit id inst i.reads d s
        | .trap c v => engTrap id c false (if c = 2 then inst else v) s

/-- An engine takes a pending interrupt, also while it waits (R430), or the exception that its next instruction
raises. -/
def engTrapRow (id : Nat) : Prog := fun s =>
  let r := s.eng id
  if !s.clRun (id / 64) ∨ r.st = 4 then []
  else match s.engIrq id with
    | some n => engTrap id n true 0 s
    | none =>
      if r.st ≠ 0 then []
      else match s.rvFetch id with
        | none => engTrap id 1 false r.pc s
        | some (i, len, inst) =>
          match i with
          | .brd _ _ _ | .bwr _ _ _ => []
          | _ => match s.rvExec id i len 0 with
            | .done _ => []
            | .trap c v => engTrap id c false (if c = 2 then inst else v) s

/-- A wait ends with a value (R429, R430): its cycles are holds. -/
def waitFinish (id cause : Nat) (f : EngRec → EngRec) (evs : List (Nat × Nat)) : Prog := fun s =>
  let r := s.eng id
  seqs [charge id [⟨s.cyclesSince r.tick, 3, cause, r.pc⟩] [] r.pc,
    engUpd id fun r => { f r with st := 0, pc := r.pc + BitVec.ofNat 32 r.len, late := 0 },
    charge id [⟨1, 0, 0, r.pc⟩] evs r.pc] s

/-- A waiting MRECV takes an arrived word or times out. -/
def mrecvEnd (id : Nat) : Prog := fun s =>
  let r := s.eng id
  if !s.clRun (id / 64) ∨ r.st ≠ 2 then []
  else if !r.fifo.isEmpty then waitFinish id 0xD (fun r => r.takeWord r.rd) [(0x12, 1)] s
  else if r.limit ≠ 0xFFFFFFFF then
    seqs [clockTo (r.tick + (r.limit * 2 + 2) / 3), waitFinish id 0xD (fun r => r.takeWord r.rd) []] s
  else []

/-- A waiting WAITT ends at its time, or with W = 1 on a mailbox word. -/
def waittEnd (id : Nat) : Prog := fun s =>
  let r := s.eng id
  if !s.clRun (id / 64) ∨ r.st ≠ 1 then []
  else if s.nowNs < r.target ∧ r.wake ∧ !r.fifo.isEmpty then waitFinish id 0xE (fun r => r.put r.rd 1) [] s
  else seqs [deviceTo r.target.toNat, waitFinish id 0xE (fun r => r.put r.rd 0) []] s

/-- A sample's record is written into its ring (R438, R440). -/
def traceRecord (id : Nat) : Prog := fun s =>
  let r := s.eng id
  let k := id / 64
  match r.trc with
  | none => []
  | some t =>
    if t.strip.length < 16 then []
    else
      let e := id % 64 * 4 + r.seq % 4
      let put (w : Nat) (v : Nat) : Eff := .tabs (engKey k 3 e w) (BitVec.ofNat 32 v)
      seqs [fun _ => [put 0 ((r.seq + 1) % 65536 + 65536), put 1 t.pc.toNat, put 2 t.inst.toNat,
          put 3 (min 255 t.wait + 0x10100 + min 255 (t.wait + 3) * 2 ^ 24), put 4 (t.outcome + t.cause * 16),
          put 5 t.time.toNat, put 6 (t.strip.zipIdx.foldl (fun n c => n + c.1 * 4 ^ c.2) 0)],
        engUpd id fun r => { r with trc := none, seq := r.seq + 1 }, raise (enb k) 3] s

/-! ### Host mailbox (R439) -/

/-- A write of HOST_MB_TX. -/
def hostMbTx (src k : Nat) (v : Word) : Prog := fun s =>
  let id := 64 * k + s.fg (enb k) ENG.ENG_SEL_E
  if s.mailRoom 0 id then engUpd id (fun r => { r with fifo := r.fifo ++ [(0x3FF, v)] }) s
  else seqs [errPage (enb k) ENG.HOST_MB_TX src cMB_FULL, raise (enb k) 6] s

/-- A read of HOST_MB_RX pops the host FIFO. -/
def hostMbRx (k : Nat) : Prog := fun s =>
  match (s.cl k).host with
  | [] => rset (enb k + ENG.HOST_MB_SRC) 0 s
  | (from', _) :: l => seqs [clUpd k fun r => { r with host := l },
      rset (enb k + ENG.HOST_MB_SRC) (BitVec.ofNat 32 (2 ^ 31 + l.length * 65536 + from'))] s

/-! ### Loads and halts (R432, R439) -/

/-- A number of an image, little-endian, at an offset of the cluster's shared memory. -/
def State.shared (s : State) (k off n : Nat) : Nat := s.engGet (.die 2 (k * 0x800000 + off)) n

/-- A section of an image: engine mask, destination, length. -/
structure Section where
  mask : Nat
  dest : Nat
  len : Nat
  deriving DecidableEq, Repr

/-- The sections of the image at LOAD_OFS. -/
def State.sections (s : State) (k o : Nat) : List Section :=
  (List.range (s.shared k (o + 6) 2)).map fun i =>
    ⟨s.shared k (o + 24 + 16 * i) 8, s.shared k (o + 32 + 16 * i) 4, s.shared k (o + 36 + 16 * i) 4⟩

/-- A section's destination lies in the engine SRAMs or the shared memory (R426). -/
def Section.ok (q : Section) : Bool :=
  decide (q.dest + q.len ≤ 0x8000) || (decide (0x10000000 ≤ q.dest) && decide (q.dest + q.len ≤ 0x10008000))
    || (decide (0x20000000 ≤ q.dest) && decide (q.dest + q.len ≤ 0x20400000))

/-- Where the image's signature begins, and its end. -/
def State.imgBody (s : State) (k o : Nat) : Nat := 24 + 16 * s.shared k (o + 6) 2 + ((s.sections k o).map Section.len).sum
def State.imgLen (s : State) (k o : Nat) : Nat := s.imgBody k o + s.shared k (o + 20) 4

/-- The bytes of the image. -/
def State.sharedBytes (s : State) (k off n : Nat) : List Byte := (List.range n).map fun i => s.engByte (k * 0x800000 + off + i)

/-- The result of verifying the owner image at LOAD_OFS: 1 OK, 2 BAD_SIG, 3 BAD_FORMAT, 4 ROLLBACK (R432, R490). -/
def State.loadResult (s : State) (k : Nat) : Nat :=
  let o := (s.reg (enb k + ENG.LOAD_OFS)).toNat
  let n := s.shared k (o + 6) 2
  let body := s.imgBody k o
  let sig := s.shared k (o + 20) 4
  if s.shared k o 4 ≠ 0x4D0AE651 ∨ s.shared k (o + 4) 2 ≠ 1 ∨ n = 0 ∨ 32 < n ∨ !(s.sections k o).all Section.ok
      ∨ 0x400000 < o + s.imgLen k o ∨ sig < 60 then 3
  else
    let key := s.sharedBytes k (o + body) 60
    if sha256 key ≠ s.fuses.owner
        ∨ !hssVerify key (s.sharedBytes k o body) (s.sharedBytes k (o + body + 60) (sig - 60)) then 2
    else if s.shared k (o + 12) 4 < Config.ownerMin k then 4
    else 1

/-- Copies a section's data to the engines it names; engines that failed their check are left out (R520). A destination
that overlaps the staged image leaves what is copied open (R442). -/
def sectionCopy (k o img : Nat) (q : Section) (data : List Byte) : Prog := fun s =>
  let place (e : Nat) : EngLoc := if q.dest < 0x8000 then .die 0 (k * 0x800000 + 0x400000 + e * 0x10000 + q.dest)
    else .die 1 (k * 0x800000 + 0x408000 + e * 0x10000 + (q.dest - 0x10000000))
  if 0x20000000 ≤ q.dest then
    let d := q.dest - 0x20000000
    if d < o + img ∧ o < d + q.len then perhaps (engStore (.die 2 (k * 0x800000 + d)) data) s
    else engStore (.die 2 (k * 0x800000 + d)) data s
  else forP ((List.range 64).filter fun e => bitOf q.mask e && !(s.eng (64 * k + e)).bad) (fun e => engStore (place e) data) s

/-- Every engine of a cluster as after a load or a reset: at ENTRY when it is next released. -/
def engsFresh (k : Nat) : Prog := forP (List.range 64) fun e s =>
  let r := s.eng (64 * k + e)
  [.engs (64 * k + e) { r with st := if r.bad then 4 else 0, pc := (s.cl k).entry }]

/-- The vendor program is loaded (R424, R432): its ENTRY, identity and version are not stated. -/
def vendorLoad (k : Nat) : Prog := fun s =>
  seqs [clUpd k fun r => { r with entry := BitVec.ofNat 32 (Config.openNat (0x7000 + k)) }, engsFresh k,
    fbset (enb k) ENG.CL_STAT_LOADED true, fbset (enb k) ENG.CL_STAT_OWNER_PROG false,
    rset (enb k + ENG.PROG_ID) (BitVec.ofNat 32 (Config.openNat (0x7010 + k))),
    rset (enb k + ENG.PROG_VER) (BitVec.ofNat 32 (Config.openNat (0x7020 + k))),
    measure (0x10 + k) (Config.itemHash (s.fg btb BOOT.BOOT_STAT_SLOT) s.flashWrites (0x10 + k))] s

/-- The owner program at LOAD_OFS is copied and named. -/
def ownerLoad (k : Nat) : Prog := fun s =>
  let o := (s.reg (enb k + ENG.LOAD_OFS)).toNat
  let n := s.shared k (o + 6) 2
  let qs := s.sections k o
  seqs [forP (List.range n) fun i => match qs[i]? with
      | some q => sectionCopy k o (s.imgLen k o) q (s.sharedBytes k (o + 24 + 16 * n + ((qs.take i).map Section.len).sum) q.len)
      | none => skip,
    clUpd k fun r => { r with entry := BitVec.ofNat 32 (s.shared k (o + 16) 4) }, engsFresh k,
    fbset (enb k) ENG.CL_STAT_LOADED true, fbset (enb k) ENG.CL_STAT_OWNER_PROG true,
    rset (enb k + ENG.PROG_ID) (BitVec.ofNat 32 (s.shared k (o + 8) 4)),
    rset (enb k + ENG.PROG_VER) (BitVec.ofNat 32 (s.shared k (o + 12) 4)),
    measure (0x20 + k) (sha256 (s.sharedBytes k o (s.imgBody k o)))] s

/-- A load fails. -/
def loadFail (k res : Nat) : Prog := seqs [fset (enb k) ENG.CL_STAT_LOAD_RES res, raise (enb k) 1]

/-- CL_CTL.LOAD_GO (R432, R441). -/
def loadGo (src k : Nat) : Prog := fun s =>
  let b := enb k
  let bad (code : Nat) : Prog := errPage b ENG.CL_CTL src code
  if s.fb b ENG.CL_STAT_LOADING then bad cLOAD_BUSY s
  else if !s.fb b ENG.CL_STAT_HALTED then seqs [bad cENG_NOT_HALTED, loadFail k 5] s
  else if !s.fb b ENG.CL_CTL_LOAD_SRC ∧ (k < 4 ∨ k = 7) then seqs [bad cENG_CLOSED, loadFail k 6] s
  else fbset b ENG.CL_STAT_LOADING true s

/-- A load ends (R432). -/
def loadDone (k : Nat) : Prog := fun s =>
  let b := enb k
  if !s.fb b ENG.CL_STAT_LOADING then []
  else
    let vendor := s.fb b ENG.CL_CTL_LOAD_SRC
    let res := if vendor then 1 else s.loadResult k
    seqs [fbset b ENG.CL_STAT_LOADING false,
      if res = 1 then seqs [if vendor then vendorLoad k else ownerLoad k, fset b ENG.CL_STAT_LOAD_RES 1, raise b 0]
      else loadFail k res] s

/-- CL_STAT.HALTED follows HALT and PAGE_CTL.EN (R439); engines that were waiting restart their waits (R430). -/
def haltEval (k : Nat) : Prog := fun s =>
  let b := enb k
  let h := s.fb b ENG.CL_CTL_HALT || !s.pageEn b
  if h = s.fb b ENG.CL_STAT_HALTED then []
  else seqs [fbset b ENG.CL_STAT_HALTED h,
    if h then skip else forP ((s.engs.filter fun e => e.1 / 64 == k && (e.2.st == 1 || e.2.st == 2)).map Prod.fst)
      fun id => engUpd id fun r => { r with tick := s.ticks }] s

/-- HALT is cleared: every engine starts at ENTRY, but one that was waiting restarts its wait (R430, R432). -/
def haltRelease (k : Nat) : Prog := forP (List.range 64) fun e s =>
  let r := s.eng (64 * k + e)
  if r.st = 1 ∨ r.st = 2 ∨ r.bad then []
  else [.engs (64 * k + e) { r with st := 0, pc := (s.cl k).entry }]

/-! ### Counters (R435–R437, R440) -/

/-- Counter `j` of an engine: 0 CYCLE, 1–8 PMC0–PMC7. -/
def State.counter (s : State) (id j : Nat) : Nat := if j = 0 then s.clCycle (id / 64) else (s.eng id).pmcs.getD (j - 1) 0

/-- A copy of a counter into table 2. -/
def snapCopy (id j : Nat) : Prog := fun s =>
  let e := id % 64 * 9 + j
  [.tabs (engKey (id / 64) 2 e 0) (BitVec.ofNat 32 (s.counter id j)),
   .tabs (engKey (id / 64) 2 e 1) (BitVec.ofNat 32 (s.counter id j / 2 ^ 32))]

/-- A call reaches the page (R436). -/
def engCall (k number : Nat) : Prog := fun s =>
  let b := enb k
  if !s.clUp k ∨ !s.fb b PAGE_CTL_CALL_EN ∨ !s.fb b ENG.CL_CTL_PMU_SNAP then []
  else seqs [forP (List.range 64) fun e => forP (List.range 9) fun j => snapCopy (64 * k + e) j,
    rset (b + ENG.SNAP_NUM) (BitVec.ofNat 32 (number % 65536)),
    if s.fb b ENG.CL_CTL_FRZ_ON_CALL then fbset b ENG.CL_STAT_FROZEN true else skip, raise b 7] s

/-- The copies of an HQ4810 read (R437). -/
def legRead (k : Nat) : Prog := fun s =>
  seqs [forP (List.range 9) fun j => snapCopy (64 * k + s.fg (enb k) ENG.ENG_SEL_E) j,
    fbset (enb k) ENG.SNAP_NUM_LEGACY true] s

/-- A write of a word of an ENGk table (R435, R440). -/
def engTab (src k t e w : Nat) (v : Word) : Prog := fun s =>
  let id := 64 * k + e / 9
  if t = 0 then
    if e % 9 = 0 then []
    else if w = 1 then clUpd k (fun r => { r with held := (e, v.toNat % 65536) :: r.held.filter fun x => x.1 != e }) s
    else
      let old := (s.eng id).pmcs.getD (e % 9 - 1) 0
      let hi := match (s.cl k).held.find? fun x => x.1 == e with
        | some x => x.2
        | none => old / 2 ^ 32
      seqs [engUpd id fun r => { r with pmcs := r.pmcs.set (e % 9 - 1) (hi * 2 ^ 32 + v.toNat) },
        clUpd k fun r => { r with held := r.held.filter fun x => x.1 != e }] s
  else if t = 1 then
    let old := s.tab (engKey k 1 e 0)
    [.tabs (engKey k 1 e 0) ((v &&& 0x7FF) ||| (old &&& v &&& 0x10000))]
  else errPage (enb k) (oWIN_DATA w) src cRO_WRITE s

/-- A word of an ENGk table as it reads. -/
def engTabView (k : Nat) (s : State) (t e w : Nat) : Word :=
  if t = 0 then BitVec.ofNat 32 (s.counter (64 * k + e / 9) (e % 9) / 2 ^ (32 * w)) else s.tab (engKey k t e w)

/-! ### Registers -/

/-- A write of CL_CTL (R432, R436, R437). -/
def clCtlWrite (src k : Nat) (v : Word) : Prog := fun s =>
  let b := enb k
  let was := s.fb b ENG.CL_CTL_HALT
  seqs [rset (b + ENG.CL_CTL) (v &&& 0x3D),
    if was && !wroteB v ENG.CL_CTL_HALT then haltRelease k else skip, haltEval k,
    if wroteB v ENG.CL_CTL_LOAD_GO then loadGo src k else skip,
    if wroteB v ENG.CL_CTL_RESUME then fbset b ENG.CL_STAT_FROZEN false else skip,
    if wroteB v ENG.CL_CTL_LEG_RD then legRead k else skip] s

/-- A write of an ENGk register. -/
def engWrite (src k : Nat) (r : RegRow) (v : Word) : Prog :=
  if r.off = ENG.CL_CTL then clCtlWrite src k v
  else if r.off = ENG.HOST_MB_TX then hostMbTx src k v
  else plainWrite (enb k) r [⟨ENG.TRC_CFG_PERIOD, 256, 65535⟩] v

def engReadFx (k off : Nat) : Prog := if off = ENG.HOST_MB_RX then hostMbRx k else skip

/-- The computed registers of ENGk: the engine selected, and the host FIFO's head. -/
def engView (k : Nat) (s : State) (off : Nat) : Option Word :=
  let r := s.eng (64 * k + s.fg (enb k) ENG.ENG_SEL_E)
  if off = ENG.ENG_STAT then some (BitVec.ofNat 32 (if r.st = 4 then 4 else if s.clRun k then r.st else 3))
  else if off = ENG.ENG_PC then some r.pc
  else if off = ENG.ENG_OVF_PC then some r.ovfPc
  else if off = ENG.HOST_MB_RX then some (match (s.cl k).host with
    | [] => 0
    | (_, w) :: _ => w)
  else none

/-! ### BAR2 and resets (R11, R424, R432) -/

/-- The field-access scopes that are open (R498, R499). -/
def State.scope (s : State) (i : Nat) : Bool := s.scopeOpen i

/-- Bytes written through BAR2: closed clusters, instruction SRAM and clusters that are loading need the engine-debug
scope or wait (R11, R432); writing the instruction SRAM of an engine that runs leaves what is written open (R32). -/
def bar2Write (a : Nat) (x : List Byte) : Prog := fun s =>
  let k := a / 0x800000
  let closed := decide (k < 4) || k == 7
  let isram := decide (0x400000 ≤ a % 0x800000 ∧ a % 0x10000 < 0x8000)
  if 0x4000000 ≤ a + x.length - 1 then []
  else if (closed ∨ isram) ∧ !s.scope 0 ∨ s.fb (enb k) ENG.CL_STAT_LOADING then badAcc true a s
  else if !s.clUp k then []
  else if isram ∧ s.clRun k then perhaps (engStore (.die 0 a) x) s
  else engStore (.die 0 a) x s

/-- A word read through BAR2. -/
def State.bar2Read (s : State) (a n : Nat) : Nat :=
  let k := a / 0x800000
  if ((decide (k < 4) || k == 7) && !s.scope 0) || !s.clUp k then 0 else s.engGet (.die 0 a) n

/-- An ENGk island reset: the engines and the cluster start anew with the vendor program (R424). -/
def clReset (k : Nat) : Prog := fun s =>
  seqs [forP ((s.engs.filter fun e => e.1 / 64 == k).map Prod.fst) fun id t => [.engs id { bad := (t.eng id).bad }],
    fun t => [.cls8 k { base := t.ticks }, .mails (t.mails.filter fun m => m.dst / 64 != k || m.dst == 0x3FF)]] s

end Sys2Proof.Machine
end

