-- ==== Sys2Proof/Machine/Vlg.lean ====
section
/-!
DEFINITION. Machine/Vlg.lean: the Velaug ports, blocks and transit entries, and the stack: joining and leaving, time
exchange, management requests, on the VLGp pages (R443–R464). Accesses that a dealer makes here stand in the files of
commands, after the bus; stack calls in Machine/Calls.lean; stack deals in Machine/Deals.lean.
-/

namespace Sys2Proof.Machine

/-- The base of VLGp. -/
def vb (p : Nat) : Nat := pageBase .vlg p

def cSTACK_LIVE : Nat := 0x80
def cVT_OVERLAP : Nat := 0x82
def cIDLE_BUSY : Nat := 0x83
def cMGMT_BUSY : Nat := 0x84
def cEQ_AUTO : Nat := 0x85
def cTRANSIT_ACTIVE : Nat := 0x86

def vDOWN : Nat := 0
def vTRAIN : Nat := 1
def vLINKED : Nat := 2
def vIDLE : Nat := 3

def kALONE : Nat := 0
def kJOINED : Nat := 1
def kDEALER : Nat := 2
def kORPHAN : Nat := 3

/-- Changes the record of a port. -/
def vlgUpd (p : Nat) (f : VlgRec → VlgRec) : Prog := fun s => [.vlgs p (f (s.vlg p))]

/-- Time limits of a port: training since clock lock, the pause before training restarts, the idle exit, the heartbeats of
its peer, the management reply. -/
def tVTrain (p : Nat) : Nat := vb p
def tPause (p : Nat) : Nat := vb p + 1
def tBurst (p : Nat) : Nat := vb p + 2
def tHeart (p : Nat) : Nat := vb p + 3
def tMgmt : Nat := vb 0 + 4

/-- VLG_STAT.STATE of a port, and STACK_STAT.STATE. -/
def State.vSt (s : State) (p : Nat) : Nat := s.fg (vb p) VLG.VLG_STAT_STATE
def State.stSt (s : State) : Nat := s.fg vb0 VLG.STACK_STAT_STATE

/-- A port is enabled. -/
def State.vOn (s : State) (p : Nat) : Bool := s.live ⟨.vlg, p⟩ && s.fb (vb p) VLG.VLG_CTL_EN

/-- The ports that are LINKED. -/
def State.linked (s : State) : List Nat := (List.range 4).filter fun p => s.vSt p == vLINKED

/-- The port to the dealer of a JOINED member. -/
def State.dealerPort (s : State) : Nat := s.fg vb0 VLG.STACK_STAT_DEALER_PORT

/-- A peer of this stack is known on a port, which carries stack traffic. -/
def State.peerOk (s : State) (p : Nat) : Bool :=
  s.fb (vb p) VLG.PEER_VALID && !s.fb (vb p) VLG.VLG_STAT_PEER_DUP
    && s.fg (vb p) VLG.PEER_STACK_ID == s.fg vb0 VLG.STACK_CFG_STACK_ID

/-! ### Locks (R25) -/

/-- Frees the page locks that an owner holds. -/
def locksFree (owner : Nat) : Prog := withP fun s =>
  forP (s.regs.filter fun e => e.1 % 0x1000 == oOWNER && bitsGet e.2 0 8 == owner) fun e => rclear e.1

/-! ### The stack function (R458, R459) -/

/-- Sends a control message on some ports. -/
def ctlSend (ports : List Nat) (type : Nat) (fields : List Nat) : Prog := forP ports fun p => emit (.ctl p type fields)

/-- HELLO on every linked port (R454). -/
def helloSend : Prog := withP fun s =>
  ctlSend s.linked 1 [s.fg vb0 VLG.STACK_CFG_STACK_ID, s.fg vb0 VLG.STACK_CFG_POS, b2n (s.stSt == kDEALER), Config.serial.toNat]

/-- The position of a port's peer is, or is no longer, in the stack as known here. -/
def memberBit (pos : Nat) (on : Bool) : Prog := fun s =>
  let m := s.fg vb0 VLG.STACK_STAT_MEMBERS
  if bitOf m pos = on then [] else seqs [fset vb0 VLG.STACK_STAT_MEMBERS (setBit m pos on), suitsEval] s

/-- A member has lost its dealer (R25, R60, R392, R459). -/
def dealerLost : Prog := fun s =>
  if s.stSt ≠ kJOINED then [] else
  seqs [fset vb0 VLG.STACK_STAT_STATE kORPHAN, dealsDealerLost, locksFree 3, raise vb0 9,
    memberBit (s.fg vb0 VLG.STACK_STAT_DEALER_POS) false, refsEval] s

/-- The dealer declares the member on a port gone (R458). -/
def memberLost (p : Nat) : Prog := fun s =>
  let pos := s.fg (vb p) VLG.PEER_POS
  if s.stSt ≠ kDEALER ∨ !s.peerOk p ∨ !bitOf (s.fg vb0 VLG.STACK_STAT_MEMBERS) pos
    ∨ pos = s.fg vb0 VLG.STACK_CFG_POS then []
  else seqs [memberBit pos false, ctlSend (s.linked.filter (· != p)) 18 [pos], raise vb0 10] s

/-- What is seen at a port's loss of its link means for the stack (R458, R459). -/
def linkGone (p : Nat) : Prog := fun s =>
  if s.stSt = kJOINED ∧ s.dealerPort = p then dealerLost s
  else if s.stSt = kDEALER then memberLost p s
  else if s.peerOk p then memberBit (s.fg (vb p) VLG.PEER_POS) false s
  else []

/-- The stack function is on. -/
def State.stackOn (s : State) : Bool := s.live ⟨.vlg, 0⟩ && s.fb vb0 VLG.STACK_CFG_EN && !s.stack.left

/-- The module leaves the stack: LEAVE on every linked port, ALONE, DEALER's locks freed (R25, R459). -/
def stackLeave : Prog := withP fun s =>
  seqs [ctlSend s.linked 17 [], rset (vb0 + VLG.STACK_STAT) 0, locksFree 3, refsEval, suitsEval]

/-- STACK_STAT.STATE follows STACK_CFG (R459). -/
def stackEval : Prog := fun s =>
  if !s.stackOn then (if s.stSt = kALONE then [] else stackLeave s)
  else if s.fb vb0 VLG.STACK_CFG_DEALER ∧ (s.stSt = kALONE ∨ s.stSt = kORPHAN) then
    seqs [fset vb0 VLG.STACK_STAT_STATE kDEALER, memberBit (s.fg vb0 VLG.STACK_CFG_POS) true, helloSend, refsEval] s
  else []

/-- A member joins the dealer on a port. -/
def stackJoin (p pos : Nat) : Prog := withP fun s =>
  seqs [fset vb0 VLG.STACK_STAT_STATE kJOINED, fset vb0 VLG.STACK_STAT_DEALER_PORT p, fset vb0 VLG.STACK_STAT_DEALER_POS pos,
    fbset vb0 VLG.STACK_STAT_POS_CONFLICT false, memberBit (s.fg vb0 VLG.STACK_CFG_POS) true, memberBit pos true,
    timerStart (tHeart p), raise vb0 8, refsEval]

/-- Another linked port has a dealer of this stack as its peer. -/
def State.otherDealer (s : State) (p : Nat) : Bool :=
  s.linked.any fun q => q != p && s.peerOk q && s.fb (vb q) VLG.PEER_DEALER

/-- A HELLO from a port's peer: the PEER registers, and what it means for the stack; `taken`: the dealer reports this
module's position taken (R443, R459). -/
def vlgHello (p stack pos : Nat) (dealer : Bool) (serial : BitVec 48) (taken : Bool) : Prog := fun s =>
  let b := vb p
  let w := BitVec.ofNat 32 (2 ^ 31 + b2n dealer * 2 ^ 17 + pos * 2 ^ 12 + stack)
  let lo := serial.extractLsb' 0 32
  let hi : Word := (serial.extractLsb' 32 16).zeroExtend 32
  let dup := s.linked.any fun q => q != p && s.fb (vb q) VLG.PEER_VALID && s.reg (vb q + VLG.PEER_SER_LO) == lo
    && s.reg (vb q + VLG.PEER_SER_HI) == hi && !s.fb (vb q) VLG.VLG_STAT_PEER_DUP
  let fresh := decide (s.reg (b + VLG.PEER) ≠ w ∨ s.reg (b + VLG.PEER_SER_LO) ≠ lo ∨ s.reg (b + VLG.PEER_SER_HI) ≠ hi)
  if s.vSt p ≠ vLINKED then [] else
  seqs [rset (b + VLG.PEER) w, rset (b + VLG.PEER_SER_LO) lo, rset (b + VLG.PEER_SER_HI) hi,
    fbset b VLG.VLG_STAT_PEER_DUP dup, if fresh then raise b 7 else skip,
    fun t =>
      if !t.stackOn ∨ dup ∨ stack ≠ t.fg vb0 VLG.STACK_CFG_STACK_ID then []
      else if t.stSt = kDEALER then
        (if dealer then seqs [fbset vb0 VLG.STACK_STAT_DEALER_CONFLICT true, raise vb0 11] t
         else
          let used := decide (pos = t.fg vb0 VLG.STACK_CFG_POS)
            || t.linked.any fun q => q != p && t.peerOk q && t.fg (vb q) VLG.PEER_POS == pos
          if used ∨ bitOf (t.fg vb0 VLG.STACK_STAT_MEMBERS) pos then []
          else seqs [memberBit pos true, timerStart (tHeart p)] t)
      else if !dealer then (if t.stSt = kJOINED then memberBit pos true t else [])
      else if t.stSt = kJOINED then
        (if t.dealerPort = p then [] else fbset vb0 VLG.STACK_STAT_DEALER_CONFLICT true t)
      else if t.stSt = kORPHAN ∧ t.otherDealer p then fbset vb0 VLG.STACK_STAT_DEALER_CONFLICT true t
      else if taken then seqs [fbset vb0 VLG.STACK_STAT_POS_CONFLICT true, raise vb0 12] t
      else stackJoin p pos t] s

/-- A heartbeat of the dealer or of a member. -/
def heartbeat (p : Nat) : Prog := fun s => if s.vSt p = vLINKED then timerStart (tHeart p) s else []

/-- Five heartbeats, of 2 µs, are missed (R458, R459). -/
def heartbeatMiss (p : Nat) : Prog := fun s =>
  let mine := (s.stSt == kJOINED && s.dealerPort == p)
    || (s.stSt == kDEALER && s.peerOk p && bitOf (s.fg vb0 VLG.STACK_STAT_MEMBERS) (s.fg (vb p) VLG.PEER_POS))
  if mine ∧ s.running (tHeart p) then
    seqs [clockEnd (tHeart p) 10000, timerStop (tHeart p), fincSat (vb p) ⟨VLG.HB_MISS_CNT, 0, 32⟩ 5, linkGone p] s
  else []

/-- LEAVE from a port's peer (R458). -/
def leaveMsg (p : Nat) : Prog := fun s =>
  if s.stSt = kDEALER then memberLost p s
  else if s.peerOk p then memberBit (s.fg (vb p) VLG.PEER_POS) false s else []

/-- MEMBER_GONE from the dealer. -/
def memberGone (p pos : Nat) : Prog := fun s =>
  if s.stSt = kJOINED ∧ s.dealerPort = p then memberBit pos false s else []

/-- LEAVE.GO (R461). -/
def leaveGo : Prog := seqs [fun s => [.stack { s.stack with left := true }], stackEval]

/-! ### Ports (R449–R451) -/

/-- A port enters full training. -/
def vlgTrain (p : Nat) : Prog :=
  seqs [fset (vb p) VLG.VLG_STAT_STATE vTRAIN, fset (vb p) VLG.VLG_STAT_LANE_AL 0, timerStop (tVTrain p), timerStop (tPause p),
    timerStop (tBurst p), vlgUpd p fun r => { r with failed := false, bad := 0, frameBad := false, t1 := none }]

/-- A linked port loses its link. -/
def vlgUnlink (p : Nat) : Prog := seqs [vlgTrain p, raise (vb p) 1]

/-- A port is DOWN: its lanes are silent. -/
def vlgDown (p : Nat) : Prog :=
  seqs [fset (vb p) VLG.VLG_STAT_STATE vDOWN, fset (vb p) VLG.VLG_STAT_LANE_AL 0, fbset (vb p) VLG.VLG_STAT_CLK_LOCK false,
    fun t => fbset (vb p) VLG.VLG_STAT_LOL_RAW (t.live ⟨.vlg, p⟩) t, timerStop (tVTrain p), timerStop (tPause p), timerStop (tBurst p),
    vlgUpd p fun r => { sendRecs := r.sendRecs, backRecs := r.backRecs }]

/-- The conditions that refuse idle hold for a port (R451). -/
def State.idleBusy (s : State) (p : Nat) : Bool :=
  (s.stSt == kJOINED && s.dealerPort == p)
    || (s.stSt == kDEALER && s.peerOk p && bitOf (s.fg vb0 VLG.STACK_STAT_MEMBERS) (s.fg (vb p) VLG.PEER_POS))
    || s.vlgTs p s.suitIds != 0
    || (s.fb vb0 VLG.MGMT_STAT_BUSY && s.peerPort (s.fg vb0 VLG.MGMT_ADDR_POS) == some p)

/-- A port's state follows its enable and both ends' requests for idle (R450). -/
def vlgEval (p : Nat) : Prog := fun s =>
  let idle := s.fb (vb p) VLG.VLG_CTL_IDLE_REQ && (s.vlg p).peerIdle
  if !s.vOn p then (if s.vSt p = vDOWN then [] else vlgDown p s)
  else if s.vSt p = vDOWN then vlgTrain p s
  else if s.vSt p = vLINKED ∧ idle ∧ !s.idleBusy p then
    seqs [fset (vb p) VLG.VLG_STAT_STATE vIDLE, fbset (vb p) VLG.VLG_STAT_LOL false, fbset (vb p) VLG.VLG_STAT_LOL_RAW false,
      vlgUpd p fun r => { r with run := 0 }, raise (vb p) 5] s
  else if s.vSt p = vIDLE ∧ !idle then seqs [fset (vb p) VLG.VLG_STAT_STATE vLINKED, timerStart (tBurst p)] s
  else []

/-- Training ends: LINKED; with AUTO_EQ the far receiver has set the taps, which are free values (R446, R450; log 1). -/
def linkUp (p : Nat) : Prog := fun s =>
  if s.vSt p ≠ vTRAIN then [] else
  seqs [if (s.vlg p).failed then clockEnd (tPause p) 10000000 else skip, fset (vb p) VLG.VLG_STAT_STATE vLINKED, fset (vb p) VLG.VLG_STAT_LANE_AL 255, fbset (vb p) VLG.VLG_STAT_CLK_LOCK true,
    timerStop (tVTrain p), timerStop (tPause p), vlgUpd p fun r => { r with failed := false, bad := 0, frameBad := false },
    if s.fb (vb p) VLG.VLG_CTL_AUTO_EQ then withFree fun w =>
      seqs [fset (vb p) VLG.TX_EQ_PRE (64 - bitsGet w 0 8 % 20), fset (vb p) VLG.TX_EQ_POST (64 - bitsGet w 8 8 % 26)] else skip,
    raise (vb p) 0, fun t => if t.stSt = kDEALER then helloSend t else []] s

/-- No link within 5 ms of clock lock (R450). -/
def vlgTrainTimeout (p : Nat) : Prog := fun s =>
  if s.vSt p = vTRAIN ∧ !(s.vlg p).failed ∧ s.running (tVTrain p) then
    seqs [clockEnd (tVTrain p) 5000000, fincSat (vb p) ⟨VLG.TRAIN_CNT, 0, 16⟩ 1, raise (vb p) 2, timerStop (tVTrain p), timerStart (tPause p),
      vlgUpd p fun r => { r with failed := true }] s
  else []

/-- No alignment within 1 µs of the burst that ends idle (R450). -/
def idleExitFail (p : Nat) : Prog := fun s =>
  if s.vSt p = vLINKED ∧ s.running (tBurst p) then seqs [clockEnd (tBurst p) 1000, vlgTrain p, raise (vb p) 6] s else []

/-- A 10 µs sample of a port: what it sees, dVLG_LOL, and what follows (R202, R449, R450). It is held clear in IDLE. A port
that is not enabled locks no clock and aligns no lane. -/
def vlgSample (p : Nat) (ck : Bool) (ln : Nat) (idle : Bool) : Prog := fun s =>
  let b := vb p
  if !s.live ⟨.vlg, p⟩ then [] else
  let clk := ck && s.vOn p
  let lanes := if s.vOn p then ln else 0
  let al := if s.vSt p = vIDLE then 0 else lanes
  seqs [fbset b VLG.VLG_STAT_CLK_LOCK clk, fset b VLG.VLG_STAT_LANE_AL al,
    vlgUpd p fun r => { r with peerIdle := idle },
    if s.vSt p = vTRAIN ∧ clk ∧ !s.running (tVTrain p) ∧ !(s.vlg p).failed then timerStart (tVTrain p) else skip,
    if (s.vlg p).failed ∧ s.expired (tPause p) 10000000 then
      seqs [vlgUpd p fun r => { r with failed := false }, timerStop (tPause p), if clk then timerStart (tVTrain p) else skip]
    else skip,
    if clk ∧ lanes = 255 then timerStop (tBurst p) else skip,
    if s.vSt p = vIDLE then skip else fun t =>
      let raw := !clk || lanes != 255 || decide (4 ≤ (t.vlg p).bad)
      let old := t.fb b VLG.VLG_STAT_LOL
      let (now, run) := integrate old raw (t.vlg p).run (t.reg (b + VLG.DEF_TIME)).toNat
      seqs [fbset b VLG.VLG_STAT_LOL_RAW raw, fbset b VLG.VLG_STAT_LOL now, vlgUpd p fun r => { r with run := run },
        if now && !old then
          seqs [raise b 3, if t.vSt p = vLINKED then vlgUnlink p else skip, linkGone p]
        else if old && !now then raise b 4 else skip] t,
    vlgEval p] s

/-! ### Blocks and transit (R452, R453, R462) -/

/-- The enabled transit entry of a port for a suit's member. -/
def State.transitFor (s : State) (p suit k : Nat) : Option Nat :=
  (s.transitOn p).find? fun e => bitsGet (s.transit p e 0) 16 8 == suit && bitsGet (s.transit p e 0) 24 4 == k

/-- A suit's member lies on the module to which a port links. -/
def State.remoteMember (s : State) (p suit k : Nat) : Bool :=
  let m := s.member suit k
  mEn m && !s.mLocal m && s.peerPort (mModule m) == some p

/-- A received block: its codeword is counted, and TS words go into their transit range or to their suit. The messages of
a CTRL block come as commands of their own. -/
def vlgBlock (p : Nat) (q : VlgBlock) : Prog := fun s =>
  let h := q.header.toNat
  let suit := h / 2 ^ 8 % 256
  let k := h / 2 ^ 4 % 16
  let frameBad := (s.vlg p).frameBad || q.unc
  if s.vSt p ≠ vTRAIN ∧ s.vSt p ≠ vLINKED then [] else
  seqs [if q.unc then fincSat (vb p) ⟨VLG.FEC_UNC_CNT, 0, 32⟩ 1
      else if q.cor then fincSat (vb p) ⟨VLG.FEC_COR_CNT, 0, 32⟩ 1 else skip,
    vlgUpd p fun r => { r with
      frameBad := frameBad && !q.last,
      bad := if q.last then (if frameBad then r.bad + 1 else 0) else r.bad },
    if s.vSt p ≠ vLINKED ∨ h / 2 ^ 16 ≠ 1 ∨ s.fb (vb p) VLG.VLG_STAT_PEER_DUP then skip else
    match s.transitFor p suit k with
    | some e =>
      let w := s.transit p e 0
      emit (.tsWords (bitsGet w 2 2) (if w.getLsbD 1 then some (bitsGet w 8 6) else none) suit k (bitOf h 3) (bitOf h 2 || q.unc)
        q.words)
    | none => if s.remoteMember p suit k then emit (.tsDeliver suit k (bitOf h 3) (bitOf h 2 || q.unc) q.words) else skip] s

/-- A suit record over the link: one that this module's carrier is to send, or one brought back for a remote member, which
counts once two in a row agree (R220, R453). -/
def suitRec (p : Nat) (r : SuitRecord) : Prog := fun s =>
  let suit := slotBits r.a 55 8
  let k := slotBits r.a 40 4
  let id := suit * 16 + k
  if s.vSt p ≠ vLINKED then [] else
  match s.transitFor p suit k with
  | some e => vlgUpd p (fun q => { q with sendRecs := (e, r) :: q.sendRecs.filter fun x => x.1 != e }) s
  | none =>
    if !s.remoteMember p suit k then []
    else
      let again := (s.vlg p).backRecs.any fun x => x.1 == id && x.2.b == r.b && x.2.c == r.c
        && x.2.a.toNat / 2 ^ 32 == r.a.toNat / 2 ^ 32
      seqs [vlgUpd p fun q => { q with backRecs := (id, r) :: q.backRecs.filter fun x => x.1 != id },
        if again then suitMessage r else skip] s

/-- A suit record that a carrier receives: for a transit member it goes to the suit's module, else it is taken here. -/
def suitRecordRx (c : Nat) (r : SuitRecord) : Prog := fun s =>
  let suit := slotBits r.a 55 8
  let k := slotBits r.a 40 4
  let via := (List.range 4).find? fun p => match s.transitFor p suit k with
    | some e => bitsGet (s.transit p e 0) 2 2 == c && !(s.transit p e 0).getLsbD 1
    | none => false
  match via with
  | some p => emit (.ctl p 16 [r.a.toNat, r.b.toNat, r.c.toNat]) s
  | none => suitMessage r s

/-- A transit entry that the spec leaves open: an absent carrier, or a range of no TS or beyond the member's (R464). -/
def State.transitBad (s : State) (v w1 : Word) : Bool :=
  let c := bitsGet v 2 2
  let m : Word := BitVec.ofNat 32 (1 + b2n (v.getLsbD 1) * 2 + c * 64 + bitsGet v 8 6 * 256)
  !s.present ⟨.fec, c⟩ || bitsGet w1 8 8 == 0 || decide (64 < bitsGet w1 8 8)
    || decide (s.memberTs m < bitsGet w1 0 8 + bitsGet w1 8 8)

/-- An entry's range meets an enabled one: of a suit member or of another transit entry (R453). -/
def State.transitMeets (s : State) (p e : Nat) (v w1 : Word) : Bool :=
  let same (c : Nat) (sub : Bool) (sc : Nat) : Bool :=
    c == bitsGet v 2 2 && sub == v.getLsbD 1 && (!sub || sc == bitsGet v 8 6)
  let meet (f n : Nat) : Bool := rangesMeet f n (bitsGet w1 0 8) (bitsGet w1 8 8)
  ((List.range 4096).any fun o =>
      let m := s.tab (tabKey sub' 1 o 0)
      mEn m && s.mLocal m && same (mCarrier m) (mSub m) (mSc m) && meet (mFirst m) (mCount m))
    || (List.range 4).any fun q => (s.transitOn q).any fun o =>
      let w := s.transit q o 0
      (q != p || o != e) && same (bitsGet w 2 2) (w.getLsbD 1) (bitsGet w 8 6)
        && meet (bitsGet (s.transit q o 1) 0 8) (bitsGet (s.transit q o 1) 8 8)

/-- A write of a word of a transit entry (R453, R462). -/
def vlgTab (src p e w : Nat) (v : Word) : Prog := fun s =>
  let old := s.transit p e 0
  let k (w : Nat) : Nat := tabKey (vb p) 0 e w
  let refuse (code : Nat) : Prog := errPage (vb p) (oWIN_DATA w) src code
  let m : Word := 0x0FFF3F0F
  let w1 := s.transit p e 1
  if old.getLsbD 0 then
    (if w = 0 ∧ !v.getLsbD 0 then
      seqs [fun _ => [.tabs (k 0) (v &&& m)], vlgUpd p fun r => { r with sendRecs := r.sendRecs.filter fun x => x.1 != e }] s
     else refuse cTRANSIT_ACTIVE s)
  else if w = 1 then [.tabs (k 1) (v &&& 0xFFFF)]
  else if !v.getLsbD 0 then [.tabs (k 0) (v &&& m)]
  else if 64 < s.vlgTs p s.suitIds + bitsGet w1 8 8 then refuse cVLG_FULL s
  else if s.transitMeets p e v w1 then refuse cVT_OVERLAP s
  else if s.transitBad v w1 then withFree (fun f => fun _ => [.tabs (k 0) ((f &&& m) ||| 1)]) s
  else [.tabs (k 0) (v &&& m)]

/-! ### Time exchange (R455) -/

/-- A difference of device times in ps. -/
def psOf (a b : BitVec 80) : Int := (a - b).toInt * 1000 / 65536

/-- TIME: the dealer's t1; this member answers with the arrival and the departure that it has measured. -/
def timeMsg (p : Nat) (t1 t2 t3 : BitVec 80) : Prog := fun s =>
  if s.stSt = kJOINED ∧ s.dealerPort = p ∧ s.vSt p = vLINKED then
    seqs [vlgUpd p fun r => { r with t1 := some t1, t2 := t2, t3 := t3 }, emit (.ctl p 4 [t2.toNat, t3.toNat])] s
  else []

/-- TIME_RPT: the dealer answers with the arrival of the member's block. -/
def timeRpt (p : Nat) (t4 : BitVec 80) : Prog := fun s =>
  if s.stSt = kDEALER ∧ s.peerOk p ∧ s.vSt p = vLINKED then emit (.ctl p 5 [t4.toNat]) s else []

/-- TIME_END: the link delay, this module's time error, and the phase error that the VLG reference gives DPLL-B. -/
def timeEnd (p : Nat) (t4 : BitVec 80) : Prog := fun s =>
  let r := s.vlg p
  match r.t1 with
  | none => []
  | some t1 =>
    if s.stSt ≠ kJOINED ∨ s.dealerPort ≠ p ∨ s.vSt p ≠ vLINKED then [] else
    let d := (psOf r.t2 t1 + psOf t4 r.t3) / 2 + Config.vlgCal p
    let e := psOf r.t2 t1 - d
    seqs [vlgUpd p fun r => { r with t1 := none }, rset (vb p + VLG.LINK_DLY) (BitVec.ofInt 32 d),
      rset (vb0 + VLG.STACK_TIME_ERR) (BitVec.ofInt 32 (clampS 32 e)), refPhase 12 e] s

/-! ### Management requests (R457) -/

/-- MGMT_CMD.GO: by the dealer's host. -/
def mgmtGo (src : Nat) (v : Word) : Prog := fun s =>
  let pos := s.fg vb0 VLG.MGMT_ADDR_POS
  if !wroteB v VLG.MGMT_CMD_GO ∨ src ≠ 1 then []
  else if s.fb vb0 VLG.MGMT_STAT_BUSY then errPage vb0 VLG.MGMT_CMD src cMGMT_BUSY s
  else
    match if s.stSt = kDEALER ∧ bitOf (s.fg vb0 VLG.STACK_STAT_MEMBERS) pos then s.peerPort pos else none with
    | none => seqs [rset (vb0 + VLG.MGMT_STAT) 6, raise vb0 13] s
    | some p =>
      let wr := wroteB v VLG.MGMT_CMD_WRITE
      seqs [rset (vb0 + VLG.MGMT_STAT) 1, timerStart tMgmt, fun t => [.stack { t.stack with mgmtWrite := wr }],
        emit (.ctl p (if wr then 14 else 13)
          (s.fg vb0 VLG.MGMT_ADDR_OFS :: if wr then [(s.reg (vb0 + VLG.MGMT_DATA)).toNat] else []))] s

/-- The access ends with a result: 0 OK, 2 DENIED, 3 TIMEOUT. -/
def mgmtEnd (res : Nat) : Prog := seqs [rset (vb0 + VLG.MGMT_STAT) (BitVec.ofNat 32 (res * 4 + 2)), timerStop tMgmt, raise vb0 13]

/-- The reply. -/
def mgmtRsp (p : Nat) (data : Word) (denied : Bool) : Prog := fun s =>
  if !s.fb vb0 VLG.MGMT_STAT_BUSY ∨ s.vSt p ≠ vLINKED then []
  else seqs [mgmtEnd (if denied then 2 else 0),
    if s.stack.mgmtWrite || denied then skip else rset (vb0 + VLG.MGMT_DATA) data] s

/-- No reply within 20 µs. -/
def mgmtTimeout : Prog := fun s => if s.fb vb0 VLG.MGMT_STAT_BUSY ∧ s.running tMgmt then seqs [clockEnd tMgmt 20000, mgmtEnd 3] s else []

/-! ### Registers (R460, R461, R464) -/

/-- A write of VLG_CTL. -/
def vlgCtlWrite (src p : Nat) (r : RegRow) (v : Word) : Prog := fun s =>
  let busy := wroteB v VLG.VLG_CTL_IDLE_REQ && s.idleBusy p
  let x := if busy then bitsPut v 2 1 (s.fg (vb p) VLG.VLG_CTL_IDLE_REQ) else v
  seqs [rset (vb p + VLG.VLG_CTL) (r.merge (s.reg (vb p + VLG.VLG_CTL)) x &&& ~~~8),
    if busy then errPage (vb p) VLG.VLG_CTL src cIDLE_BUSY else skip, vlgEval p,
    fun t => if wroteB v VLG.VLG_CTL_RETRAIN ∧ s.vSt p = vLINKED ∧ t.vSt p = vLINKED then vlgUnlink p t else []] s

/-- A write of TX_EQ: taps outside their ranges are free values. -/
def txEqWrite (src p : Nat) (r : RegRow) (v : Word) : Prog := fun s =>
  let bad := decide (sx 6 (wrote v VLG.TX_EQ_PRE) < -19 ∨ 0 < sx 6 (wrote v VLG.TX_EQ_PRE)
    ∨ sx 6 (wrote v VLG.TX_EQ_POST) < -25 ∨ 0 < sx 6 (wrote v VLG.TX_EQ_POST))
  if s.fb (vb p) VLG.VLG_CTL_AUTO_EQ then errPage (vb p) VLG.TX_EQ src cEQ_AUTO s
  else if bad then withFree (fun w => rset (vb p + VLG.TX_EQ) (r.merge 0 w)) s
  else rset (vb p + VLG.TX_EQ) (r.merge 0 v) s

/-- A write of STACK_CFG (R444, R459, R461). -/
def stackCfgWrite (src : Nat) (r : RegRow) (v : Word) : Prog := fun s =>
  let put : Prog := seqs [fun t => [.stack { t.stack with left := false }],
    plainWrite vb0 r [⟨VLG.STACK_CFG_CALL_LEAD, 1, 100⟩] v, stackEval]
  if !s.fb vb0 VLG.STACK_CFG_EN ∨ !wroteB v VLG.STACK_CFG_EN ∨ s.stack.left then put s
  else if s.stSt = kORPHAN ∧ wroteB v VLG.STACK_CFG_DEALER then seqs [fbset vb0 VLG.STACK_CFG_DEALER true, stackEval] s
  else errPage vb0 VLG.STACK_CFG src cSTACK_LIVE s

/-- A write of a VLGp register. -/
def vlgWrite (src p : Nat) (r : RegRow) (v : Word) : Prog :=
  if r.off = VLG.VLG_CTL then vlgCtlWrite src p r v
  else if r.off = VLG.TX_EQ then txEqWrite src p r v
  else if r.off = VLG.STACK_CFG then stackCfgWrite src r v
  else if r.off = VLG.MGMT_CMD then mgmtGo src v
  else if r.off = VLG.LEAVE then (if wroteB v VLG.LEAVE_GO then leaveGo else skip)
  else plainWrite (vb p) r (defTimeLims VLG.DEF_TIME) v

/-- The computed registers of a VLGp page. -/
def vlgView (p : Nat) (s : State) (off : Nat) : Option Word :=
  let ts := s.vlgTs p s.suitIds
  let q := s.reg (vb p + VLG.TX_EQ)
  if off = VLG.VLG_STAT then some (bitsPut (s.reg (vb p + VLG.VLG_STAT)) 3 1 (p / 2))
  else if off = VLG.TX_EQ then
    some (bitsPut q 24 7 (64 - (sx 6 (bitsGet q 0 6)).natAbs - (sx 6 (bitsGet q 8 6)).natAbs))
  else if off = VLG.TS_USE then some (BitVec.ofNat 32 (ts * 65536 + ts))
  else none

/-- The registers of VLG0 after a reset: DEALER stands at the level sampled on DEALER_SEL (R444). -/
def stackStrap : Prog := fbset vb0 VLG.STACK_CFG_DEALER Config.dealerSel

/-- A VLGp page is about to be reset: nothing of the port is kept, nor, on VLG0, of the stack (R20, R514). -/
def vlgReset (p : Nat) : Prog :=
  seqs [fun _ => [.vlgs p {}], forP [tVTrain p, tPause p, tBurst p, tHeart p] timerStop, linkGone p,
    if p = 0 then seqs [fun t => [.stack { t.stack with left := true }], timerStop tMgmt, stackEval, fun _ => [.stack {}]]
    else skip]

end Sys2Proof.Machine
end

