-- ==== Sys2Proof/Machine/Carrier.lean ====
section
/-!
DEFINITION. Machine/Carrier.lean: what follows when a condition that several blocks share has changed: a page's domain,
its enable, the carrier's mode, its light or its run controls (R21, R39, R87, R128, R151, R166–R170).
-/

namespace Sys2Proof.Machine

/-- Every chain of a carrier starts or stops as its conditions now stand. -/
def carrierEval (c : Nat) : Prog := withP fun s =>
  let old := s.tl c
  seqs [fecEval c, soaEval c, timelineEval c,
    fun t => if old.run && (t.tl c).run && decide ((t.tl c).start ≠ old.start) then outsRestarted c old (t.tl c) t else [],
    txdEval c, rxfEval c, rxmEval c, hpEval c, fecEval c, lfrEval c, hubEval c, brxEval c]

/-- Every carrier, and the suits that its streams carry. -/
def carriersEval : Prog := seqs [forP (List.range 4) carrierEval, suitsEval]

/-- What follows when a page was switched on or off, enabled or reset. -/
def pageEval (p : Page) : Prog :=
  match p.kind with
  | .opt | .cnv | .txd | .rxf | .rxm | .fec | .lfr | .cip => seqs [carrierEval p.inst, suitsEval]
  | .scb => seqs [carrierEval (p.inst / 64), suitsEval]
  | .hub => forP (List.range 4) hubEval
  | .suit | .tsh => suitsEval
  | .eng => haltEval p.inst
  | .vlg => seqs [vlgEval p.inst, suitsEval, refsEval]
  | .dpl => refsEval
  | .hsl => seqs [forP (List.range 4) fun i => trainEval (4 * p.inst + i) false, refsEval]
  | .eth => refsEval
  | _ => skip

/-- A carrier's laser comes back with its domain: it warms up again with its TEC held (R465, R68). -/
def laserReturn (c : Nat) : Prog := fun s =>
  if s.fb (ob c) OPT.LASER_CTL_LASER_EN then
    seqs [optUpd c fun r => { r with target := s.chN c, attempt := 1 }, laserTo c lWARMUP] s
  else []

end Sys2Proof.Machine
end

