-- ==== Sys2Proof/Machine/Reset.lean ====
section
/-!
DEFINITION. Machine/Reset.lean: what the resets of the table of scopes clear (R514): a page's soft reset (R20), an island
reset (R515), the wipe of a domain that goes OFF (R465), and the wider scopes (R484, R516).
-/

namespace Sys2Proof.Machine

/-! ### Clearing a page -/

/-- The slot of a BAR0 address, and of a table's key. -/
def slotOf (b : Nat) : Nat := b / 0x1000
def keySlot (k : Nat) : Nat := k / 2 ^ 31
def keyTable (k : Nat) : Nat := k / 2 ^ 28 % 8

/-- The registers of a page at 0x100 and above take their reset values, but for those at kept offsets (R20). -/
def regsClear (b : Nat) (keep : List Nat) : Prog := fun s =>
  (s.regs.filter fun e => slotOf e.1 == slotOf b && decide (0x100 ≤ e.1 % 0x1000) && !keep.contains (e.1 % 0x1000)).map
    fun e => .regs e.1 (regReset e.1)

/-- The header of a page takes its reset values. -/
def headerClear (b : Nat) : Prog := fun s =>
  (s.regs.filter fun e => slotOf e.1 == slotOf b && decide (e.1 % 0x1000 < 0x100)).map fun e => .regs e.1 (regReset e.1)

/-- The window tables of a page take their reset values, but for kept ones. -/
def tabsClear (b : Nat) (keep : List Nat) : Prog := fun s =>
  (s.tabs.filter fun e => keySlot e.1 == slotOf b && !keep.contains (keyTable e.1)).map fun e => .tabs e.1 (tabReset e.1)

/-- The 48-bit counters of a page read 0, and its time limits end. -/
def cntsClear (b : Nat) : Prog := fun s => (s.cnts.filter fun e => slotOf e.1 == slotOf b).map fun e => .cnts e.1 0
def timersClear (b : Nat) : Prog := fun s => (s.timers.filter fun e => slotOf e.1 == slotOf b).map fun e => .timers e.1 0

/-- The live taps of a page's streams. -/
def tapsClear (b : Nat) : Prog := fun s => (s.taps.filter fun e => keySlot e.1 == slotOf b).map fun e => .taps e.1 0

/-- Everything of a page that is registers, tables, counters and time limits. -/
def pageClear (b : Nat) (keep tabsKept : List Nat) : Prog :=
  seqs [regsClear b keep, tabsClear b tabsKept, cntsClear b, timersClear b]

/-- The leaves and their time limits. -/
def leavesClear : Prog := seqs [fun s => s.leaves.map fun e => .leaves e.1 {},
  fun s => (s.timers.filter fun e => decide (2 ^ 30 ≤ e.1 ∧ e.1 < 2 ^ 30 + 8192)).map fun e => .timers e.1 0]

/-- Block state that registers do not show, of a page that is reset. -/
def recClear (p : Page) : Prog :=
  let b := p.base
  let c := p.inst
  match p.kind with
  | .opt => fun _ => [.opts c {}]
  | .cnv => fun s => [.cnvs c { stored := (s.cnv c).stored }]
  | .txd => fun _ => [.txds c {}, .swaps b {}]
  | .rxf => fun _ => [.rxfs c {}]
  | .rxm => seqs [fun _ => [.rxms b {}, .swaps b {}], tapsClear b]
  | .fec => fun _ => [.fecs c {}]
  | .lfr => fun _ => [.frs (mb c) {}]
  | .scb => seqs [fun _ => [.rxms b {}, .swaps b {}, .frs b {}, .brxs b {}], tapsClear b]
  | .cip => cipLost c
  | .hub => seqs [fun s => s.hubs.map fun e => .hubs e.1 {}, leavesClear]
  | .suit => fun s => s.suits.map fun e => .suits e.1 {}
  | .tsh => fun s => s.pairs.map fun e => .pairs e.1 {}
  | .cls => clsSoftReset
  | .qmg => seqs [fun s => s.queues.map fun e => .queues e.1 {}, fun s => s.scheds.map fun e => .scheds e.1 {}]
  | .sns => seqs [fun _ => [.swaps b {}, .sns {}], fun s => s.streams.map fun e => .streams e.1 {},
      fun s => s.dets.map fun e => .dets e.1 {}]
  | .dpl => seqs [fun s => s.refs.map fun e => .refs e.1 {}, fun s => s.dplls.map fun e => .dplls e.1 {}]
  | .eth => fun _ => [.stamps c []]
  | .ddr => fun _ => [.ddrs c {}]
  | .eng => clReset c
  | .vlg => vlgReset c
  | .time => fun _ => [.deals [], .prepares [], .stepOfs 0]
  | .snap => fun _ => [.calls {}]
  | _ => skip

/-- Registers of a page whose reset values are not those of the register tables: DEALER samples its strap (R444), and
AVS_VTABn holds the fused values (R473). -/
def strapped (p : Page) : Prog :=
  match p.kind with
  | .vlg => if p.inst = 0 then stackStrap else skip
  | .pwr => fun _ => (List.range 3).map fun n =>
      .regs (p.base + PWR.AVS_VTAB n) (BitVec.ofNat 32 (650 + Config.avsFuse n % 101))
  | _ => skip

/-- A page at the scope of an island, a domain or the module: all of it but its header. -/
def pageWipe (p : Page) : Prog :=
  seqs [if p.kind = .vlg then recClear p else skip, pageClear p.base [] [],
    if p.kind = .vlg then skip else recClear p, strapped p]

/-! ### Soft resets (R20, R314, R375, R478, R500, R526) -/

/-- What the soft reset of a page clears beside INT_STAT, INT_FIRST, ERR_CNT and ERR_LAST. -/
def softClear (p : Page) : Prog :=
  let b := p.base
  match p.kind with
  | .cip => cipSoftReset p.inst
  | .sns => seqs [snsSoftReset, pageClear b [SNS.WR_SEQ] [0, 1, 2, 4]]
  | .pwr => fun s => s.pds.map fun e => .pds e.1 { e.2 with requested := 0, completed := 0, refused := 0, aborted := 0 }
  | .err => forP ([ERR.ESC_CNT, ERR.QOVF_CNT] ++ (List.range 5).map ERR.CLASS_CNT) fun o => rset (b + o) 0
  | .boot => seqs [rclear (b + BOOT.FL_ADDR), tabsClear b [],
      fun s => if s.fb b BOOT.FL_STAT_BUSY then [] else [.regs (b + BOOT.FL_STAT) 0]]
  | .sec => regsClear b [SEC.SEC_STAT, SEC.CHAL_STAT, SEC.MLOG_N, SEC.LMS_IDX]
  | .mem => seqs [pageClear b [MEM.MEM_STAT, MEM.INSTALLED, MEM.USABLE, MEM.BUDGET, MEM.REPAIR_STAT] [1]]
  | .ddr => seqs [pageClear b [DDR.DDR_STAT, DDR.SPARE_LEFT] [], recClear p]
  | .eng => seqs [pageClear b [ENG.CL_STAT, ENG.PROG_ID, ENG.PROG_VER] [], engsFresh p.inst]
  | _ => pageWipe p

/-- A soft reset begins (R20). -/
def softReset (p : Page) : Prog :=
  let b := p.base
  seqs [fbset b PAGE_STAT_SRST_BUSY true, softClear p,
    fun _ => [oINT_STAT, oINT_FIRST, oERR_CNT, oERR_LAST].map fun o => .regs (b + o) 0,
    pageEval p]

/-- The soft reset completes: the block restarts under its own controls. -/
def softResetDone (slot : Nat) : Prog := fun s =>
  match pageAt (slot * 0x1000) with
  | some p => if s.srstBusy p.base then seqs [fbset p.base PAGE_STAT_SRST_BUSY false, pageEval p] s else []
  | none => []

/-! ### Islands (R515) -/

/-- Every page of the module. -/
def kinds : List PageKind := devKinds ++ carKinds ++ [.scb, .hsl, .eth, .cls, .qmg, .tsh, .ddr, .eng, .vlg]
def allPages : List Page := kinds.flatMap fun k => (List.range (pageCount k)).map fun i => ⟨k, i⟩

def islandPages (i : Nat) : List Page := allPages.filter fun p => pageIsland p == i

/-- A page is wiped with its island: the key store of CIPc and the trained state of DDRn stay (R315, R514). -/
def islandWipe (p : Page) : Prog :=
  match p.kind with
  | .cip => seqs [cipIslandReset p.inst, pageClear p.base [CIP.CIP_LOCK, CIP.DEF_TIME0, CIP.DEF_TIME1] [0, 1]]
  | .ddr => softClear p
  | _ => pageWipe p

/-- Locks that a requester holds are freed (R25). -/
def islandLocks (i : Nat) : Prog := if 11 ≤ i ∧ i < 19 then locksFree (0x10 + (i - 11)) else skip

/-- An island reset begins: its blocks stop and are wiped, and its cluster's locks are freed (R515). -/
def islandReset (i : Nat) : Prog := fun s =>
  if s.resetting.contains i then [] else
  seqs [fun t => [.resetting (t.resetting ++ [i])], islandLocks i, dealsIslandReset i, forP (islandPages i) islandWipe,
    forP (islandPages i) pageEval, carriersEval] s

/-- Errors whose handling the end of an island reset completes (R510). -/
def errsReset (i : Nat) : Prog := fun s =>
  [.errs (s.errs.map fun e => if e.island = i ∧ e.cls = 3 ∧ !e.resetDone then { e with handled := true, resetDone := true } else e)]

/-- The island reset ends: engines reload their vendor program, RESET_DONE is raised, and each block restarts (R515); a
failed island stays in reset (R512). -/
def resetDone (i : Nat) : Prog := fun s =>
  if !s.resetting.contains i then [] else
  let up : Prog := fun t => [.resetting (t.resetting.filter (· != i))]
  if bitOf (s.reg (eb + ERR.ISL_FAILED)).toNat i then up s
  else seqs [up, if 11 ≤ i ∧ i < 19 then vendorLoad (i - 11) else skip, errsReset i, raise eb 8,
    forP (islandPages i) pageEval, carriersEval] s

/-! ### Wider scopes (R484, R514, R516, R475) -/

/-- Pages that a boot restart leaves alone: those of the always-on island, which is no domain (R465, R484). -/
def restartKeeps (p : Page) : Bool := pagePd p == 0xFF

/-- Every domain goes OFF with nothing under way; the counts of R479 stay. -/
def domainsOff : Prog := fun s =>
  (List.range 80).map fun d => .pds d
    { s.pd d with st := 0, step := .idle, ask := {}, queued := none, held := false, blocker := 0, level := 0, assist := false }

/-- Errors in handling end with their islands' reset. -/
def errsEnd : Prog := fun s => [.errs (s.errs.map fun e => { e with handled := true }), .resetting []]

/-- A boot restart resets every island but the always-on one, and sets every domain OFF (R484). -/
def bootWipe : Prog :=
  seqs [forP ((allPages.filter fun p => !restartKeeps p)) pageWipe, domainsOff, fun _ => [.avs []], errsEnd,
    forP (List.range 8) fun k => locksFree (0x10 + k),
    fun s => (List.range 4).map fun c => .tls c { s.tl c with run := false },
    rclear (eb + ERR.ISL_FAILED)]

/-- A device reset loses all but what R514 keeps: the boot record, BOOT_FB, the PWR accounting, WAKE_STAT, DF_LAST, fuses,
flash and calibration records. -/
def deviceWipe : Prog :=
  seqs [bootWipe,
    forP (allPages.filter fun p => p.kind != .boot) fun p => headerClear p.base,
    headerClear (pageBase .boot 0),
    forP [.mgt, .snap, .time, .dpl, .sec] fun k => pageWipe ⟨k, 0⟩,
    pageClear meb [MEM.REPAIR_STAT] [1],
    pageClear eb ((List.range 7).map ERR.DF_LAST) [],
    fun s => [.errs [], .now 0, .rateAcc 0, .pba 0, .inInt 0] ++ s.msix.map fun e => .msix e.1 (msixReset e.1),
    fun s => (s.timers.filter fun e => decide (2 ^ 40 ≤ e.1)).map fun e => .timers e.1 0,
    pageClear (pageBase .pwr 0) [PWR.WAKE_STAT] [], strapped ⟨.pwr, 0⟩,
    fun s => [.sec { m := 0, draws := s.sec.draws }]]

/-- The PCI Express endpoint is reset: the MSI-X table and the pending bits (R514, R536). -/
def perst : Prog := fun s => .perst true :: .pba 0 :: s.msix.map fun e => .msix e.1 (msixReset e.1)

/-- PERST# is released; the endpoint then trains, which no register shows (R536, R487). -/
def perstRelease : Prog := fun _ => [.perst false]

end Sys2Proof.Machine
end

