-- ==== Sys2Proof/Machine/Power.lean ====
section
/-!
DEFINITION. Machine/Power.lean: the power domains: requests, their checks and transitions (R465–R472), the core rail
(R473), bias and assist (R474), and the PWR page (R478–R481).
-/

namespace Sys2Proof.Machine

/-- The base of PWR. -/
def pwb : Nat := pageBase .pwr 0

def cPD_REFUSED : Nat := 0x80
def cSLEEP_REFUSED : Nat := 0x81
def cPWR_BAD_KEY : Nat := 0x82
def cPWR_CFG_RANGE : Nat := 0x83

/-- Refuser codes (R469). -/
def pTRAFFIC : Nat := 1
def pDEAL : Nat := 2
def pKEY_LOCK : Nat := 3
def pBUSY : Nat := 4
def pDEPENDENCY : Nat := 5
def pAVS_NACK : Nat := 6
def pTHERMAL : Nat := 7
def pDEBUG : Nat := 8

def pdUpd (d : Nat) (f : PdRec → PdRec) : Prog := fun s => [.pds d (f (s.pd d))]

def tQuiesce (d : Nat) : Nat := pwb + d
def tAvs : Nat := pwb + 128

/-! ### Dependencies (R466) -/

/-- A domain's parent. -/
def pdParent (d : Nat) : Option Nat :=
  if d < 44 then (if d % 11 = 7 then none else some (d / 11 * 11 + 7))
  else if d = 76 ∨ d = 78 then some 77 else none

/-- The domains that have a domain as parent. -/
def pdChildren (d : Nat) : List Nat := (List.range 80).filter fun e => pdParent e == some d

/-- The state that a domain is in or in transition to. -/
def PdRec.reach (r : PdRec) : Nat := if r.step = .idle then r.st else r.ask.st

/-- A domain that no request changes. -/
def State.pdFixed (s : State) (d : Nat) : Bool :=
  (s.part == .hq9620C && (decide (22 ≤ d ∧ d ≤ 43) || d == 66 || d == 67))
  || decide (56 ≤ d ∧ d < 64 ∧ s.nch / 2 ≤ d - 56)
  || (d == 71 && s.pdOn 71)
  || (d == 72 && s.fb vb0 VLG.STACK_CFG_EN)

/-- R466 would be broken by a domain in a state, the others in the states they reach. -/
def State.pdBroken (s : State) (d st : Nat) : Bool :=
  (match pdParent d with
    | some p => decide ((s.pd p).reach < st)
    | none => false)
  || (pdChildren d).any fun c => decide (st < (s.pd c).reach)

/-- A request is held: to raise, while the parent is in transition towards a state high enough; to lower, while a child is in
transition towards a state low enough (R467). -/
def State.pdHold (s : State) (d st : Nat) : Bool :=
  if (s.pd d).st < st then
    match pdParent d with
    | some p => (s.pd p).step != .idle && decide (st ≤ (s.pd p).ask.st)
    | none => false
  else (pdChildren d).any fun c => (s.pd c).step != .idle && decide ((s.pd c).ask.st ≤ st)

/-! ### Checks (R469, R470) -/

/-- The pages of a domain. -/
def pdPages (d : Nat) : List Page := allPages.filter fun p => pagePd p == d

/-- A condition of R470 holds for a domain that is to leave ON. -/
def State.pdTraffic (s : State) (d st : Nat) : Bool :=
  let c := d / 11
  let tx := s.fb (xb c) TXD.TXD_CTL_TX_RUN
  let rx := s.fb (rb c) RXF.RXF_CTL_RX_RUN
  if d < 44 then
    match d % 11 with
    | 0 | 2 | 6 | 8 => tx
    | 1 | 3 | 4 | 7 => rx
    | 9 => tx || rx
    | 5 => rx || !(s.hub c).drains.isEmpty
    | _ => !(s.assocIds c).isEmpty
  else if d < 56 then (List.range 4).any fun i => (s.laneOwner (4 * (d - 44) + i)).isSome
  else if d < 64 then st == 0 && (List.range 11).any s.regionOn
  else if d < 72 then !s.fb (enb (d - 64)) ENG.CL_STAT_HALTED
  else if d < 76 then s.vSt (d - 72) != (if st = 0 then vDOWN else vIDLE)
  else if d = 76 then s.fb clb CLS.CLS_CTL_EN
  else if d = 77 then s.fb qmb QMG.QMG_CTL_EN || s.fg hb HUB.HUB_CTL_RUN != 0 || !s.suits.isEmpty
  else if d = 78 then s.tsUsed != 0
  else s.fb ssb SNS.SNS_CTL_RUN

/-- A field-access scope covers the domain and is open (R469, R500). -/
def State.pdDebug (s : State) (d : Nat) : Bool :=
  (decide (64 ≤ d ∧ d < 72) && s.scopeOpen 0) || (decide (d < 44) && (d % 11 == 1 || d % 11 == 2) && s.scopeOpen 1)

/-- PWR_TEMP is at or above THERM_LIM. -/
def State.hot (s : State) : Bool :=
  decide ((s.fg pwb PWR.PWR_CFG_THERM_LIM : Int) * 10 ≤ sx 16 (s.fg pwb PWR.PWR_TEMP_DEG))

/-- The first check that fails (R469). -/
def State.pdRefuser (s : State) (d : Nat) (a : PdAsk) : Option Nat :=
  let leaves := (s.pd d).st == 2 && decide (a.st < 2)
  if s.pdFixed d ∨ s.pdBroken d a.st then some pDEPENDENCY
  else if leaves ∧ s.pdDebug d then some pDEBUG
  else if leaves ∧ s.pdTraffic d a.st then some pTRAFFIC
  else if leaves ∧ (pdPages d).any fun p => s.dealPendingOther p.base a.deal then some pDEAL
  else if leaves ∧ d < 44 ∧ d % 11 = 10 ∧ s.fg (cb (d / 11)) CIP.CIP_LOCK_ID ≠ 0 then some pKEY_LOCK
  else if (s.pd d).st < a.st ∧ s.hot then some pTHERMAL
  else none

/-- A request is refused: the domain keeps its state. -/
def pdRefuse (d code : Nat) (a : PdAsk) : Prog := fun s =>
  seqs [pdUpd d fun r => { r with step := .idle, refuser := code, refused := satAdd 16 r.refused 1,
                                  lastT := s.nowNs.toNat % 2 ^ 32 },
    raise pwb 1, errPage pwb a.off a.src cPD_REFUSED] s

/-! ### The carrier count, bias and assist (R473, R474) -/

/-- Carriers with a domain that is not OFF, by a reading of the domains' states. -/
def ncarBy (st : Nat → Nat) : Nat := ((List.range 4).filter fun c => (List.range 11).any fun i => st (11 * c + i) != 0).length

/-- NCAR now, and the NCAR that the transitions under way lead to. -/
def State.ncar (s : State) : Nat := ncarBy fun d => (s.pd d).st
def State.ncarReach (s : State) : Nat := ncarBy fun d => max (s.pd d).st (s.pd d).reach

/-- The full configuration at a carrier count. -/
def State.fullAt (s : State) (n : Nat) : Bool := s.part != .hq9620C && decide (3 ≤ n)

/-- The target of VDD_CORE in mV at a carrier count (R473). -/
def State.railFor (s : State) (n : Nat) : Nat := if s.fullAt n then 750 else s.fg pwb (PWR.AVS_VTAB_MV n)

/-- The target that the last operation arrived with leads to. -/
def State.railNow (s : State) : Nat :=
  match s.avs.getLast? with
  | some o => o.mv
  | none => s.fg pwb PWR.AVS_STAT_VTARGET

/-- The level and assist of a domain in ON (R474). -/
def State.bias (s : State) (full : Bool) (d : Nat) : Nat × Bool :=
  let e := s.tab (tabKey pwb 1 d 0)
  if full then (bitsGet e 0 2, e.getLsbD 2) else (2, decide (s.fg pwb PWR.AVS_STAT_VTARGET ≤ 700))

/-- A domain takes its level and assist. -/
def biasTake (full : Bool) (d : Nat) : Prog := fun s =>
  let q := if (s.pd d).st = 2 then s.bias full d else (0, false)
  pdUpd d (fun r => { r with level := q.1, assist := q.2 }) s

/-- Every domain that is ON takes the level and assist of a configuration. -/
def biasAll (full : Bool) : Prog := withP fun s => forP ((List.range 80).filter s.pdOn) (biasTake full)

/-! ### AVSBus operations (R473) -/

/-- The first operation's first attempt; bias changes come before a rise (R474). -/
def avsBegin : Prog := fun s =>
  match s.avs with
  | [] => []
  | o :: os =>
    if o.attempts ≠ 0 then [] else
    seqs [fun _ => [.avs ({ o with attempts := 1 } :: os)],
      fset pwb PWR.AVS_STAT_VTARGET o.mv, fset pwb PWR.AVS_STAT_ATTEMPTS 1,
      if o.prev < o.mv then biasAll (s.fullAt s.ncarReach) else skip,
      timerStart tAvs, emit (.avs o.mv)] s

/-- A change of target: one operation, behind those that have arrived. -/
def avsOp (mv : Nat) (domains : List Nat) : Prog := fun s =>
  seqs [fun _ => [.avs (s.avs ++ [{ mv := mv, prev := s.railNow, domains := domains }])], avsBegin] s

/-- The target that the present carrier count asks for, when no rise brings it about. -/
def railSettle : Prog := fun s =>
  let t := s.railFor s.ncarReach
  if s.railNow = 0 ∨ t = s.railNow then [] else avsOp t [] s

/-! ### Transitions (R467, R468, R471, R472) -/

/-- A domain's transition proper begins, after a quiesce when it leaves ON. -/
def pdStart (d : Nat) : Prog := fun s =>
  if (s.pd d).st = 2 then seqs [pdUpd d fun r => { r with step := .quiesce }, timerStart (tQuiesce d)] s
  else pdUpd d (fun r => { r with step := .move }) s

/-- A request that nothing holds up: it has no effect, waits for its parent or child, is refused, or is taken up. -/
def pdServe (d : Nat) (a : PdAsk) : Prog := fun s =>
  let r := s.pd d
  if r.step ≠ .idle then seqs [pdUpd d fun r => { r with queued := some a, held := false }, raise pwb 3] s
  else if r.st = a.st then
    seqs [pdUpd d fun r => { r with queued := none, held := false, completed := satAdd 16 r.completed 1 }, raise pwb 0] s
  else if s.pdHold d a.st then seqs [pdUpd d fun r => { r with queued := some a, held := true }, raise pwb 3] s
  else
    let clear := pdUpd d fun r => { r with queued := none, held := false }
    match s.pdRefuser d a with
    | some code => seqs [clear, pdRefuse d code a] s
    | none => seqs [clear, pdUpd d fun r => { r with step := .rail, ask := a }] s

/-- Requests that wait behind others of their cycle: a child's raise and a parent's lowering. -/
def State.pdLater (s : State) (q : Nat × PdAsk) : Bool :=
  if (s.pd q.1).st < q.2.st then (pdParent q.1).isSome else !(pdChildren q.1).isEmpty

/-- What the requests taken up in this cycle wait for: one operation when they raise the rail's target, else nothing. -/
def pdGo (before : List Nat) : Prog := fun s =>
  let mine := (List.range 80).filter fun d => (s.pd d).step == .rail && !before.contains d
  let t := s.railFor s.ncarReach
  if mine.isEmpty then []
  else if s.railNow = 0 then forP mine pdStart s
  else if s.railNow < t then avsOp t mine s
  else match s.avs.find? fun o => o.mv == t && decide (o.prev < o.mv) with
    | some o => [.avs (s.avs.map fun q => if q = o then { q with domains := q.domains ++ mine } else q)]
    | none => forP mine pdStart s

/-- Requests served in one cycle (R467). -/
def pdBatch (qs : List (Nat × PdAsk)) : Prog := fun s =>
  let before := (List.range 80).filter fun d => (s.pd d).step == .rail
  seqs [forP (qs.filter fun q => !s.pdLater q) (fun q => pdServe q.1 q.2),
    forP (qs.filter s.pdLater) (fun q => pdServe q.1 q.2), pdGo before] s

/-- A request arrives: it is counted. What a domain above 79 or STATE 3 requests is open (R481). -/
def pdArrive (qs : List (Nat × PdAsk)) : Prog :=
  seqs [forP (qs.map Prod.fst) fun d => pdUpd d fun r => { r with requested := satAdd 16 r.requested 1 }, pdBatch qs]

/-- A request as PD_REQ or a PD_SET argument words it. -/
def pdWord (v : Word) (src off : Nat) (deal : Option Nat) (k : Nat × PdAsk → Prog) : Prog :=
  let d := v.toNat % 256
  let st := bitsGet v 8 2
  let ask (st : Nat) : PdAsk := { st := st, src := src, off := off, deal := deal }
  if d < 80 ∧ st < 3 then k (d, ask st)
  else withFree fun w => k (if d < 80 then d else bitsGet w 0 8 % 80, ask (if st < 3 then st else bitsGet w 8 8 % 3))

/-- The words of several requests. -/
def pdWords (src off : Nat) (deal : Option Nat) : List Word → List (Nat × PdAsk) → Prog
  | [], qs => pdArrive qs
  | v :: vs, qs => pdWord v src off deal fun q => pdWords src off deal vs (qs ++ [q])

/-- PD_REQ. -/
def pdReq (src : Nat) (v : Word) : Prog := pdWords src PWR.PD_REQ none [v] []

/-- Held requests whose hold has ended are served together, with a queued one (R467, R468). -/
def pdRelease (d : Nat) : Prog := fun s =>
  let qs := (List.range 80).filterMap fun e =>
    match (s.pd e).queued with
    | some a => if (if (s.pd e).held then !s.pdHold e a.st else e == d) && (s.pd e).step == .idle then some (e, a) else none
    | none => none
  pdBatch qs s

/-- Memory of a domain that is unpowered: engine memories, and attached memory of a pair (R465). -/
def pdMemLost (d : Nat) : Prog := fun s =>
  if 64 ≤ d ∧ d < 72 then (s.engMem.filter fun e => e.1 / 0x800000 == d - 64).map fun e => .engMem e.1 0
  else if 56 ≤ d ∧ d < 64 ∧ s.nch ≠ 0 then
    (s.ddrMem.filter fun e => s.chanOf e.1 / 2 == d - 56).map fun e => .ddrMem e.1 0
  else []

/-- What a domain's entry into a state brings about. -/
def pdEnter (d was st : Nat) : Prog := fun s =>
  let c := d / 11
  seqs [pdUpd d fun r => { r with st := st },
    if st = 0 then seqs [forP (pdPages d) pageWipe, pdMemLost d] else skip,
    if d < 44 ∧ d % 11 = 0 ∧ st = 1 then seqs [tuneDrop c, laserTo c lOFF] else skip,
    if 56 ≤ d ∧ d < 64 ∧ was = 2 ∧ s.fb meb MEM.SCRUB_STAT_BUSY then scrubAbort else skip,
    if d < 44 ∧ d % 11 = 0 ∧ st = 2 ∧ was = 1 then laserReturn c else skip,
    forP (pdPages d) pageEval, carriersEval] s

/-- A transition completes: the counts, the configuration and the rail follow, and requests that waited are served
(R468, R473, R474). -/
def pdDone (d : Nat) : Prog := fun s =>
  let r := s.pd d
  if r.step ≠ .move then [] else
  let full := s.fullAt s.ncar
  seqs [pdUpd d fun r => { r with step := .idle, completed := satAdd 16 r.completed 1 },
    pdEnter d r.st r.ask.st, raise pwb 0,
    fun t =>
      let now := t.fullAt t.ncar
      seqs [biasTake now d, if now = full then skip else raise pwb 5, railSettle,
        fun u => if now ≠ full ∧ u.railNow = t.railNow then biasAll now u else []] t,
    pdRelease d] s

/-- Every transfer in flight has completed. -/
def quiesceDone (d : Nat) : Prog := fun s =>
  if (s.pd d).step = .quiesce then seqs [pdUpd d fun r => { r with step := .move }, timerStop (tQuiesce d)] s else []

/-- The quiesce has lasted QUIESCE_TO: the entry is aborted. -/
def quiesceTimeout (d blocker : Nat) : Prog := fun s =>
  if (s.pd d).step = .quiesce ∧ s.running (tQuiesce d) then
    seqs [clockEnd (tQuiesce d) (s.fg pwb PWR.PWR_CFG_QUIESCE_TO * 1000),
      fun t => pdUpd d (fun r => { r with step := .idle, refuser := pBUSY, blocker := blocker,
                                          aborted := satAdd 16 r.aborted 1, lastT := t.nowNs.toNat % 2 ^ 32 }) t,
      timerStop (tQuiesce d), raise pwb 2, pdRelease d] s
  else []

/-- A domain's request raises NCAR: its carrier has no domain that is not OFF. -/
def State.pdRaisesNcar (s : State) (d : Nat) : Bool :=
  decide (d < 44) && decide ((s.pd d).ask.st ≠ 0) && (List.range 11).all fun i => (s.pd (d / 11 * 11 + i)).st == 0

/-- The operation in progress has ended. -/
def avsEnd (ok : Bool) : Prog := fun s =>
  match s.avs with
  | [] => []
  | o :: os =>
    seqs [fun _ => [.avs os], timerStop tAvs,
      if ok then
        seqs [if o.mv ≤ o.prev then biasAll (s.fullAt s.ncar) else skip, forP o.domains pdStart]
      else if o.domains.isEmpty then
        seqs [raise pwb 4, report eAVS_FAIL 24 pwb, biasAll (s.fullAt s.ncar)]
      else
        seqs [fset pwb PWR.AVS_STAT_VTARGET o.prev,
          forP o.domains fun d => if s.pdRaisesNcar d then pdRefuse d pAVS_NACK (s.pd d).ask else pdStart d,
          biasAll (s.fullAt s.ncar)],
      avsBegin, fun t => (if ok then skip else seqs (o.domains.map pdRelease)) t] s

/-- An attempt ends: with what the regulator acknowledged and read back, or without an acknowledgement. -/
def avsAttemptEnd (ack : Option Nat) : Prog := fun s =>
  match s.avs with
  | [] => []
  | o :: os =>
    let ok := match ack with
      | some mv => decide (mv ≤ o.mv + 5 ∧ o.mv ≤ mv + 5)
      | none => false
    seqs [match ack with
        | some mv => fset pwb PWR.AVS_STAT_VNOW mv
        | none => skip,
      if ok then avsEnd true
      else seqs [fincSat pwb PWR.AVS_ERR_CNT_COUNT 1,
        if o.attempts < 4 then
          seqs [fun _ => [.avs ({ o with attempts := o.attempts + 1 } :: os)],
            fset pwb PWR.AVS_STAT_ATTEMPTS (o.attempts + 1), timerStart tAvs, emit (.avs o.mv)]
        else avsEnd false]] s

/-! ### Temperature (R478, R508) -/

/-- PWR_TEMP is measured; reaching THERM_LIM is reported. -/
def thermal (deg : Int) : Prog := fun s =>
  seqs [fset pwb PWR.PWR_TEMP_DEG (tc 16 deg), fun t =>
    if t.hot ∧ !s.hot then seqs [raise pwb 6, report eTHERMAL 24 pwb] t else []] s

/-! ### Registers and tables (R478–R480) -/

def pwrCfgWrite (src : Nat) (v : Word) : Prog :=
  if 10 ≤ wrote v PWR.PWR_CFG_QUIESCE_TO ∧ wrote v PWR.PWR_CFG_QUIESCE_TO ≤ 1000 ∧ 70 ≤ wrote v PWR.PWR_CFG_THERM_LIM
      ∧ wrote v PWR.PWR_CFG_THERM_LIM ≤ 104 then
    fun s => seqs [rset (pwb + PWR.PWR_CFG) (v &&& 0x03FF00FF), fun t =>
      if t.hot ∧ !s.hot then seqs [raise pwb 6, report eTHERMAL 24 pwb] t else []] s
  else errPage pwb PWR.PWR_CFG src cPWR_CFG_RANGE

/-- AVS_VTABn below its fused value or out of range holds a free value (R481); a new target is an operation (R473). -/
def vtabWrite (r : RegRow) (v : Word) : Prog :=
  let n := (r.off - PWR.AVS_VTAB 0) / 4
  seqs [plainWrite pwb r [⟨PWR.AVS_VTAB_MV n, 650 + Config.avsFuse n % 101, 750⟩] v, railSettle]

/-- The PDOM words of a domain (R479). -/
def pdomView (s : State) (d w : Nat) : Word :=
  let r := s.pd d
  let busy := r.step != .idle
  match w with
  | 0 => BitVec.ofNat 32 (b2n r.assist * 2 ^ 26 + r.level * 2 ^ 24 + r.blocker * 65536 + r.refuser * 256
      + (match r.queued with
        | some a => a.st * 64 + 32
        | none => 0)
      + (if busy then r.ask.st * 4 + 16 else 0) + r.st)
  | 1 => BitVec.ofNat 32 (r.completed * 65536 + r.requested)
  | 2 => BitVec.ofNat 32 (r.aborted * 65536 + r.refused)
  | _ => BitVec.ofNat 32 r.lastT

def pwrTabView (s : State) (t d w : Nat) : Word := if t = 0 then pdomView s d w else s.tab (tabKey pwb t d w)

/-- A write of a window table: PDOM is RO. -/
def pwrTab (src t d w : Nat) (v : Word) : Prog :=
  if t = 0 then errPage pwb (oWIN_DATA w) src cRO_WRITE else fun _ => [.tabs (tabKey pwb 1 d 0) (v &&& 7)]

/-- The computed registers of PWR. -/
def pwrView (s : State) (off : Nat) : Option Word :=
  if off = PWR.PWR_STAT then
    some (BitVec.ofNat 32 (((List.range 80).filter fun d => (s.pd d).step != .idle).length * 65536 + s.ncar * 256
      + b2n (!s.avs.isEmpty) * 32 + b2n (s.fullAt s.ncar) * 16))
  else if off = PWR.WAKE_STAT then
    some (bitsPut (s.reg (pwb + PWR.WAKE_STAT)) 1 1 (b2n (Config.wakePin s.ticks)))
  else (List.range 5).findSome? fun i =>
    if off = PWR.STATE_MAP i then
      some (BitVec.ofNat 32 ((List.range 16).foldl (fun n j => n + (s.pd (16 * i + j)).st * 4 ^ j) 0))
    else none

end Sys2Proof.Machine
end

