-- ==== Sys2Proof/Machine/Boot.lean ====
section
/-!
DEFINITION. Machine/Boot.lean: starts, their steps and record (R482–R488), flash and image slots (R489–R492), and
wake-only (R475, R476).
-/

namespace Sys2Proof.Machine

def cNOT_HOST : Nat := 0x80
def cBAD_KEY : Nat := 0x81
def cFL_RANGE : Nat := 0x82
def cFL_BUSY : Nat := 0x83
def cNOT_VERIFIED : Nat := 0x84

def tStep : Nat := btb
def tWarm : Nat := btb + 1
def tRestart : Nat := btb + 2

/-! ### Levels, counts and units (R485) -/

/-- The step whose level and count a step uses. -/
def levelOf (k : Nat) : Nat := if k = 3 then 2 else if k = 6 then 5 else k

/-- A step's level in this start, and its count. -/
def State.stepLevel (s : State) (k : Nat) : Nat := s.boot.fb / 4 ^ levelOf k % 4
def State.stepFails (s : State) (k : Nat) : Nat := (s.reg (btb + BOOT.BOOT_FAILS)).toNat / 4 ^ levelOf k % 4

/-- The place of a unit step's units in FB_UNIT: lowest bit and width. -/
def unitField (k : Nat) : Nat × Nat :=
  match k with
  | 7 => (12, 7)
  | 8 => (0, 4)
  | 9 => (4, 4)
  | 10 => (20, 12)
  | 11 => (8, 4)
  | _ => (0, 0)

/-- The units that a step's level covers in this start. -/
def State.covered (s : State) (k : Nat) : Nat :=
  if s.stepLevel k = 0 then 0 else s.boot.fbUnit / 2 ^ (unitField k).1 % 2 ^ (unitField k).2

def failsPut (k n : Nat) : Prog := fset btb ⟨BOOT.BOOT_FAILS, 2 * levelOf k, 2⟩ n
def fbPut (k n : Nat) : Prog := fset btb ⟨BOOT.BOOT_FB, 2 * levelOf k, 2⟩ n
def unitPut (k units : Nat) : Prog := fset btb ⟨BOOT.FB_UNIT, (unitField k).1, (unitField k).2⟩ units

/-! ### The boot record (R488) -/

/-- Milliseconds since this start began. -/
def State.bootMs (s : State) : Nat := (s.ticks - s.boot.tick) / 1000000 % 2 ^ 24

/-- The newest entry. -/
def State.recHead (s : State) : Nat := s.fg btb BOOT.REC_HEAD_IDX

/-- A step's entry is written as the step begins. -/
def recBegin (k result : Nat) : Prog := fun s =>
  let h := (s.recHead + 1) % 32
  [.regs (btb + BOOT.REC_HEAD) (BitVec.ofNat 32 h),
   .regs (btb + BOOT.REC_W0 h) (BitVec.ofNat 32 (s.fg btb BOOT.BOOT_STAT_START_NUM * 2 ^ 24 + k * 2 ^ 16
     + s.stepLevel k * 2 ^ 12 + result * 256)),
   .regs (btb + BOOT.REC_W1 h) (BitVec.ofNat 32 (0xFF000000 + s.bootMs))]

/-- The newest entry is completed. -/
def recEnd (result cause unit : Nat) : Prog := fun s =>
  let h := s.recHead
  [.regs (btb + BOOT.REC_W0 h) (bitsPut (bitsPut (s.reg (btb + BOOT.REC_W0 h)) 8 3 result) 0 8 cause),
   .regs (btb + BOOT.REC_W1 h) (BitVec.ofNat 32 (unit % 256 * 2 ^ 24 + s.bootMs))]

/-! ### Failures, fallback and halts (R483, R485, R486) -/

/-- The boot halts when the step's count reaches 2: steps 0, 1 and 4, and the image level above 1. -/
def State.haltsAt (s : State) (k : Nat) : Bool :=
  k == 0 || k == 1 || k == 4 || ((k == 2 || k == 3) && decide (1 ≤ s.fg btb ⟨BOOT.BOOT_FB, 4, 2⟩))

/-- The boot halts. -/
def bootHalt (cause : Nat) : Prog :=
  seqs [fbset btb BOOT.BOOT_STAT_HALTED true, fset btb BOOT.BOOT_STAT_CAUSE cause, raise btb 5, fun _ => [.phase .halted],
    bootUpd fun r => { r with step := none }]

/-- A step has failed in one more start: its count rises; at 2 it clears, the level rises and takes in the units that
failed, or the boot halts. -/
def stepCount (k units cause : Nat) : Prog := fun s =>
  let level := s.fg btb ⟨BOOT.BOOT_FB, 2 * levelOf k, 2⟩
  let old := bitsGet (s.reg (btb + BOOT.FB_UNIT)) (unitField k).1 (unitField k).2
  let note := if k < 7 then skip else unitPut k (if level = 0 then units else old ||| units)
  if s.stepFails k = 0 then seqs [failsPut k 1, if level = 0 then note else skip] s
  else
    seqs [failsPut k 0, note, if s.haltsAt k then bootHalt cause else
      if 7 ≤ k ∧ level = 1 then skip else seqs [fbPut k (min 2 (level + 1)), raise btb 3]] s

/-! ### What steps bring up -/

/-- A step of the start switches a domain ON: the request is counted as requested and completed (R478). -/
def bootRaise (d : Nat) : Prog := fun s =>
  if (s.pd d).st = 2 ∨ s.pdFixed d then [] else
  seqs [pdUpd d fun r => { r with requested := satAdd 16 r.requested 1, completed := satAdd 16 r.completed 1 },
    pdEnter d (s.pd d).st 2, fun t => biasTake (t.fullAt t.ncar) d t, raise pwb 0] s

/-- A carrier is left down: every one of its domains is OFF. -/
def leftDown (c : Nat) : Prog := forP ((List.range 11).filter (· != 7) ++ [7]) fun i s =>
  if (s.pd (11 * c + i)).st = 0 then [] else pdEnter (11 * c + i) (s.pd (11 * c + i)).st 0 s

/-- The carriers that the image configures and no earlier step has left down. -/
def State.bootCarriers (s : State) : List Nat :=
  (List.range 4).filter fun c => s.present ⟨.opt, c⟩ && Config.imageCarrier (s.fg btb BOOT.BOOT_STAT_SLOT) s.flashWrites c

/-- The indices in a map of units. -/
def unitsOn (n m : Nat) : List Nat := (List.range n).filter (bitOf m)

/-- A cluster is loaded with its vendor program and released (R424). -/
def clusterUp (k : Nat) : Prog := seqs [bootRaise (64 + k), vendorLoad k, fbset (enb k) ENG.CL_CTL_HALT false,
  haltRelease k, haltEval k]

/-- CL7_START: the FECD and OPT domains of the configured carriers, and their lasers' warm-up at CH_N; then the AVSBus
operation of R532. -/
def cl7Start : Prog := fun s =>
  let image := s.fg btb BOOT.BOOT_STAT_SLOT
  let cs := s.bootCarriers
  seqs [clusterUp 7, measure 3 (Config.itemHash image s.flashWrites 3),
    forP cs fun c => bootRaise (11 * c + 7), forP cs fun c => bootRaise (11 * c),
    forP cs fun c => seqs [fset (ob c) OPT.LASER_FREQ_CH_N (Config.imageCh image s.flashWrites c), coldStart 0x17 c],
    timerStart tWarm, fun t => avsOp (t.railFor t.ncar) [] t] s

/-- The repair list is applied: up to 8 rows by hard repair, every other one by a spare row (R416). -/
def repairApply (nch : Nat) : Prog := fun s =>
  let kind (e : Nat) := bitsGet (s.tab (tabKey meb 1 e 0)) 0 2
  let spare := (List.range (32 * nch)).filter fun e => kind e == 1
  let hard := if s.fb meb MEM.REPAIR_CFG_HPPR_EN then spare.take 8 else []
  let left (n : Nat) := 32 - (spare.filter fun e => e / 32 == n && !hard.contains e).length
  seqs [fun _ => hard.map fun e => .tabs (tabKey meb 1 e 0) (bitsPut (s.tab (tabKey meb 1 e 0)) 0 2 2),
    fun _ => (List.range nch).map fun n => .regs (db n + DDR.SPARE_LEFT) (BitVec.ofNat 32 (left n)),
    rset (meb + MEM.REPAIR_STAT) (BitVec.ofNat 32 (((List.range nch).map left).sum))] s

/-- DDR_TRAIN has trained the populated channels (R401, R403). -/
def ddrTrained (e : StepEnd) : Prog := fun s =>
  let nch := 2 * e.pairs
  let bin := min e.bin (s.fg meb MEM.MEM_CFG_MAX_BIN) - s.stepLevel 5
  seqs [rset (meb + MEM.MEM_STAT) (BitVec.ofNat 32 (2 ^ 29 + nch * 2 ^ 16 + bin * 256 + e.gb % 256)),
    rset (meb + MEM.INSTALLED) (BitVec.ofNat 32 (nch * e.gb * 1024)),
    rset (meb + MEM.USABLE) (BitVec.ofNat 32 (nch * e.gb * 1024 - 4 * nch)),
    fset meb MEM.BUDGET_TOTAL (budgetOf nch (binRate bin)),
    forP (List.range e.pairs) fun i => bootRaise (56 + i),
    fun _ => (List.range nch).map fun n => .regs (db n + DDR.DDR_STAT)
      (BitVec.ofNat 32 (2 ^ 31 + 2 ^ 30 + e.ranks % 4 * 2 ^ 24 + e.gb % 256 * 2 ^ 16)),
    repairApply nch] s

/-- The image of a slot verifies: its key, its signature, its security version (R490). -/
def State.slotOk (s : State) (slot : Nat) : Bool :=
  match Config.imageParts slot s.flashWrites with
  | some (key, msg, sig, svn, _) =>
    sha256 key == Config.vendorHash && hssVerify key msg sig && decide (s.fuses.svn ≤ svn)
  | none => false

/-- What a step has done when it ends. -/
def stepWork (k : Nat) (e : StepEnd) : Prog := fun s =>
  let out := (if e.cause = 0 then 0 else e.units) ||| s.covered k
  match k with
  | 0 => seqs [fbset secb SEC.SEC_STAT_RNG_OK (e.cause == 0),
      if e.cause = 0 then measure 1 Config.romHash else skip] s
  | 1 => if e.cause = 0 then s.engMem.map fun c => .engMem c.1 0 else []
  | 3 => if e.cause ≠ 0 then [] else
    match Config.imageParts (s.fg btb BOOT.BOOT_STAT_SLOT) s.flashWrites with
    | some (_, msg, _, svn, ver) =>
      seqs [rset (btb + BOOT.IMG_VER) (BitVec.ofNat 32 (ver % 65536 * 65536 + svn % 128)), measure 2 (sha256 msg)] s
    | none => []
  | 4 => if e.cause = 0 then cl7Start s else []
  | 5 => if e.cause = 0 then ddrTrained e s else []
  | 6 => if e.cause = 0 then .regs (meb + MEM.MEM_STAT) (bitsPut (s.reg (meb + MEM.MEM_STAT)) 30 1 1)
      :: s.ddrMem.map fun c => .ddrMem c.1 0 else []
  | 7 => forP ((List.range 7).filter fun k => !bitOf out k && !s.pdFixed (64 + k)
      && decide (48 ≤ ((List.range 64).filter fun i => !(s.eng (64 * k + i)).bad).length)) clusterUp s
  | 8 => seqs [forP s.bootCarriers fun c => seqs [forP [1, 2, 6] fun i => bootRaise (11 * c + i), txeqFactory c],
      bootRaise 79, fun _ => (List.range 256).map fun i => .tabs (snsKey 4 i 0) (Config.factoryFir i),
      forP (s.bootCarriers.filter (bitOf out)) fun c t =>
        if (t.cnv c).stored.isEmpty then leftDown c t
        else seqs [trimsPut c (t.cnv c).stored, fbset (nb c) CNV.CNV_STAT_STORED_IN_USE true] t] s
  | 9 => forP (unitsOn 4 out) leftDown s
  | 10 => seqs [forP ((List.range 12).filter fun q => !bitOf out q) fun q => bootRaise (44 + q), raise btb 0,
      if s.boot.wake then raise pwb 7 else skip] s
  | 11 => seqs [forP (unitsOn 4 out) leftDown, raise btb 1, fbset btb BOOT.BOOT_STAT_DONE true] s
  | _ => []

/-! ### Steps and starts -/

/-- The steps from `k` on: attached memory at level 2 is skipped, and the next one begins. -/
def stepsFrom : Nat → Nat → Prog
  | 0, _ => skip
  | n + 1, k => fun s =>
    if 11 < k then bootUpd (fun r => { r with step := none }) s
    else if (k = 5 ∨ k = 6) ∧ s.stepLevel k = 2 then
      seqs [fset btb BOOT.BOOT_STAT_STEP k, recBegin k 3, rset (meb + MEM.MEM_STAT) 0x80000000, stepsFrom n (k + 1)] s
    else
      seqs [fset btb BOOT.BOOT_STAT_STEP k, recBegin k 0, timerStart tStep, bootUpd fun r => { r with step := some k },
        if k = 2 then fset btb BOOT.BOOT_STAT_SLOT
          ((s.fg btb BOOT.SLOT_STAT_PREF + s.stepLevel 2 % 2) % 2) else skip] s

/-- A start begins (R482, R483, R485, R488, R496, R500): a step begun and not ended counts as failed. -/
def bootStart (wake : Bool) : Prog := fun s =>
  let n := (s.fg btb BOOT.BOOT_STAT_START_NUM + 1) % 256
  seqs [match s.boot.step with
      | some k => seqs [recEnd 4 0x10 0xFF, fun t => [.phase .run, .boot { t.boot with step := none }], stepCount k 0 0x10]
      | none => fun _ => [.phase .run],
    fun t => .regs (btb + BOOT.BOOT_STAT) (BitVec.ofNat 32 ((if t.phase = .halted then 2 ^ 31 + 0x10 else 0) + n * 256)) ::
      [.boot { t.boot with tick := t.ticks, wake := wake, fb := (t.reg (btb + BOOT.BOOT_FB)).toNat,
                           fbUnit := (t.reg (btb + BOOT.FB_UNIT)).toNat }],
    fbset pwb PWR.WAKE_STAT_WOKE wake, timerStop tRestart, timerStop tWarm,
    forP [SEC.SEC_STAT_SESSION, SEC.SEC_STAT_CHAL_PENDING, SEC.SEC_STAT_LOCKOUT, SEC.SEC_STAT_SIGN_BUSY, SEC.CHAL_STAT_FAILS]
      fun f => fset secb f 0,
    rclear (secb + SEC.MLOG_N), fun t => (t.tabs.filter fun e => keySlot e.1 == slotOf secb && keyTable e.1 == 3).map
      fun e => .tabs e.1 0,
    secUpd fun r => { draws := r.draws },
    forP [MEM.MEM_STAT, MEM.INSTALLED, MEM.USABLE, MEM.BUDGET] fun o => rclear (meb + o), tabsClear meb [1],
    fun t => if t.phase = .run then stepsFrom 12 0 t else []] s

/-- A boot restart (R484). -/
def bootRestart : Prog := seqs [bootWipe, bootStart false]

/-- The present step ends, done or failed. -/
def stepEnd (e : StepEnd) : Prog := fun s =>
  match s.boot.step with
  | none => []
  | some k =>
    if s.phase ≠ .run ∨ (k = 3 ∧ (e.cause = 0 ∨ e.cause = 6) ∧ (e.cause = 0) ≠ s.slotOk (s.fg btb BOOT.BOOT_STAT_SLOT)) then []
    else
      let fail := decide (e.cause ≠ 0)
      seqs [recEnd (if fail then 2 else 1) e.cause (if fail then e.unit else 0xFF), timerStop tStep,
        if fail then seqs [fset btb BOOT.BOOT_STAT_CAUSE e.cause, raise btb 2, stepCount k e.units e.cause]
        else seqs [failsPut k 0, if 7 ≤ k ∧ s.stepLevel k = 0 then unitPut k 0 else skip],
        fun t =>
          if fail ∧ k < 7 then
            seqs [if k = 0 then stepWork 0 e else skip, bootUpd fun r => { r with step := none },
              if t.phase = .run then timerStart tRestart else skip] t
          else seqs [stepWork k e, stepsFrom 12 (k + 1)] t] s

/-- The limits of the steps in ns (R482). -/
def stepLimit (k : Nat) : Nat := [10, 40, 100, 40, 20, 500, 6000, 100, 200, 4000, 200, 50].getD k 0 * 1000000

/-- A step exceeds its limit; LASER_TUNE's runs from the start of warm-up. -/
def stepTimeout (units : Nat) : Prog := fun s =>
  match s.boot.step with
  | none => []
  | some k =>
    let t := if k = 9 then tWarm else tStep
    if s.running t then seqs [clockEnd t (stepLimit k),
      stepEnd { cause := 1, unit := 0xFF, units := units, pairs := 2, bin := 0, gb := 0, ranks := 1 }] s
    else []

/-- 10 ms after a module step has failed, the module starts anew (R483). -/
def bootAgain : Prog := fun s => if s.phase = .run ∧ s.running tRestart then seqs [clockEnd tRestart 10000000, bootRestart] s else []

/-! ### Reset pins, rails and wake-only (R475, R476, R533, R536) -/

/-- A start from reset: the straps are sampled and the fused values stand (R444, R473). -/
def startUp (wake : Bool) : Prog := seqs [strapped ⟨.vlg, 0⟩, strapped ⟨.pwr, 0⟩, bootStart wake]

/-- RESET_N is released, or the rails have been valid for 10 ms with RESET_N high. -/
def resetRelease : Prog := fun s => if s.phase = .held then startUp false s else []

/-- RESET_N is held low during operation: a device reset, with every SOA shut, held until the release. -/
def resetAssert : Prog := seqs [deviceWipe, fun _ => [.phase .held]]

/-- The boot record mirror, which is reloaded from flash at the start that follows (R488): the registers of BOOT that report
the present start are lost. -/
def railLoss (aon : Bool) : Prog :=
  seqs [resetAssert, if aon then seqs [
    fun s => [.pds 0 (s.pd 0)] ++ (List.range 80).map fun d => .pds d { st := 0, lastT := 0 },
    rclear (pwb + PWR.WAKE_STAT), forP (List.range 7) fun w => rset (eb + ERR.DF_LAST w) 0,
    rclear (btb + BOOT.FL_ADDR), rclear (btb + BOOT.FL_STAT), tabsClear btb [], rclear MGT.I2C_ADDR] else skip]

/-- A DEVICE_FATAL error resets the module, and a start follows (R516). -/
def deviceReset : Prog := seqs [deviceWipe, startUp false]

/-- The reason for which SLEEP is refused (R475). -/
def State.sleepBar (s : State) : Option Nat :=
  if (List.range 80).any fun d => d != 71 && (s.pd d).st != 0 then some 1
  else if s.deals.any Deal.pending then some 2
  else if s.stSt ≠ kALONE then some 3
  else none

/-- WAKE_CMD (R475, R476). -/
def wakeCmd (src : Nat) (v : Word) : Prog := fun s =>
  if wrote v PWR.WAKE_CMD_KEY ≠ 0xA5C3 then errPage pwb PWR.WAKE_CMD src cPWR_BAD_KEY s
  else if s.phase = .wakeOnly then (if wroteB v PWR.WAKE_CMD_WAKE ∧ src = 2 then startUp true s else [])
  else if wroteB v PWR.WAKE_CMD_SLEEP then
    match s.sleepBar with
    | some r => seqs [fset pwb PWR.WAKE_STAT_REASON r, errPage pwb PWR.WAKE_CMD src cSLEEP_REFUSED] s
    | none => seqs [deviceWipe, rset MGT.I2C_ADDR (s.reg MGT.I2C_ADDR), fun _ => [.phase .wakeOnly]] s
  else []

/-- WAKE_N is held low for 10 µs. -/
def wakePin : Prog := fun s => if s.phase = .wakeOnly then startUp true s else []

/-! ### Flash (R489–R491) -/

/-- The slot that a flash address lies in. -/
def flashSlot (a : Nat) : Option Nat := if a < 0x1C00000 then some 0 else if a < 0x3800000 then some 1 else none

def slotFlag (slot : Nat) : Fld := if slot = 0 then BOOT.SLOT_STAT_A_OK else BOOT.SLOT_STAT_B_OK

/-- The 256-byte program buffer. -/
def State.pageBuf (s : State) : List Byte :=
  (List.range 64).flatMap fun i => bytesLE 4 (s.tab (tabKey btb 0 (i / 16) (i % 16))).toNat

/-- An accepted flash command. -/
def flBegin (cmd slot addr : Nat) : Prog := fun s =>
  seqs [rset (btb + BOOT.FL_STAT) (BitVec.ofNat 32 (s.fg btb BOOT.FL_STAT_VERIFY_OK * 8 + 1)),
    if cmd = 3 then skip else fbset btb (slotFlag slot) false,
    bootUpd fun r => { r with flCmd := cmd, flSlot := slot, flAddr := addr, flData := s.pageBuf }] s

/-- A flash command at an address. -/
def flRun (src cmd slot addr : Nat) : Prog := fun s =>
  if cmd = 3 then flBegin 3 slot addr s
  else match flashSlot addr with
    | some t => if s.phase = .halted ∨ t ≠ s.fg btb BOOT.BOOT_STAT_SLOT then flBegin cmd t addr s
      else errPage btb BOOT.FL_CMD src cFL_RANGE s
    | none => errPage btb BOOT.FL_CMD src cFL_RANGE s

/-- FL_CMD (R491): what a reserved command does, and which sector an unaligned ERASE erases, is open (R505). -/
def flCmd (src : Nat) (v : Word) : Prog := fun s =>
  let cmd := wrote v BOOT.FL_CMD_CMD
  let slot := wrote v BOOT.FL_CMD_SLOT
  let addr := s.fg btb BOOT.FL_ADDR_ADDR * 256
  if s.fb btb BOOT.FL_STAT_BUSY then errPage btb BOOT.FL_CMD src cFL_BUSY s
  else if cmd = 0 then withFree (fun w => if bitsGet w 0 2 = 0 then skip else flRun src (bitsGet w 0 2) slot (addr / 65536 * 65536)) s
  else if cmd = 1 ∧ addr % 65536 ≠ 0 then
    withFree (fun w => flRun src 1 slot (addr / 0x1C00000 * 0x1C00000 + w.toNat % 448 * 65536)) s
  else flRun src cmd slot addr s

/-- The flash command ends. -/
def flDone (ok : Bool) : Prog := fun s =>
  let b := s.boot
  if !s.fb btb BOOT.FL_STAT_BUSY then [] else
  let good := ok && s.slotOk b.flSlot
  let work : Prog :=
    if b.flCmd = 3 then seqs [fbset btb BOOT.FL_STAT_VERIFY_OK good, fbset btb (slotFlag b.flSlot) good]
    else if b.flCmd = 1 then fun t => (t.flash.filter fun e => e.1 / 65536 == b.flAddr / 65536).map (fun e => .flash e.1 none) ++
      (List.range 65536).map fun i => .flash (b.flAddr / 65536 * 65536 + i) (some 0xFF)
    else fun _ => (List.range 256).map fun i => .flash (b.flAddr + i) (some (b.flData.getD i 0))
  seqs [if b.flCmd = 3 ∨ ok then work else perhaps work, fbset btb BOOT.FL_STAT_BUSY false, fbset btb BOOT.FL_STAT_DONE true,
    fbset btb BOOT.FL_STAT_ERR !ok, raise btb 4] s

/-- BOOT_CMD (R484, R491, R501). -/
def bootCmd (src : Nat) (v : Word) : Prog := fun s =>
  if wrote v BOOT.BOOT_CMD_KEY ≠ 0x5A5A then errPage btb BOOT.BOOT_CMD src cBAD_KEY s
  else
    let slot := wrote v BOOT.BOOT_CMD_PREF
    seqs [if wroteB v BOOT.BOOT_CMD_SET_PREF then
        (if s.fb btb (slotFlag slot) then fset btb BOOT.SLOT_STAT_PREF slot else errPage btb BOOT.BOOT_CMD src cNOT_VERIFIED)
      else skip,
      if wroteB v BOOT.BOOT_CMD_RESTART then bootRestart else skip] s

/-- BOOT_CLR clears the level, count and units of steps. -/
def bootClr (v : Word) : Prog := forP ((List.range 12).filter (bitOf v.toNat)) fun k =>
  seqs [fbPut k 0, failsPut k 0, if k < 7 then skip else unitPut k 0]

/-- A write of a BOOT register. -/
def bootWrite (src : Nat) (r : RegRow) (v : Word) : Prog :=
  if r.off = BOOT.BOOT_CMD then bootCmd src v
  else if r.off = BOOT.BOOT_CLR then bootClr v
  else if r.off = BOOT.FL_CMD then flCmd src v
  else plainWrite btb r [] v

def bootView (s : State) (off : Nat) : Option Word :=
  if off = BOOT.BOOT_TIME then some (BitVec.ofNat 32 s.bootMs) else none

end Sys2Proof.Machine
end

