-- ==== Sys2Proof/Machine/Sec.lean ====
section
/-!
DEFINITION. Machine/Sec.lean: signatures and attestation (R493–R496), the random-number generator (R497), provisioning and
field access (R498–R500), and the SEC page (R502–R504).
-/

namespace Sys2Proof.Machine

def cSIGN_BUSY : Nat := 0x90
def cNO_CHAL : Nat := 0x91
def cLOCKOUT : Nat := 0x92
def cRNG_FAIL : Nat := 0x93
def cPROVISIONED : Nat := 0x94

def tNonce : Nat := secb

/-- Bytes of the input buffer, byte 0 in bits 31:24 of word 0 (R503). -/
def State.inbuf (s : State) (n : Nat) : List Byte :=
  (List.range ((n + 3) / 4)).flatMap (fun i => bytesBE 4 (s.tab (tabKey secb 1 (i / 16) (i % 16))).toNat) |>.take n

/-- The number whose bytes are words, byte 0 in bits 31:24 of the first. -/
def wordsBytes (l : List Word) : List Byte := l.flatMap fun w => bytesBE 4 w.toNat

/-- The device ID's 16 bytes. -/
def devIdBytes : List Byte := wordsBytes [Config.devId 0, Config.devId 1, Config.devId 2, Config.devId 3]

def rngOk (s : State) : Bool := s.fb secb SEC.SEC_STAT_RNG_OK

/-! ### Attestation (R494, R495) -/

/-- ATT_CMD.GO: one request runs at a time; refused after a health-test failure. -/
def attGo (src : Nat) : Prog := fun s =>
  if s.fb secb SEC.SEC_STAT_SIGN_BUSY then errPage secb SEC.ATT_CMD src cSIGN_BUSY s
  else if !rngOk s then seqs [errPage secb SEC.ATT_CMD src cRNG_FAIL, rset (secb + SEC.ATT_STAT) 0x302] s
  else seqs [fbset secb SEC.SEC_STAT_SIGN_BUSY true, rset (secb + SEC.ATT_STAT) 0,
    secUpd fun r => { r with att := some (s.inbuf 32) }] s

/-- The index after one: (q0, q1 + 1), or (q0 + 1, 0) after q1 = 1023. -/
def idxNext (i : Nat × Nat) : Nat × Nat := if i.2 = 1023 then (i.1 + 1, 0) else (i.1, i.2 + 1)

/-- The index of the next request, where one is left. -/
def State.sigIndex (s : State) : Option (Nat × Nat) :=
  match s.sec.idx with
  | some i => if i.1 < 1024 then some i else none
  | none => if s.fuses.top < 1024 then some (s.fuses.top, 0) else none

/-- FUSE_CNT as it reads. -/
def State.fuseCnt (s : State) : Nat := s.fuses.svn % 128 * 65536 + s.fuses.top

/-- Bytes 0–143 of the report (R495), all fields big-endian. -/
def State.reportMsg (s : State) (nonce : List Byte) (i : Nat × Nat) : List Byte :=
  bytesBE 4 0x7A110301 ++ devIdBytes ++ nonce ++ bytesBE 32 s.sec.m.toNat ++ bytesBE 8 s.nowNs.toNat
    ++ wordsBytes ([BOOT.BOOT_STAT, BOOT.BOOT_FB, BOOT.FB_UNIT, BOOT.IMG_VER].map fun o => s.reg (btb + o))
    ++ bytesBE 4 s.fuseCnt
    ++ wordsBytes ([4, 5, 6].flatMap fun k => [s.reg (enb k + ENG.PROG_ID), s.reg (enb k + ENG.PROG_VER)])
    ++ bytesBE 4 i.1 ++ bytesBE 4 i.2

/-- Puts the report into window table 2. -/
def reportPut (l : List Byte) : Prog := fun _ =>
  (List.range 1305).map fun i => .tabs (tabKey secb 2 (i / 16) (i % 16)) (BitVec.ofNat 32 (ofBytesBE ((l.drop (4 * i)).take 4)))

/-- The request ends with a cause, 0 for a signature. -/
def attEnd (cause : Nat) : Prog :=
  seqs [fbset secb SEC.SEC_STAT_SIGN_BUSY false, secUpd fun r => { r with att := none },
    rset (secb + SEC.ATT_STAT) (BitVec.ofNat 32 (cause * 256 + (if cause = 0 then 0 else 2) + 1)), raise secb 0]

/-- A top-index fuse is burned; IDX_LOW once fewer than 64 remain. -/
def topBurn (q0 : Nat) : Prog :=
  seqs [fun s => [.fuses { s.fuses with top := q0 + 1 }], if 1024 - (q0 + 1) < 64 then raise secb 6 else skip]

/-- The request runs to its end: whether the next index, and the fuse of a new tree, could be committed (R494). -/
def attDone (ok : Bool) : Prog := fun s =>
  match s.sec.att with
  | none => []
  | some nonce =>
    match s.sigIndex with
    | none => attEnd 2 s
    | some i =>
      seqs [if i.2 = 0 then (if ok then topBurn i.1 else perhaps (topBurn i.1)) else skip,
        secUpd fun r => { r with idx := some (idxNext i) },
        if ok then fun t =>
          let msg := t.reportMsg nonce i
          seqs [reportPut (msg ++ Config.hssSign i.1 i.2 msg), attEnd 0] t
        else attEnd 1] s

/-! ### Random numbers (R497) -/

/-- Takes words from the generator. -/
def rngDraw (n : Nat) : Prog := secUpd fun r => { r with draws := r.draws + n }

/-- A read of RNG_DATA after a health-test failure is counted. -/
def rngRead (src : Nat) : Prog := fun s => if rngOk s then rngDraw 1 s else errPage secb SEC.RNG_DATA src cRNG_FAIL s

def rngFail : Prog := seqs [fbset secb SEC.SEC_STAT_RNG_OK false, raise secb 4]

/-! ### Challenge and response (R499) -/

/-- CHAL_CMD.GO: a nonce is drawn and replaces a pending one. -/
def chalGo (src scope : Nat) : Prog := fun s =>
  if s.fb secb SEC.SEC_STAT_LOCKOUT then errPage secb SEC.CHAL_CMD src cLOCKOUT s
  else if !rngOk s then errPage secb SEC.CHAL_CMD src cRNG_FAIL s
  else seqs [fun _ => (List.range 8).map fun i => .regs (secb + SEC.CHAL_NONCE i) (Config.rng (s.sec.draws + i)), rngDraw 8,
    secUpd fun r => { r with nonce := some scope }, fbset secb SEC.SEC_STAT_CHAL_PENDING true, timerStart tNonce,
    raise secb 1] s

/-- The pending nonce is spent or has expired. -/
def nonceDrop : Prog := seqs [secUpd fun r => { r with nonce := none }, fbset secb SEC.SEC_STAT_CHAL_PENDING false, timerStop tNonce]

/-- CHAL_CMD.TOKEN_GO. -/
def tokenGo (src : Nat) : Prog := fun s =>
  if s.fb secb SEC.SEC_STAT_SIGN_BUSY then errPage secb SEC.CHAL_CMD src cSIGN_BUSY s
  else if s.sec.nonce.isNone then errPage secb SEC.CHAL_CMD src cNO_CHAL s
  else seqs [secUpd fun r => { r with token := true }, fbset secb SEC.SEC_STAT_SIGN_BUSY true] s

/-- The token in the input buffer grants a scope: the nonce is pending, the key is the vendor's, or the owner's for scopes
that the owner may open, and the signature verifies. -/
def State.tokenOk (s : State) (scope : Nat) : Bool :=
  let key := s.inbuf 60
  let h := sha256 key
  let msg := wordsBytes ((List.range 8).map fun i => s.reg (secb + SEC.CHAL_NONCE i)) ++ devIdBytes ++ bytesBE 4 scope
  (h == Config.vendorHash || (h == s.fuses.owner && s.fuses.prov && decide (scope < 4)))
    && hssVerify key msg ((s.inbuf 5136).drop 60)

/-- The verification ends (R499). -/
def tokenEnd : Prog := fun s =>
  if !s.sec.token then [] else
  let n := s.sec.fails + 1
  seqs [secUpd fun r => { r with token := false }, fbset secb SEC.SEC_STAT_SIGN_BUSY false,
    match s.sec.nonce with
    | some scope =>
      if s.tokenOk scope then
        seqs [fset secb SEC.SEC_STAT_SESSION (s.fg secb SEC.SEC_STAT_SESSION ||| scope), secUpd fun r => { r with fails := 0 },
          fset secb SEC.CHAL_STAT_FAILS 0, nonceDrop, raise secb 2]
      else seqs [secUpd fun r => { r with fails := n }, fset secb SEC.CHAL_STAT_FAILS (min n 15), raise secb 3,
        if n = 16 then seqs [fbset secb SEC.SEC_STAT_LOCKOUT true, raise secb 5] else skip]
    | none => seqs [secUpd fun r => { r with fails := n }, fset secb SEC.CHAL_STAT_FAILS (min n 15), raise secb 3,
        if n = 16 then seqs [fbset secb SEC.SEC_STAT_LOCKOUT true, raise secb 5] else skip]] s

/-- A nonce expires after 60 s. -/
def nonceExpiry : Prog := fun s => if s.running tNonce then seqs [clockEnd tNonce 60000000000, nonceDrop] s else []

/-- CHAL_CMD. -/
def chalCmd (src : Nat) (v : Word) : Prog :=
  seqs [if wroteB v SEC.CHAL_CMD_CLOSE then fset secb SEC.SEC_STAT_SESSION 0 else skip,
    if wroteB v SEC.CHAL_CMD_GO then chalGo src (wrote v SEC.CHAL_CMD_SCOPE) else skip,
    if wroteB v SEC.CHAL_CMD_TOKEN_GO then tokenGo src else skip]

/-! ### Fuses (R492, R498) -/

/-- SEC_CMD. -/
def secCmd (src : Nat) (v : Word) : Prog := fun s =>
  if wrote v SEC.SEC_CMD_KEY ≠ 0x5A5A then errPage secb SEC.SEC_CMD src cBAD_KEY s
  else
    seqs [if wroteB v SEC.SEC_CMD_SVN_COMMIT then
        fun t => [.fuses { t.fuses with svn := max t.fuses.svn (min 64 ((t.reg (btb + BOOT.IMG_VER)).toNat % 128)) }] else skip,
      if wroteB v SEC.SEC_CMD_PROVISION then
        (if s.fuses.prov then errPage secb SEC.SEC_CMD src cPROVISIONED
        else seqs [fun t => [.fuses { t.fuses with prov := true, owner := BitVec.ofNat 256 (ofBytesBE (s.inbuf 32)) }],
          fset secb SEC.SEC_STAT_SESSION 0])
      else skip] s

/-! ### Registers and tables (R502, R503) -/

def secWrite (src : Nat) (r : RegRow) (v : Word) : Prog :=
  if r.off = SEC.CHAL_CMD then chalCmd src v
  else if r.off = SEC.SEC_CMD then secCmd src v
  else if r.off = SEC.ATT_CMD then (if wroteB v SEC.ATT_CMD_GO then attGo src else skip)
  else plainWrite secb r [] v

/-- Tables 2 to 4 are RO. -/
def secTab (src t e w : Nat) (v : Word) : Prog :=
  if t = 1 then fun _ => [.tabs (tabKey secb 1 e w) v] else errPage secb (oWIN_DATA w) src cRO_WRITE

/-- INBUF is WO and reads 0. -/
def secTabView (s : State) (t e w : Nat) : Word :=
  if t = 1 then 0 else if t = 4 then (if e * 16 + w < 15 then Config.devKey (e * 16 + w) else 0) else s.tab (tabKey secb t e w)

/-- Bytes 4i to 4i + 3 of M. -/
def State.measWord (s : State) : Word := BitVec.ofNat 32 (ofBytesBE (((bytesBE 32 s.sec.m.toNat).drop (4 * (s.sec.mpos % 8))).take 4))

def secReadFx (src off : Nat) : Prog :=
  if off = SEC.RNG_DATA then rngRead src
  else if off = SEC.MEAS then secUpd fun r => { r with mpos := (r.mpos + 1) % 8 } else skip

def secView (s : State) (off : Nat) : Option Word :=
  if off = SEC.SEC_STAT then
    some (bitsPut (bitsPut (s.reg (secb + off)) 0 1 (b2n s.fuses.prov)) 4 3
      (if s.fuses.prov then s.fg secb SEC.SEC_STAT_SESSION else 7))
  else if off = SEC.FUSE_CNT then some (BitVec.ofNat 32 s.fuseCnt)
  else if off = SEC.LMS_IDX then
    let i := s.sec.idx.getD (s.fuses.top, 0)
    some (BitVec.ofNat 32 (i.1 % 1024 * 65536 + i.2))
  else if off = SEC.RNG_DATA then some (if rngOk s then Config.rng s.sec.draws else 0)
  else if off = SEC.MEAS then some s.measWord
  else if SEC.DEV_ID 0 ≤ off ∧ off ≤ SEC.DEV_ID 3 then
    some (if off = SEC.DEV_ID 0 then Config.devId 0 else if off = SEC.DEV_ID 1 then Config.devId 1
      else if off = SEC.DEV_ID 2 then Config.devId 2 else Config.devId 3)
  else none

end Sys2Proof.Machine
end

