-- ==== Sys2Proof/Machine/View.lean ====
section
/-!
DEFINITION. Machine/View.lean: what registers and window tables read as (R13, R14, R16, R17, R26, R551), page by page.
-/

namespace Sys2Proof.Machine

/-! ### MGT, ERR and SNAP (R28–R30, R526, R527, R529, R542) -/

/-- The levels at the GPIO pins. -/
def State.gpioIn (s : State) : Nat :=
  let dir := s.fg 0 MGT.GPIO_DIR_OUT
  let lev := s.fg 0 MGT.GPIO_OUT_LEVEL
  let od := s.fg 0 MGT.GPIO_OD_OD
  let board := (Config.boardGpio (s.ticks / 100)).toNat
  (List.range 8).foldl (fun n i =>
    let pin := if bitOf dir i && (!bitOf od i || !bitOf lev i) then bitOf lev i else bitOf board i
    n + b2n pin * 2 ^ i) 0

def mgtView (s : State) (off : Nat) : Option Word :=
  if off = MGT.INT_SUM then some s.intSum
  else if off = MGT.GPIO_IN then some (BitVec.ofNat 32 s.gpioIn) else none

def errView (s : State) (off : Nat) : Option Word :=
  if off = ERR.ISL_BUSY then some s.islBusy
  else if off = ERR.ISL_QPEND then some s.islQpend
  else if off = ERR.Q_STAT then some (BitVec.ofNat 32 (s.queueOf (s.fg eb ERR.Q_SEL_ISLAND)).length)
  else (List.range 18).findSome? fun g => if off = ERR.PEND_G g then some (s.pendG g) else none

/-- Window 0 of ERR: record `i` of an island's queue. A selection above 24 leaves it open (log 1). -/
def errTabView (s : State) (e w : Nat) : Word :=
  if 24 < s.fg eb ERR.Q_SEL_ISLAND then s.freeW
  else match (s.queueOf (e / 8))[e % 8]? with
    | some r => r.word w
    | none => 0

/-! ### Every page -/

/-- What the computed registers of a page read as. -/
def pageView (p : Page) (s : State) (off : Nat) : Option Word :=
  let i := p.inst
  match p.kind with
  | .mgt => mgtView s off | .boot => bootView s off | .sec => secView s off | .pwr => pwrView s off
  | .err => errView s off | .snap => none | .time => timeView s off | .dpl => dplView s off
  | .hub => hubView s off | .suit => suitView s off | .sns => snsView s off | .mem => memView s off
  | .opt => optView i s off | .cnv => cnvView i s off | .txd => txdView i s off | .rxf => rxfView i s off
  | .rxm => rxmView i s off | .fec => fecView i s off | .lfr => lfrView i s off | .cip => cipView i s off
  | .scb => scbView (i / 64) (i % 64) s off
  | .hsl => hslView i s off | .eth => ethView i s off | .cls => clsView s off | .qmg => qmgView s off
  | .tsh => tshView s off | .ddr => ddrView i s off | .eng => engView i s off | .vlg => vlgView i s off

/-- What a word of a page's window tables reads as. -/
def pageTabView (p : Page) (s : State) (t e w : Nat) : Word :=
  let i := p.inst
  match p.kind with
  | .cnv => cnvTabView s i t e
  | .lfr => lfrTabView s i t e w | .suit => suitTabView s t e w | .hub => hubTabView s t e w
  | .cip => cipTabView s i t e | .eth => ethTabView s t e w | .cls => clsTabView s t e w | .qmg => qmgTabView s t e w
  | .sns => snsTabView s t e w | .mem => memTabView s t e w | .eng => engTabView i s t e w
  | .pwr => pwrTabView s t e w | .sec => secTabView s t e w | .err => errTabView s e w
  | .rxm => if t = 1 then s.tab (tabKey p.base t e w) else if tapLen (s.rxMode i) ≤ e % 256 then 0
    else if t = 2 then s.tap (tabKey p.base 2 e 0) else s.tab (tabKey p.base t e w)
  | .scb => if t = 5 then s.tap (tabKey p.base 5 e 0) else s.tab (tabKey p.base t e w)
  | _ => s.tab (tabKey p.base t e w)

/-- A register at 0x100–0x7FF as it reads while its page answers. -/
def State.blockReg (s : State) (p : Page) (off : Nat) : Word :=
  match regRow p off with
  | none => 0
  | some _ => (pageView p s off).getD (s.reg (p.base + off))

/-- The page's block-specific registers read 0: its domain is not ON, its island is in reset, or it is absent (R3, R16). -/
def State.pageDark (s : State) (p : Page) : Bool := !s.present p || !s.pageOn p

/-- While a soft reset runs, the registers read their reset values (R20); a page with a narrower one keeps its own. -/
def State.regRead (s : State) (p : Page) (off : Nat) : Word :=
  if s.pageDark p then 0 else s.blockReg p off

/-- The header as it reads (R17, R551). -/
def State.headRead (s : State) (p : Page) (off : Nat) : Word :=
  let b := p.base
  if off = oPAGE_ID then pageIdWord p
  else if off = oPAGE_CAP then pageCapWord p (s.present p)
  else if !s.present p then 0
  else if off = oPAGE_CTL then (s.reg (b + off) &&& 5) ||| (if s.srstBusy b then 2 else 0)
  else if off = oPAGE_STAT then s.pageStat p
  else if off = oINT_FORCE then 0
  else if off = oDEAL_CTL then bitsPut (s.reg (b + off)) 9 1 (b2n (s.dealPending b))
  else if 0x030 ≤ off ∧ off < 0x080 then 0
  else s.reg (b + off)

/-! ### Window 0 (R26, R27) -/

def State.winSel (s : State) (b : Nat) : Nat × Nat := (bitsGet (s.reg (b + oWIN_SEL)) 24 8, bitsGet (s.reg (b + oWIN_SEL)) 0 24)

/-- The size of the table selected: entries and words; what an unimplemented selection has is open (R32, log 2). -/
def State.winSize (s : State) (p : Page) : Nat × Nat :=
  match winTable p (s.winSel p.base).1 with
  | some q => q
  | none => (Config.openNat (0x1000 + (s.winSel p.base).1), Config.openNat (0x1100 + (s.winSel p.base).1) % 16 + 1)

/-- WIN_SEL, WIN_CTL, WIN_STAT and the data words of window 0. -/
def State.winRead (s : State) (p : Page) (off : Nat) : Word :=
  let b := p.base
  let q := s.winSize p
  if s.pageDark p then 0
  else if off = oWIN_SEL then s.reg (b + oWIN_SEL)
  else if off = oWIN_CTL then s.reg (b + oWIN_CTL) &&& 1
  else if off = oWIN_STAT then BitVec.ofNat 32 (q.2 * 2 ^ 24 + q.1 % 2 ^ 24)
  else
    let w := (off - oWIN_DATA 0) / 4
    let sel := s.winSel b
    if q.1 ≤ sel.2 ∨ q.2 ≤ w then 0
    else if (winTable p sel.1).isNone then s.freeW
    else if w = 0 then pageTabView p s sel.1 sel.2 0
    else s.reg (b + oWIN_DATA w)

/-- Whether an offset lies in window 0, and names one of its registers. -/
def winOff (off : Nat) : Bool :=
  off == oWIN_SEL || off == oWIN_CTL || off == oWIN_STAT || (decide (0x840 ≤ off ∧ off < 0x880) && off % 4 == 0)

/-- A register of a page as a 4-byte read returns it (R13–R17, R26). -/
def State.pageRead (s : State) (p : Page) (off : Nat) : Word :=
  if off < 0x100 then s.headRead p off
  else if off < 0x800 then s.regRead p off
  else if pageWindow p && winOff off then s.winRead p off
  else 0

end Sys2Proof.Machine
end

