-- ==== Sys2Proof/Machine/Fault.lean ====
section
/-!
DEFINITION. Machine/Fault.lean: calls and their snapshots (R521–R524), island and device resets as errors bring them about
(R515–R518), targeted self-tests (R519, R520), and the writes of ERR and SNAP.
-/

namespace Sys2Proof.Machine

def cERR_BAD_KEY : Nat := 0x80
def cMGT_ISLAND : Nat := 0x81
def cNOT_FAILED : Nat := 0x82

def tPulse : Nat := snb

/-! ### Calls (R522–R524) -/

/-- The number of the next call. -/
def State.nextCall (s : State) : Nat := (s.fg snb SNAP.CALL_LAST_NUM + s.calls.ahead.length + 1) % 2 ^ 16

/-- A page latches its shadows at a call (R523, R61). -/
def pageLatch (p : Page) (t : BitVec 64) : Prog := fun s =>
  let b := p.base
  if !s.present p ∨ !s.fb b PAGE_CTL_CALL_EN then []
  else if !s.pdOn (pagePd p) then fbset b PAGE_STAT_SNAP_STALE true s
  else fbset b PAGE_STAT_SNAP_STALE false s ++ (pageSnap p).mapIdx fun i off =>
    .regs (b + oSNAP i) (if p.kind = .time ∧ i = 0 then t.extractLsb' 0 32
      else if p.kind = .time ∧ i = 1 then t.extractLsb' 32 32 else s.regRead p off)

/-- Every page latches as the state stands at T. -/
def shadowsLatch (t : BitVec 64) : Prog := fun s => allPages.flatMap fun p => pageLatch p t s

/-- The pulse on CALL_OUT begins, or the one in progress is extended. -/
def callPulse : Prog := fun s =>
  if !s.fb snb SNAP.CALL_OUT_CFG_EN then []
  else seqs [if s.calls.pulse then skip else emit (.callOut true), fun t => [.calls { t.calls with pulse := true }], timerStart tPulse] s

/-- A call's T: shadows and counters latch, the log takes its entry, and CALL_DONE is raised (R522, R523, R529). -/
def callLatch (num : Nat) (t : BitVec 64) (srcs : Nat) : Prog := fun s =>
  let n := satAdd 32 (s.fg snb SNAP.CALL_CNT_COUNT) 1
  seqs [shadowsLatch t, forP (List.range 8) fun k => engCall k num, snsCall num,
    rset (snb + SNAP.CALL_LAST) (BitVec.ofNat 32 num), rset (snb + SNAP.CALL_CNT) (BitVec.ofNat 32 n),
    fun _ => [.tabs (tabKey snb 0 (n % 64) 0) (BitVec.ofNat 32 (2 ^ 31 + srcs * 2 ^ 16 + num)),
      .tabs (tabKey snb 0 (n % 64) 1) (t.extractLsb' 0 32), .tabs (tabKey snb 0 (n % 64) 2) (t.extractLsb' 32 32)],
    raise snb 0, callPulse] s

/-- The JOINED ports of a dealer. -/
def State.memberPorts (s : State) : List Nat := s.linked.filter s.peerOk

/-- A call is issued: at once, or on a dealer at T = issue + CALL_LEAD for every module of the stack; one whose T has come
latches (R522, R456). -/
def callIssue : Prog := fun s =>
  match s.calls.ahead with
  | q :: qs =>
    if q.t.toNat ≤ s.nowNs.toNat then seqs [fun t => [.calls { t.calls with ahead := qs }], callLatch q.num q.t q.srcs] s
    else if s.calls.want = 0 ∨ s.stSt ≠ kDEALER then [] else issueAhead s
  | [] =>
    if s.calls.want = 0 then []
    else if s.stSt = kDEALER then issueAhead s
    else seqs [fun t => [.calls { t.calls with want := 0, lastTick := some t.ticks }],
      callLatch s.nextCall s.nowNs s.calls.want] s
where
  /-- A stack call: sent to every member, to latch at T. -/
  issueAhead : Prog := fun s =>
    let t := s.nowNs + BitVec.ofNat 64 (s.fg vb0 VLG.STACK_CFG_CALL_LEAD * 1000)
    let c : StackCall := ⟨s.nextCall, t, s.calls.want⟩
    seqs [fun u => [.calls { u.calls with want := 0, lastTick := some u.ticks, ahead := u.calls.ahead ++ [c] }],
      ctlSend s.memberPorts 11 [s.nextCall, t.toNat]] s

/-- A member receives CALL: it latches at T, or at once if late (R456). -/
def stackCall (p num : Nat) (t : BitVec 64) : Prog := fun s =>
  if s.stSt ≠ kJOINED ∨ p ≠ s.dealerPort then []
  else
    let late := decide (t.toNat ≤ s.nowNs.toNat)
    seqs [fbset vb0 VLG.STACK_STAT_CALL_LATE late,
      if !bitOf (s.fg snb SNAP.SRC_EN_SRC) cDEALER then skip
      else if late then callLatch num s.nowNs (2 ^ cDEALER)
      else fun u => [.calls { u.calls with ahead := u.calls.ahead ++ [⟨num, t, 2 ^ cDEALER⟩] }]] s

/-- The dealer receives a member's CALL_REQ. -/
def callReq (p : Nat) : Prog := fun s =>
  if s.stSt = kDEALER ∧ s.memberPorts.contains p then wantCall cMEMBER s else []

/-- An edge on CALL_IN, with how long in ns the level after it held (R524). -/
def callIn (rising : Bool) (held : Nat) (t : BitVec 64) : Prog := fun s =>
  if s.phase = .run ∧ s.fb snb SNAP.CALL_IN_CFG_EN ∧ s.fb snb SNAP.CALL_IN_CFG_EDGE = rising
      ∧ s.fg snb SNAP.CALL_IN_CFG_MIN_W * 10 ≤ held then
    seqs [rset (snb + SNAP.CALL_IN_T_LO) (t.extractLsb' 0 32), rset (snb + SNAP.CALL_IN_T_HI) (t.extractLsb' 32 32),
      raise snb 1, wantCall cCALLIN] s
  else []

/-- WIDTH µs after the last call's T the pulse ends. -/
def pulseEnd : Prog := fun s =>
  if s.calls.pulse ∧ s.running tPulse then
    seqs [clockEnd tPulse (s.fg snb SNAP.CALL_OUT_CFG_WIDTH * 1000),
      fun t => [.calls { t.calls with pulse := false }], timerStop tPulse, emit (.callOut false)] s
  else []

/-! ### SNAP and MGT registers (R25, R29, R529) -/

def snapLims : List Lim := [⟨SNAP.CALL_IN_CFG_MIN_W, 1, 255⟩, ⟨SNAP.CALL_OUT_CFG_WIDTH, 1, 255⟩]

def snapWrite (r : RegRow) (v : Word) : Prog :=
  if r.off = SNAP.CALL_CMD then (if wroteB v SNAP.CALL_CMD_GO then wantCall cREG else skip) else plainWrite snb r snapLims v

/-- A read of CALL_LAST latches the T and the sources of the last call. -/
def snapReadFx (off : Nat) : Prog := fun s =>
  if off = SNAP.CALL_LAST then
    [.regs (snb + SNAP.CALL_T_LO) (s.tab (logKey s 1)), .regs (snb + SNAP.CALL_T_HI) (s.tab (logKey s 2)),
     .regs (snb + SNAP.CALL_SRC) (BitVec.ofNat 32 (bitsGet (s.tab (logKey s 0)) 16 7))]
  else []

/-- LOCK_BREAK by host PCIe frees a page's lock (R25). -/
def lockBreak (v : Word) : Prog := fun s =>
  match pageAt v.toNat with
  | none => badAcc false MGT.LOCK_BREAK s
  | some p =>
    if p.base ≠ v.toNat ∨ p.kind = .sec then badAcc false MGT.LOCK_BREAK s
    else if s.fg p.base OWNER_ID = 0 then []
    else seqs [fset p.base OWNER_ID 0, errPage p.base oOWNER 1 cLOCK_BROKEN] s

def mgtWrite (src : Nat) (r : RegRow) (v : Word) : Prog :=
  if (r.off = MGT.LOCK_BREAK ∨ r.off = MGT.I2C_ADDR) ∧ src ≠ 1 then badAcc false r.off
  else if r.off = MGT.LOCK_BREAK then lockBreak v
  else plainWrite 0 r [] v

/-! ### Errors and resets (R509, R515–R518) -/

/-- An error whose source has no row of its own is reported by a page (R508, R509). -/
def errorReport (source slot addr unit loc : Nat) : Prog :=
  match pageAt (slot * 0x1000) with
  | some p => if source = 0 then skip else report source (pageIsland p) p.base addr unit loc
  | none => skip

/-- An error of an island waits for the island's reset. -/
def State.islandDue (s : State) (i : Nat) : Bool :=
  s.errs.any (fun e => e.island == i && e.cls == 3 && !e.resetDone) && !bitOf (s.reg (eb + ERR.ISL_FAILED)).toNat i

/-- The reset of an island begins. -/
def islandBegin (i : Nat) : Prog := fun s => if s.islandDue i then islandReset i s else []

/-- The device reset of a DEVICE_FATAL error begins. -/
def deviceBegin : Prog := fun s => if s.errs.any fun e => e.cls == 4 && !e.handled then deviceReset s else []

/-- ISL_CTL (R517, R518). -/
def islCtl (src : Nat) (v : Word) : Prog := fun s =>
  let i := wrote v ERR.ISL_CTL_ISLAND
  let bad := errPage eb ERR.ISL_CTL src
  if wrote v ERR.ISL_CTL_KEY ≠ 0x5A5A then bad cERR_BAD_KEY s
  else
    seqs [if !wroteB v ERR.ISL_CTL_RESET then skip
      else if i = 19 ∨ i = 21 ∨ i = 24 then bad cMGT_ISLAND
      else if 24 < i then skip
      else reportErr { src := 0, cls := 3, test := 0, island := i, page := eb },
      if !wroteB v ERR.ISL_CTL_RELEASE then skip
      else fun t =>
        if bitOf (t.reg (eb + ERR.ISL_FAILED)).toNat i then
          seqs [fsetF eb ERR.ISL_FAILED_MAP fun u => u.fg eb ERR.ISL_FAILED_MAP - 2 ^ i,
            fun u => [.resetting (u.resetting.filter (· != i))], islandReset i] t
        else bad cNOT_FAILED t] s

/-! ### Targeted self-tests (R519, R520) -/

/-- The macro of an SRAM word. -/
def macroOf (page addr : Nat) : Nat := page * 2 ^ 32 + addr / 65536

/-- A word's row moves to one of the 2 spare rows of its macro. -/
def wordRemap (e : ErrRec) : Prog := fun s =>
  let m := macroOf e.page e.addr
  if s.spare m < 2 then seqs [fun t => [.spares m (t.spare m + 1)], markRemapped e.seq] s
  else report eSPARE_OUT e.island e.page e.addr e.unit 0 s

/-- A second error of the word or row within 10 s. -/
def State.repeated (s : State) (e : ErrRec) : Bool :=
  s.errs.any fun o => o.seq != e.seq && o.loc == e.loc && e.loc != 0 && decide (o.tick ≤ e.tick ∧ e.tick ≤ o.tick + 10000000000)

/-- A lasting result's consequence: a row moves to a spare. -/
def lastingDo (e : ErrRec) : Prog := fun s =>
  if e.test = 1 then wordRemap e s
  else if e.test = 2 then
    match (List.range 16).findSome? fun n => ((s.ddr n).tests.find? fun q => q.seq == e.seq).map fun q => (n, q) with
    | some (n, q) => seqs [ddrUpd n fun r => { r with tests := r.tests.filter fun o => o.seq != e.seq }, rowRemap n q] s
    | none => []
  else []

/-- A test ends with its result. -/
def selfTestEnd (seq : Nat) (lasting : Bool) : Prog := fun s =>
  match s.errs.find? fun e => e.seq == seq && e.result == 0 with
  | none => []
  | some e =>
    let l := lasting || (e.test == 1 && s.repeated e)
    seqs [if l then lastingDo e else skip, classify seq l] s

/-- A test has waited 100 ms for its unit. -/
def selfTestTimeout (seq : Nat) : Prog := fun s =>
  if s.running (errTimer seq) then seqs [clockEnd (errTimer seq) 100000000, selfTestEnd seq true] s else []

/-- The ROM check of a cluster's engines: those that fail stay in FAULT (R520). -/
def engCheck (k failed : Nat) : Prog := fun s =>
  match s.waitingTest 5 fun e => e.island == 11 + k with
  | none => []
  | some q =>
    seqs [forP (List.range 64) fun e t =>
        let r := t.eng (64 * k + e)
        [.engs (64 * k + e) { r with bad := bitOf failed e, st := if bitOf failed e then 4 else if r.bad then 0 else r.st }],
      classify q (failed != 0)] s

/-! ### ERR registers (R526) -/

def errWrite (src : Nat) (r : RegRow) (v : Word) : Prog := fun s =>
  if r.off = ERR.ISL_CTL then islCtl src v s
  else if r.off = ERR.Q_POP then (if v.getLsbD 0 then popQueue s else [])
  else if r.off = ERR.ERR_CFG ∧ 5 ≤ wrote v ERR.ERR_CFG_CALL_LEVEL ∧ bitOf s.calls.want cERR then
    seqs [plainWrite eb r [] v, perhaps fun t => [.calls { t.calls with want := t.calls.want - 2 ^ cERR }]] s
  else seqs [plainWrite eb r [] v, if ERR.GRP_VEC 0 ≤ r.off ∧ r.off ≤ ERR.GRP_VEC 17 then fun _ => [.intWrite true] else skip] s

end Sys2Proof.Machine
end

