-- ==== Sys2Proof/Machine/Hooks.lean ====
section
/-!
DEFINITION. Machine/Hooks.lean: what a write of a register or of a window word does on each page, and what a read does
beside returning its value (R13, R17, R26). What every access checks first stands in Machine/Bus.lean.
-/

namespace Sys2Proof.Machine

/-- A write of a PWR register. -/
def pwrWrite (src : Nat) (r : RegRow) (v : Word) : Prog :=
  if r.off = PWR.PD_REQ then pdReq src v
  else if r.off = PWR.PWR_CFG then pwrCfgWrite src v
  else if r.off = PWR.WAKE_CMD then wakeCmd src v
  else if PWR.AVS_VTAB 0 ≤ r.off ∧ r.off ≤ PWR.AVS_VTAB 31 then vtabWrite r v
  else plainWrite pwb r [] v

/-- The effect of a write of a writable register of a page. -/
def regWrite (p : Page) (src : Nat) (staged : Bool) (r : RegRow) (v : Word) : Prog :=
  let i := p.inst
  match p.kind with
  | .mgt => mgtWrite src r v
  | .boot => bootWrite src r v
  | .sec => secWrite src r v
  | .pwr => pwrWrite src r v
  | .err => errWrite src r v
  | .snap => snapWrite r v
  | .time => skip
  | .dpl => dplWrite src r v
  | .hub => hubWrite src r v
  | .suit => suitRegWrite r v
  | .sns => snsWrite src r v
  | .mem => memWrite src r v
  | .opt => optWrite src i r v
  | .cnv => cnvWrite src i r v
  | .txd => txdWrite src i r v
  | .rxf => rxfWrite src i staged r v
  | .rxm => rxmWrite src i r v
  | .fec => fecWrite src i staged r v
  | .lfr => lfrWrite i r v
  | .cip => cipWrite src i r v
  | .scb => scbWrite src (i / 64) (i % 64) r v
  | .hsl => hslWrite src i r v
  | .eth => ethWrite src i r v
  | .cls => clsWrite r v
  | .qmg => qmgWrite r v
  | .tsh => tshRegWrite r v
  | .ddr => plainWrite p.base r [] v
  | .eng => engWrite src i r v
  | .vlg => vlgWrite src i r v

/-- A write of a register of any page but TIME, with the chains that it may start or stop. -/
def pageWrite (p : Page) (src : Nat) (staged : Bool) (r : RegRow) (v : Word) : Prog :=
  seqs [regWrite p src staged r v,
    match p.kind with
    | .opt | .cnv | .txd | .rxf | .rxm | .fec | .lfr | .cip | .scb | .hub | .suit | .tsh | .hsl | .eth | .dpl =>
      pageEval p
    | _ => skip]

/-- The effect of a write of a word of a page's window tables. -/
def tabWrite (p : Page) (src t e w : Nat) (v : Word) : Prog :=
  let i := p.inst
  match p.kind with
  | .cnv => cnvTab src i t e v
  | .txd => txdTab src i t e w v
  | .rxm => rxmTab src i t e v
  | .fec => fecTab src i e w v
  | .lfr => lfrTab src i t e w v
  | .suit => suitTab src t e w v
  | .tsh => tshTab src t e w v
  | .hub => hubTab src t e w v
  | .scb => scbTab src (i / 64) (i % 64) t e w v
  | .cip => cipTab src i t e v
  | .eth => ethTab src t e w v
  | .cls => clsTab src t e w v
  | .qmg => qmgTab src t e w v
  | .sns => snsTab src t e w v
  | .mem => memTab src t e w v
  | .eng => engTab src i t e w v
  | .vlg => vlgTab src i e w v
  | .pwr => pwrTab src t e w v
  | .sec => secTab src t e w v
  | .err | .snap => errPage p.base (oWIN_DATA w) src cRO_WRITE
  | _ => fun _ => [.tabs (tabKey p.base t e w) v]

/-- A write of a window word, with the chains that it may start or stop. -/
def pageTabWrite (p : Page) (src t e w : Nat) (v : Word) : Prog :=
  seqs [tabWrite p src t e w v,
    match p.kind with
    | .txd | .rxm | .fec | .lfr | .scb | .hub | .suit | .tsh | .eth => pageEval p
    | _ => skip]

/-- What a read of a FECc counter does: the high word latches (R186). -/
def fecReadFx (c off : Nat) : Prog := if fecCounters.contains off then cntLatch (feb c + off) else skip

/-- What a read of a register does beside returning its value: latches, clears and pops. -/
def regReadFx (p : Page) (src off : Nat) : Prog :=
  let i := p.inst
  match p.kind with
  | .sec => secReadFx src off
  | .snap => snapReadFx off
  | .time => timeReadFx off
  | .rxm => rxmReadFx i off
  | .fec => fecReadFx i off
  | .lfr => lfrReadFx i off
  | .cip => cipReadFx i off
  | .scb => scbReadFx (i / 64) (i % 64) off
  | .eth => ethReadFx i off
  | .eng => engReadFx i off
  | _ => skip

end Sys2Proof.Machine
end

