-- ==== Sys2Proof/Machine/Deals.lean ====
section
/-!
DEFINITION. Machine/Deals.lean: the boundaries of the transmit timelines, arming and executing deals (R36, R45–R53),
deal marks and remote-triggered deals (R55–R58), stack deals (R59), device-time steps (R35) and the writes of the TIME
page (R61, R552).
-/

namespace Sys2Proof.Machine

/-! ### Block commands (R44) -/

/-- A block command reaches its block. `others` are the resize plans of the same deal. An argument out of range was
given a free value when it was appended (R63). -/
def blockCmd (p : Page) (arg : Word) (code : Nat) (others : List Nat) : Prog :=
  let i := p.inst
  let n := arg.toNat
  seqs [match code with
    | 1 => match p.kind with
      | .rxf => cdSwapReq srcNone i (n % 2) (bitOf n 1)
      | .txd => fun s => swapReq (txdSwap i) (s.txStopped i) srcNone (n % 2) s
      | .rxm => strSwapReq ⟨i, none⟩ srcNone (n % 2)
      | .sns => snsSwapReq srcNone (n % 2)
      | .scb => strSwapReq ⟨i / 64, some (i % 64)⟩ srcNone (n % 2)
      | _ => skip
    | 2 => keyRollTx i (n % 256)
    | 3 => keyRollRx i (n % 256)
    | 4 => planExec (n % 64) others
    | 5 => mapSwap (n % 4)
    | 6 => pdWords srcNone 0 none [arg] []
    | 7 => wantCall cDEAL
    | 8 => realign (n % 4)
    | _ => skip,
    match p.kind with
    | .rxf | .txd | .rxm | .scb | .cip | .suit | .hub => pageEval p
    | _ => skip]

/-! ### Execution (R50–R52) -/

/-- An action can take effect: its page answers, and no island reset has discarded it (R51, R515). -/
def State.actOk (s : State) (a : Action) : Bool :=
  match a, pageAt a.page with
  | .gone _, _ => false
  | _, some p => s.present p && s.pageOn p
  | _, none => false

/-- One action of a deal. -/
def actDo (plans : List Nat) (a : Action) : Prog := fun s =>
  match pageAt a.page with
  | none => []
  | some p =>
    let off := match a with
      | .write ad _ => ad % 0x1000
      | .gone ad => ad % 0x1000
      | .cmd _ _ _ => 0
    if !s.actOk a then errPage p.base off srcNone cPAGE_OFF s
    else match a with
      | .write _ v =>
        if s.srstBusy p.base then errPage p.base off srcNone cSRST_BUSY s
        else match regRow p off with
          | some r => pageWrite p srcNone true r v s
          | none => []
      | .cmd _ arg code => blockCmd p arg code (plans.filter (· != arg.toNat % 64)) s
      | .gone _ => []

/-- Staged writes come before block commands, so that a command meets what its deal has written (R125). -/
def Deal.order (d : Deal) : List Action :=
  let isWrite (a : Action) : Bool := match a with
    | .cmd _ _ _ => false
    | _ => true
  let isPd (a : Action) : Bool := match a with
    | .cmd _ _ code => code == 6
    | _ => false
  d.acts.filter isWrite ++ d.acts.filter fun a => !isWrite a && !isPd a

/-- The arguments of a deal's commands with a code. -/
def Deal.args (d : Deal) (code : Nat) : List Word :=
  d.acts.filterMap fun a => match a with
    | .cmd _ arg k => if k = code then some arg else none
    | _ => none

/-- A deal executes: its actions, then its PD_SETs together (R467), then DONE with the instant and the number (R45). -/
def dealExec (id : Nat) (num : Word) (fly stepped : Bool) : Prog := fun s =>
  match s.deal id with
  | none => []
  | some d =>
    let drop := d.acts.any fun a => !s.actOk a
    let plans := (d.args 4).map fun a => a.toNat % 64
    seqs [forP d.order (actDo plans),
      if (d.args 6).isEmpty then skip else pdWords srcNone 0 (some id) (d.args 6) [],
      if drop then raise tb 6 else skip,
      dealClose { d with execTime := s.nowNs, execNum := num, dropped := drop, flywheel := fly, stepped := stepped } .done 0] s

/-! ### What is due (R45–R47, R50, R56, R58) -/

/-- What becomes of a deal that falls due. -/
inductive Due
  | exec (num : Word) (fly : Bool)
  | refuse (reason : Nat)
  deriving DecidableEq, Repr

/-- The alignment that a deal executes by: a multiframe for a line-locked or remote-triggered one (R55, R58). -/
def Deal.boundary (d : Deal) : Nat := if d.lineLock || d.trigMark then aMULTIFRAME else d.align

/-- The deal needs its carrier's timeline (R46, R58). -/
def Deal.needs (d : Deal) : Bool := !d.trigMark && (d.align != aNONE || d.tgtNum || d.lineLock)

/-- The timeline that a deal needs is not there, or has no rounds to align to (R46). -/
def State.dealNoLine (s : State) (d : Deal) : Bool :=
  d.needs && (!(s.tl d.carrier).run || (d.align == aROUND && !modeHasRounds (s.modeNow d.carrier)))

/-- Device time is at or after DEAL_TIME. -/
def State.dealTimeUp (s : State) (d : Deal) : Bool := decide (d.time.toNat ≤ s.nowNs.toNat)

/-- The number that a number target is compared with: the round or the multiframe most recently started (R37, R45). -/
def State.dealNow (s : State) (d : Deal) : Nat :=
  if d.align = aROUND then (s.reg (hb + HUB.CAR_RND d.carrier)).toNat else (s.tl d.carrier).mf.toNat

/-- The receiver of a carrier is in frame with MF_LOCK. -/
def State.rxLocked (s : State) (c : Nat) : Bool :=
  let x : Strm := ⟨c, none⟩
  s.frSt x == fIF && (s.fr x.b).mfLock

/-- The duration of a received multiframe in ns. -/
def State.rxMfNs (s : State) (c : Nat) : Nat := if s.rxMode c = mL400 then 32768 else 16384

/-- The instant of a received multiframe, extrapolated from the last one received, has come (R56). -/
def State.rxDue (s : State) (c n : Nat) : Bool :=
  let t := s.tl c
  if serialAhead 32 n t.rxMf.toNat then
    decide (t.rxAt + serialDist 32 n t.rxMf.toNat * s.rxMfNs c ≤ s.ticks + 1)
  else true

/-- What is due of a deal now, at no boundary. -/
def State.dueNow (s : State) (d : Deal) : Option Due :=
  if !d.holds then none
  else if d.trigMark then
    if d.st = .late then (if s.rxLocked d.carrier then none else some (.exec 0 false))
    else match d.bound with
      | none => if s.dealTimeUp d then some (.refuse rNO_MARK) else none
      | some n => if s.frSt ⟨d.carrier, none⟩ ≠ fIF ∧ s.rxDue d.carrier n.toNat then some (.exec n true) else none
  else if s.dealNoLine d then
    (if d.st = .late ∨ d.tgtNum ∨ s.dealTimeUp d then some (.refuse rNO_TIMELINE) else none)
  else if d.boundary ≠ aNONE ∨ (d.tgtNum ∧ d.st = .armed) then none
  else if d.st = .late ∨ s.dealTimeUp d then some (.exec 0 false) else none

/-- What is due of a deal when multiframe `n` of a carrier's timeline starts. -/
def State.dueMf (s : State) (c : Nat) (n : Word) (d : Deal) : Option Due :=
  if !d.holds ∨ d.trigMark ∨ d.carrier ≠ c then none
  else if d.st = .late then
    (if d.boundary = aFRAME ∨ d.boundary = aMULTIFRAME then some (.exec n false) else none)
  else match d.lockN with
    | some k => if k = n then some (.exec n false) else none
    | none =>
      if d.tgtNum then (if d.align ≠ aROUND ∧ d.num = n then some (.exec n false) else none)
      else if (d.align = aFRAME ∨ d.align = aMULTIFRAME) ∧ s.dealTimeUp d then some (.exec n false) else none

/-- What is due of a deal when a line frame of a carrier's timeline starts. -/
def State.dueFrame (s : State) (c : Nat) (d : Deal) : Option Due :=
  if !d.holds ∨ d.trigMark ∨ d.lineLock ∨ d.carrier ≠ c ∨ d.align ≠ aFRAME then none
  else if d.st = .late ∨ (!d.tgtNum ∧ s.dealTimeUp d) then some (.exec (s.tl c).mf false) else none

/-- What is due of a deal when round `k` of a carrier starts. -/
def State.dueRound (s : State) (c : Nat) (k : Word) (d : Deal) : Option Due :=
  if !d.holds ∨ d.trigMark ∨ d.lineLock ∨ d.carrier ≠ c ∨ d.align ≠ aROUND then none
  else if d.st = .late then some (.exec k false)
  else if d.tgtNum then (if d.num = k then some (.exec k false) else none)
  else if s.dealTimeUp d then some (.exec k false) else none

/-- What is due of a deal when multiframe `n` begins at a carrier's receiver. -/
def State.dueRx (s : State) (c : Nat) (n : Word) (d : Deal) : Option Due :=
  if !d.holds ∨ !d.trigMark ∨ d.carrier ≠ c then none
  else if d.st = .late then (if s.rxLocked c then some (.exec n false) else none)
  else match d.bound with
    | some b => if serialAhead 32 b.toNat n.toNat then none else some (.exec b false)
    | none => none

/-- What is due of a deal just after a forward step of device time from `old` (R36). -/
def State.dueStep (s : State) (old : BitVec 64) (d : Deal) : Option Due :=
  if d.st ≠ .armed ∨ d.trigMark ∨ d.tgtNum ∨ d.lockN.isSome ∨ d.time.toNat ≤ old.toNat ∨ !s.dealTimeUp d then none
  else if s.dealNoLine d then some (.refuse rNO_TIMELINE)
  else some (.exec (if d.align = aNONE then 0 else if d.align = aROUND then s.reg (hb + HUB.CAR_RND d.carrier)
    else (s.tl d.carrier).mf) false)

/-- Deals in the order of R50: by target device time, then by ID. -/
def dealInsert (d : Deal) : List Deal → List Deal
  | [] => [d]
  | e :: es => if d.time.toNat < e.time.toNat ∨ (d.time.toNat = e.time.toNat ∧ d.id ≤ e.id) then d :: e :: es
    else e :: dealInsert d es

/-- The deals that are due at this instant execute or are refused. -/
def dealsDue (f : State → Deal → Option Due) (stepped : Bool) : Prog := fun s =>
  let l := (s.deals.filter fun d => (f s d).isSome).foldr dealInsert []
  forP l (fun d t =>
    match f s d with
    | some (.exec n fly) => dealExec d.id n fly stepped t
    | some (.refuse r) => (match t.deal d.id with
      | some e => dealRefuse e r t
      | none => [])
    | none => []) s

/-- What is due at no boundary. -/
def dealsNow : Prog := dealsDue State.dueNow false

/-- The device time at which a deal executes at no boundary. -/
def State.dealAlone (s : State) (d : Deal) : Bool :=
  d.st == .armed && !d.trigMark && !d.tgtNum && d.boundary == aNONE && !s.dealNoLine d

/-- DEAL_EXECUTE: with no deal due yet, device time comes to the first target that stands at no boundary (log 5). -/
def dealExecute : Prog := fun s =>
  let times := (s.deals.filter s.dealAlone).map fun d => d.time.toNat
  seqs [if s.deals.any fun d => (s.dueNow d).isSome then skip
    else match times with
      | [] => skip
      | t :: ts => deviceTo (ts.foldl min t),
    dealsNow] s

/-- NO_MARK: the backstop of one deal (R56, R58). -/
def noMark (id : Nat) : Prog := fun s =>
  match s.deal id with
  | some d => if d.trigMark ∧ d.st = .armed ∧ d.bound.isNone then seqs [deviceTo d.time.toNat, dealRefuse d rNO_MARK] s else []
  | none => []

/-! ### Boundaries of the transmit timelines (R39, R45, R55) -/

/-- The line-locked deals whose marks this multiframe may carry, by ID. -/
def State.marking (s : State) (c : Nat) : List Deal :=
  let mf := (s.tl c).mf.toNat
  (s.deals.filter fun d => d.st == .armed && d.lineLock && d.carrier == c && match d.lockN with
    | some n => serialAhead 32 n.toNat mf && decide (serialDist 32 n.toNat mf ≤ s.fg tb TIME.MARK_CFG_LEAD)
    | none => false).foldr (fun d l => dealInsert { d with time := 0 } l) []

/-- A multiframe carries the mark of one deal: they take the multiframes in turn, in ascending ID (R55). -/
def sendMark (c : Nat) : Prog := fun s =>
  let l := s.marking c
  let t := s.tl c
  match (l.find? fun d => decide (t.lastMark < d.id)) <|> l.head? with
  | some d =>
    let n := d.lockN.getD 0
    .tls c { t with lastMark := d.id } ::
      (if s.txRunning c then [.outs (s.outs ++ [.mark c d.tag n (serialDist 32 n.toNat t.mf.toNat % 256)])] else [])
  | none => []

/-- TX_MULTIFRAME_START: the timeline's next multiframe starts, and all that goes by multiframes with it. -/
def txMultiframe (c : Nat) : Prog := fun s =>
  let t := s.tl c
  if !t.run then [] else
  let n := t.mf + 1
  seqs [fun _ => [.tls c { t with mf := n, start := s.nowNs, frame := 0 }],
    txdFrame c, txdMultiframe c, codeMultiframe c,
    fun u => if u.roundPos c = 0 then [] else hubMultiframe c [] u,
    suitMultiframe c, dealsDue (fun u => u.dueMf c n) false, sendMark c, carrierEval c, suitsEval] s

/-- TX_LINE_FRAME_START: a line frame of the timeline starts. -/
def txFrame (c clips : Nat) : Prog := fun s =>
  let t := s.tl c
  if !t.run then [] else
  seqs [fun _ => [.tls c { t with frame := (t.frame + 1) % 256 }],
    txdFrame c, txdClips c clips, dealsDue (fun u => u.dueFrame c) false, carrierEval c, suitsEval] s

/-- A round of a carrier has started (R45): the deals aligned to it. -/
def roundDeals (c : Nat) : Prog := fun s => dealsDue (fun u => u.dueRound c (s.reg (hb + HUB.CAR_RND c))) false s

/-- A line frame has been received: a multiframe that begins with it is noted, and executes the deals bound to it
(R56, R58). `old` is the state of the framer before. -/
def rxBoundary (c : Nat) : Prog := fun s =>
  let num := (s.fr (mb c)).num
  let n := BitVec.ofNat 32 (num / 256)
  seqs [if s.frSt ⟨c, none⟩ = fIF ∧ num % 256 = 0 then
      seqs [fun t => [.tls c { t.tl c with rxMf := n, rxAt := t.ticks + 1 }],
        dealsDue (fun u => u.dueRx c n) false]
    else skip,
    dealsNow] s

/-! ### ARM (R38, R46, R47, R55, R58) -/

/-- What ARM decides. -/
inductive Verdict
  | refused (reason : Nat)
  | late
  | armed
  deriving DecidableEq, Repr

/-- The multiframe that a line-locked deal is resolved to: the first one that starts at or after DEAL_TIME (R55). -/
def State.lockNum (s : State) (d : Deal) : Word :=
  let t := s.tl d.carrier
  if d.tgtNum then d.num
  else if d.time.toNat ≤ t.start.toNat then t.mf
  else t.mf + BitVec.ofNat 32 ((d.time.toNat - t.start.toNat + t.mfNs - 1) / t.mfNs)

/-- A number target lies more than 4 h ahead at the carrier's rate (R38). -/
def State.dealTooFar (s : State) (d : Deal) : Bool :=
  let now := s.dealNow d
  let unit := (s.tl d.carrier).mfNs * (if d.align = aROUND then s.roundLen d.carrier else 1)
  d.tgtNum && !d.trigMark && serialAhead 32 d.num.toNat now
    && decide (14400000000000 < serialDist 32 d.num.toNat now * unit)

/-- The target has passed (R47, R58). -/
def State.dealPassed (s : State) (d : Deal) : Bool :=
  if d.trigMark || !d.tgtNum then s.dealTimeUp d else !serialAhead 32 d.num.toNat (s.dealNow d)

/-- The checks of ARM in their order. -/
def State.armVerdict (s : State) (d : Deal) : Verdict :=
  let mf := (s.tl d.carrier).mf.toNat
  let n := (s.lockNum d).toNat
  let busy := (s.deals.filter fun e => e.holds && e.lineLock && e.carrier == d.carrier).length
  if d.lineLock && d.trigMark then .refused rCONFLICT
  else if d.overflow then .refused rTOO_MANY
  else if d.trigMark && !(s.present ⟨.rxf, d.carrier⟩ && s.fb (pageBase .rxf d.carrier) RXF.RXF_CTL_RX_RUN) then
    .refused rNO_TIMELINE
  else if s.dealNoLine d then .refused rNO_TIMELINE
  else if s.dealTooFar d then .refused rTOO_FAR
  else if s.dealPassed d then (if d.execLate then .late else .refused rLATE_ARM)
  else if d.lineLock && !(serialAhead 32 n mf && decide (9 ≤ serialDist 32 n mf)) then .refused rMARK_SHORT
  else if d.lineLock && decide (4 ≤ busy) then .refused rMARK_BUSY
  else .armed

/-- ARM takes effect on an entry in STAGING. -/
def armLocal (d : Deal) : Prog := fun s =>
  match s.armVerdict d with
  | .refused r => dealRefuse d r s
  | .late => seqs [dealPut { d with st := .late }, raise tb 3, dealsNow] s
  | .armed => dealPut { d with st := .armed, lockN := if d.lineLock then some (s.lockNum d) else none } s

/-- A number target of 0 is open (R63): the number is then a free value. -/
def dealOpenNum (d : Deal) (k : Deal → Prog) : Prog :=
  if d.tgtNum && d.num == 0 && !d.trigMark then withFree fun w => k { d with num := w } else k d

/-! ### Stack deals (R59) -/

/-- The clock of a prepare phase. -/
def tPrep (id : Nat) : Nat := tb + id

/-- An action as a PREPARE carries it. -/
def Action.fields : Action → List Nat
  | .write a v => [0, a, v.toNat]
  | .cmd p arg code => [1, p, arg.toNat, code]
  | .gone a => [2, a]

/-- The target of a deal as a device time (R59). -/
def State.dealTarget (s : State) (d : Deal) : Nat :=
  let t := s.tl d.carrier
  let unit := t.mfNs * (if d.align = aROUND then s.roundLen d.carrier else 1)
  if d.trigMark || !d.tgtNum then d.time.toNat
  else t.start.toNat + serialDist 32 d.num.toNat (s.dealNow d) * unit

/-- The prepare phase of a deal ends. -/
def prepEnd (id : Nat) : Prog := seqs [fun s => [.prepares (s.prepares.filter fun q => q.id != id)], timerStop (tPrep id)]

/-- The second phase at the dealer: COMMIT to every member, or COMMIT_LATE. -/
def stackCommit (d : Deal) : Prog := fun s =>
  seqs [prepEnd d.id,
    if s.dealTarget d < s.nowNs.toNat + s.fg tb TIME.COMMIT_LEAD_NS then
      seqs [ctlSend s.memberPorts 10 [d.id], dealRefuse d rCOMMIT_LATE]
    else seqs [ctlSend s.memberPorts 9 [d.id], armLocal d]] s

/-- The first phase at the dealer. -/
def stackPrepare (d : Deal) : Prog := fun s =>
  let ps := s.memberPorts
  match s.armVerdict d with
  | .refused r => dealRefuse d r s
  | _ =>
    if ps.isEmpty then stackCommit d s else
    seqs [ctlSend ps 6 ([d.id, d.time.toNat, d.num.toNat, d.cfg.toNat] ++ d.acts.flatMap Action.fields),
      fun t => [.prepares (t.prepares ++ [{ id := d.id, waiting := ps.map fun p => s.fg (vb p) VLG.PEER_POS }])],
      timerStart (tPrep d.id)] s

/-- ARM by a requester: local, or in two phases for a stack deal on the dealer. -/
def dealArm (src id : Nat) : Prog := fun s =>
  match s.deal id with
  | some d =>
    if d.st ≠ .staging ∨ s.prepares.any (fun q => q.id == id) then errPage tb TIME.DEAL_CMD src cDEAL_STATE s
    else dealOpenNum d (fun e => if s.stSt = kDEALER ∧ 0xC0 ≤ id then stackPrepare e else armLocal e) s
  | none => errPage tb TIME.DEAL_CMD src cDEAL_STATE s

/-- The dealer gives a stack deal up: cancelled on every member, its own copy refused (R59). -/
def stackReject (id : Nat) : Prog := fun s =>
  match s.deal id with
  | some d => seqs [prepEnd id, ctlSend s.memberPorts 10 [id], dealRefuse d rSTACK_REJECT] s
  | none => prepEnd id s

/-- A member's ACCEPT. -/
def dealAccept (pos id : Nat) : Prog := fun s =>
  match s.prepares.find? fun q => q.id == id with
  | none => []
  | some q =>
    let left := q.waiting.filter (· != pos)
    if q.waiting.contains pos then
      if left.isEmpty then
        match s.deal id with
        | some d => if d.st = .staging then stackCommit d s else prepEnd id s
        | none => prepEnd id s
      else [.prepares (s.prepares.map fun e => if e.id = id then { e with waiting := left } else e)]
    else []

/-- A member's REJECT. -/
def dealReject (pos id : Nat) : Prog := fun s =>
  if s.prepares.any fun q => q.id == id && q.waiting.contains pos then stackReject id s else []

/-- A member has not replied within 1 ms. -/
def prepTimeout (id : Nat) : Prog := fun s =>
  if (s.prepares.any fun q => q.id == id) ∧ s.running (tPrep id) then seqs [clockEnd (tPrep id) 1000000, stackReject id] s else []

/-- An action that the dealer gives, staged on the member as requester DEALER. -/
def stackAct (id : Nat) : StackAct → Prog
  | .write a v => fun s =>
    match pageAt a.toNat with
    | none => badAcc false a.toNat s
    | some p =>
      let off := a.toNat % 0x1000
      if !s.present p then perhaps (dealAppend 3 id off (.write a.toNat v)) s
      else match regRow p off with
        | none => errPage p.base off 3 cUNMAPPED s
        | some r => if r.stage then dealAppend 3 id off (.write a.toNat v) s else errPage p.base off 3 cNOT_STAGEABLE s
  | .cmd page arg code => fun s =>
    match pageAt page.toNat with
    | none => perhaps (errPage tb TIME.CMD_CODE 3 cBAD_CMD) s
    | some p =>
      let add (a : Word) := dealAppend 3 id TIME.CMD_CODE (.cmd p.base a code)
      if page.toNat % 0x1000 ≠ 0 ∨ !pageAccepts p.kind code then errPage tb TIME.CMD_CODE 3 cBAD_CMD s
      else if !s.present p then perhaps (add arg) s
      else if cmdArgOk p.kind code arg then add arg s
      else withFree add s

/-- DEAL_PREPARE at a member: the deal is opened and staged, and answered (R59). -/
def dealPrepare (id : Nat) (time : BitVec 64) (num cfg : Word) (acts : List StackAct) : Prog := fun s =>
  if s.stSt ≠ kJOINED then [] else
  let pos := s.fg vb0 VLG.STACK_CFG_POS
  let no (r : Nat) : Prog := ctlSend [s.dealerPort] 8 [id, pos, r]
  if (s.deal id).any Deal.pending then seqs [errPage tb TIME.DEAL_CMD 3 cDEAL_STATE, no 0] s
  else seqs [dealOpen 3 id, fun t =>
    match t.deal id with
    | none => no 0 t
    | some d => seqs [dealPut { d with time := time, num := num, cfg := cfg &&& 0x00FF00FF },
        forP acts (stackAct id),
        fun u => match u.deal id with
          | none => no 0 u
          | some e => match u.armVerdict e with
            | .refused r => no r u
            | _ => ctlSend [u.dealerPort] 7 [id, pos] u] t] s

/-- DEAL_COMMIT at a member: ARM. -/
def dealCommit (id : Nat) : Prog := fun s => if s.stSt = kJOINED then dealArm 3 id s else []

/-- DEAL_CANCEL at a member. -/
def dealCancelMsg (id : Nat) : Prog := fun s => if s.stSt = kJOINED then dealCancel 3 id s else []

/-! ### Marks received (R56, R57) -/

/-- A mark received on a carrier; marks are taken only in frame with MF_LOCK (R200). -/
def markRx (c tag : Nat) (n : Word) (left : Nat) : Prog := fun s =>
  if !s.rxLocked c then [] else
  let hit := s.deals.filter fun d => d.st == .armed && d.trigMark && d.carrier == c && d.tag == tag
  seqs [if (s.tl c).rxAt = 0 then fun t => [.tls c { t.tl c with rxMf := n - BitVec.ofNat 32 left, rxAt := t.ticks + 1 }] else skip,
    if hit.isEmpty then raise tb 4
    else forP hit fun d =>
      if d.bound.isSome then skip
      else if d.num ≠ 0 ∧ d.num ≠ n then raise tb 4
      else
        let k := match d.marks with
          | some (m, k) => if m = n then k + 1 else 1
          | none => 1
        dealPut { d with marks := some (n, k), bound := if s.fg tb TIME.MARK_CFG_MIN_MARKS ≤ k then some n else none }] s

/-! ### Device time (R33–R36) -/

/-- Device time moves by a signed number of units of 2^−16 ns. -/
def timeAdd (d : Int) : Prog := fun s => [.now (s.now + BitVec.ofInt 80 d)]

/-- STEP_CMD.GO (R35). -/
def stepGo (src : Nat) : Prog := fun s =>
  if s.fb tb TIME.STEP_CMD_BUSY then errPage tb TIME.STEP_CMD src cSTEP_BUSY s
  else [.stepOfs ((s.reg (tb + TIME.STEP_HI)).zeroExtend 64 <<< 32 ||| (s.reg (tb + TIME.STEP_LO)).zeroExtend 64),
    .regs (tb + TIME.STEP_CMD) (bitsPut (s.reg (tb + TIME.STEP_CMD)) 1 1 1)]

/-- The step takes effect: the device times of the boundaries move with it, and a forward step executes the deals that it
passed (R36). -/
def stepDone : Prog := fun s =>
  if !s.fb tb TIME.STEP_CMD_BUSY then [] else
  let d := s.stepOfs.toInt
  seqs [timeAdd (d * 65536), fbset tb TIME.STEP_CMD_BUSY false, raise tb 5,
    fun t => (List.range 4).map fun c => .tls c { t.tl c with start := (t.tl c).start + s.stepOfs },
    if 0 < d then dealsDue (fun u => u.dueStep s.nowNs) true else skip,
    dealsNow, pmStepped, snsStepped, outsStepped d] s

/-- What an empty queue's step brings: 1 ns of the module's own clock, and of device time at its steered rate; the deals
whose time has come execute (R35, R47; log 5). -/
def tick : Prog := seqs [clockBy 1, dealsNow]

/-! ### TIME registers (R61, R552) -/

/-- A write of a TIME register. -/
def timeWrite (src : Nat) (r : RegRow) (v : Word) : Prog := fun s =>
  let id := s.fg tb TIME.DEAL_SEL_ID
  let cmd (k : Nat) : Prog :=
    match k with
    | 1 => dealOpen src id
    | 2 => dealArm src id
    | 3 => dealCancel src id
    | 4 => dealRelease src id
    | _ => skip
  if r.off = TIME.STEP_CMD then (if wroteB v TIME.STEP_CMD_GO then stepGo src s else [])
  else if r.off = TIME.MARK_CFG then
    (if 8 ≤ wrote v TIME.MARK_CFG_LEAD ∧ 1 ≤ wrote v TIME.MARK_CFG_MIN_MARKS then plainWrite tb r [] v s
    else errPage tb r.off src cTIME_CFG_RANGE s)
  else if r.off = TIME.COMMIT_LEAD then
    (if 10000 ≤ v.toNat ∧ v.toNat ≤ 10000000 then plainWrite tb r [] v s else errPage tb r.off src cTIME_CFG_RANGE s)
  else if r.off = TIME.DEAL_CMD then
    (let k := wrote v TIME.DEAL_CMD_CMD
     if 1 ≤ k ∧ k ≤ 4 then cmd k s else withFree (fun w => cmd (w.toNat % 8)) s)
  else if r.off = TIME.CMD_CODE then cmdAppend src (v.toNat % 256) s
  else if r.off = TIME.DEAL_TIME_LO ∨ r.off = TIME.DEAL_TIME_HI ∨ r.off = TIME.DEAL_NUM ∨ r.off = TIME.DEAL_CFG then
    dealRegWrite src r.off v s
  else plainWrite tb r [] v s

end Sys2Proof.Machine
end

