-- ==== Sys2Proof/Machine/Bus.lean ====
section
/-!
DEFINITION. Machine/Bus.lean: register accesses: sizes (R13), empty slots and unimplemented offsets (R14), the common
header (R17–R25, R551), pages that do not answer (R3, R16, R20), staging (R43), windows (R26, R27), the requesters'
limits (R29, R31) and the MSI-X table (R550).
-/

namespace Sys2Proof.Machine

/-! ### Who may access what (R29, R31) -/

/-- The I²C requester may read a register. -/
def i2cReads (p : Page) (off : Nat) : Bool :=
  decide (off < 0x100) || match p.kind with
    | .mgt | .pwr | .err | .opt | .boot | .time | .dpl => true
    | _ => false

/-- The I²C requester may write a register. -/
def i2cWrites (p : Page) : Bool :=
  match p.kind with
  | .mgt | .pwr | .err | .opt => true
  | _ => false

/-- The registers of MGT that only host PCIe writes (R29). -/
def hostOnly (p : Page) (off : Nat) : Bool := p.kind == .mgt && (off == MGT.LOCK_BREAK || off == MGT.I2C_ADDR)

/-- In wake-only the I²C target serves PWR and BOOT, and no other path is up (R31). -/
def wakeServes (src : Nat) (p : Page) : Bool := src == 2 && (p.kind == .pwr || p.kind == .boot)

/-! ### The common header (R17, R20–R25) -/

/-- The pages whose EN is fixed at 1 (R21). -/
def enFixed (p : Page) : Bool :=
  match p.kind with
  | .mgt | .boot | .sec | .pwr | .err | .snap | .time | .dpl => true
  | .eng => p.inst == 7
  | _ => false

/-- The INT_STAT bits that a page implements. -/
def intMask (p : Page) : Word := BitVec.ofNat 32 (2 ^ pageNumInt p - 1)

/-- A write of PAGE_CTL: ERR_CLR, then EN and CALL_EN, then SRST (R20, R21). -/
def pageCtlWrite (p : Page) (src : Nat) (v : Word) : Prog := fun s =>
  let b := p.base
  let en := v.getLsbD 0 || enFixed p
  seqs [if v.getLsbD 3 then seqs [rset (b + oERR_CNT) 0, rset (b + oERR_LAST) 0] else skip,
    rset (b + oPAGE_CTL) (BitVec.ofNat 32 (b2n en + b2n (v.getLsbD 2) * 4)),
    if !v.getLsbD 0 && enFixed p then errPage b oPAGE_CTL src cRO_WRITE else skip,
    if en ≠ s.pageEn b then pageEval p else skip,
    if !v.getLsbD 1 then skip
    else if s.dealPending b then errPage b oPAGE_CTL src cSRST_REFUSED
    else if s.srstBusy b then skip
    else softReset p] s

/-- A write of OWNER (R24). -/
def ownerWrite (p : Page) (src : Nat) (v : Word) : Prog := fun s =>
  let b := p.base
  let own := s.fg b OWNER_ID
  let id := bitsGet v 0 8
  if (own = 0 ∨ own = src) ∧ (id = 0 ∨ id = src) then rset (b + oOWNER) (BitVec.ofNat 32 id) s
  else errPage b oOWNER src cNOT_OWNER s

/-- A page's staged actions move from one deal to another. -/
def restage (b was new : Nat) : Prog := fun s =>
  let mine := ((s.deal was).map Deal.acts).getD [] |>.filter fun a => match a with
    | .write ad _ => ad / 0x1000 * 0x1000 == b
    | _ => false
  [.deals (s.deals.map fun d =>
    if d.id = was then { d with acts := d.acts.filter fun a => !mine.contains a }
    else if d.id = new ∧ d.st = .staging then { d with acts := d.acts ++ mine } else d)]

/-- A write of DEAL_CTL. A change of DEAL_ID while STAGE is 1 and the deal named before is in STAGING leaves open which
deal has the page's actions (R32). -/
def dealCtlWrite (p : Page) (v : Word) : Prog := fun s =>
  let b := p.base
  let was := s.fg b DEAL_CTL_DEAL_ID
  let new := bitsGet v 0 8
  if s.fb b DEAL_CTL_STAGE ∧ was ≠ new ∧ (s.deal was).any (fun d => d.st == .staging) then
    withFree (fun w => seqs [
      rset (b + oDEAL_CTL) (if w.getLsbD 0 then v &&& 0x1FF else bitsPut (v &&& 0x1FF) 0 8 was),
      if w.getLsbD 1 then restage b was new else skip]) s
  else rset (b + oDEAL_CTL) (v &&& 0x1FF) s

/-- A write below 0x100. -/
def headWrite (p : Page) (src off : Nat) (v : Word) : Prog :=
  let b := p.base
  if off = oPAGE_CTL then pageCtlWrite p src v
  else if off = oINT_STAT then seqs [clearInt b v, fun _ => [.intWrite true]]
  else if off = oINT_EN then seqs [rset (b + off) (v &&& intMask p), fun _ => [.intWrite true]]
  else if off = oINT_FORCE then raises b (v &&& intMask p)
  else if off = oOWNER then ownerWrite p src v
  else if off = oDEAL_CTL then dealCtlWrite p v
  else if 0x030 ≤ off ∧ off < 0x080 then errPage b off src cUNMAPPED
  else errPage b off src cRO_WRITE

/-! ### Window 0 (R26, R27, R32) -/

/-- The index advances after the access to the highest data word, with AUTO_INC. -/
def winNext (p : Page) (w : Nat) : Prog := fun s =>
  let b := p.base
  let q := s.winSize p
  let sel := s.winSel b
  if (s.reg (b + oWIN_CTL)).getLsbD 0 ∧ w + 1 = q.2 ∧ sel.2 < q.1 then
    rset (b + oWIN_SEL) (BitVec.ofNat 32 (sel.1 * 2 ^ 24 + (sel.2 + 1) % 2 ^ 24)) s
  else []

/-- A write of a data word. -/
def winDataWrite (p : Page) (src w : Nat) (v : Word) : Prog := fun s =>
  let b := p.base
  let sel := s.winSel b
  match winTable p sel.1 with
  | none => perhaps (errPage b (oWIN_DATA w) src cWINDOW_RANGE) s
  | some q =>
    if q.1 ≤ sel.2 then errPage b (oWIN_DATA w) src cWINDOW_RANGE s
    else if q.2 ≤ w then errPage b (oWIN_DATA w) src cUNMAPPED s
    else seqs [pageTabWrite p src sel.1 sel.2 w v, winNext p w] s

/-- A write of a window register. -/
def winWrite (p : Page) (src off : Nat) (v : Word) : Prog :=
  let b := p.base
  if off = oWIN_SEL then rset (b + off) v
  else if off = oWIN_CTL then rset (b + off) (v &&& 1)
  else if off = oWIN_STAT then errPage b off src cRO_WRITE
  else winDataWrite p src ((off - oWIN_DATA 0) / 4) v

/-- What a read of a window register does: WIN_DATA0 fills the read buffer; the highest data word advances the index. -/
def winReadFx (p : Page) (off : Nat) : Prog := fun s =>
  let b := p.base
  let sel := s.winSel b
  let w := (off - oWIN_DATA 0) / 4
  let q := s.winSize p
  if off < oWIN_DATA 0 ∨ q.1 ≤ sel.2 ∨ q.2 ≤ w then []
  else seqs [
    if w = 0 ∧ (winTable p sel.1).isSome then
      fun _ => (List.range (q.2 - 1)).map fun i => .regs (b + oWIN_DATA (i + 1)) (pageTabView p s sel.1 sel.2 (i + 1))
    else skip,
    if (winTable p sel.1).isNone ∨ (p.kind = .err ∧ 24 < s.fg eb ERR.Q_SEL_ISLAND) then fun t => [.free (t.free + 1)] else skip,
    winNext p w] s

/-! ### Staged writes (R43) -/

/-- A write of a register of a page whose DEAL_CTL.STAGE is 1. -/
def stagedWrite (p : Page) (src off : Nat) (v : Word) : Prog := fun s =>
  let b := p.base
  let id := s.fg b DEAL_CTL_DEAL_ID
  match regRow p off with
  | none => errPage b off src cUNMAPPED s
  | some r =>
    if !(s.deal id).any fun d => d.st == .staging then errPage b off src cNOT_STAGING s
    else if !r.stage then errPage b off src cNOT_STAGEABLE s
    else dealAppend src id off (.write (b + off) v) s

/-! ### One register (R13–R16, R20) -/

/-- A live write of a register at 0x100–0x7FF. -/
def liveWrite (p : Page) (src off : Nat) (v : Word) : Prog :=
  let b := p.base
  match regRow p off with
  | none => errPage b off src cUNMAPPED
  | some r =>
    if r.rw = 0 ∧ r.w1 = 0 then errPage b off src cRO_WRITE
    else if p.kind = .time then timeWrite src r v
    else pageWrite p src false r v

/-- A write at 0x100 or above. -/
def blockWrite (p : Page) (src off : Nat) (v : Word) : Prog := fun s =>
  let b := p.base
  if !s.pageOn p then errPage b off src cPAGE_OFF s
  else if s.srstBusy b then errPage b off src cSRST_BUSY s
  else if (p.kind = .boot ∨ p.kind = .sec) ∧ src ≠ 1 then errPage b off src cNOT_HOST s
  else if 0x800 ≤ off then
    (if pageWindow p && winOff off then winWrite p src off v s else errPage b off src cUNMAPPED s)
  else if s.fb b DEAL_CTL_STAGE then stagedWrite p src off v s
  else liveWrite p src off v s

/-- A 4-byte aligned write of BAR0 by a requester. -/
def busWrite (src a : Nat) (v : Word) : Prog := fun s =>
  let off := a % 0x1000
  match s.phase, pageAt a with
  | .held, _ => []
  | .wakeOnly, some p => if wakeServes src p ∧ p.kind = .pwr then
      (if off < 0x100 then headWrite p src off v s else blockWrite p src off v s) else []
  | .wakeOnly, none => []
  | _, none => badAcc false a s
  | _, some p =>
    if (src = 2 ∧ !i2cWrites p) ∨ (src ≠ 1 ∧ hostOnly p off) then badAcc false a s
    else if !s.present p then []
    else if off < 0x100 then headWrite p src off v s
    else blockWrite p src off v s

/-- The value that a 4-byte aligned read of BAR0 by a requester returns. -/
def State.busValue (s : State) (src a : Nat) : Word :=
  let off := a % 0x1000
  match s.phase, pageAt a with
  | .held, _ => 0
  | .wakeOnly, some p => if wakeServes src p then s.pageRead p off else 0
  | _, none => 0
  | _, some p => if src = 2 ∧ !i2cReads p off then 0 else s.pageRead p off

/-- What such a read does. -/
def busReadFx (src a : Nat) : Prog := fun s =>
  let off := a % 0x1000
  match s.phase, pageAt a with
  | .held, _ => []
  | .wakeOnly, _ => []
  | _, none => badAcc false a s
  | _, some p =>
    if src = 2 ∧ !i2cReads p off then badAcc false a s
    else if off < 0x100 ∨ s.pageDark p then []
    else if off < 0x800 then (if (regRow p off).isSome then regReadFx p src off s else [])
    else if pageWindow p && winOff off then winReadFx p off s else []

/-! ### Accesses of any size (R13) -/

/-- The little-endian word of four bytes of a list, from a place on. -/
def wordAt (l : List Byte) (i : Nat) : Word :=
  BitVec.ofNat 32 ((List.range 4).foldl (fun n k => n + (l.getD (i + k) 0).toNat * 2 ^ (8 * k)) 0)

/-- A write of any size: aligned ones of 4 and 8 bytes reach their registers, others are ignored whole and counted in the
page of their first byte (R13). -/
def busWriteN (src a : Nat) (l : List Byte) : Prog := fun s =>
  let a := a % 2 ^ 26
  if l.length = 4 ∧ a % 4 = 0 then busWrite src a (wordAt l 0) s
  else if l.length = 8 ∧ a % 8 = 0 then seqs [busWrite src a (wordAt l 0), busWrite src (a + 4) (wordAt l 4)] s
  else match s.phase, pageAt a with
    | .held, _ => []
    | .wakeOnly, _ => []
    | _, none => badAcc false a s
    | _, some p =>
      if src = 2 ∧ !i2cWrites p then badAcc false a s
      else if !s.present p then [] else errPage p.base (a % 0x1000) src cSUBWORD s

/-- The registers that a read touches, each read once in ascending order; `acc` is what the ones before returned. -/
def readWords (src a : Nat) (k : Nat → Prog) : Nat → Nat → Nat → Prog
  | 0, _, acc => k acc
  | n + 1, i, acc => fun s =>
    let b := (a / 4 * 4 + 4 * i) % 2 ^ 26
    let v := s.busValue src b
    seqs [busReadFx src b, readWords src a k n (i + 1) (acc + v.toNat * 2 ^ (32 * i))] s

/-- A read of any size returns the addressed bytes (R13). -/
def busRead (src a size : Nat) : Prog :=
  readWords src a (fun acc _ => [.rdata (acc / 2 ^ (8 * (a % 4)) % 2 ^ (8 * size))]) ((a % 4 + size + 3) / 4) 0 0

/-! ### BAR4 (R550) -/

/-- A write of a word of BAR4: the MSI-X table. A vector that is unmasked while its pending bit is set sends (R30). -/
def msixWrite (off : Nat) (v : Word) : Prog := fun s =>
  if 0x1000 ≤ off ∨ off % 4 ≠ 0 ∨ s.phase = .held ∨ s.phase = .wakeOnly then [] else
  let k := off / 4
  let vec := k / 4
  let m := match k % 4 with
    | 0 => v &&& 0xFFFFFFFC
    | 3 => v &&& 1
    | _ => v
  seqs [fun _ => [.msix k m], fun t =>
    if k % 4 = 3 ∧ !t.msixMasked vec ∧ t.pba.getLsbD vec then
      seqs [fun _ => [.pba (t.pba &&& ~~~ BitVec.ofNat 256 (2 ^ vec))], emit (t.msixOut vec)] t
    else []] s

end Sys2Proof.Machine
end

