-- ==== Sys2Proof/Machine/EngBus.lean ====
section
/-!
DEFINITION. Machine/EngBus.lean: the engines' accesses to BAR0: BRD and BWR (R431).
-/

namespace Sys2Proof.Machine

/-- What a cluster that runs an owner program cannot reach (R431). -/
def State.engDenied (s : State) (k a : Nat) : Bool :=
  let off := a % 0x1000
  s.fb (enb k) ENG.CL_STAT_OWNER_PROG && match pageAt a with
    | some p => match p.kind with
      | .sec | .boot => true
      | .eng => p.inst != k
      | .cip => decide (0x100 ≤ off ∧ off ≤ 0x110)
      | .mgt => off == MGT.LOCK_BREAK
      | _ => false
    | none => false

/-- BRD reads a register as requester ENGk; `extra`: the cycles it is held. -/
def brdDo (id : Nat) (inst next : Word) (rd rs1 : Nat) (a : Word) (extra : Nat) : Prog := fun s =>
  let k := id / 64
  let no := s.engDenied k a.toNat
  if a.toNat % 4 ≠ 0 then engTrap id 4 false a s
  else rvCommit id inst [rs1]
    { pc := next, rd := rd, val := if no then 0 else s.busValue (0x10 + k) a.toNat, hold := extra, cause := 0xB,
      also := if no then fincSat (enb k) ENG.DENY_CNT_COUNT 1 else busReadFx (0x10 + k) a.toNat } s

/-- BWR writes a register as requester ENGk; it is held for `extra` cycles while the write buffer is full. -/
def bwrDo (id : Nat) (inst next : Word) (rs1 rs2 : Nat) (a v : Word) (extra : Nat) : Prog := fun s =>
  let k := id / 64
  if a.toNat % 4 ≠ 0 then engTrap id 6 false a s
  else rvCommit id inst [rs1, rs2]
    { pc := next, hold := extra, cause := 0xC,
      also := if s.engDenied k a.toNat then fincSat (enb k) ENG.DENY_CNT_COUNT 1 else busWrite (0x10 + k) a.toNat v } s

/-- An engine issues a BRD, or a BWR, if its next instruction is one. -/
def engBus (id : Nat) (write : Bool) (extra : Nat) : Prog := fun s =>
  let r := s.eng id
  if !s.engReady id ∨ (s.engIrq id).isSome then []
  else match s.rvFetch id with
    | some (.brd rd a off, len, inst) =>
      if write then [] else brdDo id inst (r.pc + BitVec.ofNat 32 len) rd a (r.reg a + off) extra s
    | some (.bwr a b off, len, inst) =>
      if write then bwrDo id inst (r.pc + BitVec.ofNat 32 len) a b (r.reg a + off) (r.reg b) extra s else []
    | _ => []

end Sys2Proof.Machine
end

