-- ==== Sys2Proof/Machine/ExecBase.lean ====
section
/-!
DEFINITION. Machine/ExecBase.lean: what the meanings of the commands share: the commands that a requester makes through a
register or a window, block commands, and events of the module's surroundings.
-/

namespace Sys2Proof.Machine

/-- An event: it happens only while the module runs or is halted in its start, not in reset or in wake-only. -/
def ev (p : Prog) : Prog := fun s => if s.phase = .run ∨ s.phase = .halted then p s else []

/-- An event of a carrier: what depends on the carrier's state follows. -/
def carEv (c : Nat) (p : Prog) : Prog := ev (seqs [p, carrierEval c, suitsEval])

/-- An event that the references of the DPLLs depend on. -/
def refEv (p : Prog) : Prog := ev (seqs [p, refsEval])

/-- An event that the suits depend on. -/
def suitEv (p : Prog) : Prog := ev (seqs [p, suitsEval])

/-- An event of the Velaug links or of the stack. -/
def vlgEv (p : Prog) : Prog := ev (seqs [p, suitsEval, refsEval])

/-- A written value with a field of it as the command's name says. -/
def setF (v : Word) (f : Fld) (x : Nat) : Word := bitsPut v f.lo f.w x

/-- A requester writes a register of the page at `b`. -/
def regCmd (src : Requester) (b off : Nat) (v : Word) : Prog := busWrite src.id (b + off) v

/-- A requester reads a register. -/
def regRd (src : Requester) (a : Nat) : Prog := busRead src.id a 4

/-- A requester selects an entry of a page's window and writes a word of it (R26, R27). -/
def winCmd (src : Requester) (b t e w : Nat) (v : Word) : Prog :=
  seqs [busWrite src.id (b + oWIN_SEL) (BitVec.ofNat 32 (t * 2 ^ 24 + e)), busWrite src.id (b + oWIN_DATA w) v]

/-- A block command takes effect on its page, if the page accepts it and answers (R44, R51). -/
def cmdEv (b : Nat) (arg : Word) (code : Nat) (others : List Nat) : Prog :=
  match pageAt b with
  | some p =>
    if pageAccepts p.kind code then ev fun s =>
      if s.present p && s.pageOn p then blockCmd p arg code others s else errPage p.base 0 srcNone cPAGE_OFF s
    else skip
  | none => skip

/-- The stream of a carrier or of one of its subcarriers. -/
def strmOf (c : Fin 4) (sc : Option (Fin 64)) : Strm := ⟨c.val, sc.map Fin.val⟩

/-- The base of a slot. -/
def slotBase (page : BitVec 14) : Nat := page.toNat * 0x1000

/-- An event of the page of a slot: its interrupt (R30), if the page has it and is ON. -/
def pageEvent (page n : Nat) : Prog := fun s =>
  match pageAt (page * 0x1000) with
  | some p => if s.present p && s.pageOn p && decide (n < pageNumInt p) then raise p.base n s else []
  | none => []

/-- An I²C write transfer: an offset of 4 bytes, then 4 data bytes or none (R31). -/
def i2cTransfer (l : List Byte) : Prog :=
  let a := (wordAt l 0).toNat
  seqs [fun _ => [.i2c a],
    if l.length ≠ 8 then skip
    else if 2 ^ 26 ≤ a then ev (badAcc false a)
    else busWriteN 2 a (l.drop 4)]

/-- An I²C read transfer (R31). -/
def i2cRead : Prog := fun s =>
  if 2 ^ 26 ≤ s.i2c then seqs [fun _ => [.rdata 0], ev (badAcc false s.i2c)] s else busRead 2 s.i2c 4 s

/-- What a member refuses the dealer (R457). -/
def mgmtDenied (a : Nat) (write : Bool) : Bool :=
  match pageAt a with
  | some p => p.kind == .sec || p.kind == .boot || (write && hostOnly p (a % 0x1000))
  | none => false

/-- A member makes an access for its dealer and replies (R457). -/
def mgmtServe (p a : Nat) (v : Option Word) : Prog := fun s =>
  let reply (data : Nat) (denied : Bool) : Prog := emit (.ctl p 15 [data, b2n denied])
  if s.stSt ≠ kJOINED ∨ s.dealerPort ≠ p ∨ s.vSt p ≠ vLINKED then []
  else if mgmtDenied a v.isSome then seqs [badAcc false a, reply 0 true] s
  else match v with
    | some w => seqs [busWriteN 3 a (bytesLE 4 w.toNat), reply 0 false] s
    | none => readWords 3 a (fun acc => reply (acc / 2 ^ (8 * (a % 4)) % 2 ^ 32) false) ((a % 4 + 7) / 4) 0 0 s

/-- The two grants of a GRANT message, each as a leaf acts on it (R249, R251). -/
def grantMsgs (c : Nat) (m : BitVec 115) : Prog :=
  if at115 m 0 4 ≠ 2 then skip
  else forP [12, 63] fun lo =>
    match grantAt m lo with
    | some g => grantMsg c (at115 m 4 8) g
    | none => skip

/-- The two entries of a DMAP message (R249, R255). -/
def dmapMsgs (c sc : Nat) (m : BitVec 115) : Prog :=
  if at115 m 0 4 ≠ 3 then skip
  else forP [12, 56] fun lo =>
    if at115 m lo 11 = 0x7FF then skip
    else dmapMsg c sc (at115 m 4 8) (at115 m lo 11) (at115 m (lo + 11) 16) (at115 m (lo + 27) 17)

/-- A hub-channel message of a type (R249). -/
def typed (m : BitVec 115) (type : Nat) (p : Prog) : Prog := if at115 m 0 4 = type then p else skip

/-- The EN bit of a region's entry as REGION_ENABLE and REGION_DISABLE write it (R406, R407). -/
def regionEn (src : Requester) (r : Nat) (on : Bool) : Prog := fun s =>
  winCmd src meb 0 r 0 (bitsPut (s.tab (tabKey meb 0 r 0)) 0 1 (b2n on)) s

/-- An island's copy of device time leaves ±1 ns of the master, or returns (R33). -/
def distLost (ok : Bool) : Prog :=
  seqs [fbset tb TIME.TIME_STAT_DIST_OK ok, if ok then skip else raise tb 7]

/-- One sample of the raw conditions of a page (R202). -/
def defectSample (d : DefectPage) : Prog :=
  seqs [match d with
    | .lfr c => defSampleCar c.val
    | .scb c sc => seqs [defSampleSub c.val sc.val, if sc.val = 0 then lossSample c.val else skip]
    | .suit => suitSample
    | .cip c => cipSample c.val
    | .dpl => dplSample
    | .vlg p clk lanes idle => vlgSample p.val clk lanes.toNat idle,
    match d with
    | .lfr c => carrierEval c.val
    | .scb c _ => carrierEval c.val
    | _ => skip,
    suitsEval, match d with
    | .dpl | .vlg _ _ _ _ => refsEval
    | _ => skip]

/-- The register that selects a shaping profile or a subcarrier set (R99). -/
def shapeReg (c : Nat) : ShapeReg → Nat
  | .txdShape => xb c + TXD.TXD_SHAPE
  | .txdScSel => xb c + TXD.TXD_SC_SEL
  | .fecShape => feb c + FEC.FEC_SHAPE

end Sys2Proof.Machine
end

