-- ==== Sys2Proof/Machine/ExecBoot.lean ====
section
/-!
DEFINITION. Machine/ExecBoot.lean: the meanings of the commands of pins, start, flash and security (chapters 20, 21
and 23), one definition a command, in the order of the table.
-/

namespace Sys2Proof.Machine

/-- RESET_N_RELEASE (R482): RESET_N is released with every rail valid and a start begins. -/
def execResetNRelease (s : State) : Host.Outcome State Fault Refusal :=
  run (resetRelease) s

/-- RESET_N_ASSERT (R536): RESET_N low for 1 µs or more during operation acts as a device reset. -/
def execResetNAssert (s : State) : Host.Outcome State Fault Refusal :=
  run (resetAssert) s

/-- PERST (R536): PERST# asserted after RESET_N release resets the PCI Express endpoint only. -/
def execPerst (s : State) : Host.Outcome State Fault Refusal :=
  run (perst) s

/-- RAIL_LOSS (R533): A rail leaves its valid window or the junction reaches 112 °C; SOAs shut and the module is held
in reset. -/
def execRailLoss (aon : Bool) (s : State) : Host.Outcome State Fault Refusal :=
  run (railLoss aon) s

/-- BOOT_STEP_END (R483): A boot step completes or fails, updates its record entry and counts, and the next step or a
restart follows. -/
def execBootStepEnd (e : StepEnd) (s : State) : Host.Outcome State Fault Refusal :=
  run (ev (stepEnd e)) s

/-- BOOT_STEP_TIMEOUT (R482): A boot step exceeds its limit and fails with cause TIMEOUT. -/
def execBootStepTimeout (units : Nat) (s : State) : Host.Outcome State Fault Refusal :=
  run (ev (stepTimeout units)) s

/-- BOOT_RESTART (R484): 10 ms after a failed module step a boot restart resets every island but the always-on island
and runs a start. -/
def execBootRestart (s : State) : Host.Outcome State Fault Refusal :=
  run (ev bootAgain) s

/-- RESTART (R484): BOOT_CMD.RESTART makes a boot restart, also leaving a halt. -/
def execRestart (src : Requester) (v : Word) (s : State) : Host.Outcome State Fault Refusal :=
  run (regCmd src btb BOOT.BOOT_CMD (setF v BOOT.BOOT_CMD_RESTART 1)) s

/-- SET_PREF (R491): BOOT_CMD.SET_PREF selects the preferred slot, or is refused with NOT_VERIFIED. -/
def execSetPref (src : Requester) (v : Word) (s : State) : Host.Outcome State Fault Refusal :=
  run (regCmd src btb BOOT.BOOT_CMD (setF v BOOT.BOOT_CMD_SET_PREF 1)) s

/-- BOOT_CLR (R485): A write of BOOT_CLR clears the level, count and units of the named steps for the next start. -/
def execBootClr (src : Requester) (v : Word) (s : State) : Host.Outcome State Fault Refusal :=
  run (regCmd src btb BOOT.BOOT_CLR v) s

/-- FLASH_ERASE (R491): FL_CMD ERASE erases a 64 KiB sector, or is refused with FL_RANGE or FL_BUSY. -/
def execFlashErase (src : Requester) (v : Word) (s : State) : Host.Outcome State Fault Refusal :=
  run (regCmd src btb BOOT.FL_CMD (setF v BOOT.FL_CMD_CMD 1)) s

/-- FLASH_PROGRAM (R491): FL_CMD PROGRAM writes the 256-byte page buffer, or is refused with FL_RANGE or FL_BUSY. -/
def execFlashProgram (src : Requester) (v : Word) (s : State) : Host.Outcome State Fault Refusal :=
  run (regCmd src btb BOOT.FL_CMD (setF v BOOT.FL_CMD_CMD 2)) s

/-- FLASH_VERIFY (R491): FL_CMD VERIFY checks a slot as SIG_VERIFY would. -/
def execFlashVerify (src : Requester) (v : Word) (s : State) : Host.Outcome State Fault Refusal :=
  run (regCmd src btb BOOT.FL_CMD (setF v BOOT.FL_CMD_CMD 3)) s

/-- FL_DONE (R491): A flash command completes, setting DONE, ERR or VERIFY_OK. -/
def execFlDone (ok : Bool) (s : State) : Host.Outcome State Fault Refusal :=
  run (ev (flDone ok)) s

/-- SVN_COMMIT (R492): SEC_CMD.SVN_COMMIT burns SVN fuses up to the booted image's SVN. -/
def execSvnCommit (src : Requester) (v : Word) (s : State) : Host.Outcome State Fault Refusal :=
  run (regCmd src secb SEC.SEC_CMD (setF v SEC.SEC_CMD_SVN_COMMIT 1)) s

/-- PROVISION (R498): SEC_CMD.PROVISION burns the owner key hash and the provisioning fuse, closing every scope. -/
def execProvision (src : Requester) (v : Word) (s : State) : Host.Outcome State Fault Refusal :=
  run (regCmd src secb SEC.SEC_CMD (setF v SEC.SEC_CMD_PROVISION 1)) s

/-- ATT_GO (R495): ATT_CMD.GO starts an attestation request, or is refused with SIGN_BUSY or RNG_FAIL. -/
def execAttGo (src : Requester) (v : Word) (s : State) : Host.Outcome State Fault Refusal :=
  run (regCmd src secb SEC.ATT_CMD (setF v SEC.ATT_CMD_GO 1)) s

/-- ATT_DONE (R494): The signature index is committed and the signed report is placed in window table 2, or the
request fails. -/
def execAttDone (ok : Bool) (s : State) : Host.Outcome State Fault Refusal :=
  run (ev (attDone ok)) s

/-- CHAL_GO (R499): CHAL_CMD.GO draws a 256-bit nonce for the requested scopes, or is refused with LOCKOUT. -/
def execChalGo (src : Requester) (v : Word) (s : State) : Host.Outcome State Fault Refusal :=
  run (regCmd src secb SEC.CHAL_CMD (setF v SEC.CHAL_CMD_GO 1)) s

/-- TOKEN_GO (R499): CHAL_CMD.TOKEN_GO starts verification of a token, or is refused with SIGN_BUSY or NO_CHAL. -/
def execTokenGo (src : Requester) (v : Word) (s : State) : Host.Outcome State Fault Refusal :=
  run (regCmd src secb SEC.CHAL_CMD (setF v SEC.CHAL_CMD_TOKEN_GO 1)) s

/-- TOKEN_VERIFY_END (R499): Token verification ends with GRANTED or TOKEN_FAIL, and lockout after sixteen failures.
-/
def execTokenVerifyEnd (s : State) : Host.Outcome State Fault Refusal :=
  run (ev tokenEnd) s

/-- NONCE_EXPIRY (R499): A pending nonce expires after 60 s. -/
def execNonceExpiry (s : State) : Host.Outcome State Fault Refusal :=
  run (ev nonceExpiry) s

/-- CLOSE (R500): CHAL_CMD.CLOSE closes every open scope. -/
def execClose (src : Requester) (v : Word) (s : State) : Host.Outcome State Fault Refusal :=
  run (regCmd src secb SEC.CHAL_CMD (setF v SEC.CHAL_CMD_CLOSE 1)) s

/-- RNG_DATA_READ (R497): A read of RNG_DATA returns 32 random bits, or 0 and a count after a health failure. -/
def execRngDataRead (src : Requester) (s : State) : Host.Outcome State Fault Refusal :=
  run (regRd src (secb + SEC.RNG_DATA)) s

/-- RNG_HEALTH_FAIL (R497): The TRNG fails a health test; RNG_OK clears and RNG_FAIL is raised. -/
def execRngHealthFail (s : State) : Host.Outcome State Fault Refusal :=
  run (ev rngFail) s

/-- MEAS_READ (R502): A read of MEAS returns 4 bytes of the measurement and advances. -/
def execMeasRead (src : Requester) (s : State) : Host.Outcome State Fault Refusal :=
  run (regRd src (secb + SEC.MEAS)) s

end Sys2Proof.Machine
end

