-- ==== Sys2Proof/Machine/ExecBrx.lean ====
section
/-!
DEFINITION. Machine/ExecBrx.lean: the meanings of the commands of burst reception (chapter 11), one definition a
command, in the order of the table.
-/

namespace Sys2Proof.Machine

/-- BURST_DETECTION (R274): A detector declares a preamble, claims its subcarriers, freezes the gain and enters TRAIN,
possibly capturing a reception. -/
def execBurstDetection (c : Fin 4) (sc : Fin 64) (bond : Nat) (ago : Nat) (gain : Nat) (corr : Int) (s : State) :
    Host.Outcome State Fault Refusal :=
  run (carEv c.val (brxDetect c.val sc.val bond ago gain corr)) s

/-- BURST_TRAINING_DONE (R279): T2 has been received; the burst equaliser's taps are set and the receiver enters SYNC.
-/
def execBurstTrainingDone (c : Fin 4) (sc : Fin 64) (snr : Nat) (fit : List Word) (s : State) :
    Host.Outcome State Fault Refusal :=
  run (carEv c.val (brxTrained c.val sc.val snr fit)) s

/-- BURST_SYNC (R278): The sync word is found, the burst start located, and the receiver enters RECEIVE. -/
def execBurstSync (c : Fin 4) (sc : Fin 64) (errs : Nat) (ago : Nat) (s : State) : Host.Outcome State Fault Refusal :=
  run (carEv c.val (brxSync c.val sc.val errs ago)) s

/-- FALSE_DETECTION (R278): No sync within 192 symbols after the preamble end; the detection is dropped and the
receiver re-arms. -/
def execFalseDetection (c : Fin 4) (sc : Fin 64) (s : State) : Host.Outcome State Fault Refusal :=
  run (carEv c.val (brxFalse c.val sc.val)) s

/-- BURST_REPORT (R282): The report codeword is decoded and the burst classified as associated, stray, mismatched or
unassociated. -/
def execBurstReport (c : Fin 4) (sc : Fin 64) (coded : List Bool) (s : State) : Host.Outcome State Fault Refusal :=
  run (carEv c.val (brxReport c.val sc.val coded)) s

/-- BURST_CLOSE (R278): An associated burst passes its end marker or grant end; the prior taps are updated and the
receiver re-arms. -/
def execBurstClose (c : Fin 4) (sc : Fin 64) (errs : Nat) (taps : List Word) (f : BurstFigures) (s : State) :
    Host.Outcome State Fault Refusal :=
  run (carEv c.val (brxClose c.val sc.val errs taps f)) s

/-- STR_SWAP_GO (R155): STR_ANCHOR_CTL.SWAP_GO requests an anchor bank of a dedicated stream, as R152 serves it. -/
def execStrSwapGo (src : Requester) (c : Fin 4) (sc : Fin 64) (v : Word) (s : State) :
    Host.Outcome State Fault Refusal :=
  run (regCmd src (sb c.val sc.val) SCB.STR_ANCHOR_CTL (setF v SCB.STR_ANCHOR_CTL_SWAP_GO 1)) s

/-- STR_ANCHOR_SAVE (R155): STR_ANCHOR_CTL.SAVE copies a dedicated stream's live taps into its inactive bank. -/
def execStrAnchorSave (src : Requester) (c : Fin 4) (sc : Fin 64) (v : Word) (s : State) :
    Host.Outcome State Fault Refusal :=
  run (regCmd src (sb c.val sc.val) SCB.STR_ANCHOR_CTL (setF v SCB.STR_ANCHOR_CTL_SAVE 1)) s

/-- BURST_ANCHOR_SAVE (R290): SCBc.s ANCHOR_CTL.SAVE copies the prior taps into the anchor taps. -/
def execBurstAnchorSave (src : Requester) (c : Fin 4) (sc : Fin 64) (v : Word) (s : State) :
    Host.Outcome State Fault Refusal :=
  run (regCmd src (sb c.val sc.val) SCB.ANCHOR_CTL (setF v SCB.ANCHOR_CTL_SAVE 1)) s

end Sys2Proof.Machine
end

