-- ==== Sys2Proof/Machine/ExecBus.lean ====
section
/-!
DEFINITION. Machine/ExecBus.lean: the meanings of the commands of accesses to registers and windows (chapter 1), one
definition a command, in the order of the table.
-/

namespace Sys2Proof.Machine

/-- REGISTER_WRITE (R13): A BAR0 register write that has no row of its own sets the register as its access type
allows, with the shared checks of size, ownership, power domain and soft reset applied. -/
def execRegisterWrite (src : Requester) (a : BitVec 26) (bytes : List Byte) (s : State) :
    Host.Outcome State Fault Refusal :=
  run (busWriteN src.id a.toNat bytes) s

/-- EMPTY_SLOT_ACCESS (R14): An access to a BAR0 slot that holds no page reads 0 or is ignored, and is counted in
MGT.BAD_ACC_CNT with its address. -/
def execEmptySlotAccess (a : BitVec 26) (write : Bool) (s : State) : Host.Outcome State Fault Refusal :=
run (if (pageAt a.toNat).isSome then skip else if write then busWrite 1 a.toNat 0 else busRead 1 a.toNat 4) s

/-- BAR2_WRITE (R11): A BAR2 write reaches engine memory, or is ignored and counted when it targets a closed cluster
or a cluster that is loading. -/
def execBar2Write (a : BitVec 26) (bytes : List Byte) (s : State) : Host.Outcome State Fault Refusal :=
  run (ev (bar2Write a.toNat bytes)) s

/-- ERR_CLR (R17): A write of PAGE_CTL.ERR_CLR clears ERR_CNT and ERR_LAST of the page. -/
def execErrClr (src : Requester) (page : BitVec 14) (v : Word) (s : State) : Host.Outcome State Fault Refusal :=
  run (regCmd src (slotBase page) oPAGE_CTL (v ||| 8)) s

/-- SRST (R20): A write of PAGE_CTL.SRST stops the block and returns its registers to reset values, or is refused with
SRST_REFUSED while a deal is pending for the page. -/
def execSrst (src : Requester) (page : BitVec 14) (v : Word) (s : State) : Host.Outcome State Fault Refusal :=
  run (regCmd src (slotBase page) oPAGE_CTL (v ||| 2)) s

/-- SOFT_RESET_DONE (R20): The block soft reset completes within 10 µs, SRST_BUSY clears, and the block restarts under
its own controls. -/
def execSoftResetDone (page : BitVec 14) (s : State) : Host.Outcome State Fault Refusal :=
  run (ev (softResetDone page.toNat)) s

/-- PAGE_ENABLE_WRITE (R21): A write of PAGE_CTL.EN holds the block idle or resumes it under its own controls, and is
ignored on the pages whose EN is fixed. -/
def execPageEnableWrite (src : Requester) (page : BitVec 14) (v : Word) (s : State) :
    Host.Outcome State Fault Refusal :=
  run (regCmd src (slotBase page) oPAGE_CTL v) s

/-- INT_STAT_CLEAR (R30): A W1C write to INT_STAT clears event bits and updates the pending state, the group
registers, INT_N and INT_FIRST. -/
def execIntStatClear (src : Requester) (page : BitVec 14) (v : Word) (s : State) : Host.Outcome State Fault Refusal :=
  run (regCmd src (slotBase page) oINT_STAT v) s

/-- INT_FORCE (R21): A write of 1 to INT_FORCE sets the matching INT_STAT bit as if its event had occurred. -/
def execIntForce (src : Requester) (page : BitVec 14) (v : Word) (s : State) : Host.Outcome State Fault Refusal :=
  run (regCmd src (slotBase page) oINT_FORCE v) s

/-- INTERRUPT_EVENT (R30): A block event sets its INT_STAT bit; with INT_EN set, the group registers, INT_SUM, the
MSI-X message and INT_N follow within 1 µs. -/
def execInterruptEvent (page : BitVec 14) (n : Fin 32) (s : State) : Host.Outcome State Fault Refusal :=
  run (ev (pageEvent page.toNat n.val)) s

/-- OWNER_WRITE (R24): A write of OWNER claims the page lock, releases it, or is refused with NOT_OWNER. -/
def execOwnerWrite (src : Requester) (page : BitVec 14) (v : Word) (s : State) : Host.Outcome State Fault Refusal :=
  run (regCmd src (slotBase page) oOWNER v) s

/-- LOCK_BREAK (R25): A host write of MGT.LOCK_BREAK frees the OWNER lock of the named page and records LOCK_BROKEN
there, or is refused. -/
def execLockBreak (src : Requester) (v : Word) (s : State) : Host.Outcome State Fault Refusal :=
  run (regCmd src 0 MGT.LOCK_BREAK v) s

/-- STAGED_WRITE (R43): A write to a page with DEAL_CTL.STAGE set goes to the staging shadow of the named deal, or is
refused with NOT_STAGING or NOT_STAGEABLE. -/
def execStagedWrite (src : Requester) (a : BitVec 26) (v : Word) (s : State) : Host.Outcome State Fault Refusal :=
  run (busWrite src.id a.toNat v) s

/-- WINDOW_READ (R27): A read of WIN_DATA0 copies the whole selected table entry into the read buffer, and AUTO_INC
advances the index. -/
def execWindowRead (src : Requester) (page : BitVec 14) (s : State) : Host.Outcome State Fault Refusal :=
  run (regRd src (slotBase page + oWIN_DATA 0)) s

/-- WINDOW_WRITE (R27): A write to a WIN_DATA word goes straight into the selected table entry, or is refused with
WINDOW_RANGE beyond the table. -/
def execWindowWrite (src : Requester) (page : BitVec 14) (w : Fin 16) (v : Word) (s : State) :
    Host.Outcome State Fault Refusal :=
  run (regCmd src (slotBase page) (oWIN_DATA w.val) v) s

/-- I2C_WRITE_TRANSFER (R31): An I²C write transfer carries an offset and optionally 4 data bytes, and is served
within the I²C requester's access limits. -/
def execI2cWriteTransfer (bytes : List Byte) (s : State) : Host.Outcome State Fault Refusal :=
  run (i2cTransfer bytes) s

/-- I2C_READ_TRANSFER (R31): An I²C read transfer after an offset-only write returns 4 bytes of the addressed
register. -/
def execI2cReadTransfer (s : State) : Host.Outcome State Fault Refusal :=
  run (i2cRead) s

end Sys2Proof.Machine
end

