-- ==== Sys2Proof/Machine/ExecCip.lean ====
section
/-!
DEFINITION. Machine/ExecCip.lean: the meanings of the commands of line ciphers (chapter 12), one definition a command,
in the order of the table.
-/

namespace Sys2Proof.Machine

/-- CIP_LOCK_WRITE (R299): A write of CIP_LOCK claims or releases the key-load lock, or is refused with KEY_NOT_OWNER.
-/
def execCipLockWrite (src : Requester) (c : Fin 4) (v : Word) (s : State) : Host.Outcome State Fault Refusal :=
  run (regCmd src (cb c.val) CIP.CIP_LOCK v) s

/-- KEY_DATA_WRITE (R299): The lock holder buffers one key word, or the write is refused with KEY_LONG or
KEY_NOT_OWNER. -/
def execKeyDataWrite (src : Requester) (c : Fin 4) (v : Word) (s : State) : Host.Outcome State Fault Refusal :=
  run (regCmd src (cb c.val) CIP.KEY_DATA v) s

/-- KEY_SALT_WRITE (R299): The lock holder writes the salt for the next commit. -/
def execKeySaltWrite (src : Requester) (c : Fin 4) (v : Word) (s : State) : Host.Outcome State Fault Refusal :=
  run (regCmd src (cb c.val) CIP.KEY_SALT v) s

/-- KEY_COMMIT (R297): KEY_COMMIT stores the buffered key and salt in a slot, which becomes LOADED, or is refused. -/
def execKeyCommit (src : Requester) (c : Fin 4) (v : Word) (s : State) : Host.Outcome State Fault Refusal :=
  run (regCmd src (cb c.val) CIP.KEY_COMMIT v) s

/-- KEY_ARM (R297): KEY_CMD ARM moves a LOADED slot to ARMED when its sibling is not ARMED. -/
def execKeyArm (src : Requester) (c : Fin 4) (v : Word) (s : State) : Host.Outcome State Fault Refusal :=
  run (regCmd src (cb c.val) CIP.KEY_CMD (setF v CIP.KEY_CMD_CMD 1)) s

/-- KEY_DISARM (R297): KEY_CMD DISARM returns an ARMED slot to LOADED. -/
def execKeyDisarm (src : Requester) (c : Fin 4) (v : Word) (s : State) : Host.Outcome State Fault Refusal :=
  run (regCmd src (cb c.val) CIP.KEY_CMD (setF v CIP.KEY_CMD_CMD 2)) s

/-- KEY_ERASE (R297): KEY_CMD ERASE overwrites a LOADED or SPENT slot with zeros and frees it, or is refused with
SLOT_BUSY. -/
def execKeyErase (src : Requester) (c : Fin 4) (v : Word) (s : State) : Host.Outcome State Fault Refusal :=
  run (regCmd src (cb c.val) CIP.KEY_CMD (setF v CIP.KEY_CMD_CMD 3)) s

/-- ASSOC_WRITE (R293): Writing EN of an association enables or disables it, or is refused with SUIT_LIVE,
ASSOC_ELSEWHERE or CIP_FULL. -/
def execAssocWrite (src : Requester) (c : Fin 4) (a : Fin 256) (v : Word) (s : State) :
    Host.Outcome State Fault Refusal :=
  run (winCmd src (cb c.val) 0 a.val 0 v) s

/-- RX_GRACE_EXPIRY (R297): RX_GRACE has passed since RX_KI left a DRAINING slot, which becomes SPENT. -/
def execRxGraceExpiry (c : Fin 4) (n : Fin 512) (s : State) : Host.Outcome State Fault Refusal :=
  run (carEv c.val (slotGrace c.val n.val)) s

/-- UNIT_TRANSMIT (R304): A unit is encrypted and sent with the next UCTR, raising CTR_WARN, forcing a roll or halting
traffic at the counter limits. -/
def execUnitTransmit (c : Fin 4) (a : Fin 256) (fresh : Bool) (plain : List Byte) (s : State) :
    Host.Outcome State Fault Refusal :=
  run (carEv c.val (unitTransmit c.val a.val fresh plain)) s

/-- UNIT_RECEIVED (R302): A received unit is delineated, checked for key, direction and replay, and decrypted into the
kitty. -/
def execUnitReceived (c : Fin 4) (a : Fin 256) (errored : Bool) (header : BitVec 128) (cipher : List Byte) (tag : BitVec 128) (s : State) :
    Host.Outcome State Fault Refusal :=
  run (carEv c.val (unitReceived c.val a.val errored header cipher tag)) s

/-- UNIT_VERIFY (R309): A unit's tag is verified within 40 ns of its last byte and the unit is released or replaced by
error fill. -/
def execUnitVerify (c : Fin 4) (a : Fin 256) (s : State) : Host.Outcome State Fault Refusal :=
  run (carEv c.val (unitVerify c.val a.val)) s

/-- CIP_PARITY (R312): A parity fault in the cipher state suppresses the unit, is reported DEGRADED and starts the
known-answer test. -/
def execCipParity (c : Fin 4) (a : Fin 256) (tx : Bool) (s : State) : Host.Outcome State Fault Refusal :=
  run (carEv c.val (cipParity c.val a.val tx)) s

/-- KAT_GO (R313): CIP_CTL.KAT_GO starts the known-answer test. -/
def execKatGo (src : Requester) (c : Fin 4) (v : Word) (s : State) : Host.Outcome State Fault Refusal :=
  run (regCmd src (cb c.val) CIP.CIP_CTL (setF v CIP.CIP_CTL_KAT_GO 1)) s

/-- KAT_DONE (R313): The known-answer test ends with KAT_PASS, or with KAT_FAIL and ENG_HALT. -/
def execKatDone (c : Fin 4) (pass : Bool) (s : State) : Host.Outcome State Fault Refusal :=
  run (carEv c.val (katDone c.val pass)) s

end Sys2Proof.Machine
end

