-- ==== Sys2Proof/Machine/ExecDpl.lean ====
section
/-!
DEFINITION. Machine/ExecDpl.lean: the meanings of the commands of references and DPLLs (chapter 16), one definition a
command, in the order of the table.
-/

namespace Sys2Proof.Machine

/-- ACTIVITY_LOSS (R383): A reference shows no edge, sample or lock within its limit; ACT_OK clears, qualification is
lost and the DPLL may switch or hold over. -/
def execActivityLoss (k : Fin 14) (s : State) : Host.Outcome State Fault Refusal :=
  run (refEv (activityLoss k.val)) s

/-- ACTIVITY_RETURN (R383): An edge or sample arrives after its cause has gone, and ACT_OK sets again. -/
def execActivityReturn (k : Fin 14) (s : State) : Host.Outcome State Fault Refusal :=
  run (refEv (activityReturn k.val)) s

/-- FREQUENCY_MEASURE (R383): Each 1 s the frequency monitor measures every reference and sets or clears FREQ_OK. -/
def execFrequencyMeasure (offs : List Int) (s : State) : Host.Outcome State Fault Refusal :=
  run (refEv (freqMeasure offs)) s

/-- DRIFT_EVALUATE (R384): Each 1 s the drift-rate monitor computes the slope and sets or clears DRIFTING. -/
def execDriftEvaluate (s : State) : Host.Outcome State Fault Refusal :=
  run (refEv (driftEvaluate)) s

/-- HISTORY_SAMPLE (R390): Each 1 s a DPLL records its control value into its holdover history. -/
def execHistorySample (n : Fin 2) (ffo : Int) (pherr : Int) (s : State) : Host.Outcome State Fault Refusal :=
  run (refEv (historySample n.val ffo pherr)) s

/-- QUALIFIED (R385): A reference's monitors have held for QUAL seconds and it becomes qualified, starting its
wait-to-restore if needed. -/
def execQualified (k : Fin 14) (s : State) : Host.Outcome State Fault Refusal :=
  run (refEv (refQualified k.val)) s

/-- WTR_EXPIRY (R386): A reference's wait-to-restore timer runs out and it becomes eligible, possibly selected. -/
def execWtrExpiry (k : Fin 14) (s : State) : Host.Outcome State Fault Refusal :=
  run (refEv (wtrExpiry k.val)) s

/-- DPLL_LOCKED (R391): Frequency and phase have held within limits for 10 s in ACQUIRE, and the DPLL enters LOCKED.
-/
def execDpllLocked (n : Fin 2) (s : State) : Host.Outcome State Fault Refusal :=
  run (refEv (dpllLocked n.val)) s

/-- SLEW_DONE (R389): A DPLL-B slew completes, and deferred selections and controls take effect. -/
def execSlewDone (s : State) : Host.Outcome State Fault Refusal :=
  run (refEv (slewDone)) s

/-- DPLL_CTL_WRITE (R391): A write of Dd_CTL enables, forces, holds over or opens the loop, moving the DPLL state
machine. -/
def execDpllCtlWrite (src : Requester) (n : Fin 2) (v : Word) (s : State) : Host.Outcome State Fault Refusal :=
  run (regCmd src dpb (DPL.D_CTL n.val) v) s

/-- SW_PHERR_WRITE (R394): A write of SW_PHERR delivers one phase-error sample to DPLL-B's loop. -/
def execSwPherrWrite (src : Requester) (v : Word) (s : State) : Host.Outcome State Fault Refusal :=
  run (regCmd src dpb DPL.SW_PHERR v) s

/-- SW_TIMEOUT (R383): No SW_PHERR sample has been written within SW_TO, and ACT_OK of SW clears. -/
def execSwTimeout (s : State) : Host.Outcome State Fault Refusal :=
  run (refEv (swTimeout)) s

/-- FFO_SET_WRITE (R395): A write of FFO_SET sets the open-loop output within 1 µs, clamped to the slope limit. -/
def execFfoSetWrite (src : Requester) (n : Fin 2) (v : Word) (s : State) : Host.Outcome State Fault Refusal :=
  run (regCmd src dpb (DPL.D_FFO_SET n.val) v) s

/-- REALIGN (R396): A write of OUTk_CFG.REALIGN moves the next pulse of a REFOUT to its next target. -/
def execRealign (src : Requester) (k : Fin 4) (v : Word) (s : State) : Host.Outcome State Fault Refusal :=
  run (regCmd src dpb (DPL.OUT_CFG k.val) (setF v (DPL.OUT_CFG_REALIGN k.val) 1)) s

end Sys2Proof.Machine
end

