-- ==== Sys2Proof/Machine/ExecEng.lean ====
section
/-!
DEFINITION. Machine/ExecEng.lean: the meanings of the commands of engines (chapter 18), one definition a command, in
the order of the table.
-/

namespace Sys2Proof.Machine

/-- ENGINE_INSTRUCTION (R425): An engine issues an RV32IMC instruction and charges its cycles to the ledger classes.
-/
def execEngineInstruction (id : Fin 512) (extra : Nat) (s : State) : Host.Outcome State Fault Refusal :=
  run (ev (engIssue id.val Rv.base extra)) s

/-- CMAC (R427): CMAC adds the complex product of two packed operands to ACC. -/
def execCmac (id : Fin 512) (s : State) : Host.Outcome State Fault Refusal :=
  run (ev (engIssue id.val (fun i => match i with | .cmac 0 _ _ => true | _ => false) 0)) s

/-- CMACJ (R427): CMACJ adds the product with the conjugate of the second operand to ACC. -/
def execCmacj (id : Fin 512) (s : State) : Host.Outcome State Fault Refusal :=
  run (ev (engIssue id.val (fun i => match i with | .cmac 1 _ _ => true | _ => false) 0)) s

/-- CMUL (R427): CMUL sets ACC to the complex product of two packed operands. -/
def execCmul (id : Fin 512) (s : State) : Host.Outcome State Fault Refusal :=
  run (ev (engIssue id.val (fun i => match i with | .cmac 2 _ _ => true | _ => false) 0)) s

/-- ACCRD (R428): ACCRD returns ACC shifted, rounded and saturated into a packed pair. -/
def execAccrd (id : Fin 512) (s : State) : Host.Outcome State Fault Refusal :=
  run (ev (engIssue id.val (fun i => match i with | .accrd _ _ => true | _ => false) 0)) s

/-- MSEND (R429): MSEND sends a word to an engine or host mailbox and returns its status. -/
def execMsend (id : Fin 512) (s : State) : Host.Outcome State Fault Refusal :=
  run (ev (engIssue id.val (fun i => match i with | .msend _ _ _ => true | _ => false) 0)) s

/-- MRECV (R429): MRECV takes the next mailbox word, or waits up to its limit. -/
def execMrecv (id : Fin 512) (s : State) : Host.Outcome State Fault Refusal :=
  run (ev (engIssue id.val (fun i => match i with | .mrecv _ _ => true | _ => false) 0)) s

/-- MAILBOX_DELIVERY (R429): A sent mailbox word reaches its destination FIFO 16 or 120 cycles after MSEND. -/
def execMailboxDelivery (sender : Fin 512) (dst : Fin 1024) (s : State) : Host.Outcome State Fault Refusal :=
  run (ev (mailDeliver sender.val dst.val)) s

/-- MRECV_END (R429): A waiting MRECV takes an arriving word or times out. -/
def execMrecvEnd (id : Fin 512) (s : State) : Host.Outcome State Fault Refusal :=
  run (ev (mrecvEnd id.val)) s

/-- WAITT (R430): WAITT waits until device time reaches its target. -/
def execWaitt (id : Fin 512) (s : State) : Host.Outcome State Fault Refusal :=
  run (ev (engIssue id.val (fun i => match i with | .waitt _ _ _ _ => true | _ => false) 0)) s

/-- WAITT_END (R430): A waiting WAITT ends when the local time reaches the target or a mailbox word arrives. -/
def execWaittEnd (id : Fin 512) (s : State) : Host.Outcome State Fault Refusal :=
  run (ev (waittEnd id.val)) s

/-- BRD (R431): BRD reads a BAR0 register as requester ENGk, or is denied for an owner program. -/
def execBrd (id : Fin 512) (extra : Nat) (s : State) : Host.Outcome State Fault Refusal :=
  run (ev (engBus id.val false extra)) s

/-- BWR (R431): BWR posts a BAR0 write as requester ENGk, or is denied for an owner program. -/
def execBwr (id : Fin 512) (extra : Nat) (s : State) : Host.Outcome State Fault Refusal :=
  run (ev (engBus id.val true extra)) s

/-- ENGINE_TRAP (R425): An engine takes an exception or interrupt, or halts with ENG_FAULT when mtvec is 0. -/
def execEngineTrap (id : Fin 512) (s : State) : Host.Outcome State Fault Refusal :=
  run (ev (engTrapRow id.val)) s

/-- LOAD_GO (R432): CL_CTL.LOAD_GO starts loading an owner or vendor program, or is refused. -/
def execLoadGo (src : Requester) (k : Fin 8) (v : Word) (s : State) : Host.Outcome State Fault Refusal :=
  run (regCmd src (enb k.val) ENG.CL_CTL (setF v ENG.CL_CTL_LOAD_GO 1)) s

/-- LOAD_DONE (R432): The program load ends with LOADED, or with LOAD_FAIL and its cause. -/
def execLoadDone (k : Fin 8) (s : State) : Host.Outcome State Fault Refusal :=
  run (ev (loadDone k.val)) s

/-- HALT_WRITE (R432): A write of CL_CTL.HALT halts every engine, or releases them to start at ENTRY. -/
def execHaltWrite (src : Requester) (k : Fin 8) (v : Word) (s : State) : Host.Outcome State Fault Refusal :=
  run (regCmd src (enb k.val) ENG.CL_CTL v) s

/-- COUNTER_WRITE (R435): A write of word 0 of a COUNT entry sets a PMC at the next cycle. -/
def execCounterWrite (src : Requester) (k : Fin 8) (e : Fin 576) (v : Word) (s : State) :
    Host.Outcome State Fault Refusal :=
  run (winCmd src (enb k.val) 0 e.val 0 v) s

/-- RESUME (R436): CL_CTL.RESUME restarts PMCs frozen by a call. -/
def execResume (src : Requester) (k : Fin 8) (v : Word) (s : State) : Host.Outcome State Fault Refusal :=
  run (regCmd src (enb k.val) ENG.CL_CTL (setF v ENG.CL_CTL_RESUME 1)) s

/-- LEG_RD (R437): CL_CTL.LEG_RD copies one engine's counters into table 2 one at a time. -/
def execLegRd (src : Requester) (k : Fin 8) (v : Word) (s : State) : Host.Outcome State Fault Refusal :=
  run (regCmd src (enb k.val) ENG.CL_CTL (setF v ENG.CL_CTL_LEG_RD 1)) s

/-- TRACE_RECORD (R438): A sample has left the pipeline with its ledger strip full, and its record is written into the
trace ring. -/
def execTraceRecord (id : Fin 512) (s : State) : Host.Outcome State Fault Refusal :=
  run (ev (traceRecord id.val)) s

/-- HOST_MB_TX (R439): A write of HOST_MB_TX sends a word to the selected engine's FIFO, or is refused with MB_FULL.
-/
def execHostMbTx (src : Requester) (k : Fin 8) (v : Word) (s : State) : Host.Outcome State Fault Refusal :=
  run (regCmd src (enb k.val) ENG.HOST_MB_TX v) s

/-- HOST_MB_RX (R439): A read of HOST_MB_RX pops the cluster's host FIFO and latches the sender. -/
def execHostMbRx (src : Requester) (k : Fin 8) (s : State) : Host.Outcome State Fault Refusal :=
  run (regRd src (enb k.val + ENG.HOST_MB_RX)) s

end Sys2Proof.Machine
end

