-- ==== Sys2Proof/Machine/ExecEth.lean ====
section
/-!
DEFINITION. Machine/ExecEth.lean: the meanings of the commands of host lanes and ports (chapter 13), one definition a
command, in the order of the table.
-/

namespace Sys2Proof.Machine

/-- LANE_ENABLE (R319): Enabling a host lane at a rate is accepted, or refused with RATE_MIX or LANE_IN_PORT. -/
def execLaneEnable (src : Requester) (l : Fin 48) (v : Word) (s : State) : Host.Outcome State Fault Refusal :=
  run (regCmd src (hsb (l.val / 4)) (HSL.LANE_CTL (l.val % 4)) (setF v (HSL.LANE_CTL_EN (l.val % 4)) 1)) s

/-- TRAIN_DONE (R322): Link training on a C2C lane ends and sets TRAIN_DONE. -/
def execTrainDone (l : Fin 48) (ffe : Word) (s : State) : Host.Outcome State Fault Refusal :=
  run (refEv (trainDone l.val ffe)) s

/-- TRAIN_FAIL (R322): Link training has not ended within 500 ms; the lane runs with the taps it reached. -/
def execTrainFail (l : Fin 48) (ffe : Word) (s : State) : Host.Outcome State Fault Refusal :=
  run (refEv (trainFail l.val ffe)) s

/-- PORT_ENABLE (R324): Setting PORT_CFG.EN enables a port, or is refused with PORT_ALIGN, RATE_BAD, LANE_TAKEN or
SUIT_SHORT. -/
def execPortEnable (src : Requester) (p : Fin 48) (v : Word) (s : State) : Host.Outcome State Fault Refusal :=
  run (regCmd src (etb p.val) ETH.PORT_CFG (setF v ETH.PORT_CFG_EN 1)) s

/-- ALIGN_STATUS_CHANGE (R327): A port gains or loses align status, raising LINK_UP or LINK_DOWN and putting its
source in or out of fail. -/
def execAlignStatusChange (p : Fin 48) (block : Bool) (am : Bool) (deskew : Bool) (s : State) :
    Host.Outcome State Fault Refusal :=
  run (refEv (alignChange p.val block am deskew)) s

/-- PORT_FEC_WINDOW (R328): Each 1 ms the port's RS symbol errors set or clear HI_SER and FEC_DEGRADED. -/
def execPortFecWindow (p : Fin 48) (sym : Nat) (corSym : Nat) (cor : Nat) (unc : Nat) (s : State) :
    Host.Outcome State Fault Refusal :=
  run (ev (fecWindow p.val sym corSym cor unc)) s

/-- CAL_SWITCH (R329): A FlexE calendar switch takes effect at the overhead multiframe named by the protocol. -/
def execCalSwitch (g : Fin 8) (s : State) : Host.Outcome State Fault Refusal :=
  run (ev (calSwitch g.val)) s

/-- FLEXE_SWITCH_WRITE (R329): A write of FLEXE_GRP SWITCH starts the calendar switch protocol of a group. -/
def execFlexeSwitchWrite (src : Requester) (g : Fin 8) (v : Word) (s : State) : Host.Outcome State Fault Refusal :=
  run (winCmd src (etb 0) 0 g.val 0 v) s

/-- FLEXO_GROUP_ENABLE (R330): Enabling a FLEXO_GRP entry is accepted, or refused with FLEXO_SIZE. -/
def execFlexoGroupEnable (src : Requester) (e : Fin 3) (v : Word) (s : State) : Host.Outcome State Fault Refusal :=
  run (winCmd src (etb 0) 3 e.val 0 (v ||| 1)) s

end Sys2Proof.Machine
end

