-- ==== Sys2Proof/Machine/ExecFault.lean ====
section
/-!
DEFINITION. Machine/ExecFault.lean: the meanings of the commands of errors, resets, calls and the rows added last
(chapters 22 and 23), one definition a command, in the order of the table.
-/

namespace Sys2Proof.Machine

/-- ERROR_REPORT (R509): A detected error is classed, escalated if needed and entered in its island's queue. -/
def execErrorReport (source : Fin 17) (page : BitVec 14) (addr : BitVec 41) (unit : Byte) (loc : Nat) (s : State) :
    Host.Outcome State Fault Refusal :=
  run (ev (errorReport source.val page.toNat addr.toNat unit.toNat loc)) s

/-- WATCHDOG (R508): Cluster 7 misses its 10 ms heartbeat and a DEVICE_FATAL error is reported. -/
def execWatchdog (s : State) : Host.Outcome State Fault Refusal :=
  run (ev (report eWATCHDOG 19 0)) s

/-- ISLAND_RESET (R515): An island reset begins, discarding its deal actions and freeing its locks. -/
def execIslandReset (n : Fin 25) (s : State) : Host.Outcome State Fault Refusal :=
  run (ev (islandBegin n.val)) s

/-- RESET_DONE (R515): The island reset ends with SRAM refilled and configuration reapplied, and RESET_DONE is raised.
-/
def execResetDone (n : Fin 25) (s : State) : Host.Outcome State Fault Refusal :=
  run (ev (resetDone n.val)) s

/-- DEVICE_RESET (R516): A DEVICE_FATAL error resets the module after its call and DF_LAST copy, and a start follows.
-/
def execDeviceReset (s : State) : Host.Outcome State Fault Refusal :=
  run (ev deviceBegin) s

/-- ISL_CTL_RESET (R517): ISL_CTL with KEY and RESET makes an island reset, or is refused with MGT_ISLAND or BAD_KEY.
-/
def execIslCtlReset (src : Requester) (v : Word) (s : State) : Host.Outcome State Fault Refusal :=
  run (regCmd src eb ERR.ISL_CTL (setF v ERR.ISL_CTL_RESET 1)) s

/-- ISL_CTL_RELEASE (R518): ISL_CTL with KEY and RELEASE takes a failed island out of reset, or is refused with
NOT_FAILED. -/
def execIslCtlRelease (src : Requester) (v : Word) (s : State) : Host.Outcome State Fault Refusal :=
  run (regCmd src eb ERR.ISL_CTL (setF v ERR.ISL_CTL_RELEASE 1)) s

/-- Q_POP (R513): Q_POP removes the oldest record of the selected island's queue. -/
def execQPop (src : Requester) (s : State) : Host.Outcome State Fault Refusal :=
  run (regCmd src eb ERR.Q_POP 1) s

/-- SELF_TEST_END (R519): A targeted self-test ends and classifies its error transient or lasting. -/
def execSelfTestEnd (seq : BitVec 16) (lasting : Bool) (s : State) : Host.Outcome State Fault Refusal :=
  run (ev (selfTestEnd seq.toNat lasting)) s

/-- SELF_TEST_TIMEOUT (R519): A test has waited 100 ms for a busy unit and ends with TIMEOUT, counted lasting. -/
def execSelfTestTimeout (seq : BitVec 16) (s : State) : Host.Outcome State Fault Refusal :=
  run (ev (selfTestTimeout seq.toNat)) s

/-- ENG_CHECK (R520): After an ESRAM_UE island reset each engine runs the ROM check and failing engines stay in FAULT.
-/
def execEngCheck (k : Fin 8) (failed : BitVec 64) (s : State) : Host.Outcome State Fault Refusal :=
  run (ev (engCheck k.val failed.toNat)) s

/-- CALL_CMD_GO (R521): CALL_CMD.GO requests a call from the REG source. -/
def execCallCmdGo (src : Requester) (v : Word) (s : State) : Host.Outcome State Fault Refusal :=
  run (regCmd src snb SNAP.CALL_CMD (setF v SNAP.CALL_CMD_GO 1)) s

/-- CALL_IN_EDGE (R524): An accepted edge on CALL_IN is time-stamped and requests a call. -/
def execCallInEdge (rising : Bool) (held : Nat) (t : BitVec 64) (s : State) : Host.Outcome State Fault Refusal :=
  run (ev (callIn rising held t)) s

/-- CALL_ISSUE (R522): A call is issued, joins later requests within 1 µs, latches every participating page's shadows
and is logged. -/
def execCallIssue (s : State) : Host.Outcome State Fault Refusal :=
  run (ev callIssue) s

/-- MSIX_TABLE_WRITE (R550): A write to the MSI-X table or pending bit array in BAR4 sets a vector's address, data or
mask, and unmasking a vector with its pending bit set sends its message. -/
def execMsixTableWrite (a : BitVec 14) (v : Word) (s : State) : Host.Outcome State Fault Refusal :=
  run (msixWrite a.toNat v) s

/-- DIST_LOST (R33): An island's local copy of device time leaves, or returns within, ±1 ns of the master, so
TIME_STAT.DIST_OK changes and DIST_LOST is raised. -/
def execDistLost (ok : Bool) (s : State) : Host.Outcome State Fault Refusal :=
  run (ev (distLost ok)) s

/-- CDR_LOCK_LOSS (R334): A host lane's receiver loses or regains CDR lock, so LOL_CNT is incremented and the lane's
LOL interrupt is raised. -/
def execCdrLockLoss (l : Fin 48) (lock : Bool) (sig : Bool) (adapted : Bool) (snr : Nat) (s : State) :
    Host.Outcome State Fault Refusal :=
  run (refEv (cdrLock l.val lock sig adapted snr)) s

/-- PLL_UNLOCK (R334): A quad's transmit PLL loses or regains lock, so QUAD_STAT.PLL_LOCK changes and PLL_UNLOCK is
raised. -/
def execPllUnlock (q : Fin 12) (lock : Bool) (s : State) : Host.Outcome State Fault Refusal :=
  run (refEv (pllLock q.val lock)) s

/-- FAULT_RECEIVED (R335): A port begins or stops receiving local-fault or remote-fault ordered sets, so
PORT_STAT.RX_LF or RX_RF changes and RX_LF or RX_RF is raised. -/
def execFaultReceived (p : Fin 48) (remote : Bool) (on : Bool) (s : State) : Host.Outcome State Fault Refusal :=
  run (ev (faultReceived p.val remote on)) s

/-- TEMP_HIGH (R422): A DIMM's temperature crosses DDR_TEMP_LIM or 85 °C, which raises TEMP_HIGH or doubles refresh
with REF2X. -/
def execTempHigh (n : Fin 16) (t : Int) (s : State) : Host.Outcome State Fault Refusal :=
  run (ev (ddrTemp n.val t)) s

/-- LEAF_GRANT_END (R273): A leaf reaches the end of one of its grants, so its burst ends and its SOA gate falls
within 8 ns. -/
def execLeafGrantEnd (c : Fin 4) (s : State) : Host.Outcome State Fault Refusal :=
  run (carEv c.val (leafGrantEnd c.val)) s

/-- CALL_OUT_PULSE_END (R524): WIDTH µs after the last call's T, the CALL_OUT pulse ends and the pin returns low. -/
def execCallOutPulseEnd (s : State) : Host.Outcome State Fault Refusal :=
  run (ev pulseEnd) s

/-- RAILS_VALID (R533): Every rail has been within its valid window for 10 ms and the junction is below 95 °C with
RESET_N high, so a start begins. -/
def execRailsValid (s : State) : Host.Outcome State Fault Refusal :=
  run (resetRelease) s

/-- PERST_RELEASE (R536): PERST# is released, and the endpoint trains and accepts configuration requests within 100
ms. -/
def execPerstRelease (s : State) : Host.Outcome State Fault Refusal :=
  run (perstRelease) s

end Sys2Proof.Machine
end

