-- ==== Sys2Proof/Machine/ExecFec.lean ====
section
/-!
DEFINITION. Machine/ExecFec.lean: the meanings of the commands of encoders and decoders (chapter 7), one definition a
command, in the order of the table.
-/

namespace Sys2Proof.Machine

/-- FEC_MODE_WRITE (R167): A write of FEC_MODE sets a mode change waiting or in effect, or is refused with
MODE_MISMATCH or MODE_LIVE. -/
def execFecModeWrite (src : Requester) (c : Fin 4) (v : Word) (s : State) : Host.Outcome State Fault Refusal :=
  run (regCmd src (feb c.val) FEC.FEC_MODE v) s

/-- MODE_TAKE_EFFECT (R168): A waiting mode or receive-mode change takes effect at the next code-period start and
raises MODE_DONE. -/
def execModeTakeEffect (c : Fin 4) (rx : Bool) (s : State) : Host.Outcome State Fault Refusal :=
  run (carEv c.val (modeAtPeriod c.val rx)) s

/-- CODEWORD_DECODE (R179): A codeword is decoded by layered min-sum and the outer BCH, and the FEC counters are
updated. -/
def execCodewordDecode (c : Fin 4) (sc : Option (Fin 64)) (lam : List Int) (s : State) :
    Host.Outcome State Fault Refusal :=
  run (carEv c.val (codewordDecode (strmOf c sc) lam)) s

/-- TV_GO (R185): TV_GO passes the stored test codewords through the decoder, or is refused with TV_BUSY. -/
def execTvGo (src : Requester) (c : Fin 4) (v : Word) (s : State) : Host.Outcome State Fault Refusal :=
  run (regCmd src (feb c.val) FEC.TV_CTL (setF v FEC.TV_CTL_TV_GO 1)) s

/-- TV_DONE (R185): The decoder test run ends with TV_ERRS and TV_FAIL. -/
def execTvDone (c : Fin 4) (errs : Nat) (s : State) : Host.Outcome State Fault Refusal :=
  run (carEv c.val (tvDone c.val errs)) s

/-- COUNTER_LO_READ (R186): A read of a 48-bit counter's LO register latches its HI register. -/
def execCounterLoRead (src : Requester) (a : BitVec 26) (s : State) : Host.Outcome State Fault Refusal :=
  run (regRd src a.toNat) s

end Sys2Proof.Machine
end

