-- ==== Sys2Proof/Machine/ExecHub.lean ====
section
/-!
DEFINITION. Machine/ExecHub.lean: the meanings of the commands of hubs and leaves (chapter 10), one definition a
command, in the order of the table.
-/

namespace Sys2Proof.Machine

/-- HUB_RUN_WRITE (R247): A write of HUB_CTL.RUN starts or stops the hub or leaf function of a carrier. -/
def execHubRunWrite (src : Requester) (v : Word) (s : State) : Host.Outcome State Fault Refusal :=
  run (regCmd src hb HUB.HUB_CTL v) s

/-- ROUND_START (R247): A downstream round begins; SC_CFG changes, map swaps and the next round's grants take effect.
-/
def execRoundStart (c : Fin 4) (ps : List RoundGrant) (fs : List RoundFrames) (s : State) :
    Host.Outcome State Fault Refusal :=
  run (carEv c.val (seqs [roundStart c.val ps fs, roundDeals c.val])) s

/-- UPSTREAM_ROUND_START (R269): An upstream round begins at the hub receiver; the burst gain steps and idle priors
leak. -/
def execUpstreamRoundStart (c : Fin 4) (gain : Nat) (s : State) : Host.Outcome State Fault Refusal :=
  run (carEv c.val (upstreamRound c.val gain)) s

/-- GRANT_SUBMIT (R252): A write of GRANT_IN word 1 submits a grant that is checked and accepted or refused. -/
def execGrantSubmit (src : Requester) (v : Word) (s : State) : Host.Outcome State Fault Refusal :=
  run (winCmd src hb 2 0 1 v) s

/-- DMAP_SUBMIT (R255): A write of DMAP_IN word 2 submits a downstream map entry, or is refused with DMAP_OVERLAP. -/
def execDmapSubmit (src : Requester) (v : Word) (s : State) : Host.Outcome State Fault Refusal :=
  run (winCmd src hb 3 0 2 v) s

/-- GRANT_END (R253): A grant's last slot ends at the hub; its store entry is released and the leaf's burst-loss raw
condition is updated. -/
def execGrantEnd (c : Fin 4) (sc : Fin 64) (start : Nat) (s : State) : Host.Outcome State Fault Refusal :=
  run (carEv c.val (grantEnd c.val sc.val start)) s

/-- DISCOVERY_WINDOW (R256): Every PERIOD rounds a discovery window opens on the discovery group. -/
def execDiscoveryWindow (c : Fin 4) (s : State) : Host.Outcome State Fault Refusal :=
  run (carEv c.val (discOpen c.val)) s

/-- DISC_DONE (R256): A discovery window ends. -/
def execDiscDone (c : Fin 4) (s : State) : Host.Outcome State Fault Refusal :=
  run (carEv c.val (discDone c.val)) s

/-- LEAF_PROVISION (R258): Writing word 0 of a leaf entry with PROV = 1 moves it from FREE to WAIT. -/
def execLeafProvision (src : Requester) (n : Fin 4096) (v : Word) (s : State) : Host.Outcome State Fault Refusal :=
  run (winCmd src hb 0 n.val 0 (v ||| 8)) s

/-- LEAF_CMD_REMOVE (R258): LEAF_CMD REMOVE frees a leaf entry and sends DEREG REMOVE, or is refused with LEAF_FREE.
-/
def execLeafCmdRemove (src : Requester) (v : Word) (s : State) : Host.Outcome State Fault Refusal :=
  run (regCmd src hb HUB.LEAF_CMD (setF v HUB.LEAF_CMD_CMD 1)) s

/-- LEAF_LOST (R258): dBURST_LOSS of an ACTIVE leaf has been set for LOST_TIME and the entry enters LOST. -/
def execLeafLost (n : Fin 4096) (s : State) : Host.Outcome State Fault Refusal :=
  run (ev (leafLost n.val)) s

/-- LEAF_DROP_TIMEOUT (R258): DROP_TIME passes in LOST, and the entry returns to WAIT with DEREG RERANGE. -/
def execLeafDropTimeout (n : Fin 4096) (s : State) : Host.Outcome State Fault Refusal :=
  run (ev (leafDropTimeout n.val)) s

/-- DRAINED (R260): A removed shared group has received until its last round ended, releases its store entries and
raises DRAINED. -/
def execDrained (c : Fin 4) (sc : Fin 64) (s : State) : Host.Outcome State Fault Refusal :=
  run (carEv c.val (drained c.val sc.val)) s

/-- ROUND_MSG (R249): A leaf receives a ROUND message with round number, RLEN and TEQ. -/
def execRoundMsg (c : Fin 4) (_sc : Fin 64) (m : BitVec 115) (s : State) : Host.Outcome State Fault Refusal :=
run (carEv c.val (typed m 1 (seqs [roundMsg c.val (at115 m 4 32) (at115 m 36 3) (at115 m 39 24), roundDeals
    c.val]))) s

/-- GRANT_MSG (R251): A leaf receives a GRANT message and acts on a grant for the next round, or counts an RND
mismatch. -/
def execGrantMsg (c : Fin 4) (_sc : Fin 64) (m : BitVec 115) (s : State) : Host.Outcome State Fault Refusal :=
  run (carEv c.val (grantMsgs c.val m)) s

/-- DMAP_MSG (R255): A leaf receives a DMAP message naming its downstream frames. -/
def execDmapMsg (c : Fin 4) (sc : Fin 64) (m : BitVec 115) (s : State) : Host.Outcome State Fault Refusal :=
  run (carEv c.val (dmapMsgs c.val sc.val m)) s

/-- DISCOVER_MSG (R256): A leaf in DISCOVER receives DISCOVER and sends one HELLO burst in the window. -/
def execDiscoverMsg (c : Fin 4) (_sc : Fin 64) (m : BitVec 115) (s : State) : Host.Outcome State Fault Refusal :=
run (carEv c.val (typed m 4 (discoverMsg c.val (at115 m 4 8) (at115 m 12 6) (at115 m 18 24) (at115 m 42 10)
    (at115 m 52 6)))) s

/-- ASSIGN_MSG (R259): A leaf receives ASSIGN with its serial and takes leaf number, home and EqD. -/
def execAssignMsg (c : Fin 4) (_sc : Fin 64) (m : BitVec 115) (s : State) : Host.Outcome State Fault Refusal :=
run (carEv c.val (typed m 5 (assignMsg c.val (at115 m 4 48) (at115 m 52 11) (at115 m 63 6) (at115 m 69 24)))) s

/-- RANGE_MSG (R259): A leaf receives RANGE and takes the new EqD, entering ACTIVE when FINAL is set. -/
def execRangeMsg (c : Fin 4) (_sc : Fin 64) (m : BitVec 115) (s : State) : Host.Outcome State Fault Refusal :=
  run (carEv c.val (typed m 6 (rangeMsg c.val (at115 m 4 11) (at115 m 15 24) (at115 m 39 1 == 1)))) s

/-- DEREG_MSG (R259): A leaf receives DEREG and returns to DISCOVER on RERANGE or enters REMOVED on REMOVE. -/
def execDeregMsg (c : Fin 4) (_sc : Fin 64) (m : BitVec 115) (s : State) : Host.Outcome State Fault Refusal :=
  run (carEv c.val (typed m 7 (deregMsg c.val (at115 m 4 11) (at115 m 15 4)))) s

/-- SUIT_A_MSG (R249): A SUIT_A hub-channel message carries the first part of a suit record of a dedicated member. -/
def execSuitAMsg (c : Fin 4) (sc : Fin 64) (m : BitVec 115) (s : State) : Host.Outcome State Fault Refusal :=
  run (carEv c.val (typed m 8 (suitAMsg c.val sc.val m))) s

/-- SUIT_B_MSG (R249): A SUIT_B hub-channel message carries the second part of a suit record. -/
def execSuitBMsg (c : Fin 4) (sc : Fin 64) (m : BitVec 115) (s : State) : Host.Outcome State Fault Refusal :=
  run (carEv c.val (typed m 9 (suitBMsg c.val sc.val m))) s

/-- REPORT_MSG (R249): The hub receives a REPORT with a leaf's upstream backlog. -/
def execReportMsg (c : Fin 4) (m : BitVec 115) (s : State) : Host.Outcome State Fault Refusal :=
  run (carEv c.val (typed m 10 (reportRx c.val (at115 m 4 11) (at115 m 15 24)))) s

/-- HELLO_MSG (R257): The hub receives a HELLO, computes RTT and EqD, and moves a WAIT entry to RANGING or records an
unknown serial. -/
def execHelloMsg (c : Fin 4) (start : Nat) (m : BitVec 115) (s : State) : Host.Outcome State Fault Refusal :=
  run (carEv c.val (typed m 11 (helloRx c.val start (at115 m 4 48) (at115 m 52 10)))) s

/-- LEAF_LISTEN_DONE (R259): A leaf in LISTEN finds a framed shared stream, a valid ROUND and FOLLOW_OK, and enters
DISCOVER. -/
def execLeafListenDone (c : Fin 4) (s : State) : Host.Outcome State Fault Refusal :=
  run (carEv c.val (leafListenDone c.val)) s

/-- LEAF_BACKOFF (R259): No ASSIGN has come within 4 rounds of the window's end, and the leaf backs off for a random
number of windows. -/
def execLeafBackoff (c : Fin 4) (s : State) : Host.Outcome State Fault Refusal :=
  run (carEv c.val (leafBackoff c.val)) s

/-- LEAF_HOLD_ENTRY (R259): A RANGING or ACTIVE leaf loses its home stream, ROUND or FOLLOW_OK and enters HOLD. -/
def execLeafHoldEntry (c : Fin 4) (s : State) : Host.Outcome State Fault Refusal :=
  run (carEv c.val (leafHoldEntry c.val)) s

/-- LEAF_HOLD_TIMEOUT (R259): HOLD_MAX passes in HOLD, and the leaf returns to LISTEN. -/
def execLeafHoldTimeout (c : Fin 4) (s : State) : Host.Outcome State Fault Refusal :=
  run (carEv c.val (leafHoldTimeout c.val)) s

/-- LEAF_GRANT_START (R273): A leaf reaches the start time of one of its grants and sends its burst with the gate
edges set. -/
def execLeafGrantStart (c : Fin 4) (backlog : Nat) (s : State) : Host.Outcome State Fault Refusal :=
  run (carEv c.val (leafGrantStart c.val backlog)) s

end Sys2Proof.Machine
end

