-- ==== Sys2Proof/Machine/ExecLfr.lean ====
section
/-!
DEFINITION. Machine/ExecLfr.lean: the meanings of the commands of framers, defects and performance (chapter 8), one
definition a command, in the order of the table.
-/

namespace Sys2Proof.Machine

/-- LINE_FRAME_RECEIVED (R199): A received line or subcarrier frame is tested against the FAW and its overhead, moving
the framer state machine. -/
def execLineFrameReceived (c : Fin 4) (sc : Option (Fin 64)) (f : FrameRx) (s : State) :
    Host.Outcome State Fault Refusal :=
  run (carEv c.val (seqs [lineFrame (strmOf c sc) f, if sc.isNone then rxBoundary c.val else skip])) s

/-- RX_MFN_READ (R200): A read of RX_MFN latches RX_FN. -/
def execRxMfnRead (src : Requester) (c : Fin 4) (s : State) : Host.Outcome State Fault Refusal :=
  run (regRd src (lb c.val + LFR.RX_MFN)) s

/-- DEFECT_SAMPLE (R202): Each 10 µs the raw conditions are sampled and integrated into defects, raising DEF_SET or
DEF_CLR. -/
def execDefectSample (d : DefectPage) (s : State) : Host.Outcome State Fault Refusal :=
  run (ev (defectSample d)) s

/-- PM_SECOND (R206): A device-time second completes and is judged ES, SES and unavailable, with counting delayed 10
s. -/
def execPmSecond (c : Fin 4) (sc : Option (Fin 64)) (s : State) : Host.Outcome State Fault Refusal :=
  run (ev (pmSecond (strmOf c sc))) s

/-- PM_BIN_CLOSE (R209): A 15-minute or 24-hour bin closes 10 s after its end and enters history. -/
def execPmBinClose (c : Fin 4) (sc : Option (Fin 64)) (day : Bool) (s : State) : Host.Outcome State Fault Refusal :=
  run (ev (pmClose (strmOf c sc) day)) s

/-- PM_CMD_CLR (R209): PM_CMD.CLR clears both current bins and marks them SUSPECT. -/
def execPmCmdClr (src : Requester) (c : Fin 4) (_sc : Option (Fin 64)) (v : Word) (s : State) :
    Host.Outcome State Fault Refusal :=
  run (regCmd src (lb c.val) LFR.PM_CMD (setF v LFR.PM_CMD_CLR 1)) s

end Sys2Proof.Machine
end

