-- ==== Sys2Proof/Machine/ExecMem.lean ====
section
/-!
DEFINITION. Machine/ExecMem.lean: the meanings of the commands of attached memory (chapter 17), one definition a
command, in the order of the table.
-/

namespace Sys2Proof.Machine

/-- REGION_ENABLE (R406): Setting EN of a memory region is checked and accepted or refused with REGION_REFUSED. -/
def execRegionEnable (src : Requester) (r : Fin 11) (s : State) : Host.Outcome State Fault Refusal :=
  run (regionEn src r.val true) s

/-- REGION_DISABLE (R407): Clearing EN of a region is accepted while its user is stopped, or refused with
REGION_IN_USE. -/
def execRegionDisable (src : Requester) (r : Fin 11) (s : State) : Host.Outcome State Fault Refusal :=
  run (regionEn src r.val false) s

/-- DDR_ERROR (R412): An access finds a DDR error, which is corrected and written back or resets the owning island,
and a row test is queued. -/
def execDdrError (a : Nat) (place : Nat) (row : Nat) (ue : Bool) (scrub : Bool) (s : State) :
    Host.Outcome State Fault Refusal :=
  run (ev (ddrError a place row ue scrub)) s

/-- SRAM_ERROR (R411): An access finds an SRAM error, which is corrected and written back or resets the owning island.
-/
def execSramError (e : SramErr) (s : State) : Host.Outcome State Fault Refusal :=
  run (ev (sramError e.page e.addr e.unit e.eng e.ue)) s

/-- ROW_TEST (R414): The channel tests the failing row and classifies the error transient or lasting. -/
def execRowTest (n : Fin 16) (found : Bool) (s : State) : Host.Outcome State Fault Refusal :=
  run (ev (rowTest n.val found)) s

/-- SRAM_PATROL (R413): Every 10 s hardware patrols all on-die and engine SRAM. -/
def execSramPatrol (found : List SramErr) (s : State) : Host.Outcome State Fault Refusal :=
  run (ev (sramPatrol found)) s

/-- SCRUB_GO (R417): SCRUB_CMD.GO starts a DDR scrub, or is refused with SCRUB_BUSY, SCRUB_RANGE, SCRUB_BW or MEM_OFF.
-/
def execScrubGo (src : Requester) (v : Word) (s : State) : Host.Outcome State Fault Refusal :=
  run (regCmd src meb MEM.SCRUB_CMD (setF v MEM.SCRUB_CMD_GO 1)) s

/-- SCRUB_ABORT (R417): SCRUB_CMD.ABORT ends the scrub with ABORTED set. -/
def execScrubAbort (src : Requester) (v : Word) (s : State) : Host.Outcome State Fault Refusal :=
  run (regCmd src meb MEM.SCRUB_CMD (setF v MEM.SCRUB_CMD_ABORT 1)) s

/-- SCRUB_DONE (R417): The scrub ends and its summary is complete. -/
def execScrubDone (s : State) : Host.Outcome State Fault Refusal :=
  run (ev scrubDone) s

end Sys2Proof.Machine
end

