-- ==== Sys2Proof/Machine/ExecOpt.lean ====
section
/-!
DEFINITION. Machine/ExecOpt.lean: the meanings of the commands of lasers, modulators, receive optics and converters
(chapter 3), one definition a command, in the order of the table.
-/

namespace Sys2Proof.Machine

/-- LASER_COLD_START (R65): A LASER_CTL write that sets LASER_EN from 0 to 1 latches CH_N and enters WARMUP, or is
refused with OUT_OF_BAND. -/
def execLaserColdStart (src : Requester) (c : Fin 4) (v : Word) (s : State) : Host.Outcome State Fault Refusal :=
  run (regCmd src (ob c.val) OPT.LASER_CTL (setF v OPT.LASER_CTL_LASER_EN 1)) s

/-- LASER_DISABLE (R68): A write of LASER_EN = 0 shuts the SOA, turns the laser off and drops any queued tune. -/
def execLaserDisable (src : Requester) (c : Fin 4) (v : Word) (s : State) : Host.Outcome State Fault Refusal :=
  run (regCmd src (ob c.val) OPT.LASER_CTL (setF v OPT.LASER_CTL_LASER_EN 0)) s

/-- TUNE_GO (R69): A TUNE_GO starts a channel change from LOCKED or HOLD, queues it during warm-up or tuning, or is
refused. -/
def execTuneGo (src : Requester) (c : Fin 4) (v : Word) (s : State) : Host.Outcome State Fault Refusal :=
  run (regCmd src (ob c.val) OPT.LASER_CTL (setF v OPT.LASER_CTL_TUNE_GO 1)) s

/-- TX_EN_WRITE (R74): A write of LASER_CTL.TX_EN allows or shuts the SOA, and is counted with TX_IN_MON in MON. -/
def execTxEnWrite (src : Requester) (c : Fin 4) (v : Word) (s : State) : Host.Outcome State Fault Refusal :=
  run (regCmd src (ob c.val) OPT.LASER_CTL v) s

/-- FOLLOW_WRITE (R70): A write of LASER_CTL.FOLLOW starts or ends leaf follow of the hub's carrier. -/
def execFollowWrite (src : Requester) (c : Fin 4) (v : Word) (s : State) : Host.Outcome State Fault Refusal :=
  run (regCmd src (ob c.val) OPT.LASER_CTL v) s

/-- LASER_FINE_WRITE (R66): A write of LASER_FINE slews the laser to the new offset while LOCKED, stores it otherwise,
or is refused with FINE_RANGE. -/
def execLaserFineWrite (src : Requester) (c : Fin 4) (v : Word) (s : State) : Host.Outcome State Fault Refusal :=
  run (regCmd src (ob c.val) OPT.LASER_FINE v) s

/-- TX_PWR_SET_WRITE (R73): A write of TX_PWR_SET ramps the SOA to the new power, or is refused with PWR_RANGE. -/
def execTxPwrSetWrite (src : Requester) (c : Fin 4) (v : Word) (s : State) : Host.Outcome State Fault Refusal :=
  run (regCmd src (ob c.val) OPT.TX_PWR_SET v) s

/-- TEC_SETTLED (R68): The TEC has settled and the laser leaves WARMUP for TUNING towards the latched CH_N. -/
def execTecSettled (c : Fin 4) (temp : Int) (cur : Nat) (s : State) : Host.Outcome State Fault Refusal :=
  run (carEv c.val (tecSettled c.val temp cur)) s

/-- TUNING_DONE (R68): The tuning sections are set and the laser enters LOCKING with its wavelength locker. -/
def execTuningDone (c : Fin 4) (err : Int) (s : State) : Host.Outcome State Fault Refusal :=
run (carEv c.val (fun s => seqs [tuningDone c.val err, cdGridChange c.val (s.fg (ob c.val) OPT.LASER_CUR_CH_N)]
    s)) s

/-- LASER_LOCKED (R68): The locker error has stayed within ±150 MHz for 1 ms; the laser enters LOCKED, opens the SOA
or serves a queued tune. -/
def execLaserLocked (c : Fin 4) (err : Int) (s : State) : Host.Outcome State Fault Refusal :=
  run (carEv c.val (laserLocked c.val err)) s

/-- LOCK_ATTEMPT_TIMEOUT (R68): No lock within 20 ms sends the laser back to TUNING on the first attempt and to FAULT
on the second. -/
def execLockAttemptTimeout (c : Fin 4) (s : State) : Host.Outcome State Fault Refusal :=
  run (carEv c.val (lockTimeout c.val)) s

/-- LASER_UNLOCK (R68): The locker error passes OFF_GRID in LOCKED; the SOA shuts within 10 µs and the laser enters
HOLD. -/
def execLaserUnlock (c : Fin 4) (err : Int) (s : State) : Host.Outcome State Fault Refusal :=
  run (carEv c.val (laserUnlock c.val err)) s

/-- HOLD_TIMEOUT (R68): The laser has not relocked within 100 ms of entering HOLD and enters FAULT. -/
def execHoldTimeout (c : Fin 4) (s : State) : Host.Outcome State Fault Refusal :=
  run (carEv c.val (holdTimeout c.val)) s

/-- TX_AT_TARGET (R73): The SOA ramp brings the power within 0.2 dB of TX_PWR_SET. -/
def execTxAtTarget (c : Fin 4) (dbm : Int) (s : State) : Host.Outcome State Fault Refusal :=
  run (carEv c.val (txAtTarget c.val dbm)) s

/-- BIAS_LOOP_LOCKED (R71): A modulator bias loop converges and sets its MZM_STAT.LOCKED bit. -/
def execBiasLoopLocked (c : Fin 4) (loop : Fin 6) (s : State) : Host.Outcome State Fault Refusal :=
  run (carEv c.val (biasLocked c.val loop.val)) s

/-- MZM_UNLOCK (R71): A bias loop that had lock loses it and raises MZM_UNLOCK while the SOA stays open. -/
def execMzmUnlock (c : Fin 4) (loop : Fin 6) (s : State) : Host.Outcome State Fault Refusal :=
  run (carEv c.val (mzmUnlock c.val loop.val)) s

/-- FOLLOW_OK (R70): The follow offset has stayed within ±50 MHz for 1 ms; FOLLOW_OK sets and the SOA may open. -/
def execFollowOk (c : Fin 4) (fine : Int) (s : State) : Host.Outcome State Fault Refusal :=
  run (carEv c.val (followOk c.val fine)) s

/-- FOLLOW_LOST (R70): The follow offset exceeds ±200 MHz or the fine range is exhausted; FOLLOW_OK clears and the SOA
shuts. -/
def execFollowLost (c : Fin 4) (fine : Int) (s : State) : Host.Outcome State Fault Refusal :=
  run (carEv c.val (followLost c.val fine)) s

/-- RX_POWER_UPDATE (R76): The receive power monitors update every 10 µs and set or clear LOS_RAW and OVERLOAD. -/
def execRxPowerUpdate (c : Fin 4) (x : Int) (y : Int) (total : Int) (gain : Nat) (s : State) :
    Host.Outcome State Fault Refusal :=
  run (carEv c.val (seqs [rxPower c.val x y total gain, rxfLos c.val])) s

/-- FG_CAL_GO (R81): FG_CAL_GO starts foreground calibration with the SOA shut, or is refused with FG_TX_ON. -/
def execFgCalGo (src : Requester) (c : Fin 4) (v : Word) (s : State) : Host.Outcome State Fault Refusal :=
  run (regCmd src (nb c.val) CNV.CNV_CTL (setF v CNV.CNV_CTL_FG_CAL_GO 1)) s

/-- FG_CAL_DONE (R81): Foreground calibration ends with FG_DONE or with FG_FAIL and FAIL_MAP. -/
def execFgCalDone (c : Fin 4) (fail : Nat) (die : Int) (trims : List Word) (s : State) :
    Host.Outcome State Fault Refusal :=
  run (carEv c.val (fgCalDone c.val fail die trims)) s

/-- BG_CAL_UPDATE (R82): Background calibration moves each trim by at most one step and increments BG_CAL_CNT. -/
def execBgCalUpdate (c : Fin 4) (die : Int) (moves : List (Nat × Nat × Nat × Bool)) (s : State) :
    Host.Outcome State Fault Refusal :=
  run (carEv c.val (bgUpdate c.val die moves)) s

/-- STORE_GO (R84): STORE_GO starts writing the trims in use as the stored calibration record through cluster 7. -/
def execStoreGo (src : Requester) (c : Fin 4) (v : Word) (s : State) : Host.Outcome State Fault Refusal :=
  run (regCmd src (nb c.val) CNV.CNV_CTL (setF v CNV.CNV_CTL_STORE_GO 1)) s

/-- STORE_DONE (R84): The calibration record is written and STORED_VALID set, or the write fails with STORE_FAIL. -/
def execStoreDone (c : Fin 4) (ok : Bool) (s : State) : Host.Outcome State Fault Refusal :=
  run (carEv c.val (storeDone c.val ok)) s

/-- LOAD_STORED (R84): LOAD_STORED loads the stored record into the trims, or is refused with NO_STORED. -/
def execLoadStored (src : Requester) (c : Fin 4) (v : Word) (s : State) : Host.Outcome State Fault Refusal :=
  run (regCmd src (nb c.val) CNV.CNV_CTL (setF v CNV.CNV_CTL_LOAD_STORED 1)) s

/-- CHECK_GO (R85): CHECK_GO starts the converter calibration check against the calibration tone. -/
def execCheckGo (src : Requester) (c : Fin 4) (v : Word) (s : State) : Host.Outcome State Fault Refusal :=
  run (regCmd src (nb c.val) CNV.CNV_CTL (setF v CNV.CNV_CTL_CHECK_GO 1)) s

/-- CHECK_DONE (R85): The calibration check reports the worst ENOB and sets CHECK_FAIL if a limit is missed. -/
def execCheckDone (c : Fin 4) (enob : List Nat) (s : State) : Host.Outcome State Fault Refusal :=
  run (carEv c.val (checkDone c.val enob)) s

/-- CAP_GO (R86): CAP_GO starts a raw sample capture, or is refused with NO_SCOPE outside a raw-converter session. -/
def execCapGo (src : Requester) (c : Fin 4) (v : Word) (s : State) : Host.Outcome State Fault Refusal :=
  run (regCmd src (nb c.val) CNV.CAP_CTL (setF v CNV.CAP_CTL_CAP_GO 1)) s

/-- CAP_DONE (R86): The capture of 65,536 samples completes and CAP_DONE is raised. -/
def execCapDone (c : Fin 4) (samples : List Word) (s : State) : Host.Outcome State Fault Refusal :=
  run (carEv c.val (capDone c.val samples)) s

/-- CLK_UNLOCK (R80): The converter sample-clock synthesiser loses lock; CLK_UNLOCK is raised and the SOA shuts until
lock returns. -/
def execClkUnlock (c : Fin 4) (s : State) : Host.Outcome State Fault Refusal :=
  run (carEv c.val (clkUnlock c.val)) s

/-- CLK_RELOCK (R80): The converter sample-clock synthesiser regains lock and the SOA may reopen. -/
def execClkRelock (c : Fin 4) (s : State) : Host.Outcome State Fault Refusal :=
  run (carEv c.val (clkRelock c.val)) s

end Sys2Proof.Machine
end

