-- ==== Sys2Proof/Machine/ExecPkt.lean ====
section
/-!
DEFINITION. Machine/ExecPkt.lean: the meanings of the commands of classification and queues (chapter 14), one
definition a command, in the order of the table.
-/

namespace Sys2Proof.Machine

/-- FRAME_INGRESS (R343): A frame from a MAP = 0 port is parsed, looked up and forwarded, dropped or sent to the slow
path. -/
def execFrameIngress (p : Fin 48) (bytes : List Byte) (fcsOk : Bool) (ddrOk : Bool) (s : State) :
    Host.Outcome State Fault Refusal :=
  run (ev (frameIngress p.val bytes fcsOk ddrOk)) s

/-- TS_POP (R333): A read of TS_POP pops the oldest egress timestamp and latches its time registers. -/
def execTsPop (src : Requester) (p : Fin 48) (s : State) : Host.Outcome State Fault Refusal :=
  run (regRd src (etb p.val + ETH.TS_POP)) s

/-- CLS_PROFILE_WRITE (R342): A key profile write is accepted, or refused with PROF_LONG or PROF_LIVE. -/
def execClsProfileWrite (src : Requester) (f : Fin 8) (w : Fin 2) (v : Word) (s : State) :
    Host.Outcome State Fault Refusal :=
  run (winCmd src clb 0 f.val w.val v) s

/-- ENTRY_PUBLISH (R346): Setting VALID of an exact or ternary entry checks and publishes it whole, or refuses it with
HASH_MISMATCH or DUP_KEY. -/
def execEntryPublish (src : Requester) (tern : Bool) (e : Nat) (v : Word) (s : State) :
    Host.Outcome State Fault Refusal :=
  run (winCmd src clb (if tern then 2 else 1) e 0 (v ||| 1)) s

/-- ACTION_REWRITE (R346): Word 11 of a valid entry is rewritten in one write and seen whole by later lookups. -/
def execActionRewrite (src : Requester) (tern : Bool) (e : Nat) (v : Word) (s : State) :
    Host.Outcome State Fault Refusal :=
  run (winCmd src clb (if tern then 2 else 1) e 11 v) s

/-- SLOW_PATH_RETURN (R348): Cluster 6 returns a slow-path frame with an action word, and it is forwarded or dropped.
-/
def execSlowPathReturn (id : Nat) (v : Word) (ddrOk : Bool) (s : State) : Host.Outcome State Fault Refusal :=
  run (ev (slowReturn id v ddrOk)) s

/-- PUNT_POP (R348): PUNT_POP discards the head frame of the punt queue. -/
def execPuntPop (src : Requester) (s : State) : Host.Outcome State Fault Refusal :=
  run (regCmd src clb CLS.PUNT_POP 1) s

/-- PACKET_ADMIT (R350): A packet is admitted to its queue on die or in DDR, or dropped with DROP_OFF, DROP_TAIL or
DROP_NOBUF. -/
def execPacketAdmit (q : Nat) (bytes : List Byte) (ddrOk : Bool) (s : State) : Host.Outcome State Fault Refusal :=
  run (ev (takePacket q { bytes := bytes } ddrOk)) s

/-- SCHEDULER_DECISION (R352): A set's scheduler picks the next class by strict priority and DRR within its shaper, or
sends idle records. -/
def execSchedulerDecision (g : Nat) (s : State) : Host.Outcome State Fault Refusal :=
  run (ev (schedDecide g)) s

/-- RECORD_RECEIVED (R354): A record found in a received stream delivers its packet to its queue, or a hunt or abort
follows. -/
def execRecordReceived (g : Nat) (bytes : List Byte) (errored : Bool) (next : Bool) (ddrOk : Bool) (s : State) :
    Host.Outcome State Fault Refusal :=
  run (ev (recordReceived g bytes errored next ddrOk)) s

/-- FLUSH (R357): FLUSH.GO discards every packet of the named set. -/
def execFlush (src : Requester) (v : Word) (s : State) : Host.Outcome State Fault Refusal :=
  run (regCmd src qmb QMG.FLUSH (setF v QMG.FLUSH_GO 1)) s

end Sys2Proof.Machine
end

