-- ==== Sys2Proof/Machine/ExecPwr.lean ====
section
/-!
DEFINITION. Machine/ExecPwr.lean: the meanings of the commands of power (chapter 20), one definition a command, in the
order of the table.
-/

namespace Sys2Proof.Machine

/-- PD_REQ (R467): A write of PD_REQ requests a domain state, which is served, held, queued or refused. -/
def execPdReq (src : Requester) (v : Word) (s : State) : Host.Outcome State Fault Refusal :=
  run (regCmd src pwb PWR.PD_REQ v) s

/-- QUIESCE_DONE (R471): Every transfer in flight has completed and the domain's entry to RET or OFF proceeds. -/
def execQuiesceDone (d : Fin 80) (s : State) : Host.Outcome State Fault Refusal :=
  run (ev (quiesceDone d.val)) s

/-- QUIESCE_TIMEOUT (R471): A transfer is still in flight at QUIESCE_TO; the entry is aborted with TRANSFER_BUSY. -/
def execQuiesceTimeout (d : Fin 80) (blocker : Byte) (s : State) : Host.Outcome State Fault Refusal :=
  run (ev (quiesceTimeout d.val blocker.toNat)) s

/-- PD_TRANSITION_DONE (R472): A domain transition completes; held and queued requests are served and NCAR and supply
may change. -/
def execPdTransitionDone (d : Fin 80) (s : State) : Host.Outcome State Fault Refusal :=
  run (ev (pdDone d.val)) s

/-- AVS_ATTEMPT_END (R473): An AVSBus attempt succeeds or fails, completing the operation or starting the next
attempt. -/
def execAvsAttemptEnd (ack : Option Nat) (s : State) : Host.Outcome State Fault Refusal :=
  run (ev (avsAttemptEnd ack)) s

/-- SLEEP (R475): WAKE_CMD with SLEEP enters wake-only, or is refused with SLEEP_REFUSED. -/
def execSleep (src : Requester) (v : Word) (s : State) : Host.Outcome State Fault Refusal :=
  run (regCmd src pwb PWR.WAKE_CMD (setF v PWR.WAKE_CMD_SLEEP 1)) s

/-- WAKE (R476): WAKE_CMD with WAKE over I²C ends wake-only and starts the module. -/
def execWake (src : Requester) (v : Word) (s : State) : Host.Outcome State Fault Refusal :=
  run (regCmd src pwb PWR.WAKE_CMD (setF v PWR.WAKE_CMD_WAKE 1)) s

/-- WAKE_N (R476): WAKE_N held low for 10 µs ends wake-only and starts the module. -/
def execWakeN (s : State) : Host.Outcome State Fault Refusal :=
  run (wakePin) s

/-- THERMAL (R508): PWR_TEMP reaches THERM_LIM; THERMAL_HIGH is raised and a DEGRADED error reported. -/
def execThermal (deg : Int) (s : State) : Host.Outcome State Fault Refusal :=
  run (ev (thermal deg)) s

end Sys2Proof.Machine
end

