-- ==== Sys2Proof/Machine/ExecRxf.lean ====
section
/-!
DEFINITION. Machine/ExecRxf.lean: the meanings of the commands of dispersion equalisers and acquisition (chapter 5),
one definition a command, in the order of the table.
-/

namespace Sys2Proof.Machine

/-- CD_BANK_WRITE (R119): A write of RXFc BANKb_CD starts the bank's computation, or is refused with BANK_BUSY,
ACQ_BUSY, TRACK_ON or CD_RANGE. -/
def execCdBankWrite (src : Requester) (c : Fin 4) (b : Fin 2) (v : Word) (s : State) :
    Host.Outcome State Fault Refusal :=
  run (regCmd src (rb c.val) (RXF.BANK0_CD + 4 * b.val) v) s

/-- CD_BANK_READY (R119): A bank's coefficient computation ends, READY sets, and a request waiting for it is served.
-/
def execCdBankReady (c : Fin 4) (b : Fin 2) (s : State) : Host.Outcome State Fault Refusal :=
  run (carEv c.val (cdBankReady c.val b.val)) s

/-- RXF_SWAP_REQ (R121): A write of RXFc SWAP_REQ swaps the bank, waits, or is refused with ACQ_BUSY or SWAP_LIVE. -/
def execRxfSwapReq (src : Requester) (c : Fin 4) (v : Word) (s : State) : Host.Outcome State Fault Refusal :=
  run (regCmd src (rb c.val) RXF.SWAP_REQ v) s

/-- CD_BLOCK_BOUNDARY (R553): An equaliser block boundary arrives, at which a hard swap takes effect or a fade starts.
-/
def execCdBlockBoundary (c : Fin 4) (s : State) : Host.Outcome State Fault Refusal :=
  run (carEv c.val (cdBoundary c.val)) s

/-- CD_FADE_END (R122): An equaliser cross-fade completes; a waiting request is served and a deferred LOAD_MODE takes
effect. -/
def execCdFadeEnd (c : Fin 4) (s : State) : Host.Outcome State Fault Refusal :=
  run (carEv c.val (cdFadeEnd c.val)) s

/-- SCAN_GO (R127): CD_CTL.SCAN_GO starts a dispersion scan, or is refused with SCAN_BUSY. -/
def execScanGo (src : Requester) (c : Fin 4) (v : Word) (s : State) : Host.Outcome State Fault Refusal :=
  run (regCmd src (rb c.val) RXF.CD_CTL (setF v RXF.CD_CTL_SCAN_GO 1)) s

/-- SCAN_DONE (R126): A scan ends with CD_EST and CONF, and a successful result may be loaded into the inactive bank.
-/
def execScanDone (c : Fin 4) (est : Int) (conf : Nat) (s : State) : Host.Outcome State Fault Refusal :=
  run (carEv c.val (scanDone c.val est conf)) s

/-- RX_RUN_WRITE (R128): A write of RXF_CTL.RX_RUN starts acquisition in WAIT, or returns it to IDLE with the
equaliser muted. -/
def execRxRunWrite (src : Requester) (c : Fin 4) (v : Word) (s : State) : Host.Outcome State Fault Refusal :=
  run (regCmd src (rb c.val) RXF.RXF_CTL v) s

/-- ACQ_TRY_START (R128): LOS_RAW has been 0 for 10 µs and 10 ms have passed since the last ACQ_FAIL, so acquisition
tries the active bank. -/
def execAcqTryStart (c : Fin 4) (s : State) : Host.Outcome State Fault Refusal :=
  run (carEv c.val (acqTryStart c.val)) s

/-- ACQ_TRIAL_DONE (R128): A bank trial ends accepted or rejected, and acquisition moves to TIMING, TRY_ALT, SCAN or
WAIT. -/
def execAcqTrialDone (c : Fin 4) (best : Int) (conf : Nat) (s : State) : Host.Outcome State Fault Refusal :=
  run (carEv c.val (acqTrialDone c.val best conf)) s

/-- TR_LOCK (R132): The timing loop meets its lock condition for 10 µs, and acquisition enters RUN with ACQ_DONE. -/
def execTrLock (c : Fin 4) (ppm : Int) (s : State) : Host.Outcome State Fault Refusal :=
  run (carEv c.val (trLock c.val ppm)) s

/-- TIMING_TIMEOUT (R128): No TR_LOCK within the TIMING limit sends acquisition to WAIT with ACQ_FAIL. -/
def execTimingTimeout (c : Fin 4) (s : State) : Host.Outcome State Fault Refusal :=
  run (carEv c.val (timingTimeout c.val)) s

/-- TR_LOCK_LOST (R128): The timing error exceeds 0.15 UI rms for 10 µs in RUN, and acquisition returns to TRY_ACTIVE.
-/
def execTrLockLost (c : Fin 4) (s : State) : Host.Outcome State Fault Refusal :=
  run (carEv c.val (trLockLost c.val)) s

/-- TR_SLIP (R134): The interpolator steps by one whole output sample; TR_SLIP_CNT counts it. -/
def execTrSlip (c : Fin 4) (s : State) : Host.Outcome State Fault Refusal :=
  run (carEv c.val (trSlip c.val)) s

/-- CD_MON_UPDATE (R129): CD_RESID and CD_MON update every 10 µs in RUN. -/
def execCdMonUpdate (c : Fin 4) (resid : Int) (ppm : Int) (s : State) : Host.Outcome State Fault Refusal :=
  run (carEv c.val (cdMonUpdate c.val resid ppm)) s

/-- TRACK_EVENT (R130): The residual dispersion has exceeded THR for HOLD; TRACK_EVENT is raised and tracking
retargets the inactive bank. -/
def execTrackEvent (c : Fin 4) (s : State) : Host.Outcome State Fault Refusal :=
  run (carEv c.val (trackEvent c.val)) s

end Sys2Proof.Machine
end

