-- ==== Sys2Proof/Machine/ExecRxm.lean ====
section
/-!
DEFINITION. Machine/ExecRxm.lean: the meanings of the commands of equalised streams (chapter 6), one definition a
command, in the order of the table.
-/

namespace Sys2Proof.Machine

/-- RXM_RUN_WRITE (R151): A write of RXM_CTL.RUN starts the receiver state machine or returns it to IDLE with taps
cleared. -/
def execRxmRunWrite (src : Requester) (c : Fin 4) (v : Word) (s : State) : Host.Outcome State Fault Refusal :=
  run (regCmd src (mb c.val) RXM.RXM_CTL v) s

/-- COARSE_FREQ_DONE (R149): The coarse frequency estimate brings the offset within ±50 MHz, and the receiver enters
BLIND with anchor taps. -/
def execCoarseFreqDone (c : Fin 4) (sc : Option (Fin 64)) (mhz : Int) (s : State) :
    Host.Outcome State Fault Refusal :=
  run (carEv c.val (coarseDone (strmOf c sc) mhz)) s

/-- BLIND_CONVERGED (R151): Blind adaptation converges and the receiver enters CONVERGE. -/
def execBlindConverged (c : Fin 4) (sc : Option (Fin 64)) (s : State) : Host.Outcome State Fault Refusal :=
  run (carEv c.val (blindConverged (strmOf c sc))) s

/-- MIMO_FAIL (R151): BLIND does not converge or RECOVER does not end within 200 µs, and the receiver returns to
START. -/
def execMimoFail (c : Fin 4) (sc : Option (Fin 64)) (s : State) : Host.Outcome State Fault Refusal :=
  run (carEv c.val (mimoFail (strmOf c sc))) s

/-- TRACK_SNR_LOSS (R151): The pilot SNR has stayed below threshold plus LOST_OFS for 20 µs in TRACK, and the receiver
enters RECOVER. -/
def execTrackSnrLoss (c : Fin 4) (sc : Option (Fin 64)) (snr : Int) (s : State) : Host.Outcome State Fault Refusal :=
  run (carEv c.val (snrLoss (strmOf c sc) snr)) s

/-- RECOVER_DONE (R151): The pilot SNR has reached threshold plus OFS for 2 µs in RECOVER, and the receiver returns to
TRACK. -/
def execRecoverDone (c : Fin 4) (sc : Option (Fin 64)) (snr : Int) (s : State) : Host.Outcome State Fault Refusal :=
  run (carEv c.val (recoverDone (strmOf c sc) snr)) s

/-- FREEZE_EXIT (R151): RXF returns to RUN and the frozen receiver continues in CONVERGE or restarts in START per
FREEZE_MAX. -/
def execFreezeExit (c : Fin 4) (sc : Option (Fin 64)) (s : State) : Host.Outcome State Fault Refusal :=
  run (carEv c.val (freezeExit (strmOf c sc))) s

/-- ADAPTATION_BLOCK (R140): Each 256-symbol block updates the MIMO taps from pilots, and from decisions while its
quality gate is open. -/
def execAdaptationBlock (c : Fin 4) (sc : Option (Fin 64)) (snr : Int) (slip : Bool) (adapted : List Word) (s : State) :
    Host.Outcome State Fault Refusal :=
  run (carEv c.val (adaptBlock (strmOf c sc) snr slip adapted)) s

/-- LEAK_START (R142): The gate has stayed closed for longer than IDLE and the stream starts leaking towards the
anchor bank. -/
def execLeakStart (c : Fin 4) (sc : Option (Fin 64)) (s : State) : Host.Outcome State Fault Refusal :=
  run (carEv c.val (leakStart (strmOf c sc))) s

/-- ROTATION_UPDATE (R143): The rotation tracker updates its rotation every 32 symbols and reports the rotation rate.
-/
def execRotationUpdate (c : Fin 4) (rate : Nat) (phase : Nat) (supp : Nat) (harm : List Word) (s : State) :
    Host.Outcome State Fault Refusal :=
  run (carEv c.val (rotUpdate c.val rate phase supp harm)) s

/-- ROT_STAT_READ (R145): A read of ROT_STAT returns PEAK and resets it to the current RATE. -/
def execRotStatRead (src : Requester) (c : Fin 4) (s : State) : Host.Outcome State Fault Refusal :=
  run (regRd src (mb c.val + RXM.ROT_STAT)) s

/-- HP_ENABLE_WRITE (R147): A write of HP_CFG.EN moves the predictor to SEARCH or to OFF with coefficients cleared. -/
def execHpEnableWrite (src : Requester) (c : Fin 4) (v : Word) (s : State) : Host.Outcome State Fault Refusal :=
  run (regCmd src (mb c.val) RXM.HP_CFG v) s

/-- HP_SEARCH_DONE (R147): After 1 s of tracker rotation the predictor locks a frequency loop on a line in 45–65 Hz or
searches again. -/
def execHpSearchDone (c : Fin 4) (freq : Nat) (amp : Nat) (s : State) : Host.Outcome State Fault Refusal :=
  run (carEv c.val (hpSearchDone c.val freq amp)) s

/-- HP_LOCK (R147): The fundamental has stayed within ±0.02 Hz for 2 s, and the predictor enters LOCKED and applies
correction. -/
def execHpLock (c : Fin 4) (freq : Nat) (amp : Nat) (s : State) : Host.Outcome State Fault Refusal :=
  run (carEv c.val (hpLock c.val freq amp)) s

/-- HP_LOCKING_TIMEOUT (R147): LOCKING has not met its condition within 10 s, and the predictor returns to SEARCH. -/
def execHpLockingTimeout (c : Fin 4) (s : State) : Host.Outcome State Fault Refusal :=
  run (carEv c.val (hpLockingTimeout c.val)) s

/-- HP_UNLOCK (R147): The fundamental has stayed below MIN_AMP/2 for 1 s, and the predictor enters HOLD. -/
def execHpUnlock (c : Fin 4) (amp : Nat) (s : State) : Host.Outcome State Fault Refusal :=
  run (carEv c.val (hpUnlock c.val amp)) s

/-- HP_HOLD_TIMEOUT (R147): HOLD_MAX seconds pass in HOLD, and the predictor returns to SEARCH with coefficients
cleared. -/
def execHpHoldTimeout (c : Fin 4) (s : State) : Host.Outcome State Fault Refusal :=
  run (carEv c.val (hpHoldTimeout c.val)) s

/-- HP_ADAPT_RESUME (R148): The rotation rate has stayed below ROT_THR for 10 ms, and predictor adaptation resumes. -/
def execHpAdaptResume (c : Fin 4) (s : State) : Host.Outcome State Fault Refusal :=
  run (carEv c.val (hpResume c.val)) s

/-- CPR_SLIP (R150): A blind phase search slip is detected at a pilot and corrected from there onwards. -/
def execCprSlip (c : Fin 4) (sc : Option (Fin 64)) (s : State) : Host.Outcome State Fault Refusal :=
  run (carEv c.val (cprSlip (strmOf c sc))) s

/-- RXM_SWAP_REQ (R152): A write of RXMc SWAP_REQ swaps the anchor bank, starts a fade, queues the request, or refuses
it. -/
def execRxmSwapReq (src : Requester) (c : Fin 4) (v : Word) (s : State) : Host.Outcome State Fault Refusal :=
  run (regCmd src (mb c.val) RXM.SWAP_REQ v) s

/-- ANCHOR_FADE_END (R152): An anchor cross-fade completes and a queued swap is served. -/
def execAnchorFadeEnd (c : Fin 4) (sc : Option (Fin 64)) (s : State) : Host.Outcome State Fault Refusal :=
  run (carEv c.val (anchorFadeEnd (strmOf c sc))) s

/-- ANCHOR_SAVE (R154): ANCHOR_CTL.SAVE copies the live taps into the inactive anchor bank, or is refused with
NOT_TRACK or BANK_BUSY. -/
def execAnchorSave (src : Requester) (c : Fin 4) (v : Word) (s : State) : Host.Outcome State Fault Refusal :=
  run (regCmd src (mb c.val) RXM.ANCHOR_CTL (setF v RXM.ANCHOR_CTL_SAVE 1)) s

/-- QUALITY_UPDATE (R156): Each 1 ms the receiver computes SNR, EVM, pre-FEC BER, GMI and margin, and SD_RAW and
EXC_RAW are evaluated. -/
def execQualityUpdate (c : Fin 4) (sc : Option (Fin 64)) (q : Quality) (s : State) :
    Host.Outcome State Fault Refusal :=
  run (carEv c.val (seqs [qualityUpdate (strmOf c sc) q, fecQuality (strmOf c sc) q.margin1])) s

/-- QUALITY_READ (R157): A read of Q_SNR or Q_BER returns the worst 1 ms value and resets it. -/
def execQualityRead (src : Requester) (c : Fin 4) (sc : Option (Fin 64)) (ber : Bool) (s : State) :
    Host.Outcome State Fault Refusal :=
  run (regRd src ((strmOf c sc).b + if ber then (strmOf c sc).oBER else (strmOf c sc).oSNR)) s

end Sys2Proof.Machine
end

