-- ==== Sys2Proof/Machine/ExecSns.lean ====
section
/-!
DEFINITION. Machine/ExecSns.lean: the meanings of the commands of line sensing (chapter 15), one definition a command,
in the order of the table.
-/

namespace Sys2Proof.Machine

/-- SENSING_SAMPLE (R367): A preset outputs a decimated sample that is archived and passed to the detectors that watch
it. -/
def execSensingSample (c : Fin 4) (ch : Fin 16) (p : Fin 4) (x : BitVec 16) (s : State) :
    Host.Outcome State Fault Refusal :=
  run (ev (sensingSample c.val ch.val p.val x)) s

/-- RECORD_WRITE (R369): A stream's open record is full and is written into the archive ring. -/
def execRecordWrite (n : Byte) (s : State) : Host.Outcome State Fault Refusal :=
  run (ev (recordWrite n.toNat)) s

/-- RECORD_FLUSH_TIMEOUT (R369): A record has been open for FLUSH_CFG.MS and is written PARTIAL. -/
def execRecordFlushTimeout (n : Byte) (s : State) : Host.Outcome State Fault Refusal :=
  run (ev (recordFlush n.toNat)) s

/-- FREEZE_CLOSE (R373): An open freeze closes at its end time plus group delay, or at once when the archive stops or
free space falls below MIN_FREE. -/
def execFreezeClose (s : State) : Host.Outcome State Fault Refusal :=
  run (ev freezeClose) s

/-- FRZ_MANUAL (R372): FRZ_CMD.MANUAL requests a freeze with FRZ_MAN's PRE and POST. -/
def execFrzManual (src : Requester) (s : State) : Host.Outcome State Fault Refusal :=
  run (regCmd src ssb SNS.FRZ_CMD 0x200) s

/-- FRZ_RELEASE (R375): FRZ_CMD.RELEASE frees a closed freeze, or is refused with FRZ_STATE. -/
def execFrzRelease (src : Requester) (n : Fin 16) (s : State) : Host.Outcome State Fault Refusal :=
  run (regCmd src ssb SNS.FRZ_CMD (BitVec.ofNat 32 (0x100 + n.val))) s

/-- ARCH_EN_WRITE (R369): A write of SNS_CTL.ARCH_EN starts or stops the archive writer, or is refused with NO_REGION.
-/
def execArchEnWrite (src : Requester) (v : Word) (s : State) : Host.Outcome State Fault Refusal :=
  run (regCmd src ssb SNS.SNS_CTL v) s

/-- RD_REC_WRITE (R376): A write of RD_REC starts copying an archive record into the read buffer, or is refused with
RD_RANGE. -/
def execRdRecWrite (src : Requester) (v : Word) (s : State) : Host.Outcome State Fault Refusal :=
  run (regCmd src ssb SNS.RD_REC v) s

/-- RD_READY (R376): The record copy completes within 10 µs with its FROZEN, EMPTY and BAD_CRC flags. -/
def execRdReady (bad : Bool) (s : State) : Host.Outcome State Fault Refusal :=
  run (ev (rdReady bad)) s

/-- SEEK_GO (R376): SEEK_CMD.GO starts a search for the latest record of a stream at or before the seek time. -/
def execSeekGo (src : Requester) (v : Word) (s : State) : Host.Outcome State Fault Refusal :=
  run (regCmd src ssb SNS.SEEK_CMD (setF v SNS.SEEK_CMD_GO 1)) s

/-- SEEK_DONE (R376): The seek ends with SEEK_RES or NOT_FOUND. -/
def execSeekDone (s : State) : Host.Outcome State Fault Refusal :=
  run (ev seekDone) s

/-- SNS_SWAP_REQ (R365): A write of SNS SWAP_REQ swaps the coefficient bank, starts a fade, queues the request, or
refuses it. -/
def execSnsSwapReq (src : Requester) (v : Word) (s : State) : Host.Outcome State Fault Refusal :=
  run (regCmd src ssb SNS.SWAP_REQ v) s

/-- SNS_FADE_END (R365): Every preset has completed its blend, the fade ends and a queued request is served. -/
def execSnsFadeEnd (s : State) : Host.Outcome State Fault Refusal :=
  run (ev snsFadeEnd) s

end Sys2Proof.Machine
end

