-- ==== Sys2Proof/Machine/ExecSuit.lean ====
section
/-!
DEFINITION. Machine/ExecSuit.lean: the meanings of the commands of suits and protection (chapter 9), one definition a
command, in the order of the table.
-/

namespace Sys2Proof.Machine

/-- SUIT_RECORD_RECEIVED (R220): A suit record message received on two consecutive multiframes drives the resize and
failure protocol. -/
def execSuitRecordReceived (c : Fin 4) (r : SuitRecord) (s : State) : Host.Outcome State Fault Refusal :=
  run (suitEv (suitRecordRx c.val r)) s

/-- TMF_RECEIVED (R221): A member's TMF is written into the deskew store by SSN and its skew measured. -/
def execTmfReceived (n : Fin 256) (k : Fin 16) (ssn : Word) (s : State) : Host.Outcome State Fault Refusal :=
  run (suitEv (tmfReceived n.val k.val ssn.toNat)) s

/-- SUIT_FRAME_READOUT (R222): At its read-out time a suit frame is delivered, merged from the protection pair, or
marked errored. -/
def execSuitFrameReadout (n : Fin 256) (fa : FrameCopy) (fb : FrameCopy) (s : State) :
    Host.Outcome State Fault Refusal :=
  run (suitEv (frameReadout n.val fa fb)) s

/-- SUIT_ENABLE (R237): Setting EN of a suit entry activates its enabled members, or is refused with SOURCE_BUSY. -/
def execSuitEnable (src : Requester) (n : Fin 256) (v : Word) (s : State) : Host.Outcome State Fault Refusal :=
  run (winCmd src sub' 0 n.val 0 (v ||| 1)) s

/-- MEMBER_WRITE (R215): A member table write is accepted, or refused with TS_OVERLAP or MEMBER_ACTIVE. -/
def execMemberWrite (src : Requester) (e : Fin 4096) (v : Word) (s : State) : Host.Outcome State Fault Refusal :=
  run (winCmd src sub' 1 e.val 0 v) s

/-- NO_READY (R225): The SSN reaches S − 8 without READY and the resize goes to ABORTING. -/
def execNoReady (n : Fin 256) (s : State) : Host.Outcome State Fault Refusal :=
  run (suitEv (noReady n.val)) s

/-- RESIZE_DONE (R225): The SSN reaches S in COMMIT and the new map is used from TMF S. -/
def execResizeDone (n : Fin 256) (s : State) : Host.Outcome State Fault Refusal :=
  run (suitEv (resizeDone n.val)) s

/-- RESIZE_ABORT_END (R225): The SSN passes S in ABORTING, the old map is kept and RESIZE_FAIL is raised. -/
def execResizeAbortEnd (n : Fin 256) (s : State) : Host.Outcome State Fault Refusal :=
  run (suitEv (abortEnd n.val)) s

/-- MEMBER_DROP (R229): On a member failure the transmitter sends COMMIT with the drop map and enters DROP, or records
LOA. -/
def execMemberDrop (n : Fin 256) (s : State) : Host.Outcome State Fault Refusal :=
  run (suitEv (dropTry n.val)) s

/-- DROP_DONE (R225): The SSN reaches the drop's S and the drop map is used. -/
def execDropDone (n : Fin 256) (s : State) : Host.Outcome State Fault Refusal :=
  run (suitEv (dropDone n.val)) s

/-- PAIR_ENABLE (R234): Enabling a protection pair or deskew delay line is checked against budget and length, or
refused. -/
def execPairEnable (src : Requester) (p : Fin 128) (v : Word) (s : State) : Host.Outcome State Fault Refusal :=
  run (winCmd src tsb 0 p.val 0 (v ||| 1)) s

end Sys2Proof.Machine
end

