-- ==== Sys2Proof/Machine/ExecTime.lean ====
section
/-!
DEFINITION. Machine/ExecTime.lean: the meanings of the commands of device time and deals (chapter 2), one definition a
command, in the order of the table.
-/

namespace Sys2Proof.Machine

/-- NOW_LO_READ (R34): A read of TIME.NOW_LO latches NOW_HI and NOW_FRAC of the same instant. -/
def execNowLoRead (src : Requester) (s : State) : Host.Outcome State Fault Refusal :=
  run (regRd src (tb + TIME.NOW_LO)) s

/-- STEP_GO (R35): A write of TIME.STEP_CMD.GO latches the step offset and starts a device-time step, or is refused
with STEP_BUSY. -/
def execStepGo (src : Requester) (s : State) : Host.Outcome State Fault Refusal :=
  run (regCmd src tb TIME.STEP_CMD 1) s

/-- STEP_DONE (R36): The step takes effect in all islands at one instant, runs any ARMED deals it passed with STEPPED
set, and closes open archive records. -/
def execStepDone (s : State) : Host.Outcome State Fault Refusal :=
  run (ev stepDone) s

/-- CAR_MF_NUM_READ (R39): A read of TIME.CARc_MF_NUM latches the multiframe number most recently started and its
device time. -/
def execCarMfNumRead (src : Requester) (c : Fin 4) (s : State) : Host.Outcome State Fault Refusal :=
  run (regRd src (tb + TIME.CAR_MF_NUM c.val)) s

/-- TX_MULTIFRAME_START (R39): A transmit multiframe starts on a carrier's timeline; marks are sent, and deals aligned
to it or in LATE execute. -/
def execTxMultiframeStart (c : Fin 4) (s : State) : Host.Outcome State Fault Refusal :=
  run (ev (txMultiframe c.val)) s

/-- TX_LINE_FRAME_START (R112): A transmit line frame starts, at which a run chain, a fade or a deal aligned to FRAME
takes effect. -/
def execTxLineFrameStart (c : Fin 4) (clips : Nat) (s : State) : Host.Outcome State Fault Refusal :=
  run (ev (txFrame c.val clips)) s

/-- DEAL_OPEN (R40): DEAL_CMD OPEN binds the selected ID to an entry in STAGING, or is refused with NO_SLOT,
DEAL_STATE or ID_RESERVED. -/
def execDealOpen (src : Requester) (s : State) : Host.Outcome State Fault Refusal :=
  run (regCmd src tb TIME.DEAL_CMD 1) s

/-- DEAL_ARM (R47): DEAL_CMD ARM runs the ordered checks and moves the deal to ARMED, LATE or REFUSED. -/
def execDealArm (src : Requester) (s : State) : Host.Outcome State Fault Refusal :=
  run (regCmd src tb TIME.DEAL_CMD 2) s

/-- DEAL_CANCEL (R47): DEAL_CMD CANCEL discards the deal's actions and moves it to CANCELLED with reason HOST_CANCEL.
-/
def execDealCancel (src : Requester) (s : State) : Host.Outcome State Fault Refusal :=
  run (regCmd src tb TIME.DEAL_CMD 3) s

/-- DEAL_RELEASE (R47): DEAL_CMD RELEASE frees an entry in DONE, REFUSED or CANCELLED. -/
def execDealRelease (src : Requester) (s : State) : Host.Outcome State Fault Refusal :=
  run (regCmd src tb TIME.DEAL_CMD 4) s

/-- CMD_CODE (R44): A write of CMD_CODE appends the block command formed from CMD_PAGE and CMD_ARG to the selected
deal. -/
def execCmdCode (src : Requester) (code : Byte) (s : State) : Host.Outcome State Fault Refusal :=
  run (regCmd src tb TIME.CMD_CODE (BitVec.zeroExtend 32 code)) s

/-- DEAL_EXECUTE (R50): A deal reaches its target and all its actions take effect together; actions on pages that are
not ON are dropped. -/
def execDealExecute (s : State) : Host.Outcome State Fault Refusal :=
  run (ev dealExecute) s

/-- MARK_RECEIVED (R56): A received deal mark binds a matching remote-triggered deal once MIN_MARKS agree, or raises
MARK_UNMATCHED. -/
def execMarkReceived (c : Fin 4) (tag : Byte) (n : Word) (left : Nat) (s : State) :
    Host.Outcome State Fault Refusal :=
  run (ev (markRx c.val tag.toNat n left)) s

/-- NO_MARK (R56): A remote-triggered deal still unbound when device time reaches its backstop is refused with
NO_MARK. -/
def execNoMark (id : Byte) (s : State) : Host.Outcome State Fault Refusal :=
  run (ev (noMark id.toNat)) s

/-- SWAP_BANK (R44): The block command SWAP_BANK requests the named coefficient or anchor bank active on RXF, TXD,
RXM, SNS or SCB. -/
def execSwapBank (page : BitVec 14) (arg : Word) (s : State) : Host.Outcome State Fault Refusal :=
  run (cmdEv (slotBase page) arg 1 []) s

/-- KEY_ROLL_TX (R300): The block command KEY_ROLL_TX moves a transmit association to its ARMED sibling key, or is
refused with NO_NEXT. -/
def execKeyRollTx (c : Fin 4) (arg : Word) (s : State) : Host.Outcome State Fault Refusal :=
  run (cmdEv (cb c.val) arg 2 []) s

/-- KEY_ROLL_RX (R301): The block command KEY_ROLL_RX makes a receive association's sibling key current, or is refused
with NO_NEXT. -/
def execKeyRollRx (c : Fin 4) (arg : Word) (s : State) : Host.Outcome State Fault Refusal :=
  run (cmdEv (cb c.val) arg 3 []) s

/-- SUIT_RESIZE (R224): The block command SUIT_RESIZE checks a resize plan and starts the member protocol, queues it,
or refuses it with PLAN_BAD. -/
def execSuitResize (arg : Word) (others : List Nat) (s : State) : Host.Outcome State Fault Refusal :=
  run (cmdEv sub' arg 4 others) s

/-- GRANT_MAP_SWAP (R261): The block command GRANT_MAP_SWAP makes the other grant-map bank active at the next round
boundary. -/
def execGrantMapSwap (arg : Word) (s : State) : Host.Outcome State Fault Refusal :=
  run (cmdEv hb arg 5 []) s

/-- PD_SET (R467): The block command PD_SET requests a state for a power domain after the deal's register actions. -/
def execPdSet (id : Byte) (args : List Word) (s : State) : Host.Outcome State Fault Refusal :=
  run (ev (pdWords srcNone 0 (some id.toNat) args [])) s

/-- CALL (R521): The block command CALL requests a call from the DEAL source. -/
def execCall (s : State) : Host.Outcome State Fault Refusal :=
  run (cmdEv snb 0 7 []) s

/-- PULSE_REALIGN (R396): The block command PULSE_REALIGN moves the next pulse of a REFOUT to its next target. -/
def execPulseRealign (arg : Word) (s : State) : Host.Outcome State Fault Refusal :=
  run (cmdEv dpb arg 8 []) s

/-- DEAL_PREPARE (R59): A stack member receives a stack deal, opens and stages it, and answers ACCEPT or REJECT. -/
def execDealPrepare (id : Byte) (time : BitVec 64) (num : Word) (cfg : Word) (acts : List StackAct) (s : State) :
    Host.Outcome State Fault Refusal :=
  run (ev (dealPrepare id.toNat time num cfg acts)) s

/-- DEAL_ACCEPT (R59): The dealer receives a member's ACCEPT and sends COMMIT once every member has accepted. -/
def execDealAccept (pos : Fin 4) (id : Byte) (s : State) : Host.Outcome State Fault Refusal :=
  run (ev (dealAccept pos.val id.toNat)) s

/-- DEAL_REJECT (R59): The dealer receives a REJECT, cancels the deal on every member and refuses its own copy with
STACK_REJECT. -/
def execDealReject (pos : Fin 4) (id : Byte) (_reason : Fin 16) (s : State) : Host.Outcome State Fault Refusal :=
  run (ev (dealReject pos.val id.toNat)) s

/-- DEAL_COMMIT (R59): A member receives COMMIT and applies ARM to the stack deal. -/
def execDealCommit (id : Byte) (s : State) : Host.Outcome State Fault Refusal :=
  run (ev (dealCommit id.toNat)) s

/-- DEAL_CANCEL_MSG (R59): A member receives DEAL_CANCEL and cancels the stack deal. -/
def execDealCancelMsg (id : Byte) (s : State) : Host.Outcome State Fault Refusal :=
  run (ev (dealCancelMsg id.toNat)) s

/-- PREPARE_TIMEOUT (R59): A member has not replied within 1 ms, and the dealer cancels the stack deal on every
member. -/
def execPrepareTimeout (id : Byte) (s : State) : Host.Outcome State Fault Refusal :=
  run (ev (prepTimeout id.toNat)) s

end Sys2Proof.Machine
end

