-- ==== Sys2Proof/Machine/ExecTxd.lean ====
section
/-!
DEFINITION. Machine/ExecTxd.lean: the meanings of the commands of transmit chains (chapter 4), one definition a
command, in the order of the table.
-/

namespace Sys2Proof.Machine

/-- PROFILE_VALIDATE (R97): KMAX, VALID and H_EFF of a profile entry are computed within 10 µs of the last write to
it. -/
def execProfileValidate (c : Fin 4) (fec : Bool) (e : Fin 16) (s : State) : Host.Outcome State Fault Refusal :=
  run (ev (profCompute (if fec then feb c.val else xb c.val) e.val)) s

/-- PROFILE_SELECT (R99): A write of TXD_SHAPE.PROFILE, TXD_SC_SEL.SET or FEC_SHAPE.PROFILE selects a profile or set,
or is refused with PROFILE_BAD. -/
def execProfileSelect (src : Requester) (c : Fin 4) (reg : ShapeReg) (v : Word) (s : State) :
    Host.Outcome State Fault Refusal :=
  run (busWrite src.id (shapeReg c.val reg) v) s

/-- SHAPING_SWITCH (R100): A selected profile or subcarrier set takes effect at the first shaping group after the next
multiframe start. -/
def execShapingSwitch (c : Fin 4) (rx : Bool) (s : State) : Host.Outcome State Fault Refusal :=
  run (ev (if rx then demSwitch c.val else shapingSwitch c.val)) s

/-- TXD_SWAP_REQ (R110): A write of TXDc SWAP_REQ swaps the bank at once, starts a fade, queues the request, or
refuses it with SWAP_LIVE. -/
def execTxdSwapReq (src : Requester) (c : Fin 4) (v : Word) (s : State) : Host.Outcome State Fault Refusal :=
  run (regCmd src (xb c.val) TXD.SWAP_REQ v) s

/-- TXD_FADE_END (R110): A transmit cross-fade completes and a queued swap request is served. -/
def execTxdFadeEnd (c : Fin 4) (s : State) : Host.Outcome State Fault Refusal :=
  run (carEv c.val fun s => swapFadeEnd (txdSwap c.val) (s.txStopped c.val) s) s

/-- TX_RUN_WRITE (R112): A write of TXD_CTL.TX_RUN starts the chain at the next line frame boundary of the timeline,
or holds the DAC inputs at zero. -/
def execTxRunWrite (src : Requester) (c : Fin 4) (v : Word) (s : State) : Host.Outcome State Fault Refusal :=
  run (regCmd src (xb c.val) TXD.TXD_CTL v) s

end Sys2Proof.Machine
end

