-- ==== Sys2Proof/Machine/ExecVlg.lean ====
section
/-!
DEFINITION. Machine/ExecVlg.lean: the meanings of the commands of Velaug links and stacks (chapter 19), one definition
a command, in the order of the table.
-/

namespace Sys2Proof.Machine

/-- VLG_ENABLE (R450): A write of VLG_CTL.EN starts full training, or silences the port in DOWN. -/
def execVlgEnable (src : Requester) (p : Fin 4) (v : Word) (s : State) : Host.Outcome State Fault Refusal :=
  run (regCmd src (vb p.val) VLG.VLG_CTL v) s

/-- LINK_UP (R450): Training aligns every lane and decodes 16 frames, and the port enters LINKED. -/
def execLinkUp (p : Fin 4) (s : State) : Host.Outcome State Fault Refusal :=
  run (vlgEv (linkUp p.val)) s

/-- VLG_TRAIN_TIMEOUT (R450): The port is not LINKED within 5 ms of clock lock; TRAIN_FAIL is raised and training
restarts after 10 ms. -/
def execVlgTrainTimeout (p : Fin 4) (s : State) : Host.Outcome State Fault Refusal :=
  run (vlgEv (vlgTrainTimeout p.val)) s

/-- RETRAIN (R450): VLG_CTL.RETRAIN starts full training of a linked port. -/
def execRetrain (src : Requester) (p : Fin 4) (v : Word) (s : State) : Host.Outcome State Fault Refusal :=
  run (regCmd src (vb p.val) VLG.VLG_CTL (setF v VLG.VLG_CTL_RETRAIN 1)) s

/-- IDLE_REQ_WRITE (R451): A write of IDLE_REQ asks for electrical idle, or leaves it, or is refused with IDLE_BUSY.
-/
def execIdleReqWrite (src : Requester) (p : Fin 4) (v : Word) (s : State) : Host.Outcome State Fault Refusal :=
  run (regCmd src (vb p.val) VLG.VLG_CTL v) s

/-- IDLE_EXIT_FAIL (R450): No alignment within 1 µs of the idle-exit burst sends the port to TRAIN. -/
def execIdleExitFail (p : Fin 4) (s : State) : Host.Outcome State Fault Refusal :=
  run (vlgEv (idleExitFail p.val)) s

/-- VLG_BLOCK_RECEIVED (R452): A Velaug block is received and its TS words are inserted into the transit range or
delivered. -/
def execVlgBlockReceived (p : Fin 4) (b : VlgBlock) (s : State) : Host.Outcome State Fault Refusal :=
  run (vlgEv (vlgBlock p.val b)) s

/-- VLG_HELLO (R459): A HELLO received from a peer updates PEER and may join a dealer or flag a conflict. -/
def execVlgHello (p : Fin 4) (stack : Byte) (pos : Fin 4) (dealer : Bool) (serial : BitVec 48) (taken : Bool) (s : State) :
    Host.Outcome State Fault Refusal :=
  run (vlgEv (vlgHello p.val stack.toNat pos.val dealer serial taken)) s

/-- HELLO_SEND (R454): Every 100 µs each linked port sends HELLO. -/
def execHelloSend (s : State) : Host.Outcome State Fault Refusal :=
  run (vlgEv (helloSend)) s

/-- HEARTBEAT (R454): A heartbeat is received from the dealer or a member. -/
def execHeartbeat (p : Fin 4) (s : State) : Host.Outcome State Fault Refusal :=
  run (vlgEv (heartbeat p.val)) s

/-- HEARTBEAT_MISS (R459): Five dealer or member heartbeats are missed and the dealer or member is declared lost. -/
def execHeartbeatMiss (p : Fin 4) (s : State) : Host.Outcome State Fault Refusal :=
  run (vlgEv (heartbeatMiss p.val)) s

/-- DEALER_LOST (R459): A member loses its dealer; it becomes ORPHAN, cancels stack deals and frees DEALER locks. -/
def execDealerLost (s : State) : Host.Outcome State Fault Refusal :=
  run (vlgEv (dealerLost)) s

/-- TIME_MSG (R455): A member receives the dealer's TIME and replies TIME_RPT. -/
def execTimeMsg (p : Fin 4) (t1 : BitVec 80) (t2 : BitVec 80) (t3 : BitVec 80) (s : State) :
    Host.Outcome State Fault Refusal :=
  run (vlgEv (timeMsg p.val t1 t2 t3)) s

/-- TIME_RPT (R455): The dealer receives TIME_RPT and replies TIME_END. -/
def execTimeRpt (p : Fin 4) (_t2 : BitVec 80) (_t3 : BitVec 80) (t4 : BitVec 80) (s : State) :
    Host.Outcome State Fault Refusal :=
  run (vlgEv (timeRpt p.val t4)) s

/-- TIME_END (R455): A member receives TIME_END, computes the link delay and feeds the VLG reference. -/
def execTimeEnd (p : Fin 4) (t4 : BitVec 80) (s : State) : Host.Outcome State Fault Refusal :=
  run (vlgEv (timeEnd p.val t4)) s

/-- STACK_CALL (R456): A member receives a stack CALL and latches its shadows at T, or at once if late. -/
def execStackCall (p : Fin 4) (number : BitVec 16) (t : BitVec 64) (s : State) : Host.Outcome State Fault Refusal :=
  run (vlgEv (stackCall p.val number.toNat t)) s

/-- CALL_REQ (R456): The dealer receives a member's CALL_REQ and issues a stack call. -/
def execCallReq (p : Fin 4) (s : State) : Host.Outcome State Fault Refusal :=
  run (vlgEv (callReq p.val)) s

/-- MGMT_GO (R457): A dealer write of MGMT_CMD.GO sends a management access to a member, or is refused with MGMT_BUSY.
-/
def execMgmtGo (src : Requester) (v : Word) (s : State) : Host.Outcome State Fault Refusal :=
  run (regCmd src vb0 VLG.MGMT_CMD (setF v VLG.MGMT_CMD_GO 1)) s

/-- MGMT_RD (R457): A member performs a management read as requester DEALER and replies. -/
def execMgmtRd (p : Fin 4) (ofs : BitVec 26) (s : State) : Host.Outcome State Fault Refusal :=
  run (vlgEv (mgmtServe p.val ofs.toNat none)) s

/-- MGMT_WR (R457): A member performs a management write as requester DEALER and replies. -/
def execMgmtWr (p : Fin 4) (ofs : BitVec 26) (v : Word) (s : State) : Host.Outcome State Fault Refusal :=
  run (vlgEv (mgmtServe p.val ofs.toNat (some v))) s

/-- MGMT_RSP (R457): The dealer receives a management reply into MGMT_STAT and MGMT_DATA. -/
def execMgmtRsp (p : Fin 4) (data : Word) (denied : Bool) (s : State) : Host.Outcome State Fault Refusal :=
  run (vlgEv (mgmtRsp p.val data denied)) s

/-- MGMT_TIMEOUT (R457): No management reply within 20 µs; MGMT_STAT reports TIMEOUT. -/
def execMgmtTimeout (s : State) : Host.Outcome State Fault Refusal :=
  run (vlgEv (mgmtTimeout)) s

/-- SUIT_REC (R453): A forwarded suit record crosses the link for a remote member. -/
def execSuitRec (p : Fin 4) (r : SuitRecord) (s : State) : Host.Outcome State Fault Refusal :=
  run (vlgEv (suitRec p.val r)) s

/-- LEAVE (R458): A LEAVE message is received and the sender has left the stack. -/
def execLeave (p : Fin 4) (s : State) : Host.Outcome State Fault Refusal :=
  run (vlgEv (leaveMsg p.val)) s

/-- MEMBER_GONE (R458): The dealer reports a position gone and members treat it as left. -/
def execMemberGone (p : Fin 4) (pos : Fin 4) (s : State) : Host.Outcome State Fault Refusal :=
  run (vlgEv (memberGone p.val pos.val)) s

/-- MEMBER_LOST (R458): The dealer declares a member gone and sends MEMBER_GONE. -/
def execMemberLost (p : Fin 4) (s : State) : Host.Outcome State Fault Refusal :=
  run (vlgEv (memberLost p.val)) s

/-- STACK_ENABLE (R459): A write of STACK_CFG.EN starts or stops the stack function. -/
def execStackEnable (src : Requester) (v : Word) (s : State) : Host.Outcome State Fault Refusal :=
  run (regCmd src vb0 VLG.STACK_CFG v) s

/-- LEAVE_GO (R461): LEAVE.GO sends LEAVE and returns the module to ALONE. -/
def execLeaveGo (src : Requester) (s : State) : Host.Outcome State Fault Refusal :=
  run (regCmd src vb0 VLG.LEAVE 1) s

/-- DEALER_WRITE (R459): Writing DEALER = 1 in ORPHAN makes the module a dealer. -/
def execDealerWrite (src : Requester) (v : Word) (s : State) : Host.Outcome State Fault Refusal :=
  run (regCmd src vb0 VLG.STACK_CFG (setF v VLG.STACK_CFG_DEALER 1)) s

/-- TRANSIT_ENABLE (R453): Enabling a transit entry is accepted, or refused with VLG_FULL or TS_OVERLAP. -/
def execTransitEnable (src : Requester) (p : Fin 4) (e : Fin 32) (v : Word) (s : State) :
    Host.Outcome State Fault Refusal :=
  run (winCmd src (vb p.val) 0 e.val 0 (v ||| 1)) s

end Sys2Proof.Machine
end

