-- ==== Sys2Proof/Machine/Dispatch.lean ====
section
/-!
DEFINITION. Machine/Dispatch.lean: one arm per command, each a direct call of its meaning.
-/

namespace Sys2Proof.Machine

def exec (i : Instr) (s : State) : Host.Outcome State Fault Refusal :=
  match i with
  | .registerWrite src a bytes => Sys2Proof.Machine.execRegisterWrite src a bytes s
  | .emptySlotAccess a write => Sys2Proof.Machine.execEmptySlotAccess a write s
  | .bar2Write a bytes => Sys2Proof.Machine.execBar2Write a bytes s
  | .errClr src page v => Sys2Proof.Machine.execErrClr src page v s
  | .srst src page v => Sys2Proof.Machine.execSrst src page v s
  | .softResetDone page => Sys2Proof.Machine.execSoftResetDone page s
  | .pageEnableWrite src page v => Sys2Proof.Machine.execPageEnableWrite src page v s
  | .intStatClear src page v => Sys2Proof.Machine.execIntStatClear src page v s
  | .intForce src page v => Sys2Proof.Machine.execIntForce src page v s
  | .interruptEvent page n => Sys2Proof.Machine.execInterruptEvent page n s
  | .ownerWrite src page v => Sys2Proof.Machine.execOwnerWrite src page v s
  | .lockBreak src v => Sys2Proof.Machine.execLockBreak src v s
  | .stagedWrite src a v => Sys2Proof.Machine.execStagedWrite src a v s
  | .windowRead src page => Sys2Proof.Machine.execWindowRead src page s
  | .windowWrite src page w v => Sys2Proof.Machine.execWindowWrite src page w v s
  | .i2cWriteTransfer bytes => Sys2Proof.Machine.execI2cWriteTransfer bytes s
  | .i2cReadTransfer => Sys2Proof.Machine.execI2cReadTransfer s
  | .nowLoRead src => Sys2Proof.Machine.execNowLoRead src s
  | .stepGo src => Sys2Proof.Machine.execStepGo src s
  | .stepDone => Sys2Proof.Machine.execStepDone s
  | .carMfNumRead src c => Sys2Proof.Machine.execCarMfNumRead src c s
  | .txMultiframeStart c => Sys2Proof.Machine.execTxMultiframeStart c s
  | .txLineFrameStart c clips => Sys2Proof.Machine.execTxLineFrameStart c clips s
  | .dealOpen src => Sys2Proof.Machine.execDealOpen src s
  | .dealArm src => Sys2Proof.Machine.execDealArm src s
  | .dealCancel src => Sys2Proof.Machine.execDealCancel src s
  | .dealRelease src => Sys2Proof.Machine.execDealRelease src s
  | .cmdCode src code => Sys2Proof.Machine.execCmdCode src code s
  | .dealExecute => Sys2Proof.Machine.execDealExecute s
  | .markReceived c tag n left => Sys2Proof.Machine.execMarkReceived c tag n left s
  | .noMark id => Sys2Proof.Machine.execNoMark id s
  | .swapBank page arg => Sys2Proof.Machine.execSwapBank page arg s
  | .keyRollTx c arg => Sys2Proof.Machine.execKeyRollTx c arg s
  | .keyRollRx c arg => Sys2Proof.Machine.execKeyRollRx c arg s
  | .suitResize arg others => Sys2Proof.Machine.execSuitResize arg others s
  | .grantMapSwap arg => Sys2Proof.Machine.execGrantMapSwap arg s
  | .pdSet id args => Sys2Proof.Machine.execPdSet id args s
  | .call => Sys2Proof.Machine.execCall s
  | .pulseRealign arg => Sys2Proof.Machine.execPulseRealign arg s
  | .dealPrepare id time num cfg acts => Sys2Proof.Machine.execDealPrepare id time num cfg acts s
  | .dealAccept pos id => Sys2Proof.Machine.execDealAccept pos id s
  | .dealReject pos id reason => Sys2Proof.Machine.execDealReject pos id reason s
  | .dealCommit id => Sys2Proof.Machine.execDealCommit id s
  | .dealCancelMsg id => Sys2Proof.Machine.execDealCancelMsg id s
  | .prepareTimeout id => Sys2Proof.Machine.execPrepareTimeout id s
  | .laserColdStart src c v => Sys2Proof.Machine.execLaserColdStart src c v s
  | .laserDisable src c v => Sys2Proof.Machine.execLaserDisable src c v s
  | .tuneGo src c v => Sys2Proof.Machine.execTuneGo src c v s
  | .txEnWrite src c v => Sys2Proof.Machine.execTxEnWrite src c v s
  | .followWrite src c v => Sys2Proof.Machine.execFollowWrite src c v s
  | .laserFineWrite src c v => Sys2Proof.Machine.execLaserFineWrite src c v s
  | .txPwrSetWrite src c v => Sys2Proof.Machine.execTxPwrSetWrite src c v s
  | .tecSettled c temp cur => Sys2Proof.Machine.execTecSettled c temp cur s
  | .tuningDone c err => Sys2Proof.Machine.execTuningDone c err s
  | .laserLocked c err => Sys2Proof.Machine.execLaserLocked c err s
  | .lockAttemptTimeout c => Sys2Proof.Machine.execLockAttemptTimeout c s
  | .laserUnlock c err => Sys2Proof.Machine.execLaserUnlock c err s
  | .holdTimeout c => Sys2Proof.Machine.execHoldTimeout c s
  | .txAtTarget c dbm => Sys2Proof.Machine.execTxAtTarget c dbm s
  | .biasLoopLocked c loop => Sys2Proof.Machine.execBiasLoopLocked c loop s
  | .mzmUnlock c loop => Sys2Proof.Machine.execMzmUnlock c loop s
  | .followOk c fine => Sys2Proof.Machine.execFollowOk c fine s
  | .followLost c fine => Sys2Proof.Machine.execFollowLost c fine s
  | .rxPowerUpdate c x y total gain => Sys2Proof.Machine.execRxPowerUpdate c x y total gain s
  | .fgCalGo src c v => Sys2Proof.Machine.execFgCalGo src c v s
  | .fgCalDone c fail die trims => Sys2Proof.Machine.execFgCalDone c fail die trims s
  | .bgCalUpdate c die moves => Sys2Proof.Machine.execBgCalUpdate c die moves s
  | .storeGo src c v => Sys2Proof.Machine.execStoreGo src c v s
  | .storeDone c ok => Sys2Proof.Machine.execStoreDone c ok s
  | .loadStored src c v => Sys2Proof.Machine.execLoadStored src c v s
  | .checkGo src c v => Sys2Proof.Machine.execCheckGo src c v s
  | .checkDone c enob => Sys2Proof.Machine.execCheckDone c enob s
  | .capGo src c v => Sys2Proof.Machine.execCapGo src c v s
  | .capDone c samples => Sys2Proof.Machine.execCapDone c samples s
  | .clkUnlock c => Sys2Proof.Machine.execClkUnlock c s
  | .clkRelock c => Sys2Proof.Machine.execClkRelock c s
  | .profileValidate c fec e => Sys2Proof.Machine.execProfileValidate c fec e s
  | .profileSelect src c reg v => Sys2Proof.Machine.execProfileSelect src c reg v s
  | .shapingSwitch c rx => Sys2Proof.Machine.execShapingSwitch c rx s
  | .txdSwapReq src c v => Sys2Proof.Machine.execTxdSwapReq src c v s
  | .txdFadeEnd c => Sys2Proof.Machine.execTxdFadeEnd c s
  | .txRunWrite src c v => Sys2Proof.Machine.execTxRunWrite src c v s
  | .cdBankWrite src c b v => Sys2Proof.Machine.execCdBankWrite src c b v s
  | .cdBankReady c b => Sys2Proof.Machine.execCdBankReady c b s
  | .rxfSwapReq src c v => Sys2Proof.Machine.execRxfSwapReq src c v s
  | .cdBlockBoundary c => Sys2Proof.Machine.execCdBlockBoundary c s
  | .cdFadeEnd c => Sys2Proof.Machine.execCdFadeEnd c s
  | .scanGo src c v => Sys2Proof.Machine.execScanGo src c v s
  | .scanDone c est conf => Sys2Proof.Machine.execScanDone c est conf s
  | .rxRunWrite src c v => Sys2Proof.Machine.execRxRunWrite src c v s
  | .acqTryStart c => Sys2Proof.Machine.execAcqTryStart c s
  | .acqTrialDone c best conf => Sys2Proof.Machine.execAcqTrialDone c best conf s
  | .trLock c ppm => Sys2Proof.Machine.execTrLock c ppm s
  | .timingTimeout c => Sys2Proof.Machine.execTimingTimeout c s
  | .trLockLost c => Sys2Proof.Machine.execTrLockLost c s
  | .trSlip c => Sys2Proof.Machine.execTrSlip c s
  | .cdMonUpdate c resid ppm => Sys2Proof.Machine.execCdMonUpdate c resid ppm s
  | .trackEvent c => Sys2Proof.Machine.execTrackEvent c s
  | .rxmRunWrite src c v => Sys2Proof.Machine.execRxmRunWrite src c v s
  | .coarseFreqDone c sc mhz => Sys2Proof.Machine.execCoarseFreqDone c sc mhz s
  | .blindConverged c sc => Sys2Proof.Machine.execBlindConverged c sc s
  | .mimoFail c sc => Sys2Proof.Machine.execMimoFail c sc s
  | .trackSnrLoss c sc snr => Sys2Proof.Machine.execTrackSnrLoss c sc snr s
  | .recoverDone c sc snr => Sys2Proof.Machine.execRecoverDone c sc snr s
  | .freezeExit c sc => Sys2Proof.Machine.execFreezeExit c sc s
  | .adaptationBlock c sc snr slip adapted => Sys2Proof.Machine.execAdaptationBlock c sc snr slip adapted s
  | .leakStart c sc => Sys2Proof.Machine.execLeakStart c sc s
  | .rotationUpdate c rate phase supp harm => Sys2Proof.Machine.execRotationUpdate c rate phase supp harm s
  | .rotStatRead src c => Sys2Proof.Machine.execRotStatRead src c s
  | .hpEnableWrite src c v => Sys2Proof.Machine.execHpEnableWrite src c v s
  | .hpSearchDone c freq amp => Sys2Proof.Machine.execHpSearchDone c freq amp s
  | .hpLock c freq amp => Sys2Proof.Machine.execHpLock c freq amp s
  | .hpLockingTimeout c => Sys2Proof.Machine.execHpLockingTimeout c s
  | .hpUnlock c amp => Sys2Proof.Machine.execHpUnlock c amp s
  | .hpHoldTimeout c => Sys2Proof.Machine.execHpHoldTimeout c s
  | .hpAdaptResume c => Sys2Proof.Machine.execHpAdaptResume c s
  | .cprSlip c sc => Sys2Proof.Machine.execCprSlip c sc s
  | .rxmSwapReq src c v => Sys2Proof.Machine.execRxmSwapReq src c v s
  | .anchorFadeEnd c sc => Sys2Proof.Machine.execAnchorFadeEnd c sc s
  | .anchorSave src c v => Sys2Proof.Machine.execAnchorSave src c v s
  | .qualityUpdate c sc q => Sys2Proof.Machine.execQualityUpdate c sc q s
  | .qualityRead src c sc ber => Sys2Proof.Machine.execQualityRead src c sc ber s
  | .fecModeWrite src c v => Sys2Proof.Machine.execFecModeWrite src c v s
  | .modeTakeEffect c rx => Sys2Proof.Machine.execModeTakeEffect c rx s
  | .codewordDecode c sc lam => Sys2Proof.Machine.execCodewordDecode c sc lam s
  | .tvGo src c v => Sys2Proof.Machine.execTvGo src c v s
  | .tvDone c errs => Sys2Proof.Machine.execTvDone c errs s
  | .counterLoRead src a => Sys2Proof.Machine.execCounterLoRead src a s
  | .lineFrameReceived c sc f => Sys2Proof.Machine.execLineFrameReceived c sc f s
  | .rxMfnRead src c => Sys2Proof.Machine.execRxMfnRead src c s
  | .defectSample d => Sys2Proof.Machine.execDefectSample d s
  | .pmSecond c sc => Sys2Proof.Machine.execPmSecond c sc s
  | .pmBinClose c sc day => Sys2Proof.Machine.execPmBinClose c sc day s
  | .pmCmdClr src c sc v => Sys2Proof.Machine.execPmCmdClr src c sc v s
  | .suitRecordReceived c r => Sys2Proof.Machine.execSuitRecordReceived c r s
  | .tmfReceived n k ssn => Sys2Proof.Machine.execTmfReceived n k ssn s
  | .suitFrameReadout n fa fb => Sys2Proof.Machine.execSuitFrameReadout n fa fb s
  | .suitEnable src n v => Sys2Proof.Machine.execSuitEnable src n v s
  | .memberWrite src e v => Sys2Proof.Machine.execMemberWrite src e v s
  | .noReady n => Sys2Proof.Machine.execNoReady n s
  | .resizeDone n => Sys2Proof.Machine.execResizeDone n s
  | .resizeAbortEnd n => Sys2Proof.Machine.execResizeAbortEnd n s
  | .memberDrop n => Sys2Proof.Machine.execMemberDrop n s
  | .dropDone n => Sys2Proof.Machine.execDropDone n s
  | .pairEnable src p v => Sys2Proof.Machine.execPairEnable src p v s
  | .hubRunWrite src v => Sys2Proof.Machine.execHubRunWrite src v s
  | .roundStart c ps fs => Sys2Proof.Machine.execRoundStart c ps fs s
  | .upstreamRoundStart c gain => Sys2Proof.Machine.execUpstreamRoundStart c gain s
  | .grantSubmit src v => Sys2Proof.Machine.execGrantSubmit src v s
  | .dmapSubmit src v => Sys2Proof.Machine.execDmapSubmit src v s
  | .grantEnd c sc start => Sys2Proof.Machine.execGrantEnd c sc start s
  | .discoveryWindow c => Sys2Proof.Machine.execDiscoveryWindow c s
  | .discDone c => Sys2Proof.Machine.execDiscDone c s
  | .leafProvision src n v => Sys2Proof.Machine.execLeafProvision src n v s
  | .leafCmdRemove src v => Sys2Proof.Machine.execLeafCmdRemove src v s
  | .leafLost n => Sys2Proof.Machine.execLeafLost n s
  | .leafDropTimeout n => Sys2Proof.Machine.execLeafDropTimeout n s
  | .drained c sc => Sys2Proof.Machine.execDrained c sc s
  | .roundMsg c sc m => Sys2Proof.Machine.execRoundMsg c sc m s
  | .grantMsg c sc m => Sys2Proof.Machine.execGrantMsg c sc m s
  | .dmapMsg c sc m => Sys2Proof.Machine.execDmapMsg c sc m s
  | .discoverMsg c sc m => Sys2Proof.Machine.execDiscoverMsg c sc m s
  | .assignMsg c sc m => Sys2Proof.Machine.execAssignMsg c sc m s
  | .rangeMsg c sc m => Sys2Proof.Machine.execRangeMsg c sc m s
  | .deregMsg c sc m => Sys2Proof.Machine.execDeregMsg c sc m s
  | .suitAMsg c sc m => Sys2Proof.Machine.execSuitAMsg c sc m s
  | .suitBMsg c sc m => Sys2Proof.Machine.execSuitBMsg c sc m s
  | .reportMsg c m => Sys2Proof.Machine.execReportMsg c m s
  | .helloMsg c start m => Sys2Proof.Machine.execHelloMsg c start m s
  | .leafListenDone c => Sys2Proof.Machine.execLeafListenDone c s
  | .leafBackoff c => Sys2Proof.Machine.execLeafBackoff c s
  | .leafHoldEntry c => Sys2Proof.Machine.execLeafHoldEntry c s
  | .leafHoldTimeout c => Sys2Proof.Machine.execLeafHoldTimeout c s
  | .leafGrantStart c backlog => Sys2Proof.Machine.execLeafGrantStart c backlog s
  | .burstDetection c sc bond ago gain corr => Sys2Proof.Machine.execBurstDetection c sc bond ago gain corr s
  | .burstTrainingDone c sc snr fit => Sys2Proof.Machine.execBurstTrainingDone c sc snr fit s
  | .burstSync c sc errs ago => Sys2Proof.Machine.execBurstSync c sc errs ago s
  | .falseDetection c sc => Sys2Proof.Machine.execFalseDetection c sc s
  | .burstReport c sc coded => Sys2Proof.Machine.execBurstReport c sc coded s
  | .burstClose c sc errs taps f => Sys2Proof.Machine.execBurstClose c sc errs taps f s
  | .strSwapGo src c sc v => Sys2Proof.Machine.execStrSwapGo src c sc v s
  | .strAnchorSave src c sc v => Sys2Proof.Machine.execStrAnchorSave src c sc v s
  | .burstAnchorSave src c sc v => Sys2Proof.Machine.execBurstAnchorSave src c sc v s
  | .cipLockWrite src c v => Sys2Proof.Machine.execCipLockWrite src c v s
  | .keyDataWrite src c v => Sys2Proof.Machine.execKeyDataWrite src c v s
  | .keySaltWrite src c v => Sys2Proof.Machine.execKeySaltWrite src c v s
  | .keyCommit src c v => Sys2Proof.Machine.execKeyCommit src c v s
  | .keyArm src c v => Sys2Proof.Machine.execKeyArm src c v s
  | .keyDisarm src c v => Sys2Proof.Machine.execKeyDisarm src c v s
  | .keyErase src c v => Sys2Proof.Machine.execKeyErase src c v s
  | .assocWrite src c a v => Sys2Proof.Machine.execAssocWrite src c a v s
  | .rxGraceExpiry c n => Sys2Proof.Machine.execRxGraceExpiry c n s
  | .unitTransmit c a fresh plain => Sys2Proof.Machine.execUnitTransmit c a fresh plain s
  | .unitReceived c a errored header cipher tag => Sys2Proof.Machine.execUnitReceived c a errored header cipher tag s
  | .unitVerify c a => Sys2Proof.Machine.execUnitVerify c a s
  | .cipParity c a tx => Sys2Proof.Machine.execCipParity c a tx s
  | .katGo src c v => Sys2Proof.Machine.execKatGo src c v s
  | .katDone c pass => Sys2Proof.Machine.execKatDone c pass s
  | .laneEnable src l v => Sys2Proof.Machine.execLaneEnable src l v s
  | .trainDone l ffe => Sys2Proof.Machine.execTrainDone l ffe s
  | .trainFail l ffe => Sys2Proof.Machine.execTrainFail l ffe s
  | .portEnable src p v => Sys2Proof.Machine.execPortEnable src p v s
  | .alignStatusChange p block am deskew => Sys2Proof.Machine.execAlignStatusChange p block am deskew s
  | .portFecWindow p sym corSym cor unc => Sys2Proof.Machine.execPortFecWindow p sym corSym cor unc s
  | .calSwitch g => Sys2Proof.Machine.execCalSwitch g s
  | .flexeSwitchWrite src g v => Sys2Proof.Machine.execFlexeSwitchWrite src g v s
  | .flexoGroupEnable src e v => Sys2Proof.Machine.execFlexoGroupEnable src e v s
  | .frameIngress p bytes fcsOk ddrOk => Sys2Proof.Machine.execFrameIngress p bytes fcsOk ddrOk s
  | .tsPop src p => Sys2Proof.Machine.execTsPop src p s
  | .clsProfileWrite src f w v => Sys2Proof.Machine.execClsProfileWrite src f w v s
  | .entryPublish src tern e v => Sys2Proof.Machine.execEntryPublish src tern e v s
  | .actionRewrite src tern e v => Sys2Proof.Machine.execActionRewrite src tern e v s
  | .slowPathReturn id v ddrOk => Sys2Proof.Machine.execSlowPathReturn id v ddrOk s
  | .puntPop src => Sys2Proof.Machine.execPuntPop src s
  | .packetAdmit q bytes ddrOk => Sys2Proof.Machine.execPacketAdmit q bytes ddrOk s
  | .schedulerDecision g => Sys2Proof.Machine.execSchedulerDecision g s
  | .recordReceived g bytes errored next ddrOk => Sys2Proof.Machine.execRecordReceived g bytes errored next ddrOk s
  | .flush src v => Sys2Proof.Machine.execFlush src v s
  | .sensingSample c ch p x => Sys2Proof.Machine.execSensingSample c ch p x s
  | .recordWrite n => Sys2Proof.Machine.execRecordWrite n s
  | .recordFlushTimeout n => Sys2Proof.Machine.execRecordFlushTimeout n s
  | .freezeClose => Sys2Proof.Machine.execFreezeClose s
  | .frzManual src => Sys2Proof.Machine.execFrzManual src s
  | .frzRelease src n => Sys2Proof.Machine.execFrzRelease src n s
  | .archEnWrite src v => Sys2Proof.Machine.execArchEnWrite src v s
  | .rdRecWrite src v => Sys2Proof.Machine.execRdRecWrite src v s
  | .rdReady bad => Sys2Proof.Machine.execRdReady bad s
  | .seekGo src v => Sys2Proof.Machine.execSeekGo src v s
  | .seekDone => Sys2Proof.Machine.execSeekDone s
  | .snsSwapReq src v => Sys2Proof.Machine.execSnsSwapReq src v s
  | .snsFadeEnd => Sys2Proof.Machine.execSnsFadeEnd s
  | .activityLoss k => Sys2Proof.Machine.execActivityLoss k s
  | .activityReturn k => Sys2Proof.Machine.execActivityReturn k s
  | .frequencyMeasure offs => Sys2Proof.Machine.execFrequencyMeasure offs s
  | .driftEvaluate => Sys2Proof.Machine.execDriftEvaluate s
  | .historySample n ffo pherr => Sys2Proof.Machine.execHistorySample n ffo pherr s
  | .qualified k => Sys2Proof.Machine.execQualified k s
  | .wtrExpiry k => Sys2Proof.Machine.execWtrExpiry k s
  | .dpllLocked n => Sys2Proof.Machine.execDpllLocked n s
  | .slewDone => Sys2Proof.Machine.execSlewDone s
  | .dpllCtlWrite src n v => Sys2Proof.Machine.execDpllCtlWrite src n v s
  | .swPherrWrite src v => Sys2Proof.Machine.execSwPherrWrite src v s
  | .swTimeout => Sys2Proof.Machine.execSwTimeout s
  | .ffoSetWrite src n v => Sys2Proof.Machine.execFfoSetWrite src n v s
  | .realign src k v => Sys2Proof.Machine.execRealign src k v s
  | .regionEnable src r => Sys2Proof.Machine.execRegionEnable src r s
  | .regionDisable src r => Sys2Proof.Machine.execRegionDisable src r s
  | .ddrError a place row ue scrub => Sys2Proof.Machine.execDdrError a place row ue scrub s
  | .sramError e => Sys2Proof.Machine.execSramError e s
  | .rowTest n found => Sys2Proof.Machine.execRowTest n found s
  | .sramPatrol found => Sys2Proof.Machine.execSramPatrol found s
  | .scrubGo src v => Sys2Proof.Machine.execScrubGo src v s
  | .scrubAbort src v => Sys2Proof.Machine.execScrubAbort src v s
  | .scrubDone => Sys2Proof.Machine.execScrubDone s
  | .engineInstruction id extra => Sys2Proof.Machine.execEngineInstruction id extra s
  | .cmac id => Sys2Proof.Machine.execCmac id s
  | .cmacj id => Sys2Proof.Machine.execCmacj id s
  | .cmul id => Sys2Proof.Machine.execCmul id s
  | .accrd id => Sys2Proof.Machine.execAccrd id s
  | .msend id => Sys2Proof.Machine.execMsend id s
  | .mrecv id => Sys2Proof.Machine.execMrecv id s
  | .mailboxDelivery sender dst => Sys2Proof.Machine.execMailboxDelivery sender dst s
  | .mrecvEnd id => Sys2Proof.Machine.execMrecvEnd id s
  | .waitt id => Sys2Proof.Machine.execWaitt id s
  | .waittEnd id => Sys2Proof.Machine.execWaittEnd id s
  | .brd id extra => Sys2Proof.Machine.execBrd id extra s
  | .bwr id extra => Sys2Proof.Machine.execBwr id extra s
  | .engineTrap id => Sys2Proof.Machine.execEngineTrap id s
  | .loadGo src k v => Sys2Proof.Machine.execLoadGo src k v s
  | .loadDone k => Sys2Proof.Machine.execLoadDone k s
  | .haltWrite src k v => Sys2Proof.Machine.execHaltWrite src k v s
  | .counterWrite src k e v => Sys2Proof.Machine.execCounterWrite src k e v s
  | .resume src k v => Sys2Proof.Machine.execResume src k v s
  | .legRd src k v => Sys2Proof.Machine.execLegRd src k v s
  | .traceRecord id => Sys2Proof.Machine.execTraceRecord id s
  | .hostMbTx src k v => Sys2Proof.Machine.execHostMbTx src k v s
  | .hostMbRx src k => Sys2Proof.Machine.execHostMbRx src k s
  | .vlgEnable src p v => Sys2Proof.Machine.execVlgEnable src p v s
  | .linkUp p => Sys2Proof.Machine.execLinkUp p s
  | .vlgTrainTimeout p => Sys2Proof.Machine.execVlgTrainTimeout p s
  | .retrain src p v => Sys2Proof.Machine.execRetrain src p v s
  | .idleReqWrite src p v => Sys2Proof.Machine.execIdleReqWrite src p v s
  | .idleExitFail p => Sys2Proof.Machine.execIdleExitFail p s
  | .vlgBlockReceived p b => Sys2Proof.Machine.execVlgBlockReceived p b s
  | .vlgHello p stack pos dealer serial taken => Sys2Proof.Machine.execVlgHello p stack pos dealer serial taken s
  | .helloSend => Sys2Proof.Machine.execHelloSend s
  | .heartbeat p => Sys2Proof.Machine.execHeartbeat p s
  | .heartbeatMiss p => Sys2Proof.Machine.execHeartbeatMiss p s
  | .dealerLost => Sys2Proof.Machine.execDealerLost s
  | .timeMsg p t1 t2 t3 => Sys2Proof.Machine.execTimeMsg p t1 t2 t3 s
  | .timeRpt p t2 t3 t4 => Sys2Proof.Machine.execTimeRpt p t2 t3 t4 s
  | .timeEnd p t4 => Sys2Proof.Machine.execTimeEnd p t4 s
  | .stackCall p number t => Sys2Proof.Machine.execStackCall p number t s
  | .callReq p => Sys2Proof.Machine.execCallReq p s
  | .mgmtGo src v => Sys2Proof.Machine.execMgmtGo src v s
  | .mgmtRd p ofs => Sys2Proof.Machine.execMgmtRd p ofs s
  | .mgmtWr p ofs v => Sys2Proof.Machine.execMgmtWr p ofs v s
  | .mgmtRsp p data denied => Sys2Proof.Machine.execMgmtRsp p data denied s
  | .mgmtTimeout => Sys2Proof.Machine.execMgmtTimeout s
  | .suitRec p r => Sys2Proof.Machine.execSuitRec p r s
  | .leave p => Sys2Proof.Machine.execLeave p s
  | .memberGone p pos => Sys2Proof.Machine.execMemberGone p pos s
  | .memberLost p => Sys2Proof.Machine.execMemberLost p s
  | .stackEnable src v => Sys2Proof.Machine.execStackEnable src v s
  | .leaveGo src => Sys2Proof.Machine.execLeaveGo src s
  | .dealerWrite src v => Sys2Proof.Machine.execDealerWrite src v s
  | .transitEnable src p e v => Sys2Proof.Machine.execTransitEnable src p e v s
  | .pdReq src v => Sys2Proof.Machine.execPdReq src v s
  | .quiesceDone d => Sys2Proof.Machine.execQuiesceDone d s
  | .quiesceTimeout d blocker => Sys2Proof.Machine.execQuiesceTimeout d blocker s
  | .pdTransitionDone d => Sys2Proof.Machine.execPdTransitionDone d s
  | .avsAttemptEnd ack => Sys2Proof.Machine.execAvsAttemptEnd ack s
  | .sleep src v => Sys2Proof.Machine.execSleep src v s
  | .wake src v => Sys2Proof.Machine.execWake src v s
  | .wakeN => Sys2Proof.Machine.execWakeN s
  | .thermal deg => Sys2Proof.Machine.execThermal deg s
  | .resetNRelease => Sys2Proof.Machine.execResetNRelease s
  | .resetNAssert => Sys2Proof.Machine.execResetNAssert s
  | .perst => Sys2Proof.Machine.execPerst s
  | .railLoss aon => Sys2Proof.Machine.execRailLoss aon s
  | .bootStepEnd e => Sys2Proof.Machine.execBootStepEnd e s
  | .bootStepTimeout units => Sys2Proof.Machine.execBootStepTimeout units s
  | .bootRestart => Sys2Proof.Machine.execBootRestart s
  | .restart src v => Sys2Proof.Machine.execRestart src v s
  | .setPref src v => Sys2Proof.Machine.execSetPref src v s
  | .bootClr src v => Sys2Proof.Machine.execBootClr src v s
  | .flashErase src v => Sys2Proof.Machine.execFlashErase src v s
  | .flashProgram src v => Sys2Proof.Machine.execFlashProgram src v s
  | .flashVerify src v => Sys2Proof.Machine.execFlashVerify src v s
  | .flDone ok => Sys2Proof.Machine.execFlDone ok s
  | .svnCommit src v => Sys2Proof.Machine.execSvnCommit src v s
  | .provision src v => Sys2Proof.Machine.execProvision src v s
  | .attGo src v => Sys2Proof.Machine.execAttGo src v s
  | .attDone ok => Sys2Proof.Machine.execAttDone ok s
  | .chalGo src v => Sys2Proof.Machine.execChalGo src v s
  | .tokenGo src v => Sys2Proof.Machine.execTokenGo src v s
  | .tokenVerifyEnd => Sys2Proof.Machine.execTokenVerifyEnd s
  | .nonceExpiry => Sys2Proof.Machine.execNonceExpiry s
  | .close src v => Sys2Proof.Machine.execClose src v s
  | .rngDataRead src => Sys2Proof.Machine.execRngDataRead src s
  | .rngHealthFail => Sys2Proof.Machine.execRngHealthFail s
  | .measRead src => Sys2Proof.Machine.execMeasRead src s
  | .errorReport source page addr unit loc => Sys2Proof.Machine.execErrorReport source page addr unit loc s
  | .watchdog => Sys2Proof.Machine.execWatchdog s
  | .islandReset n => Sys2Proof.Machine.execIslandReset n s
  | .resetDone n => Sys2Proof.Machine.execResetDone n s
  | .deviceReset => Sys2Proof.Machine.execDeviceReset s
  | .islCtlReset src v => Sys2Proof.Machine.execIslCtlReset src v s
  | .islCtlRelease src v => Sys2Proof.Machine.execIslCtlRelease src v s
  | .qPop src => Sys2Proof.Machine.execQPop src s
  | .selfTestEnd seq lasting => Sys2Proof.Machine.execSelfTestEnd seq lasting s
  | .selfTestTimeout seq => Sys2Proof.Machine.execSelfTestTimeout seq s
  | .engCheck k failed => Sys2Proof.Machine.execEngCheck k failed s
  | .callCmdGo src v => Sys2Proof.Machine.execCallCmdGo src v s
  | .callInEdge rising held t => Sys2Proof.Machine.execCallInEdge rising held t s
  | .callIssue => Sys2Proof.Machine.execCallIssue s
  | .msixTableWrite a v => Sys2Proof.Machine.execMsixTableWrite a v s
  | .distLost ok => Sys2Proof.Machine.execDistLost ok s
  | .cdrLockLoss l lock sig adapted snr => Sys2Proof.Machine.execCdrLockLoss l lock sig adapted snr s
  | .pllUnlock q lock => Sys2Proof.Machine.execPllUnlock q lock s
  | .faultReceived p remote on => Sys2Proof.Machine.execFaultReceived p remote on s
  | .tempHigh n t => Sys2Proof.Machine.execTempHigh n t s
  | .leafGrantEnd c => Sys2Proof.Machine.execLeafGrantEnd c s
  | .callOutPulseEnd => Sys2Proof.Machine.execCallOutPulseEnd s
  | .railsValid => Sys2Proof.Machine.execRailsValid s
  | .perstRelease => Sys2Proof.Machine.execPerstRelease s

end Sys2Proof.Machine
end

