-- ==== Sys2Proof/Safety.lean ====
section
/-!
DEFINITION. Safety.lean: what a sound state is: every sparse map of it, its memories among them, is in the one canonical form
of SMap.
-/

namespace Sys2Proof.Machine

/-- The addressed memories hold their canonical form: attached memory, engine memory, the boot flash. -/
def Memory.wf (s : State) : Bool :=
  SMap.wf (fun _ => 0) s.ddrMem && SMap.wf (fun _ => 0) s.engMem && SMap.wf (fun _ => none) s.flash

/-- Every sparse map of the state is canonical, so that equal contents are equal data. -/
def State.wf (s : State) : Bool :=
  SMap.wf (regReset) s.regs &&
  SMap.wf (tabReset) s.tabs &&
  SMap.wf (fun _ => 0) s.cnts &&
  SMap.wf (fun _ => 0) s.timers &&
  SMap.wf (msixReset) s.msix &&
  SMap.wf (fun _ => {}) s.pds &&
  SMap.wf (fun _ => {}) s.tls &&
  SMap.wf (fun _ => {}) s.opts &&
  SMap.wf (fun _ => {}) s.cnvs &&
  SMap.wf (fun _ => {}) s.txds &&
  SMap.wf (fun _ => {}) s.rxfs &&
  SMap.wf (fun _ => {}) s.swaps &&
  SMap.wf (fun _ => {}) s.rxms &&
  SMap.wf (fun _ => 0) s.taps &&
  SMap.wf (fun _ => {}) s.fecs &&
  SMap.wf (fun _ => {}) s.frs &&
  SMap.wf (fun _ => {}) s.ddrs &&
  SMap.wf (fun _ => 0) s.ddrMem &&
  SMap.wf (fun _ => 0) s.spares &&
  SMap.wf (fun _ => {}) s.suits &&
  SMap.wf (fun _ => {}) s.pairs &&
  SMap.wf (fun _ => {}) s.hubs &&
  SMap.wf (fun _ => {}) s.leaves &&
  SMap.wf (fun _ => {}) s.brxs &&
  SMap.wf (fun _ => {}) s.cips &&
  SMap.wf (fun _ => {}) s.slots &&
  SMap.wf (fun _ => {}) s.assocs &&
  SMap.wf (fun _ => []) s.stamps &&
  SMap.wf (fun _ => {}) s.queues &&
  SMap.wf (fun _ => {}) s.scheds &&
  SMap.wf (fun _ => {}) s.streams &&
  SMap.wf (fun _ => {}) s.dets &&
  SMap.wf (fun _ => {}) s.archs &&
  SMap.wf (fun _ => {}) s.refs &&
  SMap.wf (fun _ => {}) s.dplls &&
  SMap.wf (fun _ => {}) s.vlgs &&
  SMap.wf (fun _ => {}) s.engs &&
  SMap.wf (fun _ => {}) s.cls8 &&
  SMap.wf (fun _ => 0) s.engMem &&
  SMap.wf (fun _ => none) s.flash

/-! ### The terms of the statements -/

/-- The page answers a requester's writes at 0x100 and above: the module runs, the page is populated, powered, out of
reset and not staging, and it serves the requester (R16, R20, R29, R31, R43). -/
abbrev State.serves (s : State) (src : Requester) (p : Page) : Prop :=
  s.phase = .run ∧ s.present p = true ∧ s.pageOn p = true ∧ s.srstBusy p.base = false ∧
    s.fb p.base DEAL_CTL_STAGE = false ∧
    (src = .host ∨ (p.kind ≠ .boot ∧ p.kind ≠ .sec ∧ p.kind ≠ .mgt ∧ (src ≠ .i2c ∨ i2cWrites p = true)))

/-- The module runs, with the page populated and powered. -/
abbrev State.up (s : State) (p : Page) : Prop :=
  s.phase = .run ∧ s.present p = true ∧ s.pageOn p = true

/-- What follows an event of a carrier: the carrier and the suits are evaluated anew, then messages are sent. -/
def State.carDone (t : State) (c : Nat) : State := (t.did (seqs [carrierEval c, suitsEval])).settled

/-- What follows a write of a page with run controls: what depends on it is evaluated anew, then messages are sent. -/
def State.pageDone (t : State) (p : Page) : State := (t.did (pageEval p)).settled

/-- What follows an event of the suits, of the references, of the stack. -/
def State.suitDone (t : State) : State := (t.did suitsEval).settled
def State.refDone (t : State) : State := (t.did refsEval).settled
def State.vlgDone (t : State) : State := (t.did (seqs [suitsEval, refsEval])).settled

/-- The page answers a requester's accesses of its window: as `State.serves`, but staging or not, since a window has no
staging shadow (R26, R43). -/
abbrev State.windowServes (s : State) (src : Requester) (p : Page) : Prop :=
  s.phase = .run ∧ s.present p = true ∧ s.pageOn p = true ∧ s.srstBusy p.base = false ∧
    (src = .host ∨ (p.kind ≠ .boot ∧ p.kind ≠ .sec ∧ p.kind ≠ .mgt ∧ (src ≠ .i2c ∨ i2cWrites p = true)))

/-- An entry of a table is selected in the page's window. -/
def State.select (s : State) (p : Page) (t e : Nat) : State :=
  s.apply (.regs (p.base + oWIN_SEL) (BitVec.ofNat 32 (t * 2 ^ 24 + e)))

/-- What follows a write of a word of the entry selected: the index may advance, and messages are sent. -/
def State.winDone (t : State) (p : Page) (w : Nat) : State := (t.did (winNext p w)).settled

end Sys2Proof.Machine
end

