-- ==== Sys2Proof/Certificates/Slice0/Obligations.lean ====
section
/-!
DEFINITION. Certificates/Slice0/Obligations.lean: the statements. Most say what a command answers: the state after the
changes that the rules give (`State.applyAll`, in order), what is evaluated after them, and the messages sent
(`State.settled`); nothing else differs between the two states, so each says its command's frame too.
-/

open Sys2Proof Sys2Proof.Machine

/-- For every command c, queue rest and state s whose queue is c followed by rest: step of s is exec of c on s with the
queue rest. Commands are taken first in, first out; the queue is the model's own way of taking commands (log 5), and
R13 says what an access of a requester is. -/
def Obligations.StepRunsTheFrontCommand : Prop :=
  ∀ (s : State) (c : Instr) (rest : List Instr),
    s.pending = c :: rest →
    step s = exec c { s with pending := rest }

/-- For every command and every state, exec answers a next state (no fault, no refusal), in which the queue of waiting
commands and the part number are unchanged. What a rule refuses is counted in the state (R23), as the rules of the
accesses (R13) say; it does not stop the machine. -/
def Obligations.EveryCommandAnswersAndKeepsTheQueue : Prop :=
  ∀ (s : State) (i : Instr),
    ∃ t, exec i s = .next t ∧ t.pending = s.pending ∧ t.part = s.part

/-- On a populated page whose requester may write it, while the module runs. ERR_CLR with EN as it stands and no SRST
zeroes ERR_CNT and ERR_LAST. SRST with no deal pending and no reset in progress begins the soft reset, and its end
clears SRST_BUSY. A change of EN on a page where it is not fixed sets it, and the block is evaluated anew. W1C of
INT_STAT clears bits, and INT_FIRST when none is left; a forced bit that the page implements sets. OWNER is claimed
while free with the requester's own ID, and released by its owner with 0. -/
def Obligations.HeaderWritesComplete : Prop :=
  (∀ (s : State) (src : Requester) (page : BitVec 14) (v : Word) (p : Page),
     pageAt (slotBase page) = some p → s.phase = .run → s.present p = true → (src ≠ .i2c ∨ i2cWrites p = true) →
     v.getLsbD 0 = true → s.pageEn p.base = true → v.getLsbD 1 = false →
     exec (.errClr src page v) s = .next (s.applyAll [.regs (p.base + oERR_CNT) 0, .regs (p.base + oERR_LAST) 0,
            .regs (p.base + oPAGE_CTL) (if v.getLsbD 2 then 5 else 1)]).settled) ∧
  (∀ (s : State) (src : Requester) (page : BitVec 14) (v : Word) (p : Page),
     pageAt (slotBase page) = some p → s.phase = .run → s.present p = true → (src ≠ .i2c ∨ i2cWrites p = true) →
     v.getLsbD 0 = true → s.pageEn p.base = true → v.getLsbD 3 = false → s.dealPending p.base = false → s.srstBusy
     p.base = false →
     exec (.srst src page v) s =
            .next ((s.apply (.regs (p.base + oPAGE_CTL) (if v.getLsbD 2 then 5 else 1))).did (softReset p)).settled) ∧
  (∀ (s : State) (page : BitVec 14) (p : Page),
     pageAt (slotBase page) = some p → s.phase = .run → s.srstBusy p.base = true →
     exec (.softResetDone page) s =
            .next ((s.apply (.regs (p.base + oPAGE_STAT) (bitsPut (s.reg (p.base + oPAGE_STAT)) 1 1 0))).did (pageEval p)).settled) ∧
  (∀ (s : State) (src : Requester) (page : BitVec 14) (v : Word) (p : Page),
     pageAt (slotBase page) = some p → s.phase = .run → s.present p = true → (src ≠ .i2c ∨ i2cWrites p = true) →
     enFixed p = false → s.pageEn p.base ≠ v.getLsbD 0 → v.getLsbD 1 = false → v.getLsbD 3 = false →
     exec (.pageEnableWrite src page v) s =
            .next ((s.apply (.regs (p.base + oPAGE_CTL) (v &&& 5))).did (pageEval p)).settled) ∧
  (∀ (s : State) (src : Requester) (page : BitVec 14) (v : Word) (p : Page),
     pageAt (slotBase page) = some p → s.phase = .run → s.present p = true → (src ≠ .i2c ∨ i2cWrites p = true) →
     exec (.intStatClear src page v) s =
            .next (s.applyAll ([.regs (p.base + oINT_STAT) (s.reg (p.base + oINT_STAT) &&& ~~~v)] ++
              (if s.reg (p.base + oINT_STAT) &&& ~~~v = 0 then [.regs (p.base + oINT_FIRST) 0] else []) ++
              [.intWrite true])).settled) ∧
  (∀ (s : State) (src : Requester) (page : BitVec 14) (n : Fin 32) (p : Page),
     pageAt (slotBase page) = some p → s.phase = .run → s.present p = true → (src ≠ .i2c ∨ i2cWrites p = true) →
     n.val < pageNumInt p →
     exec (.intForce src page (BitVec.ofNat 32 (2 ^ n.val))) s =
            .next (s.applyAll (.regs (p.base + oINT_STAT) (s.reg (p.base + oINT_STAT) ||| BitVec.ofNat 32 (2 ^ n.val)) ::
              (if s.reg (p.base + oINT_STAT) = 0 then [.regs (p.base + oINT_FIRST) (BitVec.ofNat 32 (0x80000000 + n.val))]
               else []))).settled) ∧
  (∀ (s : State) (src : Requester) (page : BitVec 14) (v : Word) (p : Page),
     pageAt (slotBase page) = some p → s.phase = .run → s.present p = true → (src ≠ .i2c ∨ i2cWrites p = true) →
     (s.fg p.base OWNER_ID = 0 ∨ s.fg p.base OWNER_ID = src.id) → (bitsGet v 0 8 = 0 ∨ bitsGet v 0 8 = src.id) →
     exec (.ownerWrite src page v) s =
            .next (s.apply (.regs (p.base + oOWNER) (BitVec.ofNat 32 (bitsGet v 0 8)))).settled) ∧
  (∀ (s : State) (src : Requester) (page : BitVec 14) (v : Word) (p : Page),
     pageAt (slotBase page) = some p → s.phase = .run → s.present p = true → (src ≠ .i2c ∨ i2cWrites p = true) → s.fg
     p.base OWNER_ID ≠ 0 → s.fg p.base OWNER_ID ≠ src.id →
     exec (.ownerWrite src page v) s = .next (s.applyAll
              [.regs (p.base + oERR_CNT) (BitVec.ofNat 32 (satAdd 32 (s.reg (p.base + oERR_CNT)).toNat 1)),
               .regs (p.base + oERR_LAST) (BitVec.ofNat 32 (0x028 * 2 ^ 20 + src.id * 2 ^ 8 + 0x01))]).settled)

/-- While DEAL_CTL.PENDING of the page reads 1, a write of PAGE_CTL with SRST and with EN as it stands is counted with
code SRST_REFUSED and begins no soft reset; the other fields take effect. With no deal pending, a write of SRST while
SRST_BUSY is 1 changes nothing but the fields beside SRST and is not counted. -/
def Obligations.SoftResetRefusedWhileADealIsPending : Prop :=
  (∀ (s : State) (src : Requester) (page : BitVec 14) (v : Word) (p : Page),
     pageAt (slotBase page) = some p → s.phase = .run → s.present p = true → (src ≠ .i2c ∨ i2cWrites p = true) →
     v.getLsbD 0 = true → s.pageEn p.base = true → v.getLsbD 3 = false → s.dealPending p.base = true →
     exec (.srst src page v) s = .next (s.applyAll [.regs (p.base + oPAGE_CTL) (if v.getLsbD 2 then 5 else 1),
              .regs (p.base + oERR_CNT) (BitVec.ofNat 32 (satAdd 32 (s.reg (p.base + oERR_CNT)).toNat 1)),
              .regs (p.base + oERR_LAST) (BitVec.ofNat 32 (0x008 * 2 ^ 20 + src.id * 2 ^ 8 + 0x04))]).settled) ∧
  (∀ (s : State) (src : Requester) (page : BitVec 14) (v : Word) (p : Page),
     pageAt (slotBase page) = some p → s.phase = .run → s.present p = true → (src ≠ .i2c ∨ i2cWrites p = true) →
     v.getLsbD 0 = true → s.pageEn p.base = true → v.getLsbD 3 = false → s.dealPending p.base = false → s.srstBusy
     p.base = true →
     exec (.srst src page v) s =
            .next (s.apply (.regs (p.base + oPAGE_CTL) (if v.getLsbD 2 then 5 else 1))).settled)

/-- On CLS, QMG and SNAP, whose soft reset has no evaluation of other pages after it: right after the write of SRST every
register at 0x100 and above holds its reset value, INT_STAT, INT_FIRST, ERR_CNT and ERR_LAST are 0, SRST_BUSY is 1,
and PAGE_CTL, INT_EN, OWNER, DEAL_CTL and the SNAP shadows are unchanged. -/
def Obligations.SoftResetRestoresThePage : Prop :=
  ∀ (s : State) (p : Page) (off : Nat),
    (p = ⟨.cls, 0⟩ ∨ p = ⟨.qmg, 0⟩ ∨ p = ⟨.snap, 0⟩) → off < 0x1000 →
    (0x100 ≤ off → (s.did (softReset p)).reg (p.base + off) = regReset (p.base + off)) ∧
           (off = oINT_STAT ∨ off = oINT_FIRST ∨ off = oERR_CNT ∨ off = oERR_LAST → (s.did (softReset p)).reg (p.base + off) = 0) ∧
           (s.did (softReset p)).srstBusy p.base = true ∧
           (off = oPAGE_CTL ∨ off = oINT_EN ∨ off = oOWNER ∨ off = oDEAL_CTL ∨ (0x080 ≤ off ∧ off < 0x100) →
             (s.did (softReset p)).reg (p.base + off) = s.reg (p.base + off))

/-- INTERRUPT_EVENT n of a populated powered page sets bit n of INT_STAT and, if INT_STAT was 0, writes INT_FIRST with
VALID and n; nothing else changes before messages are sent. After a W1C write of any value and the event, in this
order, the bit is 1 (an event of the same cycle as a clear leaves the bit 1, R22). INT_FIRST clears when INT_STAT
becomes all zero, else it stays. -/
def Obligations.EventSetsItsBitAndTheFirst : Prop :=
  (∀ (s : State) (page : BitVec 14) (n : Fin 32) (p : Page),
     pageAt (slotBase page) = some p → s.up p → n.val < pageNumInt p →
     exec (.interruptEvent page n) s =
            .next (s.applyAll (.regs (p.base + oINT_STAT) (s.reg (p.base + oINT_STAT) ||| BitVec.ofNat 32 (2 ^ n.val)) ::
              (if s.reg (p.base + oINT_STAT) = 0 then [.regs (p.base + oINT_FIRST) (BitVec.ofNat 32 (0x80000000 + n.val))]
               else []))).settled) ∧
  (∀ (s : State) (b : Nat) (v : Word) (n : Fin 32),
     ((s.did (clearInt b v)).did (raise b n.val)).reg (b + oINT_STAT) =
            (s.reg (b + oINT_STAT) &&& ~~~v) ||| BitVec.ofNat 32 (2 ^ n.val)) ∧
  (∀ (s : State) (b : Nat) (v : Word),
     (s.did (clearInt b v)).reg (b + oINT_FIRST) =
            if s.reg (b + oINT_STAT) &&& ~~~v = 0 then 0 else s.reg (b + oINT_FIRST))

/-- A host write of LOCK_BREAK with the base of a page other than SEC whose OWNER.ID is not 0 clears the ID and counts
LOCK_BROKEN there with OFFSET 0x028 and SRC HOST; with OWNER.ID 0 nothing changes. A value that is no page base, or
the base of SEC, is counted in BAD_ACC_CNT with the offset of LOCK_BREAK, and so is a write by another requester,
which frees no lock. -/
def Obligations.OwnerLockFreedByTheHost : Prop :=
  (∀ (s : State) (p : Page),
     pageAt p.base = some p → p.kind ≠ .sec → p.base < 2 ^ 32 → s.serves .host ⟨.mgt, 0⟩ → s.fg p.base OWNER_ID ≠ 0 →
     exec (.lockBreak .host (BitVec.ofNat 32 p.base)) s =
            .next (s.applyAll [.regs (p.base + oOWNER) (bitsPut (s.reg (p.base + oOWNER)) 0 8 0),
              .regs (p.base + oERR_CNT) (BitVec.ofNat 32 (satAdd 32 (s.reg (p.base + oERR_CNT)).toNat 1)),
              .regs (p.base + oERR_LAST) (BitVec.ofNat 32 (0x028 * 2 ^ 20 + 0x01 * 2 ^ 8 + 0x0B))]).settled) ∧
  (∀ (s : State) (p : Page),
     pageAt p.base = some p → p.kind ≠ .sec → p.base < 2 ^ 32 → s.serves .host ⟨.mgt, 0⟩ → s.fg p.base OWNER_ID = 0 →
     exec (.lockBreak .host (BitVec.ofNat 32 p.base)) s = .next s.settled) ∧
  (∀ (s : State) (v : Word),
     (∀ p ∈ pageAt v.toNat, p.base ≠ v.toNat ∨ p.kind = .sec) → s.serves .host ⟨.mgt, 0⟩ →
     exec (.lockBreak .host v) s = .next (s.did (badAcc false MGT.LOCK_BREAK)).settled) ∧
  (∀ (s : State) (src : Requester) (v : Word),
     src ≠ .host → s.phase = .run →
     exec (.lockBreak src v) s = .next (s.did (badAcc false MGT.LOCK_BREAK)).settled)

/-- An access to an empty slot is counted: BAD_ACC_CNT goes up by one and saturates, BAD_ACC_ADDR names the address, and
BAD_ACCESS sets; a write of it changes nothing else, and a read returns 0. So is a BAR2 write to the memory of a
cluster that is closed; one that reaches open engine memory stores its bytes there. -/
def Obligations.BadAccessIsCounted : Prop :=
  (∀ (s : State) (a : BitVec 26),
     pageAt a.toNat = none → s.phase = .run →
     exec (.emptySlotAccess a true) s =
            .next (s.applyAll ([.regs MGT.BAD_ACC_CNT (bitsPut (s.reg MGT.BAD_ACC_CNT) 0 32 (satAdd 32 (s.fg 0 MGT.BAD_ACC_CNT_COUNT) 1)),
              .regs MGT.BAD_ACC_ADDR (BitVec.ofNat 32 (a.toNat)),
              .regs oINT_STAT (s.reg oINT_STAT ||| 1)] ++ (if s.reg oINT_STAT = 0 then [.regs oINT_FIRST 0x80000000] else []))).settled) ∧
  (∀ (s : State) (a : BitVec 26),
     pageAt a.toNat = none → s.phase = .run → a.toNat % 4 = 0 →
     exec (.emptySlotAccess a false) s =
            .next ((s.did (badAcc false a.toNat)).apply (.rdata 0)).settled) ∧
  (∀ (s : State) (a : BitVec 26) (bytes : List Byte),
     s.phase = .run → a.toNat + bytes.length ≤ 2 ^ 26 → bytes ≠ [] → (a.toNat / 0x800000 < 4 ∨ a.toNat / 0x800000 =
     7) → s.scope 0 = false →
     exec (.bar2Write a bytes) s = .next (s.did (badAcc true a.toNat)).settled) ∧
  (∀ (s : State) (a : BitVec 26) (bytes : List Byte),
     s.phase = .run → a.toNat + bytes.length ≤ 2 ^ 26 → bytes ≠ [] → 4 ≤ a.toNat / 0x800000 → a.toNat / 0x800000 < 7
     → (a.toNat % 0x800000 < 0x400000 ∨ 0x8000 ≤ a.toNat % 0x10000) → s.fb (enb (a.toNat / 0x800000))
     ENG.CL_STAT_LOADING = false → s.clUp (a.toNat / 0x800000) = true →
     exec (.bar2Write a bytes) s = .next (s.did (engStore (.die 0 a.toNat) bytes)).settled)

/-- A 4-byte aligned REGISTER_WRITE of the host at 0x100-0x7FF of a populated page while the module runs. With the domain
not ON it is counted with PAGE_OFF; during a soft reset with SRST_BUSY; at an offset with no register with UNMAPPED;
at a register with no writable bit with RO_WRITE; in none of these does a register change. A write of 1 or 2 bytes is
counted with SUBWORD. A register of the DDRn pages, which have no hooks, takes the written value in its writable bits
and keeps the others. -/
def Obligations.OrdinaryRegisterWrites : Prop :=
  (∀ (s : State) (a : BitVec 26) (bytes : List Byte) (p : Page),
     pageAt a.toNat = some p → s.phase = .run → s.present p = true → a.toNat % 4 = 0 → bytes.length = 4 → 0x100 ≤
     a.toNat % 0x1000 → s.pageOn p = false → hostOnly p (a.toNat % 0x1000) = false →
     exec (.registerWrite .host a bytes) s = .next (s.did (errPage p.base (a.toNat % 0x1000) 1 0x06)).settled) ∧
  (∀ (s : State) (a : BitVec 26) (bytes : List Byte) (p : Page),
     pageAt a.toNat = some p → s.phase = .run → s.present p = true → a.toNat % 4 = 0 → bytes.length = 4 → 0x100 ≤
     a.toNat % 0x1000 → s.pageOn p = true → s.srstBusy p.base = true →
     exec (.registerWrite .host a bytes) s = .next (s.did (errPage p.base (a.toNat % 0x1000) 1 0x0A)).settled) ∧
  (∀ (s : State) (a : BitVec 26) (bytes : List Byte) (p : Page),
     pageAt a.toNat = some p → s.serves .host p → a.toNat % 4 = 0 → bytes.length = 4 → 0x100 ≤ a.toNat % 0x1000 →
     a.toNat % 0x1000 < 0x800 → regRow p (a.toNat % 0x1000) = none →
     exec (.registerWrite .host a bytes) s = .next (s.did (errPage p.base (a.toNat % 0x1000) 1 0x08)).settled) ∧
  (∀ (s : State) (a : BitVec 26) (bytes : List Byte) (p : Page) (r : RegRow),
     pageAt a.toNat = some p → s.serves .host p → a.toNat % 4 = 0 → bytes.length = 4 → 0x100 ≤ a.toNat % 0x1000 →
     a.toNat % 0x1000 < 0x800 → regRow p (a.toNat % 0x1000) = some r → r.rw = 0 → r.w1 = 0 →
     exec (.registerWrite .host a bytes) s = .next (s.did (errPage p.base (a.toNat % 0x1000) 1 0x03)).settled) ∧
  (∀ (s : State) (a : BitVec 26) (bytes : List Byte) (p : Page),
     pageAt a.toNat = some p → s.phase = .run → s.present p = true → (bytes.length = 1 ∨ bytes.length = 2) →
     exec (.registerWrite .host a bytes) s = .next (s.did (errPage p.base (a.toNat % 0x1000) 1 0x02)).settled) ∧
  (∀ (s : State) (n : Fin 16) (off : Nat) (v : Word) (r : RegRow),
     s.serves .host ⟨.ddr, n.val⟩ → off < 0x800 → 0x100 ≤ off → off % 4 = 0 → regRow ⟨.ddr, n.val⟩ off = some r →
     r.rw ≠ 0 →
     exec (.registerWrite .host (BitVec.ofNat 26 (0x2800000 + n.val * 0x1000 + off)) (bytesLE 4 v.toNat)) s =
            .next (s.apply (.regs (0x2800000 + n.val * 0x1000 + off)
              ((s.reg (0x2800000 + n.val * 0x1000 + off) &&& ~~~ r.rw) ||| (v &&& r.rw)))).settled)

/-- A write of a stageable register of a page with STAGE 1 that names a deal in STAGING with fewer than 64 actions, none
at this register, is added to the deal's actions and changes no register. One that names a deal not in STAGING is
counted with NOT_STAGING; one of a register with no staging shadow with NOT_STAGEABLE. -/
def Obligations.StagedWritesWait : Prop :=
  (∀ (s : State) (a : BitVec 26) (v : Word) (p : Page) (r : RegRow) (d : Deal),
     pageAt a.toNat = some p → s.up p → s.srstBusy p.base = false → a.toNat = p.base + a.toNat % 0x1000 → s.fb p.base
     DEAL_CTL_STAGE = true → p.kind ≠ .mgt → 0x100 ≤ a.toNat % 0x1000 → a.toNat % 0x1000 < 0x800 → regRow p (a.toNat
     % 0x1000) = some r → r.stage = true → s.deal (s.fg p.base DEAL_CTL_DEAL_ID) = some d → d.st = .staging →
     d.acts.any (Action.same (.write a.toNat v)) = false → d.acts.length < 64 →
     exec (.stagedWrite .host a v) s = .next (s.apply (.deals (s.deals.map fun e =>
              if e.id = d.id then { d with acts := d.acts ++ [.write a.toNat v] } else e))).settled) ∧
  (∀ (s : State) (a : BitVec 26) (v : Word) (p : Page) (r : RegRow),
     pageAt a.toNat = some p → s.up p → s.srstBusy p.base = false → s.fb p.base DEAL_CTL_STAGE = true → p.kind ≠ .mgt
     → 0x100 ≤ a.toNat % 0x1000 → a.toNat % 0x1000 < 0x800 → regRow p (a.toNat % 0x1000) = some r → (s.deal (s.fg
     p.base DEAL_CTL_DEAL_ID)).any (fun d => d.st == .staging) = false →
     exec (.stagedWrite .host a v) s = .next (s.did (errPage p.base (a.toNat % 0x1000) 1 0x09)).settled) ∧
  (∀ (s : State) (a : BitVec 26) (v : Word) (p : Page) (r : RegRow),
     pageAt a.toNat = some p → s.up p → s.srstBusy p.base = false → s.fb p.base DEAL_CTL_STAGE = true → p.kind ≠ .mgt
     → 0x100 ≤ a.toNat % 0x1000 → a.toNat % 0x1000 < 0x800 → regRow p (a.toNat % 0x1000) = some r → (s.deal (s.fg
     p.base DEAL_CTL_DEAL_ID)).any (fun d => d.st == .staging) = true → r.stage = false →
     exec (.stagedWrite .host a v) s = .next (s.did (errPage p.base (a.toNat % 0x1000) 1 0x07)).settled)

/-- On a page with a window that serves the requester. A write of WIN_DATAw within the selected table and its words writes
word w of the selected entry, and the index advances by one after the highest word with AUTO_INC, if it is within the
table. An index at or beyond the table is refused with WINDOW_RANGE. A read of WIN_DATA0 within the table answers word
0 of the entry, fills the buffer that WIN_DATA1 and above then read with its other words, and advances the index
likewise for entries of one word. -/
def Obligations.WindowAccesses : Prop :=
  (∀ (s : State) (src : Requester) (page : BitVec 14) (w : Fin 16) (v : Word) (p : Page) (q : Nat × Nat),
     pageAt (slotBase page) = some p → s.serves src p → pageWindow p = true → winTable p (bitsGet (s.reg (p.base +
     oWIN_SEL)) 24 8) = some q → bitsGet (s.reg (p.base + oWIN_SEL)) 0 24 < q.1 → w.val < q.2 →
     exec (.windowWrite src page w v) s = .next ((s.did (pageTabWrite p src.id (bitsGet (s.reg (p.base + oWIN_SEL)) 24 8)
              (bitsGet (s.reg (p.base + oWIN_SEL)) 0 24) w.val v)).did (winNext p w.val)).settled) ∧
  (∀ (s : State) (src : Requester) (page : BitVec 14) (w : Fin 16) (v : Word) (p : Page) (q : Nat × Nat),
     pageAt (slotBase page) = some p → s.serves src p → pageWindow p = true → winTable p (bitsGet (s.reg (p.base +
     oWIN_SEL)) 24 8) = some q → q.1 ≤ bitsGet (s.reg (p.base + oWIN_SEL)) 0 24 →
     exec (.windowWrite src page w v) s = .next (s.did (errPage p.base (oWIN_DATA w.val) src.id 0x05)).settled) ∧
  (∀ (s : State) (page : BitVec 14) (p : Page) (q : Nat × Nat),
     pageAt (slotBase page) = some p → s.up p → pageWindow p = true → winTable p (bitsGet (s.reg (p.base + oWIN_SEL))
     24 8) = some q → bitsGet (s.reg (p.base + oWIN_SEL)) 0 24 < q.1 → q.2 ≤ 16 → p.kind ≠ .err → 0 < q.2 →
     ∃ t, exec (.windowRead .host page) s = .next t ∧
            t.rdata = (pageTabView p s (bitsGet (s.reg (p.base + oWIN_SEL)) 24 8) (bitsGet (s.reg (p.base + oWIN_SEL)) 0 24) 0).toNat ∧
            (∀ i, 0 < i → i < q.2 → t.reg (p.base + oWIN_DATA i) =
              pageTabView p s (bitsGet (s.reg (p.base + oWIN_SEL)) 24 8) (bitsGet (s.reg (p.base + oWIN_SEL)) 0 24) i) ∧
            t.tabs = s.tabs)

/-- A write transfer of 4 bytes keeps the offset they spell, little-endian, and changes nothing else. One of 8 bytes with
an offset within BAR0 whose page I2C may write also writes the register, as a 4-byte access does. With an offset
within BAR0 at a word boundary of a page whose registers I2C may read, a read transfer answers what the register reads
as, 4 bytes. -/
def Obligations.TransfersOfTheSideBus : Prop :=
  (∀ (s : State) (bytes : List Byte),
     bytes.length = 4 →
     exec (.i2cWriteTransfer bytes) s = .next (s.apply (.i2c (wordAt bytes 0).toNat)).settled) ∧
  (∀ (s : State) (bytes : List Byte),
     bytes.length = 8 → (wordAt bytes 0).toNat < 2 ^ 26 → (wordAt bytes 0).toNat % 4 = 0 →
     exec (.i2cWriteTransfer bytes) s =
            .next ((s.apply (.i2c (wordAt bytes 0).toNat)).did
              (busWrite 2 (wordAt bytes 0).toNat (wordAt (bytes.drop 4) 0))).settled) ∧
  (∀ (s : State) (p : Page) (r : RegRow),
     s.phase = .run → s.i2c < 2 ^ 26 → s.i2c % 4 = 0 → pageAt s.i2c = some p → i2cReads p (s.i2c % 0x1000) = true →
     (p.kind = .opt ∨ p.kind = .pwr) → 0x100 ≤ s.i2c % 0x1000 → s.i2c % 0x1000 < 0x800 → regRow p (s.i2c % 0x1000) =
     some r →
     exec .i2cReadTransfer s = .next (s.apply (.rdata (s.regRead p (s.i2c % 0x1000)).toNat)).settled)

/-- A read of NOW_LO answers bits 31:0 of device time in ns and latches bits 63:32 and the fraction. A read of CARc_MF_NUM
answers the multiframe number of a running timeline and latches the device time of its start. STEP_CMD.GO while no
step is pending takes STEP_HI:LO as the offset and sets BUSY; a second one is counted with STEP_BUSY. The step then
adds the offset to device time, clears BUSY and raises STEP_DONE; a backward one executes no deal that its passing
alone would make due. What follows (starts of the timelines moved with it, performance seconds, samples, pulses) comes
after it. -/
def Obligations.DeviceTimeReadsAndSteps : Prop :=
  (∀ (s : State),
     s.phase = .run →
     exec (.nowLoRead .host) s = .next (s.applyAll [.regs (tb + TIME.NOW_HI) (s.nowNs.extractLsb' 32 32),
              .regs (tb + TIME.NOW_FRAC) ((s.now.extractLsb' 0 16).zeroExtend 32),
              .rdata (s.nowNs.extractLsb' 0 32).toNat]).settled) ∧
  (∀ (s : State) (c : Fin 4),
     s.phase = .run → (s.tl c).run = true →
     exec (.carMfNumRead .host c) s = .next (s.applyAll [
              .regs (tb + TIME.CAR_MF_TLO c) ((s.tl c).start.extractLsb' 0 32),
              .regs (tb + TIME.CAR_MF_THI c) ((s.tl c).start.extractLsb' 32 32),
              .rdata (s.tl c).mf.toNat]).settled) ∧
  (∀ (s : State) (src : Requester),
     s.serves src ⟨.time, 0⟩ → s.fb tb TIME.STEP_CMD_BUSY = false →
     exec (.stepGo src) s = .next (s.applyAll [
              .stepOfs ((s.reg (tb + TIME.STEP_HI)).zeroExtend 64 <<< 32 ||| (s.reg (tb + TIME.STEP_LO)).zeroExtend 64),
              .regs (tb + TIME.STEP_CMD) (bitsPut (s.reg (tb + TIME.STEP_CMD)) 1 1 1)]).settled) ∧
  (∀ (s : State) (src : Requester),
     s.serves src ⟨.time, 0⟩ → s.fb tb TIME.STEP_CMD_BUSY = true →
     exec (.stepGo src) s = .next (s.did (errPage tb TIME.STEP_CMD src.id 0x85)).settled) ∧
  (∀ (s : State),
     s.phase = .run → s.fb tb TIME.STEP_CMD_BUSY = true → s.stepOfs.toInt ≤ 0 →
     exec .stepDone s = .next ((((s.apply (.now (s.now + BitVec.ofInt 80 (s.stepOfs.toInt * 65536)))).did
              (seqs [fbset tb TIME.STEP_CMD_BUSY false, raise tb 5])).did
              (fun t => (List.range 4).map fun c => .tls c { t.tl c with start := (t.tl c).start + s.stepOfs })).did
              (seqs [dealsNow, pmStepped, snsStepped, outsStepped s.stepOfs.toInt])).settled)

/-- TX_MULTIFRAME_START on a carrier whose timeline runs: its number goes up by one, its start is the present device time
and its line frame is 0; then the transmit chain, the encoder, the hub's round, the suits, the deals that are due at
this multiframe, the deal mark and the carrier follow. TX_LINE_FRAME_START: the line frame counts on modulo 256; then
the transmit chain, the clips counted and the deals due at a frame follow. -/
def Obligations.TimelineBoundaries : Prop :=
  (∀ (s : State) (c : Fin 4),
     s.phase = .run → (s.tl c).run = true →
     exec (.txMultiframeStart c) s = .next ((s.apply (.tls c { s.tl c with
              mf := (s.tl c).mf + 1, start := s.nowNs, frame := 0 })).did (seqs [txdFrame c, txdMultiframe c, codeMultiframe c,
                fun u => if u.roundPos c = 0 then [] else hubMultiframe c [] u, suitMultiframe c,
                dealsDue (fun u => u.dueMf c ((s.tl c).mf + 1)) false, sendMark c, carrierEval c, suitsEval])).settled) ∧
  (∀ (s : State) (c : Fin 4) (clips : Nat),
     s.phase = .run → (s.tl c).run = true →
     exec (.txLineFrameStart c clips) s = .next ((s.apply (.tls c { s.tl c with
              frame := ((s.tl c).frame + 1) % 256 })).did (seqs [txdFrame c, txdClips c clips,
                dealsDue (fun u => u.dueFrame c) false, carrierEval c, suitsEval])).settled)

/-- OPEN of an ID that no entry has binds a free entry in STAGING, with nothing staged; of an ID that is pending it is
counted with DEAL_STATE; with 32 pending entries with NO_SLOT. CANCEL of a pending deal moves it to CANCELLED with its
actions gone and raises DEAL_CANCELLED. RELEASE of a deal in DONE, REFUSED or CANCELLED frees its entry; of a pending
one, or one not bound, it is counted with DEAL_STATE. -/
def Obligations.DealsOpenAndClose : Prop :=
  (∀ (s : State) (src : Requester),
     s.serves src ⟨.time, 0⟩ → (s.fg tb TIME.DEAL_SEL_ID < 0xC0 ∨ src = .dealer) → s.deal (s.fg tb TIME.DEAL_SEL_ID)
     = none → s.deals.length < 32 →
     exec (.dealOpen src) s = .next (s.apply (.deals (s.deals ++
              [{ id := s.fg tb TIME.DEAL_SEL_ID, st := .staging, stack := decide (src = .dealer) }]))).settled) ∧
  (∀ (s : State) (src : Requester) (d : Deal),
     s.serves src ⟨.time, 0⟩ → s.fg tb TIME.DEAL_SEL_ID < 0xC0 → s.deal (s.fg tb TIME.DEAL_SEL_ID) = some d →
     d.pending = true →
     exec (.dealOpen src) s = .next (s.did (errPage tb TIME.DEAL_CMD src.id 0x81)).settled) ∧
  (∀ (s : State) (src : Requester),
     s.serves src ⟨.time, 0⟩ → s.fg tb TIME.DEAL_SEL_ID < 0xC0 → s.deal (s.fg tb TIME.DEAL_SEL_ID) = none → 32 ≤
     s.deals.length → (∀ d ∈ s.deals, d.pending = true) →
     exec (.dealOpen src) s = .next (s.did (errPage tb TIME.DEAL_CMD src.id 0x80)).settled) ∧
  (∀ (s : State) (src : Requester) (d : Deal),
     s.serves src ⟨.time, 0⟩ → s.deal (s.fg tb TIME.DEAL_SEL_ID) = some d → d.pending = true →
     exec (.dealCancel src) s = .next ((s.apply (.deals (s.deals.map fun e => if e.id = d.id then
              { d with st := .cancelled, reason := 11, closedAt := (s.deals.map Deal.closedAt).foldl max 0 + 1, marks := none,
                       bound := none, lockN := none, acts := [] } else e))).did (raise tb 2)).settled) ∧
  (∀ (s : State) (src : Requester) (d : Deal),
     s.serves src ⟨.time, 0⟩ → s.deal (s.fg tb TIME.DEAL_SEL_ID) = some d → d.pending = false →
     exec (.dealRelease src) s =
            .next (s.apply (.deals (s.deals.filter fun e => e.id != s.fg tb TIME.DEAL_SEL_ID))).settled) ∧
  (∀ (s : State) (src : Requester),
     s.serves src ⟨.time, 0⟩ → (∀ d ∈ s.deal (s.fg tb TIME.DEAL_SEL_ID), d.pending = true) →
     exec (.dealRelease src) s = .next (s.did (errPage tb TIME.DEAL_CMD src.id 0x81)).settled)

/-- For IDs 0xC0 to 0xFF selected on a module whose STACK_STAT.STATE is JOINED or ORPHAN (a member, not the dealer): OPEN
by any requester other than DEALER changes nothing but the count with code ID_RESERVED, so no deal is added; OPEN by
DEALER of an ID with no entry, an entry being free, binds one in STAGING as a stack deal. -/
def Obligations.StackDealIdsAreTheDealers : Prop :=
  (∀ (s : State) (src : Requester),
     s.serves src ⟨.time, 0⟩ → 0xC0 ≤ s.fg tb TIME.DEAL_SEL_ID → (s.fg vb0 VLG.STACK_STAT_STATE = 1 ∨ s.fg vb0
     VLG.STACK_STAT_STATE = 3) → src ≠ .dealer →
     exec (.dealOpen src) s = .next (s.did (errPage tb TIME.DEAL_CMD src.id 0x83)).settled ∧
              (s.did (errPage tb TIME.DEAL_CMD src.id 0x83)).settled.deals = s.deals) ∧
  (∀ (s : State),
     s.serves .dealer ⟨.time, 0⟩ → 0xC0 ≤ s.fg tb TIME.DEAL_SEL_ID → (s.fg vb0 VLG.STACK_STAT_STATE = 1 ∨ s.fg vb0
     VLG.STACK_STAT_STATE = 3) → s.deal (s.fg tb TIME.DEAL_SEL_ID) = none → s.deals.length < 32 →
     exec (.dealOpen .dealer) s = .next (s.apply (.deals (s.deals ++
              [{ id := s.fg tb TIME.DEAL_SEL_ID, st := .staging, stack := true }]))).settled)

/-- ARM of a deal in STAGING that is not prepared in a stack, with a number target other than 0: its entry moves to ARMED,
with the multiframe it is locked to if line-locked; to LATE with its event, after which what is due executes; or to
REFUSED with the reason of the first check that fails, and its event. ARM of an ID in no such state is counted with
DEAL_STATE. Which of the three it is, armVerdict says by the rules' checks in their order; numbers compare serially: N
is ahead of C when (N - C) mod 2^n is between 1 and 2^(n-1) - 1, current when equal, else behind. -/
def Obligations.ArmDecides : Prop :=
  (∀ (s : State) (src : Requester) (d : Deal),
     s.serves src ⟨.time, 0⟩ → s.deal (s.fg tb TIME.DEAL_SEL_ID) = some d → d.st = .staging → s.prepares = [] →
     s.stSt ≠ kDEALER → d.num ≠ 0 → s.armVerdict d = .armed →
     exec (.dealArm src) s = .next (s.apply (.deals (s.deals.map fun e => if e.id = d.id then
              { d with st := .armed, lockN := if d.lineLock then some (s.lockNum d) else none } else e))).settled) ∧
  (∀ (s : State) (src : Requester) (d : Deal),
     s.serves src ⟨.time, 0⟩ → s.deal (s.fg tb TIME.DEAL_SEL_ID) = some d → d.st = .staging → s.prepares = [] →
     s.stSt ≠ kDEALER → d.num ≠ 0 → s.armVerdict d = .late →
     exec (.dealArm src) s = .next ((s.apply (.deals (s.deals.map fun e => if e.id = d.id then
              { d with st := .late } else e))).did (seqs [raise tb 3, dealsNow])).settled) ∧
  (∀ (s : State) (src : Requester) (d : Deal) (r : Nat),
     s.serves src ⟨.time, 0⟩ → s.deal (s.fg tb TIME.DEAL_SEL_ID) = some d → d.st = .staging → s.prepares = [] →
     s.stSt ≠ kDEALER → d.num ≠ 0 → s.armVerdict d = .refused r →
     exec (.dealArm src) s = .next ((s.apply (.deals (s.deals.map fun e => if e.id = d.id then
              { d with st := .refused, reason := r, closedAt := (s.deals.map Deal.closedAt).foldl max 0 + 1, marks := none,
                       bound := none, lockN := none } else e))).did (raise tb 1)).settled) ∧
  (∀ (s : State) (src : Requester),
     s.serves src ⟨.time, 0⟩ → (∀ d ∈ s.deal (s.fg tb TIME.DEAL_SEL_ID), d.st ≠ .staging) →
     exec (.dealArm src) s = .next (s.did (errPage tb TIME.DEAL_CMD src.id 0x81)).settled) ∧
  (∀ (s : State) (d : Deal),
     d.lineLock = false → d.trigMark = false → d.overflow = false → d.tgtNum = false → d.align = aNONE →
     s.armVerdict d = (if d.time.toNat ≤ s.nowNs.toNat then (if d.execLate then .late else .refused 1) else .armed)) ∧
  (∀ (n N C : Nat),
     0 < n → N < 2 ^ n → C < 2 ^ n →
     (serialAhead n N C = true ↔ 1 ≤ ((N : Int) - C) % 2 ^ n ∧ ((N : Int) - C) % 2 ^ n ≤ 2 ^ (n - 1) - 1) ∧
              (serialDist n N C = 0 ↔ N = C) ∧
              ((serialAhead n N C = false ∧ N ≠ C) ↔ (serialAhead n C N = true ∨ serialDist n N C = 2 ^ (n - 1))))

/-- With the selected deal in STAGING and CMD_PAGE the base of a populated page that accepts the code, with an argument in
its range, CMD_CODE appends the command with CMD_ARG to the deal's actions: no two commands replace each other. A code
that the page does not accept is counted with BAD_CMD; a deal not in STAGING with DEAL_STATE. -/
def Obligations.CommandsAreStaged : Prop :=
  (∀ (s : State) (src : Requester) (code : Byte) (d : Deal) (p : Page),
     s.serves src ⟨.time, 0⟩ → s.deal (s.fg tb TIME.DEAL_SEL_ID) = some d → d.st = .staging → d.acts.length < 64 →
     pageAt (s.reg (tb + TIME.CMD_PAGE)).toNat = some p → (s.reg (tb + TIME.CMD_PAGE)).toNat % 0x1000 = 0 → s.present
     p = true → pageAccepts p.kind code.toNat = true → cmdArgOk p.kind code.toNat (s.reg (tb + TIME.CMD_ARG)) = true
     →
     exec (.cmdCode src code) s = .next (s.apply (.deals (s.deals.map fun e => if e.id = d.id then
              { d with acts := d.acts ++ [.cmd (s.reg (tb + TIME.CMD_PAGE)).toNat (s.reg (tb + TIME.CMD_ARG)) code.toNat] }
              else e))).settled) ∧
  (∀ (s : State) (src : Requester) (code : Byte) (d : Deal) (p : Page),
     s.serves src ⟨.time, 0⟩ → s.deal (s.fg tb TIME.DEAL_SEL_ID) = some d → d.st = .staging → pageAt (s.reg (tb +
     TIME.CMD_PAGE)).toNat = some p → pageAccepts p.kind code.toNat = false →
     exec (.cmdCode src code) s = .next (s.did (errPage tb TIME.CMD_CODE src.id 0x84)).settled) ∧
  (∀ (s : State) (src : Requester) (code : Byte) (d : Deal),
     s.serves src ⟨.time, 0⟩ → s.deal (s.fg tb TIME.DEAL_SEL_ID) = some d → d.st ≠ .staging →
     exec (.cmdCode src code) s = .next (s.did (errPage tb TIME.CMD_CODE src.id 0x81)).settled)

/-- DEAL_EXECUTE with one deal in the table that is due: it executes. Executing a deal of one staged write, on a page that
answers and is in no soft reset, writes the register as its page does, and the deal is DONE with the present device
time and number, DEAL_DONE raised. An action whose page is off is counted there with PAGE_OFF and SRC 0, flagged and
raised. NO_MARK refuses an armed remote-triggered deal that no mark has bound. A mark that no armed deal waits for
raises MARK_STRAY; for one deal that expects it, it counts, and binds the deal once MIN_MARKS agree. -/
def Obligations.DealsExecute : Prop :=
  (∀ (s : State) (d : Deal) (n : Word) (fly : Bool),
     s.phase = .run → s.deals = [d] → s.dueNow d = some (.exec n fly) →
     exec .dealExecute s = .next (s.did (dealExec d.id n fly false)).settled) ∧
  (∀ (s : State) (d : Deal) (a : Nat) (v num : Word) (p : Page) (r : RegRow),
     s.deal d.id = some d → d.acts = [.write a v] → pageAt (a / 0x1000 * 0x1000) = some p → s.present p = true →
     s.pageOn p = true → s.srstBusy p.base = false → regRow p (a % 0x1000) = some r →
     s.did (dealExec d.id num false false) = (s.did (pageWrite p 0 true r v)).did
              (dealClose { d with execTime := (s.did (pageWrite p 0 true r v)).nowNs, execNum := num, dropped := false,
                                  flywheel := false, stepped := false } .done 0)) ∧
  (∀ (s : State) (d : Deal) (a : Nat) (v num : Word) (p : Page),
     s.deal d.id = some d → d.acts = [.write a v] → pageAt (a / 0x1000 * 0x1000) = some p → s.pageOn p = false →
     s.did (dealExec d.id num false false) = ((s.did (errPage p.base (a % 0x1000) 0 0x06)).did (raise tb 6)).did
              (dealClose { d with execTime := s.nowNs, execNum := num, dropped := true, flywheel := false, stepped := false }
                .done 0)) ∧
  (∀ (s : State) (d : Deal),
     s.did (dealClose d .done 0) = (s.apply (.deals (s.deals.map fun e => if e.id = d.id then
              { d with st := .done, reason := 0, closedAt := (s.deals.map Deal.closedAt).foldl max 0 + 1, marks := none,
                       bound := none, lockN := none } else e))).did (raise tb 0)) ∧
  (∀ (s : State) (id : Byte) (d : Deal),
     s.phase = .run → s.deal id.toNat = some d → d.trigMark = true → d.st = .armed → d.bound = none → d.time.toNat ≤
     s.nowNs.toNat →
     exec (.noMark id) s = .next (s.did (dealClose d .refused 7)).settled) ∧
  (∀ (s : State) (c : Fin 4) (tag : Byte) (n : Word) (left : Nat),
     s.phase = .run → s.rxLocked c = false →
     exec (.markReceived c tag n left) s = .next s.settled) ∧
  (∀ (s : State) (c : Fin 4) (tag : Byte) (n : Word) (left : Nat),
     s.phase = .run → s.rxLocked c = true → (s.tl c).rxAt ≠ 0 → s.deals.filter (fun d => d.st == .armed && d.trigMark
     && d.carrier == c.val && d.tag == tag.toNat) = [] →
     exec (.markReceived c tag n left) s = .next (s.did (raise tb 4)).settled) ∧
  (∀ (s : State) (c : Fin 4) (tag : Byte) (n : Word) (left : Nat) (d : Deal),
     s.phase = .run → s.rxLocked c = true → (s.tl c).rxAt ≠ 0 → s.deals.filter (fun d => d.st == .armed && d.trigMark
     && d.carrier == c.val && d.tag == tag.toNat) = [d] → d.bound = none → (d.num = 0 ∨ d.num = n) → d.marks = none →
     exec (.markReceived c tag n left) s = .next (s.apply (.deals (s.deals.map fun e => if e.id = d.id then
              { d with marks := some (n, 1), bound := if s.fg tb TIME.MARK_CFG_MIN_MARKS ≤ 1 then some n else none }
              else e))).settled)

/-- On a JOINED member, a PREPARE of an ID that is not pending opens and stages the deal and answers ACCEPT or REJECT; of
one that is pending it is counted and rejected. On the dealer an ACCEPT of a member that is awaited strikes it off
while others are awaited, and the last commits the deal; a REJECT of one awaited, or the end of 1 ms, gives the deal
up: cancelled on every member and refused with STACK_REJECT. On a JOINED member COMMIT is ARM and CANCEL is CANCEL, by
the dealer. -/
def Obligations.StackDealsAreAgreed : Prop :=
  (∀ (s : State) (id : Byte) (time : BitVec 64) (num cfg : Word),
     s.phase = .run → s.stSt = kJOINED → s.deal id.toNat = none → s.deals.length < 32 → 0xC0 ≤ id.toNat →
     s.armVerdict { id := id.toNat, st := .staging, stack := true, time := time, num := num, cfg := cfg &&&
     0x00FF00FF } = .armed →
     exec (.dealPrepare id time num cfg []) s = .next (s.applyAll
              [.deals (s.deals ++
                 [{ id := id.toNat, st := .staging, stack := true, time := time, num := num, cfg := cfg &&& 0x00FF00FF }]),
               .outs (s.outs ++ [.ctl s.dealerPort 7 [id.toNat, s.fg vb0 VLG.STACK_CFG_POS]])]).settled) ∧
  (∀ (s : State) (id : Byte) (time : BitVec 64) (num cfg : Word) (acts : List StackAct) (d : Deal),
     s.phase = .run → s.stSt = kJOINED → s.deal id.toNat = some d → d.pending = true →
     exec (.dealPrepare id time num cfg acts) s = .next ((s.did (errPage tb TIME.DEAL_CMD 3 0x81)).apply
              (.outs (s.outs ++ [.ctl (s.did (errPage tb TIME.DEAL_CMD 3 0x81)).dealerPort 8
                [id.toNat, s.fg vb0 VLG.STACK_CFG_POS, 0]]))).settled) ∧
  (∀ (s : State) (pos : Fin 4) (id : Byte) (q : Prepare),
     s.phase = .run → s.prepares.find? (fun q => q.id == id.toNat) = some q → q.waiting.contains pos.val = true →
     q.waiting.filter (· != pos.val) ≠ [] →
     exec (.dealAccept pos id) s = .next (s.apply (.prepares (s.prepares.map fun e => if e.id = id.toNat then
              { e with waiting := q.waiting.filter (· != pos.val) } else e))).settled) ∧
  (∀ (s : State) (pos : Fin 4) (id : Byte) (q : Prepare) (d : Deal),
     s.phase = .run → s.prepares.find? (fun q => q.id == id.toNat) = some q → q.waiting = [pos.val] → s.deal id.toNat
     = some d → d.st = .staging →
     exec (.dealAccept pos id) s = .next (s.did (stackCommit d)).settled) ∧
  (∀ (s : State) (pos : Fin 4) (id : Byte) (reason : Fin 16) (d : Deal),
     s.phase = .run → s.prepares.any (fun q => q.id == id.toNat && q.waiting.contains pos.val) = true → s.deal
     id.toNat = some d →
     exec (.dealReject pos id reason) s =
            .next (s.did (seqs [prepEnd id.toNat, ctlSend s.memberPorts 10 [id.toNat], dealClose d .refused 8])).settled) ∧
  (∀ (s : State) (id : Byte) (d : Deal),
     s.phase = .run → s.prepares.any (fun q => q.id == id.toNat) = true → s.running (tPrep id.toNat) = true → s.timer
     (tPrep id.toNat) + 999999 ≤ s.ticks → s.deal id.toNat = some d →
     exec (.prepareTimeout id) s =
            .next (s.did (seqs [prepEnd id.toNat, ctlSend s.memberPorts 10 [id.toNat], dealClose d .refused 8])).settled) ∧
  (∀ (s : State) (id : Byte),
     s.phase = .run → s.stSt = kJOINED →
     exec (.dealCommit id) s = .next (s.did (dealArm 3 id.toNat)).settled) ∧
  (∀ (s : State) (id : Byte) (d : Deal),
     s.phase = .run → s.stSt = kJOINED → s.deal id.toNat = some d → d.pending = true →
     exec (.dealCancelMsg id) s = .next (s.did (dealClose d .cancelled 11)).settled)

/-- On a populated, powered page while the module runs: SWAP_BANK acts as a write of the page's SWAP_REQ (TXD, RXM, RXF
with the hard bit, SNS, SCB), KEY_ROLL_TX and KEY_ROLL_RX roll an association's key, SUIT_RESIZE executes a plan,
GRANT_MAP_SWAP sets the carrier's swap pending, CALL asks for a call, PULSE_REALIGN realigns an output, and PD_SET
asks PWR for the states; what the page evaluates follows. On a page that is off it is counted there with PAGE_OFF. -/
def Obligations.BlockCommandsReachTheirPages : Prop :=
  (∀ (s : State) (page : BitVec 14) (c : Fin 4) (arg : Word),
     pageAt (slotBase page) = some ⟨.txd, c.val⟩ → s.up ⟨.txd, c.val⟩ →
     exec (.swapBank page arg) s = .next ((s.did (swapReq (txdSwap c.val) (s.txStopped c.val) 0 (arg.toNat % 2))).did
              (pageEval ⟨.txd, c.val⟩)).settled) ∧
  (∀ (s : State) (page : BitVec 14) (c : Fin 4) (arg : Word),
     pageAt (slotBase page) = some ⟨.rxm, c.val⟩ → s.up ⟨.rxm, c.val⟩ →
     exec (.swapBank page arg) s = .next ((s.did (strSwapReq ⟨c.val, none⟩ 0 (arg.toNat % 2))).did
              (pageEval ⟨.rxm, c.val⟩)).settled) ∧
  (∀ (s : State) (page : BitVec 14) (c : Fin 4) (arg : Word),
     pageAt (slotBase page) = some ⟨.rxf, c.val⟩ → s.up ⟨.rxf, c.val⟩ →
     exec (.swapBank page arg) s = .next ((s.did (cdSwapReq 0 c.val (arg.toNat % 2) (bitOf arg.toNat 1))).did
              (pageEval ⟨.rxf, c.val⟩)).settled) ∧
  (∀ (s : State) (page : BitVec 14) (arg : Word),
     pageAt (slotBase page) = some ⟨.sns, 0⟩ → s.up ⟨.sns, 0⟩ →
     exec (.swapBank page arg) s = .next (s.did (snsSwapReq 0 (arg.toNat % 2))).settled) ∧
  (∀ (s : State) (page : BitVec 14) (p : Page) (arg : Word),
     pageAt (slotBase page) = some p → s.phase = .run → pageAccepts p.kind 1 = true → s.pageOn p = false →
     exec (.swapBank page arg) s = .next (s.did (errPage p.base 0 0 0x06)).settled) ∧
  (∀ (s : State) (c : Fin 4) (arg : Word),
     s.up ⟨.cip, c.val⟩ →
     exec (.keyRollTx c arg) s =
            .next ((s.did (keyRollTx c.val (arg.toNat % 256))).did (pageEval ⟨.cip, c.val⟩)).settled) ∧
  (∀ (s : State) (c : Fin 4) (arg : Word),
     s.up ⟨.cip, c.val⟩ →
     exec (.keyRollRx c arg) s =
            .next ((s.did (keyRollRx c.val (arg.toNat % 256))).did (pageEval ⟨.cip, c.val⟩)).settled) ∧
  (∀ (s : State) (arg : Word) (others : List Nat),
     s.up ⟨.suit, 0⟩ →
     exec (.suitResize arg others) s =
            .next ((s.did (planExec (arg.toNat % 64) others)).did (pageEval ⟨.suit, 0⟩)).settled) ∧
  (∀ (s : State) (arg : Word),
     s.up ⟨.hub, 0⟩ →
     exec (.grantMapSwap arg) s = .next ((s.apply (.regs (hb + (HUB.MAP_STAT_PENDING (arg.toNat % 4)).off)
              (bitsPut (s.reg (hb + (HUB.MAP_STAT_PENDING (arg.toNat % 4)).off)) (HUB.MAP_STAT_PENDING (arg.toNat % 4)).lo
                (HUB.MAP_STAT_PENDING (arg.toNat % 4)).w 1))).did (pageEval ⟨.hub, 0⟩)).settled) ∧
  (∀ (s : State) (id : Byte) (args : List Word),
     s.phase = .run →
     exec (.pdSet id args) s = .next (s.did (pdWords 0 0 (some id.toNat) args [])).settled) ∧
  (∀ (s : State),
     s.up ⟨.snap, 0⟩ → bitOf (s.fg snb SNAP.SRC_EN_SRC) cDEAL = true → s.callUp = false → s.callRecent = false →
     exec .call s = .next (s.apply (.calls { s.calls with want := s.calls.want ||| 2 ^ cDEAL })).settled) ∧
  (∀ (s : State) (arg : Word),
     s.up ⟨.dpl, 0⟩ → s.outPulse (arg.toNat % 4) = true →
     exec (.pulseRealign arg) s = .next (s.did (outMis (arg.toNat % 4) 0)).settled)

/-- On an OPTc page that serves the requester. LASER_EN written 1 while it is 0, in the tuning band: it sets, the index
and the first attempt are latched and the laser goes to WARMUP; out of band it is counted with OUT_OF_BAND and the
laser stays. LASER_EN written 0 while it is 1: SOA shut, OFF, queued tune dropped. TUNE_GO in LOCKED or HOLD starts
TUNING, in WARMUP, TUNING or LOCKING it is queued, in OFF or FAULT it is counted with LASER_OFF. A change of TX_EN or
FOLLOW alone takes its value. A LASER_FINE or TX_PWR_SET in range takes its value, with the slew or ramp it starts;
out of range it is counted. -/
def Obligations.LaserCommandsAnswer : Prop :=
  (∀ (s : State) (src : Requester) (c : Fin 4) (v : Word),
     s.serves src ⟨.opt, c.val⟩ → s.fb (ob c) OPT.LASER_CTL_LASER_EN = false →
     exec (.laserColdStart src c v) s = .next ((s.did (seqs [txEnSet src.id c (wroteB v OPT.LASER_CTL_TX_EN),
              followSet c (wroteB v OPT.LASER_CTL_FOLLOW), coldStart src.id c])).pageDone ⟨.opt, c.val⟩)) ∧
  (∀ (s : State) (src : Nat) (c : Fin 4),
     s.tuneOk c = true →
     s.did (coldStart src c) = s.did (seqs [fbset (ob c) OPT.LASER_CTL_LASER_EN true,
              optUpd c fun r => { r with target := s.chN c, attempt := 1 }, laserTo c lWARMUP])) ∧
  (∀ (s : State) (src : Nat) (c : Fin 4),
     s.tuneOk c = false →
     s.did (coldStart src c) = s.did (errPage (ob c) OPT.LASER_CTL src 0x80)) ∧
  (∀ (s : State) (src : Requester) (c : Fin 4) (v : Word),
     s.serves src ⟨.opt, c.val⟩ → s.fb (ob c) OPT.LASER_CTL_LASER_EN = true → wroteB v OPT.LASER_CTL_TUNE_GO = false
     →
     exec (.laserDisable src c v) s = .next ((s.did (seqs [txEnSet src.id c (wroteB v OPT.LASER_CTL_TX_EN),
              followSet c (wroteB v OPT.LASER_CTL_FOLLOW), fbset (ob c) OPT.LASER_CTL_LASER_EN false,
              fbset (ob c) OPT.LASER_STAT_QUEUED false, laserTo c lOFF])).pageDone ⟨.opt, c.val⟩)) ∧
  (∀ (s : State) (src : Requester) (c : Fin 4) (v : Word),
     s.serves src ⟨.opt, c.val⟩ → wroteB v OPT.LASER_CTL_LASER_EN = s.fb (ob c) OPT.LASER_CTL_LASER_EN →
     exec (.tuneGo src c v) s = .next ((s.did (seqs [txEnSet src.id c (wroteB v OPT.LASER_CTL_TX_EN),
              followSet c (wroteB v OPT.LASER_CTL_FOLLOW), tuneGo src.id c])).pageDone ⟨.opt, c.val⟩)) ∧
  (∀ (s : State) (src : Nat) (c : Fin 4),
     (s.laser c = lLOCKED ∨ s.laser c = lHOLD) → s.tuneOk c = true →
     s.did (tuneGo src c) = s.did (seqs [optUpd c fun r => { r with target := s.chN c, attempt := 1 }, laserTo c lTUNING])) ∧
  (∀ (s : State) (src : Nat) (c : Fin 4),
     (s.laser c = lWARMUP ∨ s.laser c = lTUNING ∨ s.laser c = lLOCKING) → s.tuneOk c = true →
     s.did (tuneGo src c) = s.did (seqs [optUpd c fun r => { r with queued := s.chN c },
              fbset (ob c) OPT.LASER_STAT_QUEUED true])) ∧
  (∀ (s : State) (src : Nat) (c : Fin 4),
     (s.laser c = lOFF ∨ s.laser c = lFAULT) →
     s.did (tuneGo src c) = s.did (errPage (ob c) OPT.LASER_CTL src 0x84)) ∧
  (∀ (s : State) (src : Requester) (c : Fin 4) (v : Word),
     s.serves src ⟨.opt, c.val⟩ → wroteB v OPT.LASER_CTL_LASER_EN = s.fb (ob c) OPT.LASER_CTL_LASER_EN → wroteB v
     OPT.LASER_CTL_FOLLOW = s.fb (ob c) OPT.LASER_CTL_FOLLOW → wroteB v OPT.LASER_CTL_TUNE_GO = false →
     exec (.txEnWrite src c v) s = .next ((s.did (seqs [
              fbset (ob c) OPT.LASER_CTL_TX_EN (wroteB v OPT.LASER_CTL_TX_EN),
              if wroteB v OPT.LASER_CTL_TX_EN = true ∧ s.modeNow c = mMON then errPage (ob c) OPT.LASER_CTL src.id 0x83 else skip,
              soaEval c])).pageDone ⟨.opt, c.val⟩)) ∧
  (∀ (s : State) (src : Requester) (c : Fin 4) (v : Word),
     s.serves src ⟨.opt, c.val⟩ → wroteB v OPT.LASER_CTL_LASER_EN = s.fb (ob c) OPT.LASER_CTL_LASER_EN → wroteB v
     OPT.LASER_CTL_TUNE_GO = false →
     exec (.followWrite src c v) s = .next ((s.did (seqs [txEnSet src.id c (wroteB v OPT.LASER_CTL_TX_EN),
              followSet c (wroteB v OPT.LASER_CTL_FOLLOW)])).pageDone ⟨.opt, c.val⟩)) ∧
  (∀ (s : State) (c : Fin 4),
     s.fb (ob c) OPT.LASER_CTL_FOLLOW = false →
     s.did (followSet c true) = s.did (seqs [fbset (ob c) OPT.LASER_CTL_FOLLOW true,
              fbset (ob c) OPT.LASER_STAT_FOLLOW_OK false, fineJump c (s.fineNow c), soaEval c])) ∧
  (∀ (s : State) (c : Fin 4),
     s.fb (ob c) OPT.LASER_CTL_FOLLOW = true → s.laser c = lLOCKED →
     s.did (followSet c false) = s.did (seqs [fbset (ob c) OPT.LASER_CTL_FOLLOW false,
              fbset (ob c) OPT.LASER_STAT_FOLLOW_OK false, fineSlew c (s.fineSet c), soaEval c])) ∧
  (∀ (s : State) (src : Requester) (c : Fin 4) (v : Word),
     s.serves src ⟨.opt, c.val⟩ → -6000 ≤ sx 14 (wrote v OPT.LASER_FINE_MHZ) → sx 14 (wrote v OPT.LASER_FINE_MHZ) ≤
     6000 → bandOk s.part (sx 16 (s.fineIndex c)) (sx 14 (wrote v OPT.LASER_FINE_MHZ)) = true →
     exec (.laserFineWrite src c v) s = .next ((s.did (seqs [fset (ob c) OPT.LASER_FINE_MHZ (wrote v OPT.LASER_FINE_MHZ),
              if s.laser c = lLOCKED ∧ s.fb (ob c) OPT.LASER_CTL_FOLLOW = false then
                fineSlew c (sx 14 (wrote v OPT.LASER_FINE_MHZ)) else skip])).pageDone ⟨.opt, c.val⟩)) ∧
  (∀ (s : State) (src : Requester) (c : Fin 4) (v : Word),
     s.serves src ⟨.opt, c.val⟩ → (6000 < sx 14 (wrote v OPT.LASER_FINE_MHZ) ∨ sx 14 (wrote v OPT.LASER_FINE_MHZ) <
     -6000) →
     exec (.laserFineWrite src c v) s =
            .next ((s.did (errPage (ob c) OPT.LASER_FINE src.id 0x81)).pageDone ⟨.opt, c.val⟩)) ∧
  (∀ (s : State) (src : Requester) (c : Fin 4) (v : Word),
     s.serves src ⟨.opt, c.val⟩ → -80 ≤ sx 8 (wrote v OPT.TX_PWR_SET_DBM) → sx 8 (wrote v OPT.TX_PWR_SET_DBM) ≤ 40 →
     s.soaOpen c = false →
     exec (.txPwrSetWrite src c v) s =
            .next ((s.did (fset (ob c) OPT.TX_PWR_SET_DBM (wrote v OPT.TX_PWR_SET_DBM))).pageDone ⟨.opt, c.val⟩)) ∧
  (∀ (s : State) (src : Requester) (c : Fin 4) (v : Word),
     s.serves src ⟨.opt, c.val⟩ → (sx 8 (wrote v OPT.TX_PWR_SET_DBM) < -80 ∨ 40 < sx 8 (wrote v OPT.TX_PWR_SET_DBM))
     →
     exec (.txPwrSetWrite src c v) s =
            .next ((s.did (errPage (ob c) OPT.TX_PWR_SET src.id 0x82)).pageDone ⟨.opt, c.val⟩))

/-- After the laser of a carrier goes to a state below 8: LASER_STAT.STATE reads it; TUNE_FAULT is 1 in FAULT and 0
elsewhere; FREQ_ERR is 0 unless the state is LOCKING, LOCKED or HOLD; the bias loops' lock bits are 0 unless LOCKED;
the lock attempt's limit runs in LOCKING alone and HOLD's in HOLD alone; and in every state but LOCKED the SOA is
shut. -/
def Obligations.LaserStateChanges : Prop :=
  ∀ (s : State) (c : Fin 4) (st : Nat),
    st < 8 →
    (s.did (laserTo c st)).laser c = st ∧
           (s.did (laserTo c st)).fb (ob c) OPT.LASER_STAT_TUNE_FAULT = decide (st = 6) ∧
           (st ≠ 3 → st ≠ 4 → st ≠ 5 → (s.did (laserTo c st)).fg (ob c) OPT.LASER_STAT_FREQ_ERR = 0) ∧
           (st ≠ 4 → (s.did (laserTo c st)).fg (ob c) OPT.MZM_STAT_LOCKED = 0) ∧
           (s.did (laserTo c st)).running (tLock c) = decide (st = 3) ∧
           (s.did (laserTo c st)).running (tHold c) = decide (st = 5) ∧
           (st ≠ 4 → (s.did (laserTo c st)).soaOpen c = false)

/-- Each event in the laser state it belongs to: the TEC settling ends WARMUP; the tuning sections end TUNING and the
locker starts; 1 ms within 150 MHz locks and raises LASER_LOCKED, or starts a queued tune; 20 ms without lock starts
the second attempt, then FAULT; an error beyond OFF_GRID puts LOCKED into HOLD and raises LASER_UNLOCK, and 100 ms of
HOLD is FAULT; a bias loop that converges or is lost sets or clears its bit; FOLLOW_OK sets or is lost; the power
reaching its target raises; the receive powers, loss of signal and gain take their values. What the carrier's state
implies follows. -/
def Obligations.LaserEventsAnswer : Prop :=
  (∀ (s : State) (c : Fin 4) (temp : Int) (cur : Nat),
     s.up ⟨.opt, c.val⟩ → s.laser c = lWARMUP →
     exec (.tecSettled c temp cur) s = .next ((s.did (seqs [fset (ob c) OPT.LASER_MON_TEC_TEMP (tc 16 temp),
              fset (ob c) OPT.LASER_MON_LD_CUR cur, laserTo c lTUNING])).carDone c)) ∧
  (∀ (s : State) (c : Fin 4) (err : Int),
     s.phase = .run → s.laser c = lTUNING →
     exec (.tuningDone c err) s = .next ((s.did (seqs [laserTo c lLOCKING,
              fset (ob c) OPT.LASER_CUR_CH_N (s.opt c).target, fset (ob c) OPT.LASER_STAT_FREQ_ERR (tc 16 err),
              cdGridChange c (s.fg (ob c) OPT.LASER_CUR_CH_N)])).carDone c)) ∧
  (∀ (s : State) (c : Fin 4) (err : Int),
     s.phase = .run → err.natAbs ≤ 150 → s.laser c = lLOCKING → s.elapsed (tLock c) ≤ 20000000 → s.fb (ob c)
     OPT.LASER_STAT_QUEUED = false → s.fb (ob c) OPT.LASER_CTL_FOLLOW = false →
     exec (.laserLocked c err) s = .next ((s.did (seqs [fineJump c (s.fineSet c),
              fset (ob c) OPT.LASER_STAT_FREQ_ERR (tc 16 err), laserTo c lLOCKED, raise (ob c) 0])).carDone c)) ∧
  (∀ (s : State) (c : Fin 4) (err : Int),
     s.phase = .run → err.natAbs ≤ 150 → s.laser c = lLOCKING → s.elapsed (tLock c) ≤ 20000000 → s.fb (ob c)
     OPT.LASER_STAT_QUEUED = true →
     exec (.laserLocked c err) s = .next ((s.did (seqs [raise (ob c) 0, fbset (ob c) OPT.LASER_STAT_QUEUED false,
              optUpd c fun r => { r with target := (s.opt c).queued, attempt := 1 }, laserTo c lTUNING])).carDone c)) ∧
  (∀ (s : State) (c : Fin 4),
     s.phase = .run → s.laser c = lLOCKING → s.running (tLock c) = true → (s.opt c).attempt = 1 →
     exec (.lockAttemptTimeout c) s = .next ((s.did (seqs [clockEnd (tLock c) 20000000, laserTo c lTUNING,
              optUpd c fun r => { r with attempt := 2 }])).carDone c)) ∧
  (∀ (s : State) (c : Fin 4),
     s.phase = .run → s.laser c = lLOCKING → s.running (tLock c) = true → (s.opt c).attempt ≠ 1 →
     exec (.lockAttemptTimeout c) s = .next ((s.did (seqs [clockEnd (tLock c) 20000000,
              fbset (ob c) OPT.LASER_STAT_QUEUED false, laserTo c lFAULT, raise (ob c) 2])).carDone c)) ∧
  (∀ (s : State) (c : Fin 4) (err : Int),
     s.phase = .run → s.laser c = lLOCKED → s.fg (ob c) OPT.LASER_GUARD_OFF_GRID < err.natAbs →
     exec (.laserUnlock c err) s = .next ((s.did (seqs [fset (ob c) OPT.LASER_STAT_FREQ_ERR (tc 16 err),
              laserTo c lHOLD, raise (ob c) 1])).carDone c)) ∧
  (∀ (s : State) (c : Fin 4),
     s.phase = .run → s.laser c = lHOLD → s.running (tHold c) = true →
     exec (.holdTimeout c) s = .next ((s.did (seqs [clockEnd (tHold c) 100000000,
              fbset (ob c) OPT.LASER_STAT_QUEUED false, laserTo c lFAULT, raise (ob c) 2])).carDone c)) ∧
  (∀ (s : State) (c : Fin 4) (dbm : Int),
     s.phase = .run → s.soaOpen c = true → s.fb (ob c) OPT.TX_PWR_MON_AT_TARGET = false → (dbm - s.pwrSet c).natAbs ≤
     20 →
     exec (.txAtTarget c dbm) s = .next ((s.did (seqs [fbset (ob c) OPT.TX_PWR_MON_AT_TARGET true,
              fset (ob c) OPT.TX_PWR_MON_DBM (tc 16 dbm), raise (ob c) 3])).carDone c)) ∧
  (∀ (s : State) (c : Fin 4) (loop : Fin 6),
     s.phase = .run → s.laser c = lLOCKED → s.fb (ob c) OPT.MZM_CTL_BIAS_EN = true → s.fb (ob c)
     OPT.MZM_CTL_BIAS_HOLD = false →
     exec (.biasLoopLocked c loop) s = .next ((s.did (fset (ob c) OPT.MZM_STAT_LOCKED
              (setBit (s.fg (ob c) OPT.MZM_STAT_LOCKED) loop.val true))).carDone c)) ∧
  (∀ (s : State) (c : Fin 4) (loop : Fin 6),
     s.phase = .run → bitOf (s.fg (ob c) OPT.MZM_STAT_LOCKED) loop.val = true → s.fb (ob c) OPT.MZM_CTL_BIAS_HOLD =
     false →
     exec (.mzmUnlock c loop) s = .next ((s.did (seqs [fset (ob c) OPT.MZM_STAT_LOCKED
              (setBit (s.fg (ob c) OPT.MZM_STAT_LOCKED) loop.val false), raise (ob c) 6])).carDone c)) ∧
  (∀ (s : State) (c : Fin 4) (fine : Int),
     s.phase = .run → s.fb (ob c) OPT.LASER_CTL_FOLLOW = true → s.laser c = lLOCKED →
     exec (.followOk c fine) s = .next ((s.did (seqs [fineJump c fine,
              fbset (ob c) OPT.LASER_STAT_FOLLOW_OK true, soaEval c])).carDone c)) ∧
  (∀ (s : State) (c : Fin 4) (fine : Int),
     s.phase = .run → s.fb (ob c) OPT.LASER_CTL_FOLLOW = true → s.fb (ob c) OPT.LASER_STAT_FOLLOW_OK = true →
     exec (.followLost c fine) s = .next ((s.did (seqs [fineJump c fine,
              fbset (ob c) OPT.LASER_STAT_FOLLOW_OK false, raise (ob c) 8, soaEval c])).carDone c)) ∧
  (∀ (s : State) (c : Fin 4) (x y total : Int) (gain : Nat),
     s.up ⟨.opt, c.val⟩ → s.fb (ob c) OPT.RX_STAT_LOS_RAW = false → sx 12 (s.fg (ob c) OPT.LOS_CFG_THR) * 10 ≤ total
     → total ≤ 550 → s.fb (ob c) OPT.TIA_CTL_AGC_EN = true → s.fb (ob c) OPT.TIA_CTL_AGC_FREEZE = false → (s.opt
     c).burstFreeze = false →
     exec (.rxPowerUpdate c x y total gain) s = .next ((s.did (seqs [fset (ob c) OPT.RX_PWR_X_DBM (pwrCode x),
              fset (ob c) OPT.RX_PWR_Y_DBM (pwrCode y), fset (ob c) OPT.RX_PWR_TOT_DBM (pwrCode total),
              fbset (ob c) OPT.RX_STAT_LOS_RAW false, fbset (ob c) OPT.RX_STAT_OVERLOAD false,
              fset (ob c) OPT.RX_STAT_GAIN gain, rxfLos c])).carDone c)) ∧
  (∀ (s : State) (c : Fin 4) (x y total : Int) (gain : Nat),
     s.up ⟨.opt, c.val⟩ → s.fb (ob c) OPT.RX_STAT_LOS_RAW = false → total < sx 12 (s.fg (ob c) OPT.LOS_CFG_THR) * 10
     → total ≤ 550 → s.fb (ob c) OPT.TIA_CTL_AGC_EN = false →
     exec (.rxPowerUpdate c x y total gain) s = .next ((s.did (seqs [fset (ob c) OPT.RX_PWR_X_DBM (pwrCode x),
              fset (ob c) OPT.RX_PWR_Y_DBM (pwrCode y), fset (ob c) OPT.RX_PWR_TOT_DBM (pwrCode total),
              fbset (ob c) OPT.RX_STAT_LOS_RAW true, raise (ob c) 4, fbset (ob c) OPT.RX_STAT_OVERLOAD false,
              fset (ob c) OPT.RX_STAT_GAIN (s.fg (ob c) OPT.TIA_CTL_MAN_GAIN), rxfLos c])).carDone c))

/-- On a CNVc page that serves the requester: FG_CAL_GO with the SOA shut starts foreground calibration, and with it open
and not forced is counted; STORE_GO, CHECK_GO start in IDLE; LOAD_STORED puts the stored trims in use, or is counted
with NO_STORED; CAP_GO starts in a raw-converter session and is counted with NO_SCOPE outside one. Each of these
written alone, with the other bits as they stand. Their ends write the results: trims and FG_DONE, or the failed
converters; the record, or STORE_FAIL; the lowest ENOB and CHECK_FAIL; the samples and CAP_DONE. A background update
moves trims by one step and is counted. The clock's loss clears CLK_LOCKED, raises, shuts the SOA and reports; its
return sets it. -/
def Obligations.ConverterCommandsAnswer : Prop :=
  (∀ (s : State) (src : Requester) (c : Fin 4) (r : RegRow),
     s.serves src ⟨.cnv, c.val⟩ → s.calState c = 0 → s.soaOpen c = false → regRow ⟨.cnv, c.val⟩ CNV.CNV_CTL = some r
     →
     exec (.fgCalGo src c 0) s = .next ((s.did (seqs [
              rset (nb c + CNV.CNV_CTL) (r.merge (s.reg (nb c + CNV.CNV_CTL)) (setF 0 CNV.CNV_CTL_FG_CAL_GO 1)),
              fset (nb c) CNV.CNV_STAT_CAL_STATE 1, soaEval c])).pageDone ⟨.cnv, c.val⟩)) ∧
  (∀ (s : State) (src : Requester) (c : Fin 4) (r : RegRow),
     s.serves src ⟨.cnv, c.val⟩ → s.soaOpen c = true → regRow ⟨.cnv, c.val⟩ CNV.CNV_CTL = some r → r.rw &&& maskAt
     CNV.CNV_CTL_FG_FORCE.lo 1 ≠ 0 →
     exec (.fgCalGo src c 0) s = .next ((s.did (seqs [
              rset (nb c + CNV.CNV_CTL) (r.merge (s.reg (nb c + CNV.CNV_CTL)) (setF 0 CNV.CNV_CTL_FG_CAL_GO 1)),
              errPage (nb c) CNV.CNV_CTL src.id 0x91])).pageDone ⟨.cnv, c.val⟩)) ∧
  (∀ (s : State) (c : Fin 4) (fail : Nat) (die : Int) (trims : List Word),
     s.phase = .run → s.calState c = 1 → fail % 256 = 0 →
     exec (.fgCalDone c fail die trims) s = .next ((s.did (seqs [fset (nb c) CNV.CNV_STAT_FAIL_MAP fail,
              fset (nb c) CNV.CNV_TEMP_DIE (tc 16 die), trimsPut c trims, fbset (nb c) CNV.CNV_STAT_FG_DONE true,
              fbset (nb c) CNV.CNV_STAT_FG_FAIL false, fbset (nb c) CNV.CNV_STAT_STORED_IN_USE false, raise (nb c) 0,
              fset (nb c) CNV.CNV_STAT_CAL_STATE 0, soaEval c])).carDone c)) ∧
  (∀ (s : State) (c : Fin 4) (fail : Nat) (die : Int) (trims : List Word),
     s.phase = .run → s.calState c = 1 → fail % 256 ≠ 0 →
     exec (.fgCalDone c fail die trims) s = .next ((s.did (seqs [fset (nb c) CNV.CNV_STAT_FAIL_MAP fail,
              fset (nb c) CNV.CNV_TEMP_DIE (tc 16 die), fbset (nb c) CNV.CNV_STAT_FG_DONE false,
              fbset (nb c) CNV.CNV_STAT_FG_FAIL true, raise (nb c) 1, fset (nb c) CNV.CNV_STAT_CAL_STATE 0,
              soaEval c])).carDone c)) ∧
  (∀ (s : State) (c : Fin 4) (die : Int) (moves : List (Nat × Nat × Nat × Bool)),
     s.phase = .run → s.bgActive c = true →
     exec (.bgCalUpdate c die moves) s = .next ((s.did (seqs [
              forP moves fun m => trimMove c m.1 m.2.1 m.2.2.1 m.2.2.2, fset (nb c) CNV.CNV_TEMP_DIE (tc 16 die),
              fincSat (nb c) CNV.BG_CAL_CNT_COUNT 1])).carDone c)) ∧
  (∀ (s : State) (src : Requester) (c : Fin 4) (r : RegRow),
     s.serves src ⟨.cnv, c.val⟩ → s.calState c = 0 → regRow ⟨.cnv, c.val⟩ CNV.CNV_CTL = some r →
     exec (.storeGo src c 0) s = .next ((s.did (seqs [
              rset (nb c + CNV.CNV_CTL) (r.merge (s.reg (nb c + CNV.CNV_CTL)) (setF 0 CNV.CNV_CTL_STORE_GO 1)),
              fset (nb c) CNV.CNV_STAT_CAL_STATE 3, soaEval c])).pageDone ⟨.cnv, c.val⟩)) ∧
  (∀ (s : State) (c : Fin 4),
     s.phase = .run → s.calState c = 3 →
     exec (.storeDone c true) s = .next ((s.did (seqs [fun _ => [.cnvs c { s.cnv c with
              stored := BitVec.ofNat 32 (s.fg (nb c) CNV.CNV_TEMP_DIE) :: s.trims c }], raise (nb c) 4,
              fset (nb c) CNV.CNV_STAT_CAL_STATE 0, soaEval c])).carDone c)) ∧
  (∀ (s : State) (c : Fin 4),
     s.phase = .run → s.calState c = 3 →
     exec (.storeDone c false) s = .next ((s.did (seqs [errPage (nb c) CNV.CNV_CTL 0 0x94,
              fset (nb c) CNV.CNV_STAT_CAL_STATE 0, soaEval c])).carDone c)) ∧
  (∀ (s : State) (src : Requester) (c : Fin 4) (r : RegRow) (w : Word) (l : List Word),
     s.serves src ⟨.cnv, c.val⟩ → (s.cnv c).stored = w :: l → regRow ⟨.cnv, c.val⟩ CNV.CNV_CTL = some r →
     exec (.loadStored src c 0) s = .next ((s.did (seqs [
              rset (nb c + CNV.CNV_CTL) (r.merge (s.reg (nb c + CNV.CNV_CTL)) (setF 0 CNV.CNV_CTL_LOAD_STORED 1)),
              trimsPut c l, fbset (nb c) CNV.CNV_STAT_STORED_IN_USE true])).pageDone ⟨.cnv, c.val⟩)) ∧
  (∀ (s : State) (src : Requester) (c : Fin 4) (r : RegRow),
     s.serves src ⟨.cnv, c.val⟩ → (s.cnv c).stored = [] → regRow ⟨.cnv, c.val⟩ CNV.CNV_CTL = some r →
     exec (.loadStored src c 0) s = .next ((s.did (seqs [
              rset (nb c + CNV.CNV_CTL) (r.merge (s.reg (nb c + CNV.CNV_CTL)) (setF 0 CNV.CNV_CTL_LOAD_STORED 1)),
              errPage (nb c) CNV.CNV_CTL src.id 0x92])).pageDone ⟨.cnv, c.val⟩)) ∧
  (∀ (s : State) (src : Requester) (c : Fin 4) (r : RegRow),
     s.serves src ⟨.cnv, c.val⟩ → s.calState c = 0 → regRow ⟨.cnv, c.val⟩ CNV.CNV_CTL = some r →
     exec (.checkGo src c 0) s = .next ((s.did (seqs [
              rset (nb c + CNV.CNV_CTL) (r.merge (s.reg (nb c + CNV.CNV_CTL)) (setF 0 CNV.CNV_CTL_CHECK_GO 1)),
              fset (nb c) CNV.CNV_STAT_CAL_STATE 2, soaEval c])).pageDone ⟨.cnv, c.val⟩)) ∧
  (∀ (s : State) (c : Fin 4) (enob : List Nat),
     s.phase = .run → s.calState c = 2 → s.errs = [] → (enob.take 4).all (fun e => decide (s.fg (nb c)
     CNV.CHECK_LIMIT_ADC_LIM ≤ e)) = true → (enob.drop 4).all (fun e => decide (s.fg (nb c) CNV.CHECK_LIMIT_DAC_LIM ≤
     e)) = true →
     exec (.checkDone c enob) s = .next ((s.did (seqs [fset (nb c) CNV.CHECK_RES_ENOB (lowest enob).1,
              fset (nb c) CNV.CHECK_RES_LANE (lowest enob).2, fbset (nb c) CNV.CNV_STAT_CHECK_FAIL false,
              fset (nb c) CNV.CNV_STAT_CAL_STATE 0, soaEval c])).carDone c)) ∧
  (∀ (s : State) (src : Requester) (c : Fin 4) (r : RegRow),
     s.serves src ⟨.cnv, c.val⟩ → s.scopeOpen 1 = true → (s.cnv c).capBusy = false → regRow ⟨.cnv, c.val⟩ CNV.CAP_CTL
     = some r →
     exec (.capGo src c 0) s = .next ((s.did (seqs [
              rset (nb c + CNV.CAP_CTL) (r.merge (s.reg (nb c + CNV.CAP_CTL)) (setF 0 CNV.CAP_CTL_CAP_GO 1)),
              fun _ => [.cnvs c { s.cnv c with capBusy := true }],
              fbset (nb c) CNV.CAP_CTL_CAP_DONE false])).pageDone ⟨.cnv, c.val⟩)) ∧
  (∀ (s : State) (src : Requester) (c : Fin 4) (r : RegRow),
     s.serves src ⟨.cnv, c.val⟩ → s.scopeOpen 1 = false → (s.cnv c).capBusy = false → regRow ⟨.cnv, c.val⟩
     CNV.CAP_CTL = some r →
     exec (.capGo src c 0) s = .next ((s.did (seqs [
              rset (nb c + CNV.CAP_CTL) (r.merge (s.reg (nb c + CNV.CAP_CTL)) (setF 0 CNV.CAP_CTL_CAP_GO 1)),
              errPage (nb c) CNV.CAP_CTL src.id 0x93])).pageDone ⟨.cnv, c.val⟩)) ∧
  (∀ (s : State) (c : Fin 4) (samples : List Word),
     s.phase = .run → (s.cnv c).capBusy = true →
     exec (.capDone c samples) s = .next ((s.did (seqs [
              fun _ => ((List.range 16384).zip samples).map fun p => .tabs (tabKey (nb c) 2 p.1 0) p.2,
              fun _ => [.cnvs c { s.cnv c with capBusy := false }], fbset (nb c) CNV.CAP_CTL_CAP_DONE true,
              raise (nb c) 5])).carDone c)) ∧
  (∀ (s : State) (c : Fin 4),
     s.phase = .run → s.pageOn ⟨.cnv, c.val⟩ = true → (s.cnv c).clkLost = false →
     exec (.clkUnlock c) s = .next ((s.did (seqs [fbset (nb c) CNV.CNV_STAT_CLK_LOCKED false,
              fun _ => [.cnvs c { s.cnv c with clkLost := true }], raise (nb c) 3, soaEval c,
              report eCNV_CLK (4 + c) (nb c) 0 c])).carDone c)) ∧
  (∀ (s : State) (c : Fin 4),
     s.phase = .run → s.pageOn ⟨.cnv, c.val⟩ = true → s.errs = [] →
     exec (.clkRelock c) s = .next ((s.did (seqs [fbset (nb c) CNV.CNV_STAT_CLK_LOCKED true,
              fun _ => [.cnvs c { s.cnv c with clkLost := false }], soaEval c])).carDone c))

/-- PROFILE_VALIDATE writes KMAX, the floor of log2 of the number of sequences, H_EFF and VALID of a profile. Selecting a
profile or set that is usable takes it; one that is not is counted with PROFILE_BAD and raised. The switch puts what
is selected in effect. A swap request for the bank in use has no effect; while stopped it is served at once; in
stopped-only mode it is refused with SWAP_LIVE; in cross-fade mode it waits for a boundary; during a fade it is
queued. A fade's end makes its bank active. A write of TXD_CTL takes its writable bits, and the chain stops or may
start. -/
def Obligations.TransmitChainsAnswer : Prop :=
  (∀ (s : State) (c : Fin 4) (e : Fin 16),
     s.phase = .run → profWays (profCounts s (xb c) e) ≠ 0 →
     exec (.profileValidate c false e) s = .next (s.applyAll [
              .tabs (tabKey (xb c) 0 e 4) (BitVec.ofNat 32 ((8192 + 8 * bitsGet (s.prof (xb c) e 1) 0 12) % 65536 * 65536
                + Nat.log2 (profWays (profCounts s (xb c) e)) % 4096)),
              .tabs (tabKey (xb c) 0 e 0) (bitsPut (s.prof (xb c) e 0) 31 1 (b2n (profValid
                (bitsGet (s.prof (xb c) e 0) 0 1) (bitsGet (s.prof (xb c) e 1) 0 12) (profCounts s (xb c) e))))]).settled) ∧
  (∀ (s : State) (src : Requester) (c : Fin 4) (v : Word),
     s.serves src ⟨.txd, c.val⟩ → s.selectOk (xb c) (wrote v TXD.TXD_SHAPE_PROFILE) (s.frameMode c) = true →
     exec (.profileSelect src c .txdShape v) s = .next ((s.did (seqs [
              fset (xb c) TXD.TXD_SHAPE_PROFILE (wrote v TXD.TXD_SHAPE_PROFILE),
              txdUpd c fun r => { r with shape := 1 }])).pageDone ⟨.txd, c.val⟩)) ∧
  (∀ (s : State) (src : Requester) (c : Fin 4) (v : Word),
     s.serves src ⟨.txd, c.val⟩ → s.selectOk (xb c) (wrote v TXD.TXD_SHAPE_PROFILE) (s.frameMode c) = false →
     exec (.profileSelect src c .txdShape v) s = .next ((s.did (seqs [
              errPage (xb c) TXD.TXD_SHAPE src.id 0x81, raise (xb c) 2])).pageDone ⟨.txd, c.val⟩)) ∧
  (∀ (s : State) (src : Requester) (c : Fin 4) (v : Word),
     s.serves src ⟨.txd, c.val⟩ → s.setOk c (wrote v TXD.TXD_SC_SEL_SET) = true →
     exec (.profileSelect src c .txdScSel v) s = .next ((s.did (seqs [
              fset (xb c) TXD.TXD_SC_SEL_SET (wrote v TXD.TXD_SC_SEL_SET),
              txdUpd c fun r => { r with shape := 1 }])).pageDone ⟨.txd, c.val⟩)) ∧
  (∀ (s : State) (src : Requester) (c : Fin 4) (v : Word),
     s.serves src ⟨.fec, c.val⟩ → s.selectOk (feb c) (wrote v FEC.FEC_SHAPE_PROFILE) (s.rxMode c) = true →
     exec (.profileSelect src c .fecShape v) s = .next ((s.did (seqs [
              fset (feb c) FEC.FEC_SHAPE_PROFILE (wrote v FEC.FEC_SHAPE_PROFILE),
              fun t => [.fecs c { t.fec c with shape := 1 }]])).pageDone ⟨.fec, c.val⟩)) ∧
  (∀ (s : State) (c : Fin 4),
     s.phase = .run → (s.txd c).shape = 2 → s.fg (xb c) TXD.TXD_STAT_SET_NOW ≠ s.fg (xb c) TXD.TXD_SC_SEL_SET →
     exec (.shapingSwitch c false) s = .next (s.did (seqs [
              fset (xb c) TXD.TXD_SHAPE_PROFILE_NOW (s.fg (xb c) TXD.TXD_SHAPE_PROFILE),
              fset (xb c) TXD.SHAPE_STAT_H_NOW (bitsGet (s.prof (xb c) (s.fg (xb c) TXD.TXD_SHAPE_PROFILE) 4) 16 16),
              raise (xb c) 5, fset (xb c) TXD.TXD_STAT_SET_NOW (s.fg (xb c) TXD.TXD_SC_SEL_SET),
              txdUpd c fun r => { r with shape := 0 }])).settled) ∧
  (∀ (s : State) (c : Fin 4),
     s.phase = .run → (s.fec c).shape = 2 →
     exec (.shapingSwitch c true) s = .next (s.did (seqs [
              fset (feb c) FEC.FEC_SHAPE_PROFILE_NOW (s.fg (feb c) FEC.FEC_SHAPE_PROFILE),
              fun t => [.fecs c { t.fec c with shape := 0 }]])).settled) ∧
  (∀ (s : State) (src : Requester) (c : Fin 4) (v : Word),
     s.serves src ⟨.txd, c.val⟩ →
     exec (.txdSwapReq src c v) s = .next ((s.did (swapReq (txdSwap c) (s.txStopped c) src.id
              (wrote v TXD.SWAP_REQ_BANK))).pageDone ⟨.txd, c.val⟩)) ∧
  (∀ (s : State) (p : SwapPage) (stopped : Bool) (src bank : Nat),
     s.fb p.b p.fading = false → s.fg p.b p.active = bank →
     s.did (swapReq p stopped src bank) = s) ∧
  (∀ (s : State) (p : SwapPage) (src bank : Nat),
     s.fb p.b p.fading = false → s.fg p.b p.active ≠ bank →
     s.did (swapReq p true src bank) = s.did (seqs [swapUpd p.b fun r => { r with wait := none }, swapDone p bank])) ∧
  (∀ (s : State) (p : SwapPage) (src bank : Nat),
     s.fb p.b p.fading = false → s.fg p.b p.active ≠ bank → s.fg p.b p.mode = 0 →
     s.did (swapReq p false src bank) = s.did (swapRefuse p src p.code)) ∧
  (∀ (s : State) (p : SwapPage) (src bank : Nat),
     s.fb p.b p.fading = false → s.fg p.b p.active ≠ bank → s.fg p.b p.mode ≠ 0 →
     s.did (swapReq p false src bank) = s.apply (.swaps p.b { s.swap p.b with wait := some bank })) ∧
  (∀ (s : State) (c : Fin 4),
     s.phase = .run → s.fb (xb c) TXD.TXD_STAT_FADING = true → (s.swap (xb c)).left = 0 →
     exec (.txdFadeEnd c) s = .next ((s.did (swapFinish (txdSwap c) (s.txStopped c))).carDone c)) ∧
  (∀ (s : State) (src : Requester) (c : Fin 4) (v : Word) (r : RegRow),
     s.serves src ⟨.txd, c.val⟩ → regRow ⟨.txd, c.val⟩ TXD.TXD_CTL = some r →
     exec (.txRunWrite src c v) s = .next ((s.did (seqs [
              rset (xb c + TXD.TXD_CTL) (r.merge (s.reg (xb c + TXD.TXD_CTL)) v), txdEval c])).pageDone ⟨.txd, c.val⟩))

/-- A bank write in range, with no fade, trial or tracking in the way, loads the bank, which is then computed; each
refusal is counted with its code. READY ends the computation, after which acquisition moves on and a waiting request
is served. A swap is refused, queued, made at once, or waits for a block boundary, where it is made or a fade starts;
the end of a fade makes its bank active. Acquisition: a try in WAIT with signal; a trial is accepted or rejected;
timing lock is RUN, no lock in time is WAIT with ACQ_FAIL, its loss in RUN is a new try. A slip is counted; the
monitor and the tracking event report. -/
def Obligations.DispersionEqualisersAnswer : Prop :=
  (∀ (s : State) (src : Requester) (c : Fin 4) (b : Fin 2) (v : Word),
     s.serves src ⟨.rxf, c.val⟩ → s.fb (rb c) RXF.CD_STAT_FADING = false → (s.cdActive c ≠ b.val ∨ s.rxRunning c =
     false) → s.acqTrying c = false → s.fb (rb c) RXF.CD_CTL_TRACK_EN = false → (sx 20 (bitsGet v 0 20)).natAbs ≤
     cdRange (s.rxMode c) →
     exec (.cdBankWrite src c b v) s = .next ((s.did (cdLoad c b.val (sx 20 (bitsGet v 0 20)))).pageDone ⟨.rxf, c.val⟩)) ∧
  (∀ (s : State) (src : Requester) (c : Fin 4) (b : Fin 2) (v : Word),
     s.serves src ⟨.rxf, c.val⟩ → s.fb (rb c) RXF.CD_STAT_FADING = false → (s.cdActive c ≠ b.val ∨ s.rxRunning c =
     false) → s.acqTrying c = false → s.fb (rb c) RXF.CD_CTL_TRACK_EN = false → cdRange (s.rxMode c) < (sx 20
     (bitsGet v 0 20)).natAbs →
     exec (.cdBankWrite src c b v) s = .next ((s.did (seqs [fincSat (rb c) RXF.REFUSE_CNT_COUNT 1,
              errPage (rb c) (RXF.BANK0_CD + 4 * b.val) src.id 0x82])).pageDone ⟨.rxf, c.val⟩)) ∧
  (∀ (s : State) (c : Fin 4) (b : Fin 2),
     s.phase = .run → (s.rxf c).busy b.val = true →
     exec (.cdBankReady c b) s = .next ((s.did (seqs [fbset (rb c) (fldREADY b.val) true,
              rxfUpd c fun r => if b.val = 0 then { r with busy0 := false } else { r with busy1 := false },
              acqMoveOn c, cdServeWait c])).carDone c)) ∧
  (∀ (s : State) (src : Requester) (c : Fin 4) (v : Word),
     s.serves src ⟨.rxf, c.val⟩ →
     exec (.rxfSwapReq src c v) s = .next ((s.did (cdSwapReq src.id c (wrote v RXF.SWAP_REQ_BANK)
              (wroteB v RXF.SWAP_REQ_HARD))).pageDone ⟨.rxf, c.val⟩)) ∧
  (∀ (s : State) (src : Nat) (c : Fin 4) (b : Fin 2) (hard : Bool),
     s.acqTrying c = false → s.fb (rb c) RXF.CD_STAT_FADING = false → s.fb (rb c) (fldRANGE b.val) = false → s.fb (rb
     c) (fldREADY b.val) = true → s.cdActive c ≠ b.val → s.rxRunning c = false →
     s.did (cdSwapReq src c b.val hard) = s.did (seqs [fbset (rb c) RXF.CD_STAT_QUEUED false,
              rxfUpd c fun r => { r with boundary := .none }, cdSwapDone c b.val])) ∧
  (∀ (s : State) (src : Nat) (c : Fin 4) (b : Fin 2) (hard : Bool),
     s.acqTrying c = false → s.fb (rb c) RXF.CD_STAT_FADING = true →
     s.did (cdSwapReq src c b.val hard) = s.did (seqs [cdQueue c b.val hard, raise (rb c) 2])) ∧
  (∀ (s : State) (c : Fin 4) (b : Nat),
     s.phase = .run → s.rxRunning c = true → (s.rxf c).boundary = .hard b →
     exec (.cdBlockBoundary c) s = .next ((s.did (seqs [rxfUpd c fun r => { r with boundary := .none },
              cdSwapDone c b])).carDone c)) ∧
  (∀ (s : State) (c : Fin 4) (b : Nat),
     s.phase = .run → s.rxRunning c = true → (s.rxf c).boundary = .fade b →
     exec (.cdBlockBoundary c) s = .next ((s.did (seqs [rxfUpd c fun r => { r with boundary := .none, fadeTo := b },
              fbset (rb c) RXF.CD_STAT_FADING true, timerStart (tCdFade c)])).carDone c)) ∧
  (∀ (s : State) (c : Fin 4),
     s.phase = .run → s.fb (rb c) RXF.CD_STAT_FADING = true → s.running (tCdFade c) = true → (s.rxf c).mode = none →
     (s.rxf c).rewrite = none → (s.rxf c).trackRetry = false →
     exec (.cdFadeEnd c) s = .next ((s.did (seqs [clockEnd (tCdFade c) (s.cdFadeNs c),
              fbset (rb c) RXF.CD_STAT_FADING false, timerStop (tCdFade c), cdSwapDone c (s.rxf c).fadeTo,
              rxfUpd c fun r => { r with mode := none }, cdServeWait c])).carDone c)) ∧
  (∀ (s : State) (src : Requester) (c : Fin 4) (v : Word) (r : RegRow),
     s.serves src ⟨.rxf, c.val⟩ → regRow ⟨.rxf, c.val⟩ RXF.CD_CTL = some r → s.fb (rb c) RXF.CD_STAT_FADING = false →
     s.scanning c = false → s.rxRunning c = true →
     exec (.scanGo src c v) s = .next ((s.did (seqs [
              rset (rb c + RXF.CD_CTL) (r.merge (s.reg (rb c + RXF.CD_CTL)) (setF v RXF.CD_CTL_SCAN_GO 1)),
              fset (rb c) RXF.SCAN_STAT_STATE 1, fbset (rb c) RXF.SCAN_STAT_DONE false,
              timerStart (tScan c)])).pageDone ⟨.rxf, c.val⟩)) ∧
  (∀ (s : State) (src : Requester) (c : Fin 4) (v : Word) (r : RegRow),
     s.serves src ⟨.rxf, c.val⟩ → regRow ⟨.rxf, c.val⟩ RXF.CD_CTL = some r → s.fb (rb c) RXF.CD_STAT_FADING = false →
     (s.scanning c = true ∨ s.acqTrying c = true) →
     exec (.scanGo src c v) s = .next ((s.did (seqs [
              rset (rb c + RXF.CD_CTL) (r.merge (s.reg (rb c + RXF.CD_CTL)) (setF v RXF.CD_CTL_SCAN_GO 1)),
              errPage (rb c) RXF.CD_CTL src.id 0x85])).pageDone ⟨.rxf, c.val⟩)) ∧
  (∀ (s : State) (c : Fin 4) (est : Int) (conf : Nat),
     s.phase = .run → s.scanning c = true → s.acq c ≠ qSCAN → s.fb (rb c) RXF.CD_CTL_SCAN_LOAD = false →
     exec (.scanDone c est conf) s = .next ((s.did (seqs [fset (rb c) RXF.SCAN_RES_CD_EST (tc 20 est),
              fset (rb c) RXF.SCAN_STAT_CONF conf,
              fbset (rb c) RXF.SCAN_STAT_FAIL (decide (conf < s.fg (rb c) RXF.SCAN_CFG_CONF_MIN)),
              fbset (rb c) RXF.SCAN_STAT_DONE true, fset (rb c) RXF.SCAN_STAT_STATE 0, timerStop (tScan c),
              raise (rb c) 5])).carDone c)) ∧
  (∀ (s : State) (src : Requester) (c : Fin 4) (v : Word) (r : RegRow),
     s.serves src ⟨.rxf, c.val⟩ → regRow ⟨.rxf, c.val⟩ RXF.RXF_CTL = some r → wrote v RXF.RXF_CTL_MON_AS ≤ 9 →
     exec (.rxRunWrite src c v) s = .next ((s.apply (.regs (rb c + RXF.RXF_CTL)
              (r.merge (s.reg (rb c + RXF.RXF_CTL)) v))).pageDone ⟨.rxf, c.val⟩)) ∧
  (∀ (s : State) (c : Fin 4),
     s.rxMay c = true → s.acq c = qIDLE →
     s.did (rxfEval c) = s.did (acqTo c qWAIT)) ∧
  (∀ (s : State) (c : Fin 4),
     s.phase = .run → s.acq c = qWAIT → s.fb (ob c) OPT.RX_STAT_LOS_RAW = false →
     exec (.acqTryStart c) s = .next ((s.did (seqs [clockEnd (tAcqFail c) 10000000, acqTo c qTRY_ACTIVE])).carDone c)) ∧
  (∀ (s : State) (c : Fin 4) (best : Int) (conf : Nat),
     s.phase = .run → s.acq c = qTRY_ACTIVE → (s.rxf c).acqWait = none → (s.rxf c).rewrite = none → s.fb (rb c)
     (fldREADY (s.cdActive c)) = true → s.fg (rb c) RXF.SCAN_CFG_CONF_MIN ≤ conf → (best - s.cdBank c (s.cdActive
     c)).natAbs < s.fg (rb c) RXF.ALT_CFG_TOL / s.fg (rb c) RXF.SCAN_CFG_FINE * s.fg (rb c) RXF.SCAN_CFG_FINE →
     exec (.acqTrialDone c best conf) s = .next ((s.did (seqs [fset (rb c) RXF.SCAN_STAT_CONF conf,
              acqRewrite c (s.cdActive c) best])).carDone c)) ∧
  (∀ (s : State) (c : Fin 4) (best : Int) (conf : Nat),
     s.phase = .run → s.acq c = qTRY_ACTIVE → (s.rxf c).acqWait = none → (s.rxf c).rewrite = none → conf < s.fg (rb
     c) RXF.SCAN_CFG_CONF_MIN →
     exec (.acqTrialDone c best conf) s = .next ((s.did (seqs [fset (rb c) RXF.SCAN_STAT_CONF conf,
              acqReject c])).carDone c)) ∧
  (∀ (s : State) (c : Fin 4) (ppm : Int),
     s.phase = .run → s.acq c = qTIMING →
     exec (.trLock c ppm) s = .next ((s.did (seqs [acqTo c qRUN, fbset (rb c) RXF.TR_STAT_LOCK true, ppmSet c ppm,
              raise (rb c) 3])).carDone c)) ∧
  (∀ (s : State) (c : Fin 4),
     s.phase = .run → s.acq c = qTIMING → s.running (tTiming c) = true →
     exec (.timingTimeout c) s = .next ((s.did (seqs [clockEnd (tTiming c) (timingLimit (s.fg (rb c) RXF.TR_CTL_BW)),
              acqTo c qWAIT, raise (rb c) 4, fincSat (rb c) RXF.ACQ_STAT_FAILS 1, timerStart (tAcqFail c)])).carDone c)) ∧
  (∀ (s : State) (c : Fin 4),
     s.phase = .run → s.acq c = qRUN → s.fb (ob c) OPT.RX_STAT_LOS_RAW = false →
     exec (.trLockLost c) s = .next ((s.did (seqs [acqTo c qTRY_ACTIVE, raise (rb c) 6])).carDone c)) ∧
  (∀ (s : State) (c : Fin 4),
     s.phase = .run → s.rxRunning c = true →
     exec (.trSlip c) s = .next ((s.did (seqs [fincSat (rb c) RXF.TR_SLIP_CNT_COUNT 1, raise (rb c) 7])).carDone c)) ∧
  (∀ (s : State) (c : Fin 4) (resid ppm : Int),
     s.phase = .run → s.acq c = qRUN → resid.natAbs ≤ s.fg (rb c) RXF.TRACK_CFG_THR →
     exec (.cdMonUpdate c resid ppm) s = .next ((s.did (seqs [
              fset (rb c) RXF.CD_RESID_PS (tc 16 (clampS 16 resid)),
              fset (rb c) RXF.CD_MON_PS (tc 20 (clampS 20 (s.cdBank c (s.cdActive c) + resid))),
              fbset (rb c) RXF.CD_MON_VALID true, ppmSet c ppm, timerStop (tTrack c)])).carDone c)) ∧
  (∀ (s : State) (c : Fin 4),
     s.phase = .run → s.acq c = qRUN → s.running (tTrack c) = true → s.fb (rb c) RXF.CD_CTL_TRACK_EN = false →
     exec (.trackEvent c) s = .next ((s.did (seqs [clockEnd (tTrack c) (s.fg (rb c) RXF.TRACK_CFG_HOLD * 1000000),
              raise (rb c) 8, timerStop (tTrack c)])).carDone c))

/-- After acquisition goes to a state of 0 to 6: ACQ_STAT.STATE reads it; unless it is RUN, TR_STAT.LOCK and CD_MON.VALID
are 0; the TIMING limit runs in TIMING alone; SCAN_STAT.STATE is 1 in SCAN, with the scan's clock running, and 0 in
IDLE, WAIT and the trials. -/
def Obligations.AcquisitionStateChanges : Prop :=
  ∀ (s : State) (c : Fin 4) (st : Nat),
    st < 7 →
    (s.did (acqTo c st)).acq c = st ∧
           (st ≠ 6 → (s.did (acqTo c st)).fb (rb c) RXF.TR_STAT_LOCK = false ∧
             (s.did (acqTo c st)).fb (rb c) RXF.CD_MON_VALID = false) ∧
           (s.did (acqTo c st)).running (tTiming c) = decide (st = 5) ∧
           (st = 4 → (s.did (acqTo c st)).fg (rb c) RXF.SCAN_STAT_STATE = 1 ∧ (s.did (acqTo c st)).running (tScan c) = true) ∧
           (st < 4 → (s.did (acqTo c st)).fg (rb c) RXF.SCAN_STAT_STATE = 0 ∧ (s.did (acqTo c st)).running (tScan c) = false)

/-- Of the carrier's stream or of a subcarrier's: the coarse estimate loads the active anchor and starts BLIND; blind
adaptation that converges in time is CONVERGE; 200 us in BLIND or RECOVER starts anew, with its event and count; a
pilot SNR below the lost threshold in TRACK is RECOVER, and one at the gate threshold in RECOVER is TRACK; back in RUN
a frozen receiver continues, or starts anew after FREEZE_MAX. A block opens or closes the gate and moves the taps; a
gate closed for longer than IDLE starts leaking. Slips are counted. RUN, SWAP_REQ, the fade's end and SAVE of anchors
do what they say. -/
def Obligations.ReceiversAdapt : Prop :=
  (∀ (s : State) (src : Requester) (c : Fin 4) (v : Word) (r : RegRow),
     s.serves src ⟨.rxm, c.val⟩ → regRow ⟨.rxm, c.val⟩ RXM.RXM_CTL = some r →
     exec (.rxmRunWrite src c v) s = .next ((s.did (seqs [rset (mb c + RXM.RXM_CTL) (r.merge (s.reg (mb c + RXM.RXM_CTL)) v),
              hpEval c])).pageDone ⟨.rxm, c.val⟩)) ∧
  (∀ (s : State) (c : Fin 4) (sc : Option (Fin 64)) (mhz : Int),
     s.phase = .run → s.strSt (strmOf c sc) = zSTART →
     exec (.coarseFreqDone c sc mhz) s = .next ((s.did (seqs [
              carOnly (strmOf c sc) (fset (strmOf c sc).b RXM.FO_EST_MHZ (tc 16 mhz)),
              tapsPut (strmOf c sc) fun t i => t.anchorTap (strmOf c sc) i, strTo (strmOf c sc) zBLIND])).carDone c)) ∧
  (∀ (s : State) (c : Fin 4) (sc : Option (Fin 64)),
     s.phase = .run → s.strSt (strmOf c sc) = zBLIND → s.elapsed (tBlind (strmOf c sc)) ≤ 200000 →
     exec (.blindConverged c sc) s = .next ((s.did (strTo (strmOf c sc) zCONVERGE)).carDone c)) ∧
  (∀ (s : State) (c : Fin 4) (sc : Option (Fin 64)),
     s.phase = .run → (s.strSt (strmOf c sc) = zBLIND ∨ s.strSt (strmOf c sc) = zRECOVER) → s.running (tBlind (strmOf
     c sc)) = true →
     exec (.mimoFail c sc) s = .next ((s.did (seqs [clockEnd (tBlind (strmOf c sc)) 200000, strTo (strmOf c sc) zSTART,
              strRaise (strmOf c sc) 9 none, carOnly (strmOf c sc) (fincSat (strmOf c sc).b RXM.RXM_STAT_FAILS 1)])).carDone c)) ∧
  (∀ (s : State) (c : Fin 4) (sc : Option (Fin 64)) (snr : Int),
     s.phase = .run → s.strSt (strmOf c sc) = zTRACK → snr < s.lostSnr (strmOf c sc) →
     exec (.trackSnrLoss c sc snr) s = .next ((s.did (seqs [strTo (strmOf c sc) zRECOVER,
              strRaise (strmOf c sc) 1 (some 10)])).carDone c)) ∧
  (∀ (s : State) (c : Fin 4) (sc : Option (Fin 64)) (snr : Int),
     s.phase = .run → s.strSt (strmOf c sc) = zRECOVER → s.gateSnr (strmOf c sc) ≤ snr →
     exec (.recoverDone c sc snr) s = .next ((s.did (seqs [strTo (strmOf c sc) zTRACK,
              strRaise (strmOf c sc) 0 none])).carDone c)) ∧
  (∀ (s : State) (c : Fin 4) (sc : Option (Fin 64)),
     s.phase = .run → s.strSt (strmOf c sc) = zFREEZE → s.acq c = qRUN →
     exec (.freezeExit c sc) s = .next ((s.did (strTo (strmOf c sc)
              (if s.elapsed (tFreeze (strmOf c sc)) ≤ s.fg (mb c) RXM.ANCHOR_CFG_FREEZE_MAX * 1000000 then zCONVERGE
               else zSTART))).carDone c)) ∧
  (∀ (s : State) (c : Fin 4) (sc : Option (Fin 64)) (snr : Int) (adapted : List Word),
     s.phase = .run → s.strSt (strmOf c sc) = zTRACK → s.gateSnr (strmOf c sc) ≤ snr →
     exec (.adaptationBlock c sc snr false adapted) s = .next ((s.did (seqs [
              fbset (strmOf c sc).b (strmOf c sc).fGate true, timerStop (tGate (strmOf c sc)),
              fbset (strmOf c sc).b (strmOf c sc).fLeak false,
              tapsPut (strmOf c sc) fun t i => adapted.getD i (t.tap ((strmOf c sc).liveKey i))])).carDone c)) ∧
  (∀ (s : State) (c : Fin 4) (sc : Option (Fin 64)) (snr : Int) (adapted : List Word),
     s.phase = .run → s.strSt (strmOf c sc) = zTRACK → s.fb (strmOf c sc).b (strmOf c sc).fLeak = true → s.running
     (tGate (strmOf c sc)) = true →
     exec (.adaptationBlock c sc snr true adapted) s = .next ((s.did (seqs [
              fbset (strmOf c sc).b (strmOf c sc).fGate false,
              carOnly (strmOf c sc) (fincSat (strmOf c sc).b RXM.GATE_CNT_COUNT 1),
              tapsPut (strmOf c sc) fun t i => blendTap (adapted.getD i (t.tap ((strmOf c sc).liveKey i)))
                (t.anchorTap (strmOf c sc) i) 1 (2 ^ s.fg (mb c) RXM.ANCHOR_CFG_LEAK)])).carDone c)) ∧
  (∀ (s : State) (c : Fin 4) (sc : Option (Fin 64)),
     s.phase = .run → s.running (tGate (strmOf c sc)) = true → s.fb (strmOf c sc).b (strmOf c sc).fLeak = false →
     exec (.leakStart c sc) s = .next ((s.did (seqs [
              clockEnd (tGate (strmOf c sc)) (s.fg (mb c) RXM.ANCHOR_CFG_IDLE * 1000000 + 1),
              fbset (strmOf c sc).b (strmOf c sc).fLeak true, strRaise (strmOf c sc) 8 none])).carDone c)) ∧
  (∀ (s : State) (c : Fin 4),
     s.phase = .run → s.strSt ⟨c, none⟩ = zTRACK →
     exec (.cprSlip c none) s =
            .next ((s.did (seqs [fincSat (mb c) RXM.CPR_SLIP_CNT_COUNT 1, raise (mb c) 10])).carDone c)) ∧
  (∀ (s : State) (src : Requester) (c : Fin 4) (v : Word),
     s.serves src ⟨.rxm, c.val⟩ →
     exec (.rxmSwapReq src c v) s = .next ((s.did (seqs [
              swapReq (Strm.swap ⟨c, none⟩) (s.strStopped ⟨c, none⟩) src.id (wrote v RXM.SWAP_REQ_BANK),
              anchorBegin ⟨c, none⟩])).pageDone ⟨.rxm, c.val⟩)) ∧
  (∀ (s : State) (c : Fin 4),
     s.phase = .run → s.fb (mb c) RXM.ANCHOR_STAT_FADING = true → s.running (mb c + 3) = true →
     exec (.anchorFadeEnd c none) s = .next ((s.did (seqs [clockEnd (mb c + 3) (s.fadeNs ⟨c, none⟩),
              swapFinish (Strm.swap ⟨c, none⟩) (s.strStopped ⟨c, none⟩), anchorBegin ⟨c, none⟩])).carDone c)) ∧
  (∀ (s : State) (src : Requester) (c : Fin 4) (r : RegRow),
     s.serves src ⟨.rxm, c.val⟩ → regRow ⟨.rxm, c.val⟩ RXM.ANCHOR_CTL = some r → s.strSt ⟨c, none⟩ ≠ zTRACK → s.fb
     (mb c) RXM.ANCHOR_STAT_FADING = false →
     exec (.anchorSave src c 0) s = .next ((s.did (seqs [
              rset (mb c + RXM.ANCHOR_CTL) (r.merge (s.reg (mb c + RXM.ANCHOR_CTL)) (setF 0 RXM.ANCHOR_CTL_SAVE 1)),
              errPage (mb c) RXM.ANCHOR_CTL src.id 0x83])).pageDone ⟨.rxm, c.val⟩)) ∧
  (∀ (s : State) (src : Requester) (c : Fin 4) (r : RegRow),
     s.serves src ⟨.rxm, c.val⟩ → regRow ⟨.rxm, c.val⟩ RXM.ANCHOR_CTL = some r → s.strSt ⟨c, none⟩ = zTRACK → s.fb
     (mb c) RXM.ANCHOR_STAT_FADING = false →
     exec (.anchorSave src c 0) s = .next ((s.did (seqs [
              rset (mb c + RXM.ANCHOR_CTL) (r.merge (s.reg (mb c + RXM.ANCHOR_CTL)) (setF 0 RXM.ANCHOR_CTL_SAVE 1)),
              fun t => (List.range 1024).map fun i => .tabs (Strm.anchorKey ⟨c, none⟩ (1 - t.fg (mb c) RXM.ANCHOR_STAT_ACTIVE) i)
                (t.tap (Strm.liveKey ⟨c, none⟩ i))])).pageDone ⟨.rxm, c.val⟩))

/-- A rotation report writes the rate and its peak; with the predictor OFF, its adaptation not frozen and the rate below
the threshold, nothing else. A read of ROT_STAT answers it and resets the peak to the rate; a read of Q_SNR or Q_BER
answers it and resets the worst value. The predictor: a line found in SEARCH is LOCKING, its lock LOCKED with the
event, 10 s without HP_LOCK SEARCH, a weak line HOLD with the event, HOLD_MAX in HOLD SEARCH with the coefficients
cleared; adaptation resumes when the rate's limit ends. HP_CFG takes its bits. A millisecond's figures take effect in
TRACK. -/
def Obligations.RotationAndQuality : Prop :=
  (∀ (s : State) (c : Fin 4) (rate phase supp : Nat) (harm : List Word),
     s.phase = .run → s.live ⟨.rxm, c.val⟩ = true → rate < s.fg (mb c) RXM.ROT_THR_RATE → (s.rxm (mb c)).rotFrozen =
     false → s.hp c = hOFF →
     exec (.rotationUpdate c rate phase supp harm) s = .next ((s.did (seqs [fset (mb c) RXM.ROT_STAT_RATE rate,
              fset (mb c) RXM.ROT_STAT_PEAK (max (s.fg (mb c) RXM.ROT_STAT_PEAK) rate)])).carDone c)) ∧
  (∀ (s : State) (c : Fin 4),
     s.up ⟨.rxm, c.val⟩ →
     exec (.rotStatRead .host c) s = .next (s.applyAll [.regs (mb c + RXM.ROT_STAT)
              (bitsPut (s.reg (mb c + RXM.ROT_STAT)) RXM.ROT_STAT_PEAK.lo RXM.ROT_STAT_PEAK.w (s.fg (mb c) RXM.ROT_STAT_RATE)),
              .rdata (s.reg (mb c + RXM.ROT_STAT)).toNat]).settled) ∧
  (∀ (s : State) (c : Fin 4) (q : Quality),
     s.phase = .run →
     exec (.qualityUpdate c none q) s = .next ((s.did (seqs [qualityUpdate ⟨c, none⟩ q, fecQuality ⟨c, none⟩ q.margin1])).carDone c)) ∧
  (∀ (s : State) (c : Fin 4) (q : Quality),
     s.strSt ⟨c, none⟩ = zTRACK →
     (s.did (qualityUpdate ⟨c, none⟩ q)).reg (mb c + RXM.Q_GMI) = BitVec.ofNat 32 (q.gmi % 65536) ∧
            (s.did (qualityUpdate ⟨c, none⟩ q)).reg (mb c + RXM.Q_MARGIN) = BitVec.ofNat 32 (tc 16 (clampS 16 q.margin)) ∧
            bitsGet ((s.did (qualityUpdate ⟨c, none⟩ q)).reg (mb c + RXM.Q_SNR)) 0 16 = q.snr % 65536) ∧
  (∀ (s : State) (c : Fin 4),
     s.up ⟨.rxm, c.val⟩ →
     exec (.qualityRead .host c none false) s = .next (s.applyAll [.regs (mb c + RXM.Q_SNR)
              (bitsPut (s.reg (mb c + RXM.Q_SNR)) 16 16 (s.rxm (mb c)).snr1),
              .rdata (s.reg (mb c + RXM.Q_SNR)).toNat]).settled) ∧
  (∀ (s : State) (c : Fin 4),
     s.up ⟨.rxm, c.val⟩ →
     exec (.qualityRead .host c none true) s = .next (s.applyAll [.regs (mb c + RXM.Q_BER)
              (bitsPut (s.reg (mb c + RXM.Q_BER)) 16 16 (s.rxm (mb c)).ber1),
              .rdata (s.reg (mb c + RXM.Q_BER)).toNat]).settled) ∧
  (∀ (s : State) (src : Requester) (c : Fin 4) (v : Word) (r : RegRow),
     s.serves src ⟨.rxm, c.val⟩ → regRow ⟨.rxm, c.val⟩ RXM.HP_CFG = some r → (rxmLims.any fun l => l.f.off ==
     RXM.HP_CFG && l.bad v) = false →
     exec (.hpEnableWrite src c v) s = .next ((s.did (seqs [rset (mb c + RXM.HP_CFG) (r.merge (s.reg (mb c + RXM.HP_CFG)) v),
              hpEval c])).pageDone ⟨.rxm, c.val⟩)) ∧
  (∀ (s : State) (c : Fin 4) (freq amp : Nat),
     s.phase = .run → s.hp c = hSEARCH → 45000 ≤ freq → freq ≤ 65000 → s.fg (mb c) RXM.HP_CFG_MIN_AMP ≤ amp →
     exec (.hpSearchDone c freq amp) s =
            .next ((s.did (seqs [fset (mb c) RXM.HP_STAT_FREQ freq, hpTo c hLOCKING false])).carDone c)) ∧
  (∀ (s : State) (c : Fin 4) (freq amp : Nat),
     s.phase = .run → s.hp c = hLOCKING → s.elapsed (tHpLocking c) ≤ 10000000000 →
     exec (.hpLock c freq amp) s =
            .next ((s.did (seqs [fset (mb c) RXM.HP_STAT_FREQ freq, hpTo c hLOCKED false, raise (mb c) 3])).carDone c)) ∧
  (∀ (s : State) (c : Fin 4),
     s.phase = .run → s.hp c = hLOCKING → s.running (tHpLocking c) = true →
     exec (.hpLockingTimeout c) s =
            .next ((s.did (seqs [clockEnd (tHpLocking c) 10000000000, hpTo c hSEARCH false])).carDone c)) ∧
  (∀ (s : State) (c : Fin 4) (amp : Nat),
     s.phase = .run → s.hp c = hLOCKED → 2 * amp < s.fg (mb c) RXM.HP_CFG_MIN_AMP →
     exec (.hpUnlock c amp) s = .next ((s.did (seqs [hpTo c hHOLD false, raise (mb c) 4])).carDone c)) ∧
  (∀ (s : State) (c : Fin 4),
     s.phase = .run → s.hp c = hHOLD → s.running (tHpHold c) = true →
     exec (.hpHoldTimeout c) s = .next ((s.did (seqs [
              clockEnd (tHpHold c) (s.fg (mb c) RXM.HP_CFG2_HOLD_MAX * 1000000000), hpTo c hSEARCH true])).carDone c)) ∧
  (∀ (s : State) (c : Fin 4),
     s.phase = .run → s.running (tHpRate c) = true →
     exec (.hpAdaptResume c) s = .next ((s.did (seqs [clockEnd (tHpRate c) 10000000,
              rxmUpd (mb c) fun r => { r with rotFrozen := false }, timerStop (tHpRate c)])).carDone c))

/-- A write of FEC_MODE within the rules takes its fields and is pending where it differs from what runs, or takes effect
at once where no code period runs; a difference outside the live set is counted with MODE_MISMATCH, a change outside
it while the carrier runs with MODE_LIVE. A pending mode takes effect at a code period's start and raises MODE_DONE. A
codeword before PHASE_LOCK is discarded; one after it is decoded and counted. TV_GO starts a test run while the
decoder is enabled and is refused otherwise; its end shows the errors. A read of a counter's LO answers bits 31:0 and
latches the rest. -/
def Obligations.ModesAndDecoding : Prop :=
  (∀ (s : State) (src : Requester) (c : Fin 4) (v : Word),
     s.serves src ⟨.fec, c.val⟩ → fecModeBad s c v = false →
     exec (.fecModeWrite src c v) s = .next ((s.did (fecModeWrite src.id c false v)).pageDone ⟨.fec, c.val⟩)) ∧
  (∀ (s : State) (src : Nat) (c : Fin 4) (v : Word),
     liveSet (wrote v FEC.FEC_MODE_MODE) = true → liveSet (wrote v FEC.FEC_MODE_RX_MODE) = true → liveSet (s.fg (feb
     c) FEC.FEC_MODE_MODE) = true → liveSet (s.fg (feb c) FEC.FEC_MODE_RX_MODE) = true →
     s.did (fecModeWrite src c false v) = s.did (seqs [
              fset (feb c) FEC.FEC_MODE_PARTNER (wrote v FEC.FEC_MODE_PARTNER),
              fset (feb c) FEC.FEC_MODE_REGEN_AS (wrote v FEC.FEC_MODE_REGEN_AS),
              fset (feb c) FEC.FEC_MODE_MODE (wrote v FEC.FEC_MODE_MODE),
              fset (feb c) FEC.FEC_MODE_RX_MODE (wrote v FEC.FEC_MODE_RX_MODE),
              fbset (feb c) FEC.FEC_MODE_TX_PEND (wrote v FEC.FEC_MODE_MODE != s.modeNow c),
              fbset (feb c) FEC.FEC_MODE_RX_PEND (wrote v FEC.FEC_MODE_RX_MODE != s.fg (feb c) FEC.FEC_MODE_RX_MODE_NOW),
              modeEval c])) ∧
  (∀ (s : State) (src : Nat) (c : Fin 4) (v : Word),
     liveSet (wrote v FEC.FEC_MODE_MODE) = true → liveSet (wrote v FEC.FEC_MODE_RX_MODE) = false →
     s.did (fecModeWrite src c false v) = s.did (errPage (feb c) FEC.FEC_MODE src 0x81)) ∧
  (∀ (s : State) (src : Nat) (c : Fin 4) (v : Word),
     liveSet (wrote v FEC.FEC_MODE_MODE) = false → wrote v FEC.FEC_MODE_MODE ≠ s.fg (feb c) FEC.FEC_MODE_MODE → s.fb
     (xb c) TXD.TXD_CTL_TX_RUN = true →
     s.did (fecModeWrite src c false v) = s.did (errPage (feb c) FEC.FEC_MODE src 0x80)) ∧
  (∀ (s : State) (c : Fin 4),
     s.phase = .run → s.fb (feb c) FEC.FEC_MODE_TX_PEND = true → (s.noTxPeriod c = true ∨ (s.fec c).codePos = 0) →
     exec (.modeTakeEffect c false) s = .next ((s.did (seqs [
              fset (feb c) FEC.FEC_MODE_MODE_NOW (s.fg (feb c) FEC.FEC_MODE_MODE),
              fbset (feb c) FEC.FEC_MODE_TX_PEND false, raise (feb c) 0, pmSuspect c])).carDone c)) ∧
  (∀ (s : State) (c : Fin 4) (lam : List Int) (m : Nat),
     s.phase = .run → s.decMode c = some m → m ≠ mZ400 → (s.fr (mb c)).plock = false →
     exec (.codewordDecode c none lam) s = .next (s.carDone c)) ∧
  (∀ (s : State) (c : Fin 4) (lam : List Int) (m : Nat),
     s.phase = .run → s.decMode c = some m → s.decRun c = true → (s.fr (mb c)).plock = true → s.running (tRxInt c) =
     false →
     exec (.codewordDecode c none lam) s = .next ((s.did (codewordCount ⟨c, none⟩ (s.decodeOut c m lam))).carDone c)) ∧
  (∀ (s : State) (c : Fin 4) (d : Decoded),
     (s.did (codewordCount ⟨c, none⟩ d)).cnt (feb c + FEC.CW_LO) = (s.cnt (feb c + FEC.CW_LO) + 1) % 2 ^ 48 ∧
            (s.did (codewordCount ⟨c, none⟩ d)).cnt (feb c + FEC.COR_LO) = (s.cnt (feb c + FEC.COR_LO) + d.cor) % 2 ^ 48 ∧
            (s.did (codewordCount ⟨c, none⟩ d)).cnt (feb c + FEC.UNC_LO) = (s.cnt (feb c + FEC.UNC_LO) + b2n d.unc) % 2 ^ 48) ∧
  (∀ (s : State) (src : Requester) (c : Fin 4) (v : Word),
     s.serves src ⟨.fec, c.val⟩ → s.fb (feb c) FEC.FEC_CTL_DEC_EN = true → (s.fec c).tvBusy = false →
     exec (.tvGo src c v) s = .next ((s.did (seqs [fun _ => [.fecs c { s.fec c with tvBusy := true }],
              fbset (feb c) FEC.TV_CTL_TV_DONE false])).pageDone ⟨.fec, c.val⟩)) ∧
  (∀ (s : State) (src : Requester) (c : Fin 4) (v : Word),
     s.serves src ⟨.fec, c.val⟩ → (s.fb (feb c) FEC.FEC_CTL_DEC_EN = false ∨ (s.fec c).tvBusy = true) →
     exec (.tvGo src c v) s = .next ((s.did (errPage (feb c) FEC.TV_CTL src.id 0x84)).pageDone ⟨.fec, c.val⟩)) ∧
  (∀ (s : State) (c : Fin 4) (errs : Nat),
     s.phase = .run → (s.fec c).tvBusy = true → errs ≤ 64 →
     exec (.tvDone c errs) s = .next ((s.did (seqs [fun _ => [.fecs c { s.fec c with tvBusy := false }],
              fset (feb c) FEC.TV_CTL_TV_ERRS errs, fbset (feb c) FEC.TV_CTL_TV_FAIL (errs != 0),
              fbset (feb c) FEC.TV_CTL_TV_DONE true, raise (feb c) 7])).carDone c)) ∧
  (∀ (s : State) (c : Fin 4) (a : BitVec 26),
     s.up ⟨.fec, c.val⟩ → (a.toNat = feb c + FEC.CW_LO ∨ a.toNat = feb c + FEC.COR_LO ∨ a.toNat = feb c + FEC.UNC_LO
     ∨ a.toNat = feb c + FEC.ITMAX_LO) →
     exec (.counterLoRead .host a) s = .next (s.applyAll [.regs (a.toNat + 4) (BitVec.ofNat 32 (s.cnt a.toNat / 2 ^ 32)),
              .rdata (s.cnt a.toNat % 2 ^ 32)]).settled)

/-- A received frame of a carrier or subcarrier does what the framer's state says, and a carrier's may begin a multiframe.
A framer that is not allowed to run, with no code phase accepted, goes to SEARCH. In modes other than Z400: in SEARCH
a word within tolerance of FAW is PRESYNC; in PRESYNC a miss is SEARCH. In IF a hit clears the misses; a hit one
symbol early or late moves the offset; the fifth miss in a row is SEARCH, counted in OOF_CNT, with its event. A valid
field that agrees with the count clears the disagreements, the fifth that disagrees clears MF_LOCK, and two consistent
ones set it again. Leaving IF clears MF_LOCK. A host read of RX_MFN answers the multiframe number and latches RX_FN. -/
def Obligations.FramersFindAndHold : Prop :=
  (∀ (s : State) (c : Fin 4) (f : FrameRx),
     s.phase = .run →
     exec (.lineFrameReceived c none f) s = .next ((s.did (seqs [lineFrame ⟨c, none⟩ f, rxBoundary c])).carDone c)) ∧
  (∀ (s : State) (c : Fin 4) (sc : Fin 64) (f : FrameRx),
     s.phase = .run →
     exec (.lineFrameReceived c (some sc) f) s = .next ((s.did (lineFrame ⟨c, some sc.val⟩ f)).carDone c)) ∧
  (∀ (s : State) (x : Strm) (f : FrameRx),
     s.frMay x = false → s.frSt x ≠ fSEARCH → (s.fr x.b).plock = false →
     s.did (lineFrame x f) = s.did (frTo x fSEARCH)) ∧
  (∀ (s : State) (x : Strm) (f : FrameRx) (t : State),
     t = s.did (frCount x) → s.frMay x = true → s.rxMode x.c ≠ mZ400 → t.frSt x = fSEARCH → x.sub ≠ none → t.fawHit x
     false f.word = true →
     s.did (lineFrame x f) = t.did (seqs [fset x.lb x.fFr fPRESYNC,
              frUpd x fun r => { r with off := f.off, hyp := f.hyp, hits := 1, fields := [none], smSeen := false }])) ∧
  (∀ (s : State) (x : Strm) (f : FrameRx) (t : State),
     t = s.did (frCount x) → s.frMay x = true → s.rxMode x.c ≠ mZ400 → t.frSt x = fPRESYNC → t.fawHit x true f.word =
     false →
     s.did (lineFrame x f) = t.did (frTo x fSEARCH)) ∧
  (∀ (s : State) (x : Strm) (f : FrameRx),
     s.fawHit x true f.word = true →
     s.did (inFrameWord x f) = s.did (frUpd x fun r => { r with miss := 0 })) ∧
  (∀ (s : State) (c : Nat) (f : FrameRx),
     s.fawHit ⟨c, none⟩ true f.word = false → s.fawHit ⟨c, none⟩ true f.before = true →
     s.did (inFrameWord ⟨c, none⟩ f) = s.did (seqs [
              frUpd ⟨c, none⟩ fun r => { r with off := ((s.fr (mb c)).off + 16384 - 1) % 16384, miss := 0 },
              fset (lb c) LFR.FR_STAT_OFFSET (((s.fr (mb c)).off + 16384 - 1) % 16384),
              fincSat (lb c) LFR.ADJ_CNT_COUNT 1, raise (lb c) 10])) ∧
  (∀ (s : State) (c : Nat) (f : FrameRx),
     s.fawHit ⟨c, none⟩ true f.word = false → s.fawHit ⟨c, none⟩ true f.before = false → s.fawHit ⟨c, none⟩ true
     f.after = true →
     s.did (inFrameWord ⟨c, none⟩ f) = s.did (seqs [
              frUpd ⟨c, none⟩ fun r => { r with off := ((s.fr (mb c)).off + 1) % 16384, miss := 0 },
              fset (lb c) LFR.FR_STAT_OFFSET (((s.fr (mb c)).off + 1) % 16384),
              fincSat (lb c) LFR.ADJ_CNT_COUNT 1, raise (lb c) 10])) ∧
  (∀ (s : State) (x : Strm) (f : FrameRx),
     s.fawHit x true f.word = false → s.fawHit x true f.before = false → s.fawHit x true f.after = false → 4 ≤ (s.fr
     x.b).miss →
     s.did (inFrameWord x f) = s.did (seqs [frTo x fSEARCH, fincSat x.lb (x.fld LFR.OOF_CNT_COUNT SCB.OOF_CNT_COUNT) 1,
              match x.sub with
              | none => raise x.lb 1
              | some _ => raise x.b 9])) ∧
  (∀ (s : State) (x : Strm),
     s.frSt x = fIF →
     s.did (frTo x fSEARCH) = s.did (seqs [fset x.lb x.fFr fSEARCH,
              frUpd x fun r => { r with miss := 0, hits := 0, fields := [] }, mflSet x false, strFrame x false])) ∧
  (∀ (s : State) (x : Strm) (v : Nat),
     (s.fr x.b).mfLock = true → v = (s.fr x.b).num →
     s.did (countCheck x v) = s.did (frUpd x fun r => { r with dis := 0 })) ∧
  (∀ (s : State) (x : Strm) (v : Nat),
     (s.fr x.b).mfLock = true → v ≠ (s.fr x.b).num → 4 ≤ (s.fr x.b).dis →
     s.did (countCheck x v) = s.did (seqs [mflSet x false, frUpd x fun r => { r with cand := some v },
              carOnly x (raise x.lb 3)])) ∧
  (∀ (s : State) (x : Strm) (v : Nat),
     (s.fr x.b).mfLock = false → (s.fr x.b).cand = some v →
     s.did (countCheck x v) = s.did (seqs [mflSet x true, frUpd x fun r => { r with num := v }, carOnly x (raise x.lb 2)])) ∧
  (∀ (s : State) (c : Fin 4),
     s.up ⟨.lfr, c.val⟩ →
     exec (.rxMfnRead .host c) s = .next (s.applyAll [
              .regs (lb c + LFR.RX_FN) (bitsPut (s.reg (lb c + LFR.RX_FN)) LFR.RX_FN_FN.lo LFR.RX_FN_FN.w ((s.fr (mb c)).num % 256)),
              .rdata (BitVec.ofNat 32 ((s.fr (mb c)).num / 256)).toNat]).settled)

/-- A sample of a page's raw conditions integrates each one: a condition that differs from the defect for its SET or CLR
time changes it; one that agrees starts anew. A sample of the suits, of an association's page, of the references or of
a port evaluates what hangs on it. A second that is final enters both current bins: SUSPECT is marked; an unavailable
second counts only as such; a void one counts nothing. A bin closes ten seconds after its end: the history moves by
one, newest first, the bin is copied, the next begins empty and the closing is raised; before that nothing happens.
CLR of PM_CMD begins both bins anew, marked SUSPECT. -/
def Obligations.DefectsAndSeconds : Prop :=
  (∀ (s : State) (c : Fin 4),
     s.phase = .run →
     exec (.defectSample (.lfr c)) s = .next ((s.did (defSampleCar c)).carDone c)) ∧
  (∀ (s : State),
     s.phase = .run →
     exec (.defectSample .dpl) s = .next ((s.did dplSample).vlgDone)) ∧
  (∀ (s : State),
     s.phase = .run →
     exec (.defectSample .suit) s = .next ((s.did suitSample).suitDone)) ∧
  (∀ (s : State) (c : Fin 4),
     s.phase = .run →
     exec (.defectSample (.cip c)) s = .next ((s.did (cipSample c)).suitDone)) ∧
  (∀ (s : State) (p : Fin 4) (clk : Bool) (lanes : BitVec 8) (idle : Bool),
     s.phase = .run →
     exec (.defectSample (.vlg p clk lanes idle)) s = .next ((s.did (vlgSample p clk lanes.toNat idle)).vlgDone)) ∧
  (∀ (s : State) (c : Fin 4) (sc : Fin 64),
     s.phase = .run → sc.val ≠ 0 →
     exec (.defectSample (.scb c sc)) s = .next ((s.did (defSampleSub c sc)).carDone c)) ∧
  (∀ (run n : Nat),
     n < 2 ^ 14 → n ≤ run →
     integrate false true run (n * 2 ^ 16) = (true, 0) ∧ (0 < n → integrate false true (n - 1) (n * 2 ^ 16) = (false, n)) ∧
            integrate false false run (n * 2 ^ 16) = (false, 0) ∧ integrate true true run (n * 2 ^ 16) = (true, 0)) ∧
  (∀ (run n k : Nat),
     n < 2 ^ 14 → k < 2 ^ 16 → n ≤ run →
     integrate true false run (k * 2 ^ 16 + n) = (false, 0) ∧
            (0 < n → integrate true false (n - 1) (k * 2 ^ 16 + n) = (true, n))) ∧
  (∀ (s : State) (c : Fin 4) (sc : Option (Fin 64)),
     s.phase = .run →
     exec (.pmSecond c sc) s = .next (s.did (pmSecond (strmOf c sc))).settled) ∧
  (∀ (s : State) (x : Strm) (q : PmSec),
     q.suspect = true → q.void = false → q.neU = true → q.feU = false → q.feEs = true → q.feSes = false →
     s.did (pmFinal x q) = s.did (seqs [pmMark x 0, pmAdd x 0 2, pmAdd x 0 3, pmMark x 1, pmAdd x 1 2, pmAdd x 1 3])) ∧
  (∀ (s : State) (x : Strm) (q : PmSec),
     q.suspect = true → q.void = true →
     s.did (pmFinal x q) = s.did (seqs [pmMark x 0, pmMark x 1])) ∧
  (∀ (s : State) (c : Fin 4) (sc : Option (Fin 64)) (day : Bool),
     s.phase = .run → s.nowNs.toNat / 1000000000 < (s.tab ((strmOf c sc).pmKey (if day then 1 else 0) 1)).toNat +
     (s.tab ((strmOf c sc).pmKey (if day then 1 else 0) 2)).toNat * 2 ^ 32 + pmLen (if day then 1 else 0) + 10 →
     exec (.pmBinClose c sc day) s = .next s.settled) ∧
  (∀ (s : State) (c : Fin 4) (sc : Option (Fin 64)),
     s.phase = .run → bitOf (s.tab ((strmOf c sc).pmKey 0 0)).toNat 31 = true → (s.tab ((strmOf c sc).pmKey 0
     1)).toNat + (s.tab ((strmOf c sc).pmKey 0 2)).toNat * 2 ^ 32 + pmLen 0 + 10 ≤ s.nowNs.toNat / 1000000000 →
     exec (.pmBinClose c sc false) s = .next (s.did (seqs [
              fun _ => (List.range 31).flatMap fun i => (List.range 15).map fun w =>
                .tabs ((strmOf c sc).pmKey (2 + 32 - 1 - i) w) (s.tab ((strmOf c sc).pmKey (2 + 32 - 2 - i) w)),
              fun _ => (List.range 15).map fun w => .tabs ((strmOf c sc).pmKey 2 w) (s.tab ((strmOf c sc).pmKey 0 w)),
              pmOpen (strmOf c sc) 0 (pmStart (s.fg (lb c) LFR.PM_CFG_DAY_OFS) (pmLen 0) (s.nowNs.toNat / 1000000000 - 10)),
              carOnly (strmOf c sc) (seqs [fset (lb c) LFR.PM_STAT_N15 (min 32 (s.fg (lb c) LFR.PM_STAT_N15 + 1)),
                raise (lb c) 6])])).settled) ∧
  (∀ (s : State) (c : Fin 4) (sc : Option (Fin 64)),
     s.phase = .run → bitOf (s.tab ((strmOf c sc).pmKey 1 0)).toNat 31 = true → (s.tab ((strmOf c sc).pmKey 1
     1)).toNat + (s.tab ((strmOf c sc).pmKey 1 2)).toNat * 2 ^ 32 + pmLen 1 + 10 ≤ s.nowNs.toNat / 1000000000 →
     exec (.pmBinClose c sc true) s = .next (s.did (seqs [
              fun _ => (List.range 1).flatMap fun i => (List.range 15).map fun w =>
                .tabs ((strmOf c sc).pmKey (34 + 2 - 1 - i) w) (s.tab ((strmOf c sc).pmKey (34 + 2 - 2 - i) w)),
              fun _ => (List.range 15).map fun w => .tabs ((strmOf c sc).pmKey 34 w) (s.tab ((strmOf c sc).pmKey 1 w)),
              pmOpen (strmOf c sc) 1 (pmStart (s.fg (lb c) LFR.PM_CFG_DAY_OFS) (pmLen 1) (s.nowNs.toNat / 1000000000 - 10)),
              carOnly (strmOf c sc) (seqs [fset (lb c) LFR.PM_STAT_N24 (min 2 (s.fg (lb c) LFR.PM_STAT_N24 + 1)),
                raise (lb c) 7])])).settled) ∧
  (∀ (s : State) (src : Requester) (c : Fin 4) (sc : Option (Fin 64)) (v : Word),
     s.serves src ⟨.lfr, c.val⟩ →
     exec (.pmCmdClr src c sc v) s = .next ((s.did (forP (s.pmStreams c) fun x => seqs [
              fun t => .tabs (x.pmKey 0 0) (t.tab (x.pmKey 0 0) ||| 0x40000000) :: (List.range 12).map fun w => .tabs (x.pmKey 0 (3 + w)) 0,
              fun t => .tabs (x.pmKey 1 0) (t.tab (x.pmKey 1 0) ||| 0x40000000) :: (List.range 12).map fun w => .tabs (x.pmKey 1 (3 + w)) 0])).pageDone
                ⟨.lfr, c.val⟩))

/-- A write of a member entry that is not of an active member, overlaps no enabled range and is not left open by the rules
takes the value; one of an active member is counted with MEMBER_ACTIVE, an overlapping one with TS_OVERLAP. A write
that enables a suit is counted with SOURCE_BUSY where its source is in use, on the Velaug port's page where the port's
time slots do not suffice, on TSH where its delay line is refused; otherwise the suit starts. A write of EN 0 disables
it; any other write of an enabled suit is counted with SUIT_ACTIVE. A pair is enabled where its delay fits, and
refused otherwise; while enabled only EN 0 is taken. What the page and the window imply follows. -/
def Obligations.SuitTablesAreChecked : Prop :=
  (∀ (s : State) (src : Requester) (e : Fin 4096) (v : Word) (t : State),
     s.windowServes src ⟨.suit, 0⟩ → t = s.select ⟨.suit, 0⟩ 1 e.val → ((t.suit (e.val / 16)).on && bitOf (t.suit
     (e.val / 16)).active (e.val % 16)) = false → t.tsOverlap e.val v = false → t.memberBad v = false →
     exec (.memberWrite src e v) s = .next ((t.did (seqs [
              fun _ => [.tabs (tabKey sub' 1 e.val 0) (v &&& 0xFFFF3FCF)], pageEval ⟨.suit, 0⟩])).winDone ⟨.suit, 0⟩ 0)) ∧
  (∀ (s : State) (src : Nat) (e : Nat) (v : Word),
     (s.suit (e / 16)).on = true → bitOf (s.suit (e / 16)).active (e % 16) = true →
     s.did (memberWrite src e v) = s.did (errPage sub' (oWIN_DATA 0) src cMEMBER_ACTIVE)) ∧
  (∀ (s : State) (src : Nat) (e : Nat) (v : Word),
     (s.suit (e / 16)).on = false → s.tsOverlap e v = true →
     s.did (memberWrite src e v) = s.did (errPage sub' (oWIN_DATA 0) src cTS_OVERLAP)) ∧
  (∀ (s : State) (src : Requester) (n : Fin 256) (v : Word) (t : State),
     s.windowServes src ⟨.suit, 0⟩ → t = s.select ⟨.suit, 0⟩ 0 n.val → t.suitEn n.val = false → suitBad (v ||| 1) =
     false →
     exec (.suitEnable src n v) s = .next ((t.did (seqs [suitEnable src.id n.val ((v ||| 1) &&& 0x01FFFF3D),
              pageEval ⟨.suit, 0⟩])).winDone ⟨.suit, 0⟩ 0)) ∧
  (∀ (s : State) (src n : Nat) (v : Word),
     s.sourceBusy n v = true →
     s.did (suitEnable src n v) = s.did (errPage sub' (oWIN_DATA 0) src cSOURCE_BUSY)) ∧
  (∀ (s : State) (src n p : Nat) (v : Word),
     s.sourceBusy n v = false → (List.range 4).find? (fun p => decide (64 < s.vlgTs p (n :: s.suitIds))) = some p →
     s.did (suitEnable src n v) = s.did (errPage (pageBase .vlg p) (oWIN_DATA 0) src cVLG_FULL)) ∧
  (∀ (s : State) (src n : Nat) (v : Word),
     s.sourceBusy n v = false → (List.range 4).find? (fun p => decide (64 < s.vlgTs p (n :: s.suitIds))) = none →
     v.getLsbD 2 = false →
     s.did (suitEnable src n v) = s.did (suitStart n v)) ∧
  (∀ (s : State) (src i : Nat) (v : Word),
     s.suitEn i = true → v.getLsbD 0 = false →
     s.did (suitWrite src i 0 v) = s.applyAll [.tabs (tabKey sub' 0 i 0) (bitsPut (s.suitW i 0) 0 1 0), .suits i {}]) ∧
  (∀ (s : State) (src i : Nat) (v : Word),
     s.suitEn i = true → v.getLsbD 0 = true →
     s.did (suitWrite src i 0 v) = s.did (errPage sub' (oWIN_DATA 0) src cSUIT_ACTIVE)) ∧
  (∀ (s : State) (src : Requester) (p : Fin 128) (v : Word) (t : State),
     s.windowServes src ⟨.tsh, 0⟩ → t = s.select ⟨.tsh, 0⟩ 0 p.val → (t.pairW p.val 0).getLsbD 0 = false → t.pairBad
     ((v ||| 1) &&& 0x00FFFF03) = false → t.tshCheck (t.tsOf (bitsGet ((v ||| 1) &&& 0x00FFFF03) 8 8) (t.suit
     (bitsGet ((v ||| 1) &&& 0x00FFFF03) 8 8)).active) (bitsGet (t.pairW p.val 1) 0 15) (bitsGet (t.pairW p.val 2) 16
     16) = none →
     exec (.pairEnable src p v) s = .next ((t.did (seqs [
              fun _ => [.tabs (tabKey tsb 0 p.val 0) ((v ||| 1) &&& 0x00FFFF03), .pairs p.val { on := true }],
              pageEval ⟨.tsh, 0⟩])).winDone ⟨.tsh, 0⟩ 0)) ∧
  (∀ (s : State) (src p code : Nat) (v : Word),
     s.tshCheck (s.tsOf (bitsGet v 8 8) (s.suit (bitsGet v 8 8)).active) (bitsGet (s.pairW p 1) 0 15) (bitsGet
     (s.pairW p 2) 16 16) = some code →
     s.did (pairEnable src p v) = s.did (errPage tsb (oWIN_DATA 0) src code)) ∧
  (∀ (s : State) (src p : Nat) (v : Word),
     (s.pairW p 0).getLsbD 0 = true → v.getLsbD 0 = true →
     s.did (tshTab src 0 p 0 v) = s.did (errPage tsb (oWIN_DATA 0) src cPAIR_ACTIVE))

/-- In ANNOUNCE, reaching S - 8 without READY is ABORTING with NO_READY. In COMMIT, reaching S puts the new map, its
version and its REQ_TS in use, counts it and raises RESIZE_DONE. In ABORTING, passing S keeps the map and raises
RESIZE_FAIL. Failed members of an idle suit are dropped 16 multiframes on if the rest suffices, wait for a resize to
end, or are impossible; reaching the drop's S puts its map in use, counts it and raises MEMBER_DROPPED. Each then
leaves the suit IDLE. A READY in ANNOUNCE before S - 8 is COMMIT, a NOT_READY is ABORTING. A TMF of an enabled member
enters the deskew store with its skew. A frame of a single suit is delivered, errored if it is bad. -/
def Obligations.SuitsResizeAndDrop : Prop :=
  (∀ (s : State) (n : Fin 256),
     s.phase = .run → (s.suit n).on = true → (s.suit n).rstate = 1 → ((s.suit n).toGo ≤ 8 ∨ (s.suit n).reached =
     true) →
     exec (.noReady n) s = .next (s.did (suitUpd n fun r => { r with rstate := 3, result := 3 })).suitDone) ∧
  (∀ (s : State) (n : Fin 256),
     s.phase = .run → (s.suit n).on = true → (s.suit n).rstate = 2 → (s.suit n).reached = true →
     exec (.resizeDone n) s = .next (s.did (seqs [
              suitUpd n fun r => { r with active := r.next, mapVer := r.nextVer, result := 1, resizes := satAdd 32 r.resizes 1 },
              fun t => [.tabs (tabKey sub' 0 n 0) (bitsPut (t.suitW n 0) 16 9 (s.suit n).reqNew)],
              raise sub' 2, suitIdle n])).suitDone) ∧
  (∀ (s : State) (n : Fin 256),
     s.phase = .run → (s.suit n).on = true → (s.suit n).rstate = 3 → (s.suit n).reached = true → (s.suit n).ssn ≠
     (s.suit n).switchAt →
     exec (.resizeAbortEnd n) s = .next (s.did (seqs [raise sub' 3, suitIdle n])).suitDone) ∧
  (∀ (s : State) (n : Fin 256) (keep : Nat),
     s.phase = .run → (s.suit n).on = true → s.txLost n ≠ 0 → (s.suit n).rstate = 0 → keep = mapWhere (s.suit
     n).active (fun k => !bitOf (s.txLost n) k) → keep ≠ 0 → s.reqTs n ≤ s.tsOf n keep →
     exec (.memberDrop n) s = .next (s.did (suitUpd n fun r => { r with
              rstate := 4, next := keep, nextVer := (r.mapVer + 1) % 16, switchAt := (r.ssn + 16) % 2 ^ 32,
              dropWait := false })).suitDone) ∧
  (∀ (s : State) (i : Nat),
     (s.suit i).on = true → s.txLost i ≠ 0 → (s.suit i).rstate ≠ 4 → (s.suit i).rstate ≠ 0 →
     s.did (dropTry i) = s.did (suitUpd i fun r => { r with dropWait := true })) ∧
  (∀ (s : State) (i : Nat),
     (s.suit i).on = true → s.txLost i ≠ 0 → (s.suit i).rstate = 0 → s.tsOf i (mapWhere (s.suit i).active fun k =>
     !bitOf (s.txLost i) k) < s.reqTs i →
     s.did (dropTry i) = s.did (suitUpd i fun r => { r with result := 7, dropWait := false })) ∧
  (∀ (s : State) (n : Fin 256),
     s.phase = .run → (s.suit n).on = true → (s.suit n).rstate = 4 → (s.suit n).reached = true →
     exec (.dropDone n) s = .next (s.did (seqs [
              suitUpd n fun r => { r with active := r.next, mapVer := r.nextVer, result := 6, resizes := satAdd 32 r.resizes 1 },
              raise sub' 5, suitIdle n])).suitDone) ∧
  (∀ (s : State) (c : Fin 4) (r : SuitRecord),
     s.phase = .run → (List.range 4).find? (fun p => match s.transitFor p (slotBits r.a 55 8) (slotBits r.a 40 4)
     with | some e => bitsGet (s.transit p e 0) 2 2 == c.val && !(s.transit p e 0).getLsbD 1 | none => false) = none
     →
     exec (.suitRecordReceived c r) s = .next (s.did (suitMessage r)).suitDone) ∧
  (∀ (s : State) (r : SuitRecord),
     slotBits r.a 63 1 = 1 → slotBits r.a 52 3 = 2 → (s.suit (slotBits r.a 55 8)).on = true → (s.suit (slotBits r.a
     55 8)).rstate = 1 → 8 ≤ (s.suit (slotBits r.a 55 8)).toGo → (s.suit (slotBits r.a 55 8)).reached = false →
     s.did (suitMessage r) = s.did (suitUpd (slotBits r.a 55 8) fun q => { q with rstate := 2 })) ∧
  (∀ (s : State) (r : SuitRecord),
     slotBits r.a 63 1 = 1 → slotBits r.a 52 3 = 3 → (s.suit (slotBits r.a 55 8)).on = true → (s.suit (slotBits r.a
     55 8)).rstate = 1 →
     s.did (suitMessage r) = s.did (suitUpd (slotBits r.a 55 8) fun q => { q with rstate := 3, result := 4 })) ∧
  (∀ (s : State) (n : Fin 256) (k : Fin 16) (ssn : Word),
     s.phase = .run → (s.suit n).on = true → mEn (s.member n k) = true → s.rxFailed n k = false → (s.suit n).rxCommit
     = false → (s.suit n).arrivals.find? (fun a => a.ssn == ssn.toNat) = none →
     exec (.tmfReceived n k ssn) s = .next (s.did (suitUpd n fun r => { r with
              arrivals := (⟨ssn.toNat, s.ticks, s.ticks, 2 ^ k.val⟩ :: r.arrivals.filter fun b => b.ssn != ssn.toNat).take 2048,
              skews := (k.val, 0) :: r.skews.filter fun q => q.1 != k.val })).suitDone) ∧
  (∀ (s : State) (n : Fin 256) (fa fb : FrameCopy),
     s.phase = .run → (s.suit n).on = true → s.pairIds.find? (fun p => s.pairA p == n.val) = none → s.suitProtect n =
     false →
     exec (.suitFrameReadout n fa fb) s =
            .next (s.did (seqs [hdrCount n fa, fun t => deliver n fa (t.frameBad n fa) t])).suitDone)

/-- A write of HUB_CTL.RUN starts and stops the functions. A round takes its number, the configuration and the map, and
with the default program computes the next round's grants and map. A submitted grant that is not refused is stored,
sent and counted; one refused is counted with its reason. A map entry that meets another of its round and group is
counted with DMAP_OVERLAP, else it is stored and sent. A grant that ends leaves the store, its leaf's figures
following. A discovery window opens, and ends with an event. An entry written with PROV goes from FREE to WAIT, is
refused elsewhere, goes to LOST after LOST_TIME, back to WAIT with DEREG after DROP_TIME, and is freed by REMOVE. A
drained group releases its entries. REPORT sets a backlog; an unknown HELLO is shown with an event; a known one in
WAIT goes to RANGING with its EqD. -/
def Obligations.HubRunsItsRounds : Prop :=
  (∀ (s : State) (src : Requester) (v : Word),
     s.serves src ⟨.hub, 0⟩ →
     exec (.hubRunWrite src v) s = .next ((s.did (seqs [fset hb HUB.HUB_CTL_RUN (v.toNat % 16),
              forP (List.range 4) hubEval])).pageDone ⟨.hub, 0⟩)) ∧
  (∀ (s : State) (c : Fin 4) (ps : List RoundGrant) (fs : List RoundFrames) (rnd : Nat),
     s.phase = .run → (s.hub c).on = true → s.isHub c = true → (s.tl c).run = true → s.roundPos c = 0 → (s.hub c).rnd
     = some rnd → (s.hub c).roundMf ≠ (s.tl c).mf →
     exec (.roundStart c ps fs) s = .next ((s.did (seqs [
              rset (hb + HUB.CAR_RND c) (BitVec.ofNat 32 ((rnd + 1) % 2 ^ 32)),
              hubUpd c fun h => { h with
                starts := (((rnd + 1) % 2 ^ 32, s.ticks) :: h.starts).take 128, roundMf := (s.tl c).mf },
              groupsTake c (some ((rnd + 1) % 2 ^ 32)), mapTake c ((rnd + 1) % 2 ^ 32),
              hubUpd c fun h => { h with
                dmaps := h.dmaps.filter fun d => d.rnd == (rnd + 1) % 2 ^ 32,
                chans := (h.groups.filter fun g => g.role == 2).map fun g =>
                  { low := g.low, width := g.size, ctl := inOrder (h.due.map (·.1)) },
                due := (h.due.map fun d => (d.1, d.2 - 1)).filter fun d => d.2 != 0 },
              hubMultiframe c [.round ((rnd + 1) % 2 ^ 32) (s.fg hb (HUB.CAR_CFG_RLEN c)) (s.fg hb (HUB.CAR_TEQ_TEQ c))],
              fun u => if u.hubProgram c then
                seqs [roundGrants c ps, forP fs fun f => dmapSubmit (0x14 + c / 2) c f.leaf f.group f.first f.count] u else [],
              roundDeals c])).carDone c)) ∧
  (∀ (s : State) (c : Fin 4) (gain : Nat),
     s.phase = .run →
     exec (.upstreamRoundStart c gain) s = .next ((s.did (upstreamRound c gain)).carDone c)) ∧
  (∀ (s : State) (src : Requester) (v : Word) (t : State),
     s.windowServes src ⟨.hub, 0⟩ → t = s.select ⟨.hub, 0⟩ 2 0 →
     exec (.grantSubmit src v) s = .next ((t.did (seqs [
              grantSubmit (bitsGet (t.tab (tabKey hb 2 0 0)) 11 2) (grantIn (t.tab (tabKey hb 2 0 0)) v),
              pageEval ⟨.hub, 0⟩])).winDone ⟨.hub, 0⟩ 1)) ∧
  (∀ (s : State) (c : Nat) (g : Grant),
     s.grantBad c { g with rnd := (s.hub c).nextRnd } = none → s.grantUsed < 8191 →
     s.did (grantSubmit c g) = s.did (seqs [
              hubUpd c fun h => { h with
                store := h.store ++ [{ g := { g with rnd := (s.hub c).nextRnd }, home := s.leafHome (c * 1024 + g.leaf) }] },
              chanUpd c (s.leafHome (c * 1024 + g.leaf)) fun k => { k with grants := k.grants ++ [{ g with rnd := (s.hub c).nextRnd }] },
              fincSat (sb c (s.leafHome (c * 1024 + g.leaf))) SCB.GRANT_CNT_COUNT 1,
              fincSat (sb c (s.leafHome (c * 1024 + g.leaf))) SCB.SLOT_CNT_COUNT g.len])) ∧
  (∀ (s : State) (c r : Nat) (g : Grant),
     s.grantBad c { g with rnd := (s.hub c).nextRnd } = some r →
     s.did (grantSubmit c g) = s.did (grantRefuse c r)) ∧
  (∀ (s : State) (src : Requester) (v : Word) (t : State),
     s.windowServes src ⟨.hub, 0⟩ → t = s.select ⟨.hub, 0⟩ 3 0 →
     exec (.dmapSubmit src v) s = .next ((t.did (seqs [
              dmapSubmit src.id (bitsGet (t.tab (tabKey hb 3 0 0)) 11 2) (bitsGet (t.tab (tabKey hb 3 0 0)) 0 11)
                (bitsGet (t.tab (tabKey hb 3 0 0)) 13 6) (bitsGet (t.tab (tabKey hb 3 0 1)) 0 16) (bitsGet v 0 17),
              pageEval ⟨.hub, 0⟩])).winDone ⟨.hub, 0⟩ 2)) ∧
  (∀ (s : State) (src c leaf group first count : Nat),
     ((s.hub c).dmaps.any fun e => e.rnd == (s.hub c).nextRnd && e.group == group && meets e.first e.count first
     count) = false →
     s.did (dmapSubmit src c leaf group first count) = s.did (seqs [
              hubUpd c fun h => { h with dmaps := h.dmaps ++ [⟨(s.hub c).nextRnd, leaf, group, first, count⟩] },
              chanUpd c group fun k => { k with dmaps := k.dmaps ++ [⟨(s.hub c).nextRnd, leaf, group, first, count⟩] }])) ∧
  (∀ (s : State) (src c leaf group first count : Nat),
     ((s.hub c).dmaps.any fun e => e.rnd == (s.hub c).nextRnd && e.group == group && meets e.first e.count first
     count) = true →
     s.did (dmapSubmit src c leaf group first count) = s.did (errPage hb (oWIN_DATA 2) src cDMAP_OVERLAP)) ∧
  (∀ (s : State) (c : Fin 4) (sc : Fin 64) (start t : Nat) (o : Stored),
     s.phase = .run → (s.timed c).find? (fun q => q.1.g.sc == sc.val && q.1.g.start == start) = some (o, t) → o.hit =
     true → o.figs = none →
     exec (.grantEnd c sc start) s = .next ((s.did (seqs [clockTo ((t + o.g.len * 256 + 3) / 4),
              hubUpd c fun h => { h with store := h.store.filter fun q => q != o },
              leafqPut (c * 1024 + o.g.leaf) 0 fun v => bitsPut v 1 1 0, leafqCount (c * 1024 + o.g.leaf) 3 1])).carDone c)) ∧
  (∀ (s : State) (c : Fin 4),
     s.phase = .run →
     exec (.discoveryWindow c) s = .next ((s.did (discOpen c)).carDone c)) ∧
  (∀ (s : State) (c : Fin 4) (w : DiscWin) (u : Nat),
     s.phase = .run → (s.hub c).disc = some w → s.upAt c w.last = some u →
     exec (.discDone c) s = .next ((s.did (seqs [clockTo ((u + 3) / 4 + s.roundLen c * 16384),
              hubUpd c fun h => { h with disc := none }, raise hb 6])).carDone c)) ∧
  (∀ (s : State) (src : Requester) (n : Fin 4096) (v : Word) (t : State),
     s.windowServes src ⟨.hub, 0⟩ → t = s.select ⟨.hub, 0⟩ 0 n.val → t.leafSt n = nFREE →
     exec (.leafProvision src n v) s = .next ((t.did (seqs [leafField n 0 3 1 1, leafTo n nWAIT,
              pageEval ⟨.hub, 0⟩])).winDone ⟨.hub, 0⟩ 0)) ∧
  (∀ (s : State) (src i w : Nat) (v : Word),
     s.leafSt i ≠ nFREE →
     s.did (leafTab src i w v) = s.did (errPage hb (oWIN_DATA w) src cLEAF_BUSY)) ∧
  (∀ (s : State) (src : Requester) (v : Word),
     s.serves src ⟨.hub, 0⟩ → s.leafSt (wrote v HUB.LEAF_CMD_LEAF) ≠ nFREE →
     exec (.leafCmdRemove src v) s = .next ((s.did (seqs [leafTo (wrote v HUB.LEAF_CMD_LEAF) nFREE,
              msgDue (wrote v HUB.LEAF_CMD_LEAF / 1024) (.dereg (wrote v HUB.LEAF_CMD_LEAF % 1024) 1) 3])).pageDone ⟨.hub, 0⟩)) ∧
  (∀ (s : State) (src : Nat) (v : Word),
     s.leafSt (wrote v HUB.LEAF_CMD_LEAF) = nFREE →
     s.did (leafCmd src v) = s.did (errPage hb HUB.LEAF_CMD src cLEAF_FREE)) ∧
  (∀ (s : State) (n : Fin 4096),
     s.phase = .run → s.leafSt n = nACTIVE → s.burstLoss n = true → s.running (tLeafLoss n) = true →
     exec (.leafLost n) s = .next (s.did (seqs [
              clockEnd (tLeafLoss n) (s.fg hb (HUB.RANGE_CFG_LOST_TIME (n / 1024)) * 1000000), leafTo n nLOST, raise hb 1])).settled) ∧
  (∀ (s : State) (n : Fin 4096),
     s.phase = .run → s.leafSt n = nLOST → s.running (tLeafDrop n) = true →
     exec (.leafDropTimeout n) s = .next (s.did (seqs [
              clockEnd (tLeafDrop n) (s.fg hb (HUB.RANGE_CFG_DROP_TIME (n / 1024)) * 100000000), leafTo n nWAIT,
              msgDue (n / 1024) (.dereg (n % 1024) 2) 1, raise hb 2])).settled) ∧
  (∀ (s : State) (c : Fin 4) (sc : Fin 64) (d : ScGroup × Nat) (q : Nat × Nat),
     s.phase = .run → (s.hub c).drains.find? (fun d => d.1.low == sc.val) = some d → (s.hub c).starts.find? (fun q =>
     q.1 == d.2) = some q →
     exec (.drained c sc) s = .next ((s.did (seqs [
              clockTo (q.2 + (s.fg hb (HUB.CAR_TEQ_TEQ c) + 3) / 4 + 2 ^ s.fg hb (HUB.CAR_CFG_RLEN c) * 16384),
              hubUpd c fun h => { h with
                drains := h.drains.filter fun e => e.1.low != sc.val, store := h.store.filter fun g => g.home != sc.val || decide (d.2 < g.g.rnd) },
              fbset (sb c sc) SCB.SC_STAT_DRAINING false, raise (sb c sc) 1])).carDone c)) ∧
  (∀ (s : State) (c : Fin 4) (m : BitVec 115),
     s.phase = .run → at115 m 0 4 = 10 → s.isHub c = true → (s.hub c).on = true → at115 m 4 11 < 1024 → s.leafSt (c *
     1024 + at115 m 4 11) ≠ nFREE →
     exec (.reportMsg c m) s =
            .next ((s.did (leafUpd (c * 1024 + at115 m 4 11) fun r => { r with backlog := at115 m 15 24 })).carDone c)) ∧
  (∀ (s : State) (c : Fin 4) (start : Nat) (m : BitVec 115) (w : DiscWin) (u : Nat),
     s.phase = .run → at115 m 0 4 = 11 → (s.hub c).disc = some w → s.upAt c w.first = some u → ((List.range 1024).map
     fun k => c.val * 1024 + k).filter (fun i => s.leafSt i != nFREE && s.leafSerial i == at115 m 4 48) = [] →
     exec (.helloMsg c start m) s = .next ((s.did (seqs [
              rset (hb + HUB.UNK_SER_LO) (BitVec.ofNat 32 (at115 m 4 48)), fset hb HUB.UNK_SER_HI_SER (at115 m 4 48 / 2 ^ 32),
              fset hb HUB.UNK_SER_HI_CAR c, raise hb 3])).carDone c))

/-- Of a carrier that is a leaf. ROUND sets the round, RLEN and TEQ and what was assigned for it. A GRANT or DMAP entry
for this leaf and the next round is kept; a grant of another round is counted. DISCOVER passes a window over while
backing off. ASSIGN with this module's serial sets number, home and EqD and is RANGING from DISCOVER; RANGE sets EqD
and with FINAL is ACTIVE; DEREG is DISCOVER or REMOVED. LISTEN ends in DISCOVER; a lost home is HOLD; HOLD_MAX passed
is LISTEN. A burst that the state allows is sent at its start with the gate open, one not allowed is dropped; at its
end the gate falls. A SUIT_A is kept, a SUIT_B completes a record. A message of another type than the command's
changes nothing. -/
def Obligations.LeavesFollowTheHub : Prop :=
  (∀ (s : State) (c : Fin 4) (sc : Fin 64) (m : BitVec 115),
     s.phase = .run → at115 m 0 4 = 1 →
     exec (.roundMsg c sc m) s = .next ((s.did (seqs [roundMsg c (at115 m 4 32) (at115 m 36 3) (at115 m 39 24),
              roundDeals c])).carDone c)) ∧
  (∀ (s : State) (c : Fin 4) (sc : Fin 64) (m : BitVec 115),
     s.phase = .run → at115 m 0 4 ≠ 1 →
     exec (.roundMsg c sc m) s = .next (s.carDone c)) ∧
  (∀ (s : State) (c : Fin 4) (sc : Fin 64) (m : BitVec 115) (g : Grant),
     s.phase = .run → at115 m 0 4 = 2 → grantAt m 12 = some g → grantAt m 63 = none → s.isLeaf c = true → s.ownLeaf c
     = some g.leaf → (s.hub c).lfNext.any (fun k => k % 256 = at115 m 4 8) = true →
     exec (.grantMsg c sc m) s = .next ((s.did (hubUpd c fun h => { h with
              lfBursts := h.lfBursts ++ [{ g := { g with rnd := ((s.hub c).lfNext).getD 0 } }] })).carDone c)) ∧
  (∀ (s : State) (c rnd8 : Nat) (g : Grant),
     s.isLeaf c = true → s.ownLeaf c = some g.leaf → (s.hub c).lfNext.any (fun k => k % 256 = rnd8) = false →
     s.did (grantMsg c rnd8 g) = s.did (fincSat hb (HUB.LEAF_CNT_RND_MISS c) 1)) ∧
  (∀ (s : State) (c : Fin 4) (sc : Fin 64) (m : BitVec 115) (k : Nat),
     s.phase = .run → at115 m 0 4 = 3 → at115 m 12 11 ≠ 0x7FF → at115 m 56 11 = 0x7FF → s.isLeaf c = true → s.ownLeaf
     c = some (at115 m 12 11) → (s.hub c).lfNext = some k → k % 256 = at115 m 4 8 →
     exec (.dmapMsg c sc m) s = .next ((s.did (hubUpd c fun h => { h with
              lfDmaps := h.lfDmaps ++ [⟨k, at115 m 12 11, sc, at115 m 23 16, at115 m 39 17⟩] })).carDone c)) ∧
  (∀ (s : State) (c : Fin 4) (sc : Fin 64) (m : BitVec 115) (k : Nat),
     s.phase = .run → at115 m 0 4 = 4 → s.isLeaf c = true → s.leafFn c = kDISCOVER → (s.hub c).lfNext = some k → k %
     256 = at115 m 4 8 → (s.hub c).lfBackoff ≠ 0 →
     exec (.discoverMsg c sc m) s = .next ((s.did (hubUpd c fun h => { h with lfBackoff := h.lfBackoff - 1 })).carDone c)) ∧
  (∀ (s : State) (c : Fin 4) (sc : Fin 64) (m : BitVec 115),
     s.phase = .run → at115 m 0 4 = 5 → s.isLeaf c = true → s.leafFn c = kDISCOVER → at115 m 4 48 =
     Config.serial.toNat →
     exec (.assignMsg c sc m) s = .next ((s.did (seqs [hubUpd c fun h => { h with
              lfHas := true, lfNew := some (at115 m 52 11, at115 m 63 6, at115 m 69 24) }, leafFnTo c kRANGING])).carDone c)) ∧
  (∀ (s : State) (c : Fin 4) (sc : Fin 64) (m : BitVec 115),
     s.phase = .run → at115 m 0 4 = 6 → s.isLeaf c = true → s.leafFn c = kRANGING → s.ownLeaf c = some (at115 m 4 11)
     → (s.hub c).lfNew = none → at115 m 39 1 = 1 →
     exec (.rangeMsg c sc m) s = .next ((s.did (seqs [hubUpd c fun h => { h with
              lfNew := some (at115 m 4 11, s.fg hb (HUB.LEAF_STAT_HOME c), at115 m 15 24) }, leafFnTo c kACTIVE])).carDone c)) ∧
  (∀ (s : State) (c : Fin 4) (sc : Fin 64) (m : BitVec 115),
     s.phase = .run → at115 m 0 4 = 7 → at115 m 15 4 = 2 → s.isLeaf c = true → (s.leafFn c = kRANGING ∨ s.leafFn c =
     kACTIVE ∨ s.leafFn c = kHOLD) → s.ownLeaf c = some (at115 m 4 11) →
     exec (.deregMsg c sc m) s = .next ((s.did (seqs [leafForget c, leafFnTo c kDISCOVER])).carDone c)) ∧
  (∀ (s : State) (c : Fin 4) (sc : Fin 64) (m : BitVec 115),
     s.phase = .run → at115 m 0 4 = 7 → at115 m 15 4 = 1 → s.isLeaf c = true → (s.leafFn c = kDISCOVER ∨ s.leafFn c =
     kRANGING ∨ s.leafFn c = kACTIVE ∨ s.leafFn c = kHOLD) → s.ownLeaf c = some (at115 m 4 11) →
     exec (.deregMsg c sc m) s = .next ((s.did (leafFnTo c kREMOVED)).carDone c)) ∧
  (∀ (s : State) (c : Fin 4) (sc : Fin 64) (m : BitVec 115),
     s.phase = .run → at115 m 0 4 = 8 →
     exec (.suitAMsg c sc m) s = .next ((s.did (hubUpd c fun h => { h with
              suitA := (sc.val, (s.fr (sb c sc)).num / s.mfFrames ⟨c, some sc.val⟩, BitVec.ofNat 64 (at115 m 4 64),
                BitVec.ofNat 64 (at115 m 68 19 * 2 ^ 45)) :: h.suitA.filter fun q => q.1 != sc.val })).carDone c)) ∧
  (∀ (s : State) (c : Fin 4) (sc : Fin 64) (m : BitVec 115),
     s.phase = .run → at115 m 0 4 = 9 →
     exec (.suitBMsg c sc m) s = .next ((s.did (suitBMsg c sc m)).carDone c)) ∧
  (∀ (s : State) (c : Fin 4),
     s.phase = .run → s.isLeaf c = true → s.leafFn c = kLISTEN → (s.hub c).lfRound.isSome = true → s.fb (ob c)
     OPT.LASER_STAT_FOLLOW_OK = true → ((s.hub c).groups.any fun g => g.role == 2 && s.frSt ⟨c, some g.low⟩ == fIF &&
     (s.fr (sb c g.low)).mfLock) = true →
     exec (.leafListenDone c) s = .next ((s.did (leafFnTo c kDISCOVER)).carDone c)) ∧
  (∀ (s : State) (c : Fin 4),
     s.phase = .run →
     exec (.leafBackoff c) s = .next ((s.did (leafBackoff c)).carDone c)) ∧
  (∀ (s : State) (c : Fin 4),
     s.phase = .run → s.isLeaf c = true → (s.leafFn c = kRANGING ∨ s.leafFn c = kACTIVE) → s.leafCause c = true →
     exec (.leafHoldEntry c) s =
            .next ((s.did (seqs [hubUpd c fun h => { h with lfHeld := s.leafFn c }, leafFnTo c kHOLD])).carDone c)) ∧
  (∀ (s : State) (c : Fin 4),
     s.phase = .run → s.isLeaf c = true → s.leafFn c = kHOLD → s.running (tLeafHold c) = true →
     exec (.leafHoldTimeout c) s = .next ((s.did (seqs [
              clockEnd (tLeafHold c) (s.fg hb (HUB.LEAF_CFG_HOLD_MAX c) * 1000000), leafFnTo c kLISTEN])).carDone c)) ∧
  (∀ (s : State) (c : Fin 4) (backlog : Nat) (b : LeafBurst) (a : Nat),
     s.phase = .run → s.isLeaf c = true → s.leafFn c = kACTIVE → firstBurst (fun b => b.at') ((s.hub
     c).lfBursts.filter fun b => !b.sent) = some (b, a) → b.hello = none → b.g.rng = false →
     exec (.leafGrantStart c backlog) s = .next ((s.did (seqs [clockTo ((a + 3) / 4),
              hubUpd c fun h => { h with lfBursts := h.lfBursts.map fun q => if q = b then { q with sent := true } else q },
              fun t => [.opts c { t.opt c with gate := true }],
              emit (.burst c b.g.sc b.g.bond b.g.format b.g.len (burstUnits b.g.len b.g.bond b.g.format)
                (HubMsg.report b.g.leaf (min backlog (2 ^ 24 - 1))).word)])).carDone c)) ∧
  (∀ (s : State) (c : Fin 4) (b : LeafBurst) (a : Nat),
     s.phase = .run → firstBurst (fun b => b.at'.map fun a => a + b.g.len * 256) ((s.hub c).lfBursts.filter fun b =>
     b.sent) = some (b, a) → (((s.hub c).lfBursts.filter fun q => q != b).any (·.sent)) = false →
     exec (.leafGrantEnd c) s = .next ((s.did (seqs [clockTo ((a + 3) / 4),
              hubUpd c fun h => { h with lfBursts := (s.hub c).lfBursts.filter fun q => q != b },
              fun t => [.opts c { t.opt c with gate := false }]])).carDone c))

/-- The 115-bit content of each hub message type carries its type in bits 0 to 3, and each of its fields, at every value
that the field's width admits, reads back at its place: ROUND, ASSIGN, RANGE, DEREG, REPORT, DISCOVER and HELLO field
by field; a GRANT message of one or two grants gives back the grants themselves with the round's low 8 bits, and a
single grant leaves the second grant field empty; a DMAP message gives back the leaf, first frame and count of its
entries. -/
def Obligations.HubMessagesSpellTheirFields : Prop :=
  ((∀ rnd rlen teq : Nat, rnd < 2 ^ 32 → rlen < 2 ^ 3 → teq < 2 ^ 24 →
     at115 (HubMsg.round rnd rlen teq).word 0 4 = 1 ∧ at115 (HubMsg.round rnd rlen teq).word 4 32 = rnd ∧
     at115 (HubMsg.round rnd rlen teq).word 36 3 = rlen ∧ at115 (HubMsg.round rnd rlen teq).word 39 24 = teq)) ∧
  ((∀ (rnd : Nat) (g h : Grant), g.leaf < 0x7FF → g.sc < 64 → g.bond < 4 → g.format < 4 → g.start < 2 ^ 14 →
     g.len < 2 ^ 14 → h.leaf < 0x7FF → h.sc < 64 → h.bond < 4 → h.format < 4 → h.start < 2 ^ 14 → h.len < 2 ^ 14 →
     at115 (HubMsg.grant rnd [g, h]).word 0 4 = 2 ∧ at115 (HubMsg.grant rnd [g, h]).word 4 8 = rnd % 256 ∧
     grantAt (HubMsg.grant rnd [g, h]).word 12 = some { g with rnd := 0 } ∧
     grantAt (HubMsg.grant rnd [g, h]).word 63 = some { h with rnd := 0 } ∧
     grantAt (HubMsg.grant rnd [g]).word 12 = some { g with rnd := 0 } ∧
     grantAt (HubMsg.grant rnd [g]).word 63 = none)) ∧
  ((∀ (rnd : Nat) (d e : Dmap), d.leaf < 0x7FF → d.first < 2 ^ 16 → d.count < 2 ^ 17 → e.leaf < 0x7FF →
     e.first < 2 ^ 16 → e.count < 2 ^ 17 →
     at115 (HubMsg.dmap rnd [d, e]).word 0 4 = 3 ∧ at115 (HubMsg.dmap rnd [d, e]).word 4 8 = rnd % 256 ∧
     at115 (HubMsg.dmap rnd [d, e]).word 12 11 = d.leaf ∧ at115 (HubMsg.dmap rnd [d, e]).word 23 16 = d.first ∧
     at115 (HubMsg.dmap rnd [d, e]).word 39 17 = d.count ∧ at115 (HubMsg.dmap rnd [d, e]).word 56 11 = e.leaf ∧
     at115 (HubMsg.dmap rnd [d, e]).word 67 16 = e.first ∧ at115 (HubMsg.dmap rnd [d, e]).word 83 17 = e.count ∧
     at115 (HubMsg.dmap rnd [d]).word 56 11 = 0x7FF)) ∧
  ((∀ serial leaf home eqd reason backlog r bond fmt rnd n rtt rand sc : Nat, ∀ final : Bool,
     serial < 2 ^ 48 → leaf < 2 ^ 11 → home < 64 → eqd < 2 ^ 24 → reason < 16 → backlog < 2 ^ 24 → r < 2 ^ 10 →
     bond < 4 → fmt < 4 → n < 64 → rtt < 2 ^ 24 → rand < 2 ^ 10 → sc < 64 →
     at115 (HubMsg.discover rnd n rtt rand sc).word 0 4 = 4 ∧ at115 (HubMsg.discover rnd n rtt rand sc).word 4 8 = rnd % 256 ∧
     at115 (HubMsg.discover rnd n rtt rand sc).word 12 6 = n ∧ at115 (HubMsg.discover rnd n rtt rand sc).word 18 24 = rtt ∧
     at115 (HubMsg.discover rnd n rtt rand sc).word 42 10 = rand ∧ at115 (HubMsg.discover rnd n rtt rand sc).word 52 6 = sc ∧
     at115 (HubMsg.assign serial leaf home eqd).word 0 4 = 5 ∧ at115 (HubMsg.assign serial leaf home eqd).word 4 48 = serial ∧
     at115 (HubMsg.assign serial leaf home eqd).word 52 11 = leaf ∧ at115 (HubMsg.assign serial leaf home eqd).word 63 6 = home ∧
     at115 (HubMsg.assign serial leaf home eqd).word 69 24 = eqd ∧
     at115 (HubMsg.range leaf eqd final).word 0 4 = 6 ∧ at115 (HubMsg.range leaf eqd final).word 4 11 = leaf ∧
     at115 (HubMsg.range leaf eqd final).word 15 24 = eqd ∧ at115 (HubMsg.range leaf eqd final).word 39 1 = b2n final ∧
     at115 (HubMsg.dereg leaf reason).word 0 4 = 7 ∧ at115 (HubMsg.dereg leaf reason).word 4 11 = leaf ∧
     at115 (HubMsg.dereg leaf reason).word 15 4 = reason ∧
     at115 (HubMsg.report leaf backlog).word 0 4 = 10 ∧ at115 (HubMsg.report leaf backlog).word 4 11 = leaf ∧
     at115 (HubMsg.report leaf backlog).word 15 24 = backlog ∧
     at115 (HubMsg.hello serial r bond fmt).word 0 4 = 11 ∧ at115 (HubMsg.hello serial r bond fmt).word 4 48 = serial ∧
     at115 (HubMsg.hello serial r bond fmt).word 52 10 = r ∧ at115 (HubMsg.hello serial r bond fmt).word 62 2 = bond ∧
     at115 (HubMsg.hello serial r bond fmt).word 64 2 = fmt))

/-- A detection on free subcarriers of a shared group begins a reception: TRAIN with its width, gain, start and
correlation. T2 received sets the taps fitted, or the prior ones below TRAIN_MIN, and is SYNC. A sync word within
tolerance is RECEIVE with the burst located; beyond it nothing happens. No sync in time is counted and re-arms, with
an event above 100 in a second. A report that names no leaf or the one granted associates the burst with its grant;
one with neither position nor stray grant is unassociated, counted and dropped. An associated burst that closes is
counted, leaves its taps as prior ones and its figures, and re-arms. SAVE copies prior taps into anchors; SAVE and
SWAP_GO of a dedicated stream act on its banks. -/
def Obligations.BurstReceiversTrainAndReport : Prop :=
  (∀ (s : State) (c : Fin 4) (sc : Fin 64) (bond ago gain : Nat) (corr : Int) (g : ScGroup),
     s.phase = .run → (s.hub c).burstGroup sc = some g → bond < 3 → sc.val % 2 ^ bond = 0 → sc.val + 2 ^ bond ≤ g.low
     + g.size → s.brxOn c sc = true → (s.receptions c).filter (fun h => meets h (s.bwidth c h) sc (2 ^ bond)) = [] →
     exec (.burstDetection c sc bond ago gain corr) s =
            .next ((s.did (brxBegin c sc bond (4 * s.ticks - ago) gain corr)).carDone c)) ∧
  (∀ (s : State) (c sc bond start gain : Nat) (corr : Int),
     s.did (brxBegin c sc bond start gain corr) = s.did (seqs [fset (sb c sc) SCB.BRX_STAT_BSTATE 1,
              fset (sb c sc) SCB.BRX_STAT_WIDTH bond, fset (sb c sc) SCB.BRX_STAT_GAIN gain,
              brxUpd (sb c sc) fun r => { r with tick := s.ticks, start := start, corr := corr, taps := [], assoc := none }])) ∧
  (∀ (s : State) (c : Fin 4) (sc : Fin 64) (snr : Nat) (fit : List Word),
     s.phase = .run → s.bst c sc = bTRAIN →
     exec (.burstTrainingDone c sc snr fit) s = .next ((s.did (seqs [fset (sb c sc) SCB.BRX_STAT_BSTATE bSYNC,
              brxUpd (sb c sc) fun r => { r with
                taps := if snr < s.fg (s.brxPage c sc) SCB.BRX_TRK_TRAIN_MIN then (List.range 512).map fun e => s.tab (priorKey c sc e)
                  else binTaps fit }])).carDone c)) ∧
  (∀ (s : State) (c : Fin 4) (sc : Fin 64) (errs ago : Nat),
     s.phase = .run → s.bst c sc = bSYNC → errs ≤ s.fg (s.brxPage c sc) SCB.BRX_CFG_SYNC_TOL → s.positional c sc
     (s.fg (sb c sc) SCB.BRX_STAT_WIDTH) (4 * s.ticks - ago) = none →
     exec (.burstSync c sc errs ago) s = .next ((s.did (seqs [fset (sb c sc) SCB.BRX_STAT_BSTATE bRECEIVE,
              brxUpd (sb c sc) fun r => { r with start := 4 * s.ticks - ago, burst := true },
              forP (List.range (s.bwidth c sc - 1)) fun k => brxUpd (sb c (sc + k + 1)) fun r => { r with burst := true },
              hubUpd c fun h => { h with upBurst := true }])).carDone c)) ∧
  (∀ (s : State) (c : Fin 4) (sc : Fin 64) (errs ago : Nat),
     s.phase = .run → s.fg (s.brxPage c sc) SCB.BRX_CFG_SYNC_TOL < errs →
     exec (.burstSync c sc errs ago) s = .next (s.carDone c)) ∧
  (∀ (s : State) (c : Fin 4) (sc : Fin 64),
     s.phase = .run → (s.bst c sc = bTRAIN ∨ s.bst c sc = bSYNC) → 128 * s.rateW c (s.fg (sb c sc)
     SCB.BRX_STAT_WIDTH) + 320 ≤ s.rateW c (s.fg (sb c sc) SCB.BRX_STAT_WIDTH) * (4 * s.ticks - (s.brx (sb c
     sc)).start) → s.ticks < (s.brx (sb c sc)).falseTick + 1000000000 →
     exec (.falseDetection c sc) s = .next ((s.did (seqs [fincSat (sb c sc) SCB.FALSE_CNT_COUNT 1, brxIdle c sc,
              brxUpd (sb c sc) fun r => { r with falseN := (s.brx (sb c sc)).falseN + 1, falseTick := r.falseTick },
              if (s.brx (sb c sc)).falseN + 1 = 101 then raise (sb c sc) 11 else skip])).carDone c)) ∧
  (∀ (s : State) (c : Fin 4) (sc : Fin 64) (coded : List Bool) (q : Stored × Nat),
     s.phase = .run → s.bst c sc = bRECEIVE → (s.brx (sb c sc)).assoc = none → scField coded = none → s.inWindow c sc
     (s.fg (sb c sc) SCB.BRX_STAT_WIDTH) (s.brx (sb c sc)).start = false → s.positional c sc (s.fg (sb c sc)
     SCB.BRX_STAT_WIDTH) (s.brx (sb c sc)).start = some q →
     exec (.burstReport c sc coded) s = .next ((s.did (seqs [fset (sb c sc) SCB.BRX_STAT_LEAF q.1.g.leaf,
              brxUpd (sb c sc) fun r => { r with assoc := some q.1.g },
              hubUpd c fun h => { h with store := h.store.map fun o => if o = q.1 then { o with hit := true } else o },
              arrival (c * 1024 + q.1.g.leaf) q.1.g.rnd q.1.g.rng (((s.brx (sb c sc)).start : Int) - q.2) true])).carDone c)) ∧
  (∀ (s : State) (c : Fin 4) (sc : Fin 64) (coded : List Bool),
     s.phase = .run → s.bst c sc = bRECEIVE → (s.brx (sb c sc)).assoc = none → scField coded = none → s.inWindow c sc
     (s.fg (sb c sc) SCB.BRX_STAT_WIDTH) (s.brx (sb c sc)).start = false → s.positional c sc (s.fg (sb c sc)
     SCB.BRX_STAT_WIDTH) (s.brx (sb c sc)).start = none →
     exec (.burstReport c sc coded) s = .next ((s.did (seqs [fincSat (sb c sc) SCB.UNASSOC_CNT_COUNT 1,
              brxIdle c sc])).carDone c)) ∧
  (∀ (s : State) (c : Fin 4) (sc : Fin 64) (errs : Nat) (final : List Word) (f : BurstFigures) (g : Grant),
     s.phase = .run → s.bst c sc = bRECEIVE → (s.brx (sb c sc)).assoc = some g → ((s.hub c).store.any fun o => o.g ==
     g) = true → errs ≤ s.fg (s.brxPage c sc) SCB.BRX_CFG_SYNC_TOL →
     exec (.burstClose c sc errs final f) s = .next ((s.did (seqs [fincSat (sb c sc) SCB.BURST_CNT_COUNT 1,
              fun _ => (List.range 512).map fun e => .tabs (priorKey c sc e) ((binTaps final).getD e 0),
              cntWrap (feb c + FEC.CW_LO) f.cw, cntWrap (feb c + FEC.COR_LO) f.cor, cntWrap (feb c + FEC.UNC_LO) f.unc,
              cntWrap (feb c + FEC.ITMAX_LO) f.itmax, fincSat (feb c) FEC.OUTC_COUNT f.outer,
              hubUpd c fun h => { h with store := h.store.map fun o => if o.g = g then { o with figs := some f } else o },
              brxIdle c sc])).carDone c)) ∧
  (∀ (s : State) (src : Requester) (c : Fin 4) (sc : Fin 64) (v : Word),
     s.serves src ⟨.scb, c.val * 64 + sc.val⟩ →
     exec (.burstAnchorSave src c sc v) s = .next ((s.did fun _ => (List.range 512).map fun e =>
              .tabs (brxAnchorKey c sc e) (s.tab (priorKey c sc e))).pageDone ⟨.scb, c.val * 64 + sc.val⟩)) ∧
  (∀ (s : State) (src : Requester) (c : Fin 4) (sc : Fin 64) (v : Word),
     s.serves src ⟨.scb, c.val * 64 + sc.val⟩ → s.fb (sb c sc) SCB.STR_ANCHOR_STAT_FADING = true → wroteB v
     SCB.STR_ANCHOR_CTL_SWAP_GO = false →
     exec (.strAnchorSave src c sc v) s = .next ((s.did (seqs [
              swapUpd (sb c sc) fun q => { q with mode := some (wrote v SCB.STR_ANCHOR_CTL_LOAD_MODE) },
              anchorSave ⟨c, some sc.val⟩ src.id])).pageDone ⟨.scb, c.val * 64 + sc.val⟩)) ∧
  (∀ (s : State) (src : Requester) (c : Fin 4) (sc : Fin 64) (v : Word),
     s.serves src ⟨.scb, c.val * 64 + sc.val⟩ → s.fb (sb c sc) SCB.STR_ANCHOR_STAT_FADING = true → wroteB v
     SCB.STR_ANCHOR_CTL_SAVE = false →
     exec (.strSwapGo src c sc v) s = .next ((s.did (seqs [
              swapUpd (sb c sc) fun q => { q with mode := some (wrote v SCB.STR_ANCHOR_CTL_LOAD_MODE) },
              strSwapReq ⟨c, some sc.val⟩ src.id (wrote v SCB.STR_ANCHOR_CTL_SWAP_BANK)])).pageDone ⟨.scb, c.val * 64 + sc.val⟩))

/-- A free lock is taken by an agent that may write its own ID, freed by its holder, the buffer cleared; any other write
is refused. The holder's key words are buffered up to eight, its salt kept, and a commit of eight to a FREE or LOADED
slot loads it with key, salt and owner, unsent; a busy slot, a spent one and a short key are refused, the buffer
cleared in each case; who does not hold the lock is refused. ARM, DISARM and ERASE act on the slot named. An
association may change while its suit is off. A DRAINING slot is SPENT when its grace has passed. KAT_GO starts the
known-answer test; its end sets PASS, or FAIL with ENG_HALT, and raises KAT_DONE. A parity fault is counted, raised,
reported and starts the test. -/
def Obligations.KeysAreLoadedByTheirOwner : Prop :=
  (∀ (s : State) (src : Requester) (c : Fin 4) (v : Word),
     s.serves src ⟨.cip, c.val⟩ → s.fg (cb c) CIP.CIP_LOCK_ID = 0 → wrote v CIP.CIP_LOCK_ID = src.id → (src.id = 1 ∨
     src.id = 3 ∨ src.id = 4 ∨ src.id = 0x17) →
     exec (.cipLockWrite src c v) s =
            .next ((s.did (seqs [fset (cb c) CIP.CIP_LOCK_ID src.id, keyClear c])).pageDone ⟨.cip, c.val⟩)) ∧
  (∀ (s : State) (src c : Nat) (v : Word),
     s.fg (cb c) CIP.CIP_LOCK_ID = src → src ≠ 0 → wrote v CIP.CIP_LOCK_ID = 0 →
     s.did (cipLockWrite src c v) = s.did (seqs [fset (cb c) CIP.CIP_LOCK_ID 0, keyClear c])) ∧
  (∀ (s : State) (src c : Nat) (v : Word),
     s.fg (cb c) CIP.CIP_LOCK_ID ≠ 0 → s.fg (cb c) CIP.CIP_LOCK_ID ≠ src →
     s.did (cipLockWrite src c v) = s.did (keyRefuse c CIP.CIP_LOCK src cKEY_NOT_OWNER none)) ∧
  (∀ (s : State) (src : Requester) (c : Fin 4) (v : Word),
     s.serves src ⟨.cip, c.val⟩ → s.keyHolder c src.id = true → (s.cip c).words.length < 8 →
     exec (.keyDataWrite src c v) s =
            .next ((s.did (cipUpd c fun r => { r with words := r.words ++ [v] })).pageDone ⟨.cip, c.val⟩)) ∧
  (∀ (s : State) (src c : Nat) (v : Word),
     s.keyHolder c src = true → 8 ≤ (s.cip c).words.length →
     s.did (keyDataWrite src c v) = s.did (keyRefuse c CIP.KEY_DATA src cKEY_LONG none)) ∧
  (∀ (s : State) (src c : Nat) (v : Word),
     s.keyHolder c src = false →
     s.did (keyDataWrite src c v) = s.did (keyRefuse c CIP.KEY_DATA src cKEY_NOT_OWNER none) ∧
            s.did (keySaltWrite src c v) = s.did (keyRefuse c CIP.KEY_SALT src cKEY_NOT_OWNER none) ∧
            s.did (keyCommit src c v) = s.did (keyRefuse c CIP.KEY_COMMIT src cKEY_NOT_OWNER (some (wrote v CIP.KEY_COMMIT_SLOT))) ∧
            s.did (keyCmdWrite src c v) = s.did (keyRefuse c CIP.KEY_CMD src cKEY_NOT_OWNER (some (wrote v CIP.KEY_CMD_SLOT)))) ∧
  (∀ (s : State) (src : Requester) (c : Fin 4) (v : Word),
     s.serves src ⟨.cip, c.val⟩ → s.keyHolder c src.id = true →
     exec (.keySaltWrite src c v) s = .next ((s.did (cipUpd c fun r => { r with salt := v })).pageDone ⟨.cip, c.val⟩)) ∧
  (∀ (s : State) (src : Requester) (c : Fin 4) (v : Word),
     s.serves src ⟨.cip, c.val⟩ → s.keyHolder c src.id = true → (s.slotSt c (wrote v CIP.KEY_COMMIT_SLOT) = tFREE ∨
     s.slotSt c (wrote v CIP.KEY_COMMIT_SLOT) = tLOADED) → 8 ≤ (s.cip c).words.length →
     exec (.keyCommit src c v) s = .next ((s.did (seqs [keyClear c,
              slotUpd c (wrote v CIP.KEY_COMMIT_SLOT) fun q => { q with
                st := tLOADED, key := keyOf (s.cip c).words, salt := (s.cip c).salt, owner := src.id, seen := none, uctr := 0, left := none }])).pageDone ⟨.cip, c.val⟩)) ∧
  (∀ (s : State) (src c : Nat) (v : Word),
     s.keyHolder c src = true → (s.slotSt c (wrote v CIP.KEY_COMMIT_SLOT) = tARMED ∨ s.slotSt c (wrote v
     CIP.KEY_COMMIT_SLOT) = tACTIVE ∨ s.slotSt c (wrote v CIP.KEY_COMMIT_SLOT) = tDRAINING) →
     s.did (keyCommit src c v) = s.did (seqs [keyClear c,
              keyRefuse c CIP.KEY_COMMIT src cSLOT_BUSY (some (wrote v CIP.KEY_COMMIT_SLOT)), raise (cb c) 11])) ∧
  (∀ (s : State) (src c : Nat) (v : Word),
     s.keyHolder c src = true → (s.slotSt c (wrote v CIP.KEY_COMMIT_SLOT) = tFREE ∨ s.slotSt c (wrote v
     CIP.KEY_COMMIT_SLOT) = tLOADED) → (s.cip c).words.length < 8 →
     s.did (keyCommit src c v) = s.did (seqs [keyClear c,
              keyRefuse c CIP.KEY_COMMIT src cKEY_SHORT (some (wrote v CIP.KEY_COMMIT_SLOT))])) ∧
  (∀ (s : State) (src c : Nat) (v : Word),
     s.keyHolder c src = true → s.slotSt c (wrote v CIP.KEY_COMMIT_SLOT) = tSPENT →
     s.did (keyCommit src c v) = s.did (seqs [keyClear c,
              keyRefuse c CIP.KEY_COMMIT src cBAD_STATE (some (wrote v CIP.KEY_COMMIT_SLOT))])) ∧
  (∀ (s : State) (src : Requester) (c : Fin 4) (v : Word),
     s.serves src ⟨.cip, c.val⟩ → s.keyHolder c src.id = true →
     exec (.keyArm src c v) s = .next ((s.did (keyArm src.id c (wrote v CIP.KEY_CMD_SLOT))).pageDone ⟨.cip, c.val⟩)) ∧
  (∀ (s : State) (src : Requester) (c : Fin 4) (v : Word),
     s.serves src ⟨.cip, c.val⟩ → s.keyHolder c src.id = true →
     exec (.keyDisarm src c v) s = .next ((s.did (keyDisarm src.id c (wrote v CIP.KEY_CMD_SLOT))).pageDone ⟨.cip, c.val⟩)) ∧
  (∀ (s : State) (src : Requester) (c : Fin 4) (v : Word),
     s.serves src ⟨.cip, c.val⟩ → s.keyHolder c src.id = true →
     exec (.keyErase src c v) s = .next ((s.did (keyErase src.id c (wrote v CIP.KEY_CMD_SLOT))).pageDone ⟨.cip, c.val⟩)) ∧
  (∀ (s : State) (src : Requester) (c : Fin 4) (a : Fin 256) (v : Word) (t : State),
     s.windowServes src ⟨.cip, c.val⟩ → t = s.select ⟨.cip, c.val⟩ 0 a.val → t.assocEn c a ≠ v.getLsbD 0 → t.assocBad
     c a (v.getLsbD 0) = none → (t.pairIds.any fun p => t.pairB p == a.val) = false →
     exec (.assocWrite src c a v) s = .next ((t.did (assocSet c a v (v.getLsbD 0))).winDone ⟨.cip, c.val⟩ 0)) ∧
  (∀ (s : State) (src c e code : Nat) (v : Word),
     v.getLsbD 0 ≠ s.assocEn c e → s.assocBad c e (v.getLsbD 0) = some code →
     s.did (cipTab src c 0 e v) = s.did (errPage (cb c) (oWIN_DATA 0) src code)) ∧
  (∀ (s : State) (c : Fin 4) (n : Fin 512) (t : Nat),
     s.phase = .run → (s.slotAt c n).left = some t → s.slotSt c n = tDRAINING →
     exec (.rxGraceExpiry c n) s = .next ((s.did (seqs [clockTo (t + s.fg (cb c) CIP.RX_GRACE_MS * 1000000),
              slotUpd c n fun r => { r with st := tSPENT }])).carDone c)) ∧
  (∀ (s : State) (src : Requester) (c : Fin 4) (v : Word),
     s.serves src ⟨.cip, c.val⟩ →
     exec (.katGo src c v) s = .next ((s.did (seqs [
              fset (cb c) CIP.CIP_CTL_ENG_EN (wrote v CIP.CIP_CTL_ENG_EN),
              fbset (cb c) CIP.CIP_STAT_KAT_RUN true])).pageDone ⟨.cip, c.val⟩)) ∧
  (∀ (s : State) (c : Fin 4) (pass : Bool),
     s.phase = .run → s.fb (cb c) CIP.CIP_STAT_KAT_RUN = true → s.waitingTest 3 (fun e => e.page == cb c) = none →
     exec (.katDone c pass) s = .next ((s.did (seqs [fbset (cb c) CIP.CIP_STAT_KAT_RUN false,
              fbset (cb c) CIP.CIP_STAT_KAT_PASS pass, fbset (cb c) CIP.CIP_STAT_KAT_FAIL !pass,
              fbset (cb c) CIP.CIP_STAT_ENG_HALT !pass, raise (cb c) 10])).carDone c)) ∧
  (∀ (s : State) (c : Fin 4) (a : Fin 256),
     s.phase = .run → s.unitsRun c a = true →
     exec (.cipParity c a true) s = .next ((s.did (seqs [voidUnit c a, fincSat (cb c) CIP.PAR_CNT_COUNT 1,
              raise (cb c) 9, report eCIP_PARITY (pageIsland ⟨.cip, c⟩) (cb c),
              fbset (cb c) CIP.CIP_STAT_KAT_RUN true])).carDone c)) ∧
  (∀ (s : State) (c : Fin 4) (a : Fin 256),
     s.phase = .run → s.unitsRun c a = true →
     exec (.cipParity c a false) s = .next ((s.did (seqs [assocUpd c a fun r => { r with kitty := none },
              unitLost c a, fincSat (cb c) CIP.PAR_CNT_COUNT 1,
              raise (cb c) 9, report eCIP_PARITY (pageIsland ⟨.cip, c⟩) (cb c),
              fbset (cb c) CIP.CIP_STAT_KAT_RUN true])).carDone c))

/-- A unit of 16,384 bytes sent by an association that runs is sealed under its slot's key with the slot's counter, which
goes on by one; at 2^47 a warning is raised. One whose slot holds no key in use, or while the engine is halted, is
void. Of a received unit: one that falls in an errored frame is lost and delineation starts anew; one that does not
fit its header ends delineation; one of another association is a miss if delineated; one of its own direction or whose
slot is not in use is a miss; else it is opened into the kitty. The kitty is emptied by its verification: a bad tag
and a replay are counted and filled with error, a good one is delivered and the highest counter kept. -/
def Obligations.UnitsAreSealedAndVerified : Prop :=
  (∀ (s : State) (c : Fin 4) (a : Fin 256) (plain : List Byte) (n : Nat),
     s.phase = .run → s.unitsRun c a = true → plain.length = 16384 → n = 2 * a + (s.assocAt c a).txKi → (s.assocAt c
     a).txHalt = false → s.fb (cb c) CIP.CIP_STAT_ENG_HALT = false → ((s.slotAt c n).st = tACTIVE ∨ (s.slotAt c n).st
     = tDRAINING) → (s.slotAt c n).uctr + 1 < 2 ^ 47 →
     exec (.unitTransmit c a true plain) s = .next ((s.did (seqs [assocUpd c a fun r => { r with txOld := none },
              emit (.unit c a (unitHeader 1 (s.assocAt c a).txKi (s.assocDir c a) a (s.slotAt c n).uctr)
                (gcmSeal (s.slotAt c n).key (unitIv (s.slotAt c n).salt (s.assocDir c a) (s.slotAt c n).uctr)
                  (unitAad (unitHeader 1 (s.assocAt c a).txKi (s.assocDir c a) a (s.slotAt c n).uctr)) plain).1
                (gcmSeal (s.slotAt c n).key (unitIv (s.slotAt c n).salt (s.assocDir c a) (s.slotAt c n).uctr)
                  (unitAad (unitHeader 1 (s.assocAt c a).txKi (s.assocDir c a) a (s.slotAt c n).uctr)) plain).2),
              slotUpd c n fun q => { q with uctr := q.uctr + 1 }])).carDone c)) ∧
  (∀ (s : State) (c : Fin 4) (a : Fin 256) (plain : List Byte),
     s.phase = .run → s.unitsRun c a = true → plain.length = 16384 → (s.assocAt c a).txHalt = true →
     exec (.unitTransmit c a true plain) s = .next ((s.did (seqs [assocUpd c a fun r => { r with txOld := none },
              voidUnit c a])).carDone c)) ∧
  (∀ (s : State) (c : Fin 4) (a : Fin 256) (header tag : BitVec 128) (cipher : List Byte),
     s.phase = .run → s.unitsRun c a = true →
     exec (.unitReceived c a true header cipher tag) s = .next ((s.did (seqs [
              assocUpd c a fun r => { r with rxSync := false }, unitLost c a])).carDone c)) ∧
  (∀ (s : State) (c : Fin 4) (a : Fin 256) (header tag : BitVec 128) (cipher : List Byte),
     s.phase = .run → s.unitsRun c a = true → hdrFits header = false →
     exec (.unitReceived c a false header cipher tag) s =
            .next ((s.did (assocUpd c a fun r => { r with rxSync := false })).carDone c)) ∧
  (∀ (s : State) (c : Fin 4) (a : Fin 256) (h tag : BitVec 128) (cipher : List Byte) (n : Nat),
     s.phase = .run → s.unitsRun c a = true → hdrFits h = true → hdrAssoc h = a.val → hdrVer h ≠ 15 → hdrDir h ≠
     s.assocDir c a → n = 2 * a + hdrKi h → (s.slotAt c n).st = tACTIVE →
     exec (.unitReceived c a false h cipher tag) s = .next ((s.did (seqs [
              assocUpd c a fun r => { r with rxSync := true },
              assocUpd c a fun r => { r with kitty := some ⟨hdrKi h, false, hdrUctr h,
                (gcmOpen (s.slotAt c n).key (unitIv (s.slotAt c n).salt (hdrDir h) (hdrUctr h)) (unitAad h) cipher).1,
                (gcmOpen (s.slotAt c n).key (unitIv (s.slotAt c n).salt (hdrDir h) (hdrUctr h)) (unitAad h) cipher).2 == tag⟩ }])).carDone c)) ∧
  (∀ (s : State) (c : Fin 4) (a : Fin 256) (h tag : BitVec 128) (cipher : List Byte),
     s.phase = .run → s.unitsRun c a = true → hdrFits h = true → hdrAssoc h = a.val → hdrVer h ≠ 15 → (s.slotAt c (2
     * a + hdrKi h)).st = tFREE →
     exec (.unitReceived c a false h cipher tag) s = .next ((s.did (seqs [
              assocUpd c a fun r => { r with rxSync := true }, unitMiss c a])).carDone c)) ∧
  (∀ (s : State) (c : Fin 4) (a : Fin 256) (k : Kitty),
     s.phase = .run → (s.assocAt c a).kitty = some k → k.tagOk = true → (s.slotAt c (2 * a + k.ki)).seen = none →
     s.fb (cb c) CIP.CIP_STAT_ENG_HALT = false →
     exec (.unitVerify c a) s = .next ((s.did (seqs [assocUpd c a fun r => { r with kitty := none },
              slotUpd c (2 * a + k.ki) fun q => { q with seen := some k.uctr },
              assocUpd c a fun r => { r with units := satAdd 48 r.units 1, early := satAdd 32 r.early (b2n k.early) },
              emit (.plain c a k.plain), suitFill a false])).carDone c)) ∧
  (∀ (s : State) (c : Fin 4) (a : Fin 256) (k : Kitty),
     s.phase = .run → (s.assocAt c a).kitty = some k → k.tagOk = false →
     exec (.unitVerify c a) s = .next ((s.did (seqs [assocUpd c a fun r => { r with kitty := none },
              assocUpd c a fun r => { r with
                tagFail := satAdd 32 r.tagFail 1, tagTicks := (s.ticks :: r.tagTicks).take 65536 },
              unitFill c a])).carDone c)) ∧
  (∀ (s : State) (c : Fin 4) (a : Fin 256) (k : Kitty) (u : Nat),
     s.phase = .run → (s.assocAt c a).kitty = some k → k.tagOk = true → (s.slotAt c (2 * a + k.ki)).seen = some u →
     k.uctr ≤ u →
     exec (.unitVerify c a) s = .next ((s.did (seqs [assocUpd c a fun r => { r with kitty := none },
              assocUpd c a fun r => { r with replay := satAdd 32 r.replay 1 }, unitFill c a])).carDone c))

/-- For every version 1 or 15, key index, direction, association below 256 and counter below 2^64, the 128-bit header
built from them fits (its mark, its version and its check), and its fields read back as written. -/
def Obligations.UnitHeadersReadBack : Prop :=
  (∀ ver ki dir a uctr : Nat, (ver = 1 ∨ ver = 15) → ki < 2 → dir < 2 → a < 256 → uctr < 2 ^ 64 →
    hdrFits (unitHeader ver ki dir a uctr) = true ∧ hdrVer (unitHeader ver ki dir a uctr) = ver ∧
    hdrKi (unitHeader ver ki dir a uctr) = ki ∧ hdrDir (unitHeader ver ki dir a uctr) = dir ∧
    hdrAssoc (unitHeader ver ki dir a uctr) = a ∧ hdrUctr (unitHeader ver ki dir a uctr) = uctr)

/-- Enabling a lane at a rate is counted with LANE_IN_PORT where it changes a lane of a port, with RATE_MIX where another
lane of its quad runs at another rate, else taken. Training that ends sets the taps and its bit with its event; not
ended in 500 ms it fails so. Losing CDR or PLL lock is counted or raised. Enabling a port is refused for its reason or
taken. A change of alignment sets the status, LINK_UP and its event on a change. A millisecond of FEC counts and sets
HI_SER and FEC_DEGRADED with events as they rise. Received faults set their bit. A calendar switch of an enabled group
goes to the other calendar with an event on each of its ports. A group entry written keeps CAL. A FlexO entry of a
size that does not fit is refused. A read of TS_POP answers the head stamp. -/
def Obligations.HostLanesAndPortsAnswer : Prop :=
  (∀ (s : State) (src : Requester) (l : Fin 48) (v : Word) (r : RegRow),
     s.serves src ⟨.hsl, l.val / 4⟩ → regRow ⟨.hsl, l.val / 4⟩ (HSL.LANE_CTL (l.val % 4)) = some r →
     exec (.laneEnable src l v) s = .next ((s.did (laneWrite src.id (l / 4) (l % 4) r
              (setF v (HSL.LANE_CTL_EN (l.val % 4)) 1))).pageDone ⟨.hsl, l.val / 4⟩)) ∧
  (∀ (s : State) (src q i : Nat) (r : RegRow) (v : Word),
     s.laneOwner (4 * q + i) = none → wroteB v (HSL.LANE_CTL_EN i) = true → ((List.range 4).any fun j => j != i &&
     s.laneEn (4 * q + j) && s.laneRate (4 * q + j) != wrote v (HSL.LANE_CTL_RATE i)) = true →
     s.did (laneWrite src q i r v) = s.did (errPage (hsb q) r.off src cRATE_MIX)) ∧
  (∀ (s : State) (src q i p : Nat) (r : RegRow) (v : Word),
     s.laneOwner (4 * q + i) = some p → wroteB v (HSL.LANE_CTL_EN i) ≠ s.laneEn (4 * q + i) →
     s.did (laneWrite src q i r v) = s.did (errPage (hsb q) r.off src cLANE_IN_PORT)) ∧
  (∀ (s : State) (l : Fin 48) (ffe : Word),
     s.phase = .run → s.running (tTrain l) = true →
     exec (.trainDone l ffe) s = .next ((s.did (seqs [timerStop (tTrain l),
              fun t => [.regs (hsb (l / 4) + HSL.TX_FFE (l % 4)) ((t.reg (hsb (l / 4) + HSL.TX_FFE (l % 4)) &&& 0xFFC0C0C0) ||| (ffe &&& 0x003F3F3F))],
              fbset (hsb (l / 4)) (HSL.LANE_STAT_TRAIN_DONE (l % 4)) true, raise (hsb (l / 4)) (4 + l % 4)])).refDone)) ∧
  (∀ (s : State) (l : Fin 48) (ffe : Word),
     s.phase = .run → s.running (tTrain l) = true →
     exec (.trainFail l ffe) s = .next ((s.did (seqs [clockEnd (tTrain l) 500000000, timerStop (tTrain l),
              fun t => [.regs (hsb (l / 4) + HSL.TX_FFE (l % 4)) ((t.reg (hsb (l / 4) + HSL.TX_FFE (l % 4)) &&& 0xFFC0C0C0) ||| (ffe &&& 0x003F3F3F))],
              fbset (hsb (l / 4)) (HSL.LANE_STAT_TRAIN_FAIL (l % 4)) true, raise (hsb (l / 4)) (8 + l % 4)])).refDone)) ∧
  (∀ (s : State) (l : Fin 48) (lock sig adapted : Bool) (snr : Nat),
     s.phase = .run → s.live ⟨.hsl, l.val / 4⟩ = true → s.laneEn l = true →
     exec (.cdrLockLoss l lock sig adapted snr) s = .next ((s.did (seqs [
              if (s.fb (hsb (l / 4)) (HSL.LANE_STAT_CDR_LOCK (l % 4)) && !lock) = true then
                seqs [fincSat (hsb (l / 4)) (HSL.LOL_CNT_COUNT (l % 4)) 1, raise (hsb (l / 4)) (l % 4)] else skip,
              fbset (hsb (l / 4)) (HSL.LANE_STAT_CDR_LOCK (l % 4)) lock, fbset (hsb (l / 4)) (HSL.LANE_STAT_SIG_DET (l % 4)) sig,
              fbset (hsb (l / 4)) (HSL.LANE_STAT_ADAPTED (l % 4)) adapted, fset (hsb (l / 4)) (HSL.LANE_STAT_SNR (l % 4)) snr])).refDone)) ∧
  (∀ (s : State) (q : Fin 12) (lock : Bool),
     s.phase = .run → s.live ⟨.hsl, q.val⟩ = true →
     exec (.pllUnlock q lock) s = .next ((s.did (seqs [
              if (s.fb (hsb q) HSL.QUAD_STAT_PLL_LOCK && !lock) = true then raise (hsb q) 12 else skip,
              fbset (hsb q) HSL.QUAD_STAT_PLL_LOCK lock])).refDone)) ∧
  (∀ (s : State) (src : Requester) (p : Fin 48) (v : Word),
     s.serves src ⟨.eth, p.val⟩ → s.portEn p = false → wrote v ETH.PORT_CFG_TYPE ≠ 7 → s.portBad p (setF v
     ETH.PORT_CFG_EN 1) = none →
     ∃ r, regRow ⟨.eth, p.val⟩ ETH.PORT_CFG = some r ∧ exec (.portEnable src p v) s = .next ((s.did (
              plainWrite (etb p) r [] (setF v ETH.PORT_CFG_EN 1))).pageDone ⟨.eth, p.val⟩)) ∧
  (∀ (s : State) (src p code : Nat) (r : RegRow) (v : Word),
     s.portEn p = false → wroteB v ETH.PORT_CFG_EN = true → wrote v ETH.PORT_CFG_TYPE ≠ 7 → s.portBad p v = some code
     →
     s.did (portWrite src p r v) = s.did (errPage (etb p) r.off src code)) ∧
  (∀ (s : State) (p : Fin 48) (block am deskew : Bool),
     s.phase = .run → s.live ⟨.eth, p.val⟩ = true → s.portEn p = true →
     exec (.alignStatusChange p block am deskew) s = .next ((s.did (seqs [
              fbset (etb p) ETH.PORT_STAT_BLOCK_LOCK block, fbset (etb p) ETH.PORT_STAT_AM_LOCK am,
              fbset (etb p) ETH.PORT_STAT_DESKEW_OK deskew, fbset (etb p) ETH.PORT_STAT_LINK_UP (block && am && deskew),
              if ((block && am && deskew) && !s.fb (etb p) ETH.PORT_STAT_LINK_UP) = true then raise (etb p) 0
              else if (s.fb (etb p) ETH.PORT_STAT_LINK_UP && !(block && am && deskew)) = true then raise (etb p) 1 else skip])).refDone)) ∧
  (∀ (s : State) (p : Fin 48) (sym corSym cor unc : Nat),
     s.phase = .run → s.live ⟨.eth, p.val⟩ = true → s.portEn p = true → 5560 < sym → corSym ≤ s.fg (etb p)
     ETH.FEC_DEG_CFG_THR → s.fb (etb p) ETH.PORT_STAT_HI_SER = false →
     exec (.portFecWindow p sym corSym cor unc) s = .next (s.did (seqs [cntAdd (etb p + ETH.COR_LO) cor,
              cntAdd (etb p + ETH.UNC_LO) unc, cntAdd (etb p + ETH.SYM_LO) sym, raise (etb p) 4,
              fbset (etb p) ETH.PORT_STAT_HI_SER true, fbset (etb p) ETH.PORT_STAT_FEC_DEGRADED false])).settled) ∧
  (∀ (s : State) (p : Fin 48) (remote on : Bool),
     s.phase = .run → s.live ⟨.eth, p.val⟩ = true → s.portEn p = true →
     exec (.faultReceived p remote on) s = .next (s.did (seqs [
              if (on && !s.fb (etb p) (if remote then ETH.PORT_STAT_RX_RF else ETH.PORT_STAT_RX_LF)) = true then
                raise (etb p) (if remote then 3 else 2) else skip,
              fbset (etb p) (if remote then ETH.PORT_STAT_RX_RF else ETH.PORT_STAT_RX_LF) on])).settled) ∧
  (∀ (s : State) (g : Fin 8),
     s.phase = .run → ((s.tab (flexKey 0 g 0)).getLsbD 0 && (s.tab (flexKey 0 g 0)).getLsbD 2) = true →
     exec (.calSwitch g) s = .next (s.did (seqs [
              fun _ => [.tabs (flexKey 0 g 0) (bitsPut (s.tab (flexKey 0 g 0)) 1 2 (1 - s.flexCal g))],
              forP (s.flexPorts g) fun p => raise (etb p) 8])).settled) ∧
  (∀ (s : State) (src : Requester) (g : Fin 8) (v : Word) (t : State),
     s.windowServes src ⟨.eth, 0⟩ → t = s.select ⟨.eth, 0⟩ 0 g.val →
     exec (.flexeSwitchWrite src g v) s = .next ((t.did (seqs [
              fun _ => [.tabs (flexKey 0 g 0) ((v &&& 0x000FFF05) ||| (t.tab (flexKey 0 g 0) &&& 0x6))],
              pageEval ⟨.eth, 0⟩])).winDone ⟨.eth, 0⟩ 0)) ∧
  (∀ (s : State) (src : Requester) (e : Fin 3) (v : Word) (t : State),
     s.windowServes src ⟨.eth, 0⟩ → t = s.select ⟨.eth, 0⟩ 3 e.val →
     exec (.flexoGroupEnable src e v) s = .next ((t.did (seqs [flexoTab src.id e (v ||| 1),
              pageEval ⟨.eth, 0⟩])).winDone ⟨.eth, 0⟩ 0)) ∧
  (∀ (s : State) (src e : Nat) (v : Word),
     v.getLsbD 0 = true → (bitsGet v 16 6 < 4 * (bitsGet v 1 3 + 1) - 3 ∨ 4 * (bitsGet v 1 3 + 1) < bitsGet v 16 6 ∨
     30 < bitsGet v 16 6) →
     s.did (flexoTab src e v) = s.did (errPage (etb 0) (oWIN_DATA 0) src cFLEXO_SIZE)) ∧
  (∀ (s : State) (p : Fin 48) (e : Stamp) (l : List Stamp),
     s.up ⟨.eth, p.val⟩ → s.stamp p = e :: l →
     exec (.tsPop .host p) s = .next ((s.did (stampPop p)).apply
              (.rdata (BitVec.ofNat 32 (2 ^ 31 + e.msg * 2 ^ 24 + e.seq)).toNat)).settled)

/-- A profile word is taken while the classifier is off and the key fits; refused with PROF_LIVE or PROF_LONG. Publishing
an entry is refused with its reason or makes it valid whole; word 11 is rewritten at any time; other words of a valid
entry are refused. An ingress frame with a bad FCS is counted. A slow-path frame that cluster 6 returns is carried out
by its action word; one whose OP is neither queue nor drop is dropped. PUNT_POP discards the head, raising again if
others wait. A packet is dropped where the queue's set is off or its limit would be passed, else stored on die or in
DDR, or dropped with NOBUF. A set that is off sends an idle record. A valid record delivers its packet; an invalid
header starts a hunt. FLUSH empties all eight queues of a set and counts the packets. -/
def Obligations.PacketsAreClassifiedAndQueued : Prop :=
  (∀ (s : State) (src : Requester) (f : Fin 8) (w : Fin 2) (v : Word) (t : State),
     s.windowServes src ⟨.cls, 0⟩ → t = s.select ⟨.cls, 0⟩ 0 f.val → s.fb clb CLS.CLS_CTL_EN = false → ((if w.val = 0
     then selectors v (t.tab (clsKey 0 f 1)) else selectors (t.tab (clsKey 0 f 0)) v).map selSize).sum ≤ 40 →
     exec (.clsProfileWrite src f w v) s = .next ((t.did fun _ => [.tabs (clsKey 0 f w)
              (v &&& if w.val = 0 then 0x3FFFFFFF else 0x3FF)]).winDone ⟨.cls, 0⟩ w)) ∧
  (∀ (s : State) (src e w : Nat) (v : Word),
     s.fb clb CLS.CLS_CTL_EN = true →
     s.did (clsTab src 0 e w v) = s.did (seqs [errPage clb (oWIN_DATA w) src cPROF_LIVE, raise clb 3])) ∧
  (∀ (s : State) (src : Requester) (tern : Bool) (e : Nat) (v : Word) (t : State) (k : Nat),
     s.windowServes src ⟨.cls, 0⟩ → (k = if tern then 2 else 1) → (e < if tern then 8192 else 262144) → t = s.select
     ⟨.cls, 0⟩ k e → t.entryValid k e = false → t.publishBad k e (v ||| 1) = none →
     exec (.entryPublish src tern e v) s = .next ((t.did fun _ => [.tabs (clsKey k e 0) ((v ||| 1) &&& 0xF)]).winDone ⟨.cls, 0⟩ 0)) ∧
  (∀ (s : State) (src e k code : Nat) (v : Word),
     (k = 1 ∨ k = 2) → s.entryValid k e = false → v.getLsbD 0 = true → s.publishBad k e v = some code →
     s.did (clsTab src k e 0 v) = s.did (seqs [errPage clb (oWIN_DATA 0) src code, raise clb 3])) ∧
  (∀ (s : State) (src : Requester) (tern : Bool) (e : Nat) (v : Word) (t : State) (k : Nat),
     s.windowServes src ⟨.cls, 0⟩ → (k = if tern then 2 else 1) → (e < if tern then 8192 else 262144) → t = s.select
     ⟨.cls, 0⟩ k e →
     exec (.actionRewrite src tern e v) s = .next ((t.did fun _ => [.tabs (clsKey k e 11) (v &&& 0x1FFF01FF)]).winDone ⟨.cls, 0⟩ 11)) ∧
  (∀ (s : State) (src e k w : Nat) (v : Word),
     (k = 1 ∨ k = 2) → 0 < w → w < 11 → s.entryValid k e = true →
     s.did (clsTab src k e w v) = s.did (seqs [errPage clb (oWIN_DATA w) src cENTRY_VALID, raise clb 3])) ∧
  (∀ (s : State) (p : Fin 48) (bytes : List Byte) (ddrOk : Bool),
     s.phase = .run → s.live ⟨.eth, p.val⟩ = true → s.portEn p = true → s.portType p ≤ 3 → s.fb (etb p)
     ETH.PORT_CFG_MAP = false → s.fb (etb p) ETH.PORT_STAT_LINK_UP = true → s.live ⟨.cls, 0⟩ = true → s.fb clb
     CLS.CLS_CTL_EN = true → s.live ⟨.qmg, 0⟩ = true →
     exec (.frameIngress p bytes false ddrOk) s = .next (s.did (fincSat qmb QMG.DROP_FCS_COUNT 1)).settled) ∧
  (∀ (s : State) (p : Fin 48) (bytes : List Byte) (ddrOk : Bool),
     s.phase = .run → s.live ⟨.eth, p.val⟩ = true → s.portEn p = true → s.portType p ≤ 3 → s.fb (etb p)
     ETH.PORT_CFG_MAP = false → s.fb (etb p) ETH.PORT_STAT_LINK_UP = true → s.live ⟨.cls, 0⟩ = true → s.fb clb
     CLS.CLS_CTL_EN = true → s.profileOpen = false → (parseFrame ((s.clsPort p).getLsbD 0) (bytes.take 64)).reason =
     0 →
     exec (.frameIngress p bytes true ddrOk) s = .next (s.did (lookup p (bytes.take 64)
              (parseFrame ((s.clsPort p).getLsbD 0) (bytes.take 64))
              { bytes := bytes, stamp := (s.ptpAt p bytes).map fun _ => s.stampAt (etb p + ETH.RX_ASYM) } ddrOk 0)).settled) ∧
  (∀ (s : State) (id : Nat) (v : Word) (ddrOk : Bool) (q : Nat × Packet),
     s.phase = .run → s.cls.slow.find? (fun q => q.1 == id) = some q → s.live ⟨.cls, 0⟩ = true → bitsGet v 0 2 ≤ 1 →
     exec (.slowPathReturn id v ddrOk) s = .next (s.did (seqs [
              fun t => [.cls { t.cls with slow := t.cls.slow.filter fun x => x.1 != id }],
              actionDo 0 v (parseFrame false (q.2.bytes.take 64)) q.2 ddrOk])).settled) ∧
  (∀ (s : State) (src : Requester) (h : Punt) (l : List Punt),
     s.serves src ⟨.cls, 0⟩ → s.cls.punts = h :: l →
     exec (.puntPop src) s = .next (s.did (seqs [fun t => [.cls { t.cls with punts := l }],
              if l.isEmpty then skip else raise clb 1])).settled) ∧
  (∀ (s : State) (q : Nat) (bytes : List Byte) (ddrOk : Bool),
     s.phase = .run → s.live ⟨.qmg, 0⟩ = true → (s.qmgRun = false ∨ s.setEn (q / 8) = false) →
     exec (.packetAdmit q bytes ddrOk) s = .next (s.did (queueDrop q QMG.DROP_OFF_COUNT)).settled) ∧
  (∀ (s : State) (q : Nat) (bytes : List Byte) (ddrOk : Bool),
     s.phase = .run → s.live ⟨.qmg, 0⟩ = true → s.qmgRun = true → s.setEn (q / 8) = true → bitsGet (s.tab (qmgKey 1 q
     0)) 0 20 * 1024 < (s.queue q).backlog + (bytes.length + 63) / 64 →
     exec (.packetAdmit q bytes ddrOk) s = .next (s.did (queueDrop q QMG.DROP_TAIL_COUNT)).settled) ∧
  (∀ (s : State) (q : Nat) (bytes : List Byte) (ddrOk : Bool),
     s.phase = .run → s.live ⟨.qmg, 0⟩ = true → s.qmgRun = true → s.setEn (q / 8) = true → (s.queue q).backlog +
     (bytes.length + 63) / 64 ≤ bitsGet (s.tab (qmgKey 1 q 0)) 0 20 * 1024 → s.ovfOn = false → (s.queue q).ddr = [] →
     s.dieUsed + (bytes.length + 63) / 64 ≤ 2 ^ 20 →
     exec (.packetAdmit q bytes ddrOk) s = .next (s.apply (.queues q { s.queue q with
              die := (s.queue q).die ++ [{ bytes := bytes }], enq := (s.queue q).enq + 1 })).settled) ∧
  (∀ (s : State) (g : Nat),
     s.phase = .run → g < 4356 → s.qmgRun = true → s.setEn g = false →
     exec (.schedulerDecision g) s = .next (s.did (emit (.record g (recordHeader 0 0)))).settled) ∧
  (∀ (s : State) (g : Nat) (l : List Byte) (next ddrOk : Bool),
     s.phase = .run → s.qmgRun = true → g < 4356 → (s.sched g).sync = true → headerOk l = true → be l 0 2 ≠ 0 → 8 +
     be l 0 2 ≤ l.length →
     exec (.recordReceived g l false next ddrOk) s =
            .next (s.did (recordDeliver g (be l 2 1 / 32) ((l.drop 8).take (be l 0 2)) ddrOk)).settled) ∧
  (∀ (s : State) (g : Nat) (l : List Byte) (errored next ddrOk : Bool),
     s.phase = .run → s.qmgRun = true → g < 4356 → (s.sched g).sync = true → headerOk l = false →
     exec (.recordReceived g l errored next ddrOk) s = .next (s.did (seqs [
              fun t => [.scheds g { t.sched g with sync := false }], fincSat qmb QMG.RX_HUNT_CNT_COUNT 1, raise qmb 3])).settled) ∧
  (∀ (s : State) (src : Requester) (v : Word) (n : Nat),
     s.serves src ⟨.qmg, 0⟩ → wrote v QMG.FLUSH_SET ≤ 4403 → n = ((List.range 8).map fun k => (s.queue (8 * wrote v
     QMG.FLUSH_SET + k)).die.length + (s.queue (8 * wrote v QMG.FLUSH_SET + k)).ddr.length).sum →
     exec (.flush src v) s = .next (s.did (seqs [
              forP (List.range 8) fun k t => [.queues (8 * wrote v QMG.FLUSH_SET + k) { t.queue (8 * wrote v QMG.FLUSH_SET + k) with die := [], ddr := [] }],
              fincSat qmb QMG.FLUSH_CNT_COUNT n])).settled)

/-- A sample of a running chain starts a waiting fade, joins its stream, passes to the detectors and may end the freeze,
its time that of the filter's centre. A full record is written; one open for FLUSH_CFG.MS is written too, its clock
brought to the limit. A freeze past its end and the group delay closes; with one waiting behind it, that one opens.
FRZ_CMD.MANUAL requests a freeze with FRZ_MAN's PRE and POST; RELEASE frees a closed freeze or is refused with
FRZ_STATE. ARCH_EN without a region is refused with NO_REGION, else it takes. RD_REC out of range is refused, else a
copy starts; it ends with the record and its flags and RD_READY. A seek ends with the record found or NOT_FOUND, and
SEEK_DONE. A swap request goes to the bank logic; a fade ends after its length. -/
def Obligations.SensingArchivesFreezesAndReads : Prop :=
  (∀ (s : State) (c : Fin 4) (ch : Fin 16) (p : Fin 4) (x : BitVec 16),
     s.phase = .run → s.live ⟨.sns, 0⟩ = true → s.fb ssb SNS.SNS_CTL_RUN = true →
     exec (.sensingSample c ch p x) s = .next (s.did (seqs [snsFadeStart,
              streamSample (c * 64 + ch * 4 + p) (s.now - BitVec.ofNat 80 (presetDelay p * 65536)) x,
              detSample c ch p ((s.now - BitVec.ofNat 80 (presetDelay p * 65536)).extractLsb' 16 64).toNat x, frzGuard])).settled) ∧
  (∀ (s : State) (c : Fin 4) (ch : Fin 16) (p : Fin 4) (x : BitVec 16),
     s.snsRun = false →
     s.did (sensingSample c ch p x) = s) ∧
  (∀ (s : State) (n : Nat) (t : BitVec 80) (x : BitVec 16),
     s.archOn = true → s.streamSel n = true → s.archReach = true → (s.stream n).on = true → (1 ≤ (s.stream
     n).samples.length ∧ (s.stream n).samples.length < 240) →
     (s.did (streamSample n t x)).stream n = { s.stream n with samples := (s.stream n).samples ++ [x] }) ∧
  (∀ (s : State) (n : Byte),
     s.phase = .run → s.archOn = true → 240 ≤ (s.stream n.toNat).samples.length →
     exec (.recordWrite n) s = .next (s.did (seqs [writeRecord n.toNat, frzGuard])).settled) ∧
  (∀ (s : State) (n p : Nat),
     (s.stream n).samples ≠ [] → s.archReach = true → 0 < s.archPositions → p = s.nextPos (s.archs.length + 1)
     (s.sns.pos % max 1 s.archPositions) →
     s.did (writeRecord n) = s.applyAll [.archs p {
                stream := n, seq := (s.wrSeq + 1) % 2 ^ 32, t0 := (s.stream n).t0, samples := (s.stream n).samples, wrote := s.nowNs,
                flags := b2n (s.stream n).gap + b2n ((s.stream n).samples.contains 0x8000) * 2 + b2n (decide ((s.stream n).samples.length < 240)) * 4 + b2n (s.stream n).stepped * 8 },
              .streams n { s.stream n with samples := [], gap := false, stepped := false },
              .sns { s.sns with pos := (p + 1) % s.archPositions },
              .regs (ssb + SNS.WR_SEQ) (BitVec.ofNat 32 ((s.wrSeq + 1) % 2 ^ 32))]) ∧
  (∀ (s : State) (n : Byte),
     s.phase = .run → s.archOn = true → (s.stream n.toNat).samples ≠ [] → s.running (ssb * 4096 + n.toNat) = true →
     exec (.recordFlushTimeout n) s = .next (s.did (seqs [
              clockEnd (ssb * 4096 + n.toNat) (s.fg ssb SNS.FLUSH_CFG_MS * 1000000), writeRecord n.toNat, frzGuard])).settled) ∧
  (∀ (s : State) (i : Nat),
     s.phase = .run → s.openFrz = some i → s.lowFree = false → s.frzEnd i + s.delayUsed ≤ s.nowNs.toNat →
     s.sns.follow = none →
     exec .freezeClose s = .next (s.did (frzClose i false)).settled) ∧
  (∀ (s : State) (i : Nat) (trunc : Bool),
     s.frzOpen i = true →
     s.did (frzClose i trunc) = s.did (seqs [flushAll,
              fun t => [.tabs (snsKey 2 i 0) ((t.frz i 0 &&& ~~~2) ||| (if trunc then 4 else 0)), .tabs (snsKey 2 i 2) (BitVec.ofNat 32 t.wrSeq)],
              raise ssb 2])) ∧
  (∀ (s : State) (src : Requester),
     s.serves src ⟨.sns, 0⟩ →
     exec (.frzManual src) s = .next (s.did (frzRequest s.nowNs.toNat (s.fg ssb SNS.FRZ_MAN_PRE) (s.fg ssb SNS.FRZ_MAN_POST) 31)).settled) ∧
  (∀ (s : State) (t pre post det : Nat),
     (s.archOn = false ∨ s.frzHeld.length = 16 ∨ s.lowFree = true) →
     s.did (frzRequest t pre post det) = s.did (seqs [fincSat ssb SNS.FRZ_REF_CNT_COUNT 1, raise ssb 3])) ∧
  (∀ (s : State) (src : Requester) (n : Fin 16),
     s.serves src ⟨.sns, 0⟩ → s.frzValid n = true → s.frzOpen n = false →
     exec (.frzRelease src n) s = .next (s.did fun _ => (List.range 8).map fun w => .tabs (snsKey 2 n w) 0).settled) ∧
  (∀ (s : State) (src i : Nat),
     (s.frzValid i = false ∨ s.frzOpen i = true) →
     s.did (frzRelease src i) = s.did (errPage ssb SNS.FRZ_CMD src cFRZ_STATE)) ∧
  (∀ (s : State) (src : Requester) (v : Word),
     s.serves src ⟨.sns, 0⟩ → s.snsRun = false → s.fb ssb SNS.SNS_CTL_RUN = false → s.fb ssb SNS.SNS_STAT_FADING =
     false → wroteB v SNS.SNS_CTL_RUN = false → s.regionOn 2 = true →
     exec (.archEnWrite src v) s = .next (s.did (seqs [fbset ssb SNS.SNS_CTL_RUN false,
              fbset ssb SNS.SNS_CTL_ARCH_EN (wroteB v SNS.SNS_CTL_ARCH_EN), fset ssb SNS.SNS_CTL_LOAD_MODE (wrote v SNS.SNS_CTL_LOAD_MODE)])).settled) ∧
  (∀ (s : State) (src : Nat) (v : Word),
     wroteB v SNS.SNS_CTL_ARCH_EN = true → s.regionOn 2 = false →
     s.did (snsCtlWrite src v) = s.did (errPage ssb SNS.SNS_CTL src cSNS_NO_REGION)) ∧
  (∀ (s : State) (src : Requester) (v : Word),
     s.serves src ⟨.sns, 0⟩ → v.toNat < s.archPositions →
     exec (.rdRecWrite src v) s = .next (s.did (seqs [rset (ssb + SNS.RD_REC) v, fbset ssb SNS.RD_STAT_READY false, timerStart tSnsRead])).settled) ∧
  (∀ (s : State) (src : Nat) (v : Word),
     s.archPositions ≤ v.toNat →
     s.did (rdRecWrite src v) = s.did (errPage ssb SNS.RD_REC src cRD_RANGE)) ∧
  (∀ (s : State) (bad : Bool),
     s.phase = .run → s.running tSnsRead = true →
     exec (.rdReady bad) s = .next (s.did (seqs [timerStop tSnsRead,
              fun t => [.sns { t.sns with buf := t.arch (s.fg ssb SNS.RD_REC_POS) }],
              rset (ssb + SNS.RD_STAT) (BitVec.ofNat 32 (1 + b2n (s.frozen (s.fg ssb SNS.RD_REC_POS)) * 2
                + b2n (s.arch (s.fg ssb SNS.RD_REC_POS)).samples.isEmpty * 4
                + b2n (bad && !(s.arch (s.fg ssb SNS.RD_REC_POS)).samples.isEmpty) * 8)),
              raise ssb 8])).settled) ∧
  (∀ (s : State) (src : Requester) (v : Word),
     s.serves src ⟨.sns, 0⟩ →
     exec (.seekGo src v) s = .next (s.did (seqs [rset (ssb + SNS.SEEK_CMD) (setF v SNS.SEEK_CMD_GO 1),
              rset (ssb + SNS.SEEK_STAT) 0, timerStart tSnsSeek])).settled) ∧
  (∀ (s : State),
     s.phase = .run → s.running tSnsSeek = true → s.archs = [] →
     exec .seekDone s = .next (s.did (seqs [timerStop tSnsSeek, rset (ssb + SNS.SEEK_STAT) 3, raise ssb 7])).settled) ∧
  (∀ (s : State) (p : Nat) (r : ArchRec),
     s.phase = .run → s.running tSnsSeek = true → s.archs = [(p, r)] → p < s.archPositions → (wroteB (s.reg (ssb +
     SNS.SEEK_CMD)) SNS.SEEK_CMD_ANY = true ∨ r.stream = wrote (s.reg (ssb + SNS.SEEK_CMD)) SNS.SEEK_CMD_STREAM) →
     r.t0.toNat ≤ ((s.reg (ssb + SNS.SEEK_LO)).toNat + (s.reg (ssb + SNS.SEEK_HI)).toNat * 2 ^ 32) * 65536 →
     exec .seekDone s = .next (s.did (seqs [timerStop tSnsSeek, rset (ssb + SNS.SEEK_RES) (BitVec.ofNat 32 p),
              rset (ssb + SNS.SEEK_STAT) 1, raise ssb 7])).settled) ∧
  (∀ (s : State) (src : Requester) (v : Word),
     s.serves src ⟨.sns, 0⟩ → s.live ⟨.sns, 0⟩ = true →
     exec (.snsSwapReq src v) s = .next (s.did (swapReq snsSwap (!s.snsRun) src.id (wrote v SNS.SWAP_REQ_BANK))).settled) ∧
  (∀ (s : State),
     s.phase = .run → s.presetsUsed ≠ [] → s.fb ssb SNS.SNS_STAT_FADING = true → s.running tSnsFade = true →
     exec .snsFadeEnd s = .next (s.did (seqs [
              clockEnd tSnsFade (s.fg ssb SNS.FADE_CFG_LEN * (s.presetsUsed.map presetNs).foldl max 0), timerStop tSnsFade,
              swapFinish snsSwap (!s.snsRun)])).settled)

/-- Each second the frequency monitor records the offset of every active reference and sets or clears FREQ_OK. Activity
lost clears ACT_OK and the monitor's samples; activity returned sets it. The drift monitor compares two halves of its
window. A reference that held its conditions qualifies at QUAL seconds, with a wait to restore unless it is the first
time. A wait to restore that ends makes it eligible. A DPLL locks after 10 s. It records its control value and phase
error each second in ACQUIRE and LOCKED, unless its history is frozen. A slew's end clears SLEWING with its event.
Dd_CTL writes take and are evaluated; a reserved FORCE_REF reads as any legal value. SW_PHERR restarts SW's limit and
gives the loop a sample; without one in SW_TO, SW loses activity. Dd_FFO_SET in the open loop sets the output within
the slope limit, counted where clamped. REALIGN removes an output's misalignment. -/
def Obligations.ReferencesQualifyAndDpllsFollow : Prop :=
  (∀ (s : State) (k : Fin 14),
     s.phase = .run → s.live ⟨.dpl, 0⟩ = true → (k.val < 4 ∨ (k.val < 13 ∧ s.refLock k = false)) →
     exec (.activityLoss k) s = .next ((s.did (seqs [fbset dpb (DPL.REF_STAT_ACT_OK k) false,
              refUpd k fun r => { r with fofs := [] }, refsEval])).refDone)) ∧
  (∀ (s : State) (k : Fin 14),
     s.phase = .run → s.live ⟨.dpl, 0⟩ = true → (k.val < 4 ∨ (k.val < 13 ∧ s.refLock k = true)) →
     exec (.activityReturn k) s = .next ((s.did (seqs [fbset dpb (DPL.REF_STAT_ACT_OK k) true, refsEval])).refDone)) ∧
  (∀ (s : State) (x : Int),
     s.phase = .run → s.live ⟨.dpl, 0⟩ = true → s.fb dpb (DPL.REF_STAT_ACT_OK 0) = true → s.fg dpb DPL.MON_CFG_REJECT
     * 1000 < x.natAbs →
     exec (.frequencyMeasure [x]) s = .next ((s.did (seqs [refUpd 0 fun r => { r with fofs := (x :: r.fofs).take 256 },
              fset dpb (DPL.REF_MON_FOFS 0) (tc 16 (clampS 16 (roundDiv x 1000))),
              fbset dpb (DPL.REF_STAT_FREQ_OK 0) false, refsEval])).refDone)) ∧
  (∀ (s : State) (x : Int),
     s.phase = .run → s.live ⟨.dpl, 0⟩ = true → s.fb dpb (DPL.REF_STAT_ACT_OK 0) = true → x.natAbs ≤ s.fg dpb
     DPL.MON_CFG_REJECT * 1000 → x.natAbs < s.fg dpb DPL.MON_CFG_ACCEPT * 1000 →
     exec (.frequencyMeasure [x]) s = .next ((s.did (seqs [refUpd 0 fun r => { r with fofs := (x :: r.fofs).take 256 },
              fset dpb (DPL.REF_MON_FOFS 0) (tc 16 (clampS 16 (roundDiv x 1000))),
              fbset dpb (DPL.REF_STAT_FREQ_OK 0) true, refsEval])).refDone)) ∧
  (∀ (s : State),
     s.phase = .run → s.live ⟨.dpl, 0⟩ = true →
     exec .driftEvaluate s = .next ((s.did (seqs [forP (List.range 14) driftRef, refsEval])).refDone)) ∧
  (∀ (s : State) (k h : Nat) (d : Int),
     h = s.fg dpb DPL.DRIFT_CFG_WIN / 2 → 0 < h → 2 * h ≤ (s.ref k).fofs.length → d = ((s.ref k).fofs.take h).sum -
     (((s.ref k).fofs.drop h).take h).sum → s.fg dpb DPL.DRIFT_CFG_LIM * 1000 * h * h < 60 * d.natAbs → s.fb dpb
     (DPL.REF_STAT_DRIFTING k) = false →
     s.did (driftRef k) = s.did (seqs [fset dpb (DPL.REF_MON_SLOPE k) (tc 16 (clampS 16 (roundDiv (60 * d) (1000 * h * h)))),
              refUpd k fun r => { r with below := 0 }, fbset dpb (DPL.REF_STAT_DRIFTING k) true, raise dpb 9])) ∧
  (∀ (s : State) (k : Fin 14),
     s.phase = .run → s.live ⟨.dpl, 0⟩ = true → s.refGood k = true → s.running (tQual k) = true → (s.ref k).quals ≠ 0
     → s.fg dpb DPL.QUAL_CFG_WTR ≠ 0 →
     exec (.qualified k) s = .next ((s.did (seqs [clockEnd (tQual k) (s.fg dpb DPL.QUAL_CFG_QUAL * 1000000000), timerStop (tQual k),
              fbset dpb (DPL.REF_STAT_QUALIFIED k) true, refUpd k fun r => { r with quals := r.quals + 1 },
              timerStart (tWtr k), refsEval])).refDone)) ∧
  (∀ (s : State) (k : Nat),
     s.live ⟨.dpl, 0⟩ = true → s.refGood k = true → s.running (tQual k) = true → (s.ref k).quals = 0 →
     s.did (refQualified k) = s.did (seqs [clockEnd (tQual k) (s.fg dpb DPL.QUAL_CFG_QUAL * 1000000000), timerStop (tQual k),
              fbset dpb (DPL.REF_STAT_QUALIFIED k) true, refUpd k fun r => { r with quals := r.quals + 1 }, refsEval])) ∧
  (∀ (s : State) (k : Fin 14),
     s.phase = .run → s.live ⟨.dpl, 0⟩ = true → s.running (tWtr k) = true →
     exec (.wtrExpiry k) s = .next ((s.did (seqs [clockEnd (tWtr k) (s.fg dpb DPL.QUAL_CFG_WTR * 1000000000), timerStop (tWtr k), refsEval])).refDone)) ∧
  (∀ (s : State) (i : Fin 2),
     s.phase = .run → s.live ⟨.dpl, 0⟩ = true → s.dState i = 1 → s.fb dpb (DPL.D_STAT_SLEWING i) = false → s.running
     (tAcq i) = true →
     exec (.dpllLocked i) s = .next ((s.did (seqs [clockEnd (tAcq i) 10000000000, fset dpb (DPL.D_STAT_STATE i) 2,
              timerStop (tAcq i), fbset dpb (DPL.D_STAT_HIST_FROZEN i) false, dpllUpd i fun d => { d with hist := [] },
              raise dpb (2 + 3 * i)])).refDone)) ∧
  (∀ (s : State) (i : Fin 2) (ffo pherr : Int),
     s.phase = .run → s.live ⟨.dpl, 0⟩ = true → (s.dState i = 1 ∨ s.dState i = 2) → s.fb dpb (DPL.D_STAT_HIST_FROZEN
     i) = false →
     exec (.historySample i ffo pherr) s = .next ((s.did (seqs [rsetI (dpb + DPL.D_FFO i) ffo, rsetI (dpb + DPL.D_PHERR i) pherr,
              fbset dpb (DPL.D_STAT_PH_BIG i) (decide (1000000000 < pherr.natAbs)),
              dpllUpd i fun d => { d with hist := (ffo :: d.hist).take 3600 }])).refDone)) ∧
  (∀ (s : State),
     s.phase = .run → s.live ⟨.dpl, 0⟩ = true → s.fb dpb (DPL.D_STAT_SLEWING 1) = true →
     exec .slewDone s = .next ((s.did (seqs [fbset dpb (DPL.D_STAT_SLEWING 1) false, dpllUpd 1 fun d => { d with slew := 0 },
              timerStop tDplSlew, raise dpb 6, refsEval])).refDone)) ∧
  (∀ (s : State) (src : Requester) (i : Fin 2) (v : Word) (r : RegRow),
     s.serves src ⟨.dpl, 0⟩ → regRow ⟨.dpl, 0⟩ (DPL.D_CTL i.val) = some r →
     exec (.dpllCtlWrite src i v) s = .next ((s.did (dCtlWrite i r v)).pageDone ⟨.dpl, 0⟩)) ∧
  (∀ (s : State) (i : Nat) (r : RegRow) (v : Word),
     wrote v (DPL.D_CTL_FORCE_REF i) ≠ 14 → wroteB v (DPL.D_CTL_EN i) = false → wroteB v (DPL.D_CTL_STACK_HOLD i) =
     true → wroteB v (DPL.D_CTL_FORCE_HO i) = false →
     s.did (dCtlWrite i r v) = s.did (seqs [rset (dpb + r.off) (r.merge (s.reg (dpb + r.off)) v), refsEval])) ∧
  (∀ (s : State) (src : Requester) (v : Word),
     s.serves src ⟨.dpl, 0⟩ →
     exec (.swPherrWrite src v) s = .next ((s.did (seqs [timerStart tSw, fbset dpb (DPL.REF_STAT_ACT_OK 13) true,
              refPhase 13 v.toInt, refsEval])).pageDone ⟨.dpl, 0⟩)) ∧
  (∀ (s : State) (k : Nat) (e x : Int),
     s.dSel 1 = k → (s.dState 1 = 1 ∨ s.dState 1 = 2 ∨ s.dState 1 = 4) → x = e + (s.reg (dpb + DPL.REF_DLY k)).toInt
     →
     s.did (refPhase k e) = s.did (seqs [refUpd k fun r => { r with phase := some x }, rsetI (dpb + DPL.D_PHERR 1) x,
              fbset dpb (DPL.D_STAT_PH_BIG 1) (decide (1000000000 < x.natAbs))])) ∧
  (∀ (s : State),
     s.phase = .run → s.live ⟨.dpl, 0⟩ = true → s.running tSw = true →
     exec .swTimeout s = .next ((s.did (seqs [clockEnd tSw (s.fg dpb DPL.SW_CFG_SW_TO * 100000000), timerStop tSw,
              fbset dpb (DPL.REF_STAT_ACT_OK 13) false, refUpd 13 fun r => { r with fofs := [] }, raise dpb 10, refsEval])).refDone)) ∧
  (∀ (s : State) (src : Requester) (i : Fin 2) (v : Word),
     s.serves src ⟨.dpl, 0⟩ → s.dState i = 4 → (s.dpll i).openVal - s.fg dpb (DPL.D_SLOPE_NS_S i) * 1000 ≤ v.toInt →
     v.toInt ≤ (s.dpll i).openVal + s.fg dpb (DPL.D_SLOPE_NS_S i) * 1000 →
     exec (.ffoSetWrite src i v) s = .next ((s.did (seqs [rset (dpb + DPL.D_FFO_SET i) v, rsetI (dpb + DPL.D_FFO i) v.toInt])).pageDone ⟨.dpl, 0⟩)) ∧
  (∀ (s : State) (src i : Nat) (v : Word),
     s.dState i = 4 → (s.dpll i).openVal + s.fg dpb (DPL.D_SLOPE_NS_S i) * 1000 < v.toInt →
     s.did (ffoSetWrite src i v) = s.did (seqs [rset (dpb + DPL.D_FFO_SET i) v,
              rsetI (dpb + DPL.D_FFO i) ((s.dpll i).openVal + s.fg dpb (DPL.D_SLOPE_NS_S i) * 1000),
              errPage dpb (DPL.D_FFO_SET i) src cFFO_CLAMP])) ∧
  (∀ (s : State) (src : Requester) (k : Fin 4) (v : Word) (r : RegRow),
     s.serves src ⟨.dpl, 0⟩ → regRow ⟨.dpl, 0⟩ (DPL.OUT_CFG k.val) = some r →
     exec (.realign src k v) s = .next ((s.did (outCfgWrite k r (setF v (DPL.OUT_CFG_REALIGN k) 1))).pageDone ⟨.dpl, 0⟩)) ∧
  (∀ (s : State) (k : Nat),
     (s.fg dpb (DPL.OUT_CFG_SRC k) = 3 ∨ s.fg dpb (DPL.OUT_CFG_SRC k) = 4) →
     s.did (realign k) = s.did (seqs [rsetI (dpb + DPL.OUT_MIS k) 0, fbset dpb (DPL.OUT_STAT_MISALIGNED k) false]))

/-- Enabling a region is refused with the reason of the first check that fails, counted with REGION_REFUSED, else it is
enabled whole; disabling one in use is refused with REGION_IN_USE, else it is disabled. A DDR error is counted in MEM
and its channel, its address kept, reported to its island, and its row test queued or, with eight queued, skipped. The
oldest row test ends transient or lasting; a lasting one moves its row to a spare or reports SPARE_OUT. An SRAM error
is reported under its source. A patrol treats each error found as an access would. A scrub is refused for its reason,
else its summary is cleared and it runs; it ends with DONE and its event, early with ABORTED. A DIMM's temperature
raises TEMP_HIGH as it reaches its limit and doubles refresh above 85 °C. -/
def Obligations.MemoryChecksRegionsAndErrors : Prop :=
  (∀ (s : State) (src : Requester) (r : Fin 11) (t : State),
     s.windowServes src ⟨.mem, 0⟩ → t = s.select ⟨.mem, 0⟩ 0 r.val → t.regionOn r = false → t.regionCheck r = none →
     exec (.regionEnable src r) s = .next ((t.did fun _ => [.tabs (tabKey meb 0 r 0) 1]).winDone ⟨.mem, 0⟩ 0)) ∧
  (∀ (s : State) (src r code : Nat),
     s.regionCheck r = some code →
     s.did (regionEnable src r) = s.did (seqs [errPage meb (oWIN_DATA 0) src code, raise meb 5])) ∧
  (∀ (s : State) (src : Requester) (r : Fin 11) (t : State),
     s.windowServes src ⟨.mem, 0⟩ → t = s.select ⟨.mem, 0⟩ 0 r.val → t.regionOn r = true → t.regionUsed r = false →
     exec (.regionDisable src r) s = .next ((t.did fun _ => [.tabs (tabKey meb 0 r 0) 0]).winDone ⟨.mem, 0⟩ 0)) ∧
  (∀ (s : State) (src r : Nat),
     s.regionUsed r = true →
     s.did (regionDisable src r) = s.did (errPage meb (oWIN_DATA 0) src cREGION_IN_USE)) ∧
  (∀ (s : State) (a place row n : Nat) (ue scrub : Bool),
     s.phase = .run → s.nch ≠ 0 → a < s.fg meb MEM.INSTALLED_MIB * 2 ^ 20 → n = s.chanOf a → s.pdOn (56 + n / 2) =
     true →
     exec (.ddrError a place row ue scrub) s = .next (s.did (seqs [
              fincSat meb ⟨if ue then MEM.UE_CNT else MEM.CE_CNT, 0, 32⟩ 1,
              rset (meb + if ue then MEM.LAST_UE_LO else MEM.LAST_CE_LO) (BitVec.ofNat 32 a),
              rset (meb + if ue then MEM.LAST_UE_HI else MEM.LAST_CE_HI) (BitVec.ofNat 32 (a / 2 ^ 32)),
              fincSat (db n) (if ue then DDR.UE_CNT_COUNT else DDR.CE_CNT_COUNT) 1,
              raise meb (if ue then 1 else 0), raise (db n) (if ue then 1 else 0), if scrub then scrubFind a ue else skip,
              report (if !ue then eDDR_CE else if (s.regionAt a).isSome then eDDR_UE else eDDR_UE_FREE)
                (((s.regionAt a).map regionIsland).getD (pageIsland ⟨.ddr, n⟩)) (db n) a n (2 ^ 32 * (n + 1) + rowId place row),
              ddrUpd n fun r => { r with hits := (r.hits.filter fun h => decide (s.ticks < h.2 + 10000000000)) ++ [(rowId place row, s.ticks)] },
              if (s.ddr n).tests.length < 8 then
                ddrUpd n fun r => { r with tests := r.tests ++ [{ row := rowId place row, seq := s.fg eb ERR.SEQ_NEXT, addr := a, ue := ue }] }
              else fincSat (db n) DDR.SKIP_CNT_COUNT 1])).settled) ∧
  (∀ (s : State) (n : Fin 16) (q : RowTest) (l : List RowTest),
     s.phase = .run → (s.ddr n).tests = q :: l → ((s.ddr n).hits.filter fun h => h.1 == q.row).length < 2 →
     exec (.rowTest n false) s = .next (s.did (seqs [ddrUpd n fun r => { r with tests := l }, classify q.seq false])).settled) ∧
  (∀ (s : State) (n : Fin 16) (q : RowTest) (l : List RowTest),
     s.phase = .run → (s.ddr n).tests = q :: l →
     exec (.rowTest n true) s = .next (s.did (seqs [ddrUpd n fun r => { r with tests := l }, rowRemap n q, classify q.seq true])).settled) ∧
  (∀ (s : State) (n : Nat) (q : RowTest),
     s.fg (db n) DDR.SPARE_LEFT_ROWS = 0 →
     s.did (rowRemap n q) = s.did (seqs [raise meb 4, report eSPARE_OUT (pageIsland ⟨.ddr, n⟩) (db n) q.addr n])) ∧
  (∀ (s : State) (e : SramErr),
     s.phase = .run →
     exec (.sramError e) s = .next (s.did (report (if e.eng then (if e.ue then eESRAM_UE else eESRAM_CE) else if e.ue then eSRAM_UE else eSRAM_CE)
              (islandAt e.page) e.page e.addr e.unit (2 ^ 50 + e.page * 2 ^ 12 + e.addr))).settled) ∧
  (∀ (s : State) (l : List SramErr),
     s.phase = .run → s.running tPatrol = true →
     exec (.sramPatrol l) s = .next (s.did (seqs [clockEnd tPatrol 10000000000, timerStart tPatrol,
              forP l fun e => sramError e.page e.addr e.unit e.eng e.ue])).settled) ∧
  (∀ (s : State) (src : Requester) (v : Word),
     s.serves src ⟨.mem, 0⟩ → wroteB v MEM.SCRUB_CMD_ABORT = false → s.fb meb MEM.SCRUB_STAT_BUSY = false → s.fg meb
     MEM.SCRUB_BASE_MIB + s.fg meb MEM.SCRUB_LEN_MIB ≤ s.fg meb MEM.INSTALLED_MIB → s.fg meb MEM.SCRUB_RATE_MBS ≤
     (s.fg meb MEM.BUDGET_TOTAL - reserved s.regionOn) * 100 → s.pairOff = false →
     exec (.scrubGo src v) s = .next (s.did (seqs [fun _ => [.regs (meb + MEM.SCRUB_STAT) 1, .cnts (meb + MEM.SCR_WORDS_LO) 0],
              rset (meb + MEM.SCR_WORDS_HI) 0, rset (meb + MEM.SCR_CORR) 0, rset (meb + MEM.SCR_UNC) 0, rset (meb + MEM.SCR_REMAP) 0,
              rset (meb + MEM.SCR_FIRST_LO) 0, rset (meb + MEM.SCR_FIRST_HI) 0, rset (meb + MEM.SCR_LAST_LO) 0, rset (meb + MEM.SCR_LAST_HI) 0])).settled) ∧
  (∀ (s : State) (src : Nat),
     s.fb meb MEM.SCRUB_STAT_BUSY = true →
     s.did (scrubGo src) = s.did (errPage meb MEM.SCRUB_CMD src cSCRUB_BUSY)) ∧
  (∀ (s : State) (src : Requester) (v : Word),
     s.serves src ⟨.mem, 0⟩ → wroteB v MEM.SCRUB_CMD_GO = false → s.fb meb MEM.SCRUB_STAT_BUSY = true →
     exec (.scrubAbort src v) s = .next (s.did (withFree fun w => scrubEnd true (w.toNat % (s.scrubTotal + 1)))).settled) ∧
  (∀ (s : State),
     s.phase = .run → s.fb meb MEM.SCRUB_STAT_BUSY = true →
     exec .scrubDone s = .next (s.did (seqs [fun _ => [.cnts (meb + MEM.SCR_WORDS_LO) s.scrubTotal], fbset meb MEM.SCRUB_STAT_BUSY false,
              fbset meb MEM.SCRUB_STAT_DONE true, fbset meb MEM.SCRUB_STAT_ABORTED false, raise meb 2])).settled) ∧
  (∀ (s : State) (n : Fin 16) (x : Int),
     s.phase = .run → sx 16 (s.fg (db n) DDR.DDR_TEMP_LIM_DEG) ≤ x → sx 16 (s.fg (db n) DDR.DDR_TEMP_DEG) < sx 16
     (s.fg (db n) DDR.DDR_TEMP_LIM_DEG) →
     exec (.tempHigh n x) s = .next (s.did (seqs [fset (db n) DDR.DDR_TEMP_DEG (tc 16 x),
              fbset (db n) DDR.DDR_TEMP_REF2X (decide (850 < x)), raise (db n) 2])).settled)

/-- For an engine that runs, with no interrupt to take, at an instruction: an arithmetic form writes its register and goes
on; a branch goes to its target with its cycles; a load writes the bytes read, a store stores them; MRET returns; an
instruction that raises an exception traps, with mtvec 0 halting with ENG_FAULT. CMAC, CMACJ and CMUL set ACC and
nothing else, ACCRD reads it shifted, rounded and saturated. MSEND sends with room and answers its status. MRECV takes
a word, else waits. WAITT passes at its time, else waits. BRD reads and BWR writes a register as requester ENGk. A
waiting MRECV or WAITT ends on its word or at its time, its cycles charged as holds. A pending interrupt is taken,
also from a wait. A word on its way arrives in order. -/
def Obligations.EnginesIssueTheirInstructions : Prop :=
  (∀ (s : State) (id : Fin 512) (f rd a b : Nat) (alt : Bool) (extra : Nat) (len : Nat) (inst : Word),
     s.phase = .run → s.engReady id = true → s.engIrq id = none → s.rvFetch id = some (.op f rd a b alt, len, inst) →
     exec (.engineInstruction id extra) s = .next (s.did (rvCommit id inst [a, b] {
              pc := (s.eng id).pc + BitVec.ofNat 32 len, rd := rd, val := aluOp f alt ((s.eng id).reg a) ((s.eng id).reg b) })).settled) ∧
  (∀ (s : State) (id : Fin 512) (f rd a : Nat) (v : Word) (alt : Bool) (extra : Nat) (len : Nat) (inst : Word),
     s.phase = .run → s.engReady id = true → s.engIrq id = none → s.rvFetch id = some (.opImm f rd a v alt, len,
     inst) →
     exec (.engineInstruction id extra) s = .next (s.did (rvCommit id inst [a] {
              pc := (s.eng id).pc + BitVec.ofNat 32 len, rd := rd, val := aluOp f alt ((s.eng id).reg a) v })).settled) ∧
  (∀ (s : State) (id : Fin 512) (f rd a : Nat) (v : Word) (alt : Bool) (extra : Nat) (len : Nat) (inst : Word),
     s.phase = .run → s.engReady id = true → s.engIrq id = none → s.rvFetch id = some (.opImm f rd a v alt, len,
     inst) → rd < (s.eng id).regs.length →
     ∃ t, exec (.engineInstruction id extra) s = .next t ∧ (t.eng id).pc = (s.eng id).pc + BitVec.ofNat 32 len ∧
              ∀ i, (t.eng id).reg i = if i = 0 then 0 else if i = rd then aluOp f alt ((s.eng id).reg a) v else (s.eng id).reg i) ∧
  (∀ (s : State) (id : Fin 512) (f a b : Nat) (off : Word) (extra : Nat) (len : Nat) (inst : Word),
     s.phase = .run → s.engReady id = true → s.engIrq id = none → s.rvFetch id = some (.branch f a b off, len, inst)
     →
     exec (.engineInstruction id extra) s = .next (s.did (rvCommit id inst [a, b] (
              let taken := brTaken f ((s.eng id).reg a) ((s.eng id).reg b);
              let goal := (s.eng id).pc + off;
              { pc := if taken then goal else ((s.eng id).pc + BitVec.ofNat 32 len),
                post := if taken = off.getLsbD 31 then (if taken then [⟨1, 2, 0, goal⟩] else []) else [⟨2, 1, 0, if taken then ((s.eng id).pc + BitVec.ofNat 32 len) else goal⟩],
                evs := (if taken then [(7, 1)] else []) ++ (if taken = off.getLsbD 31 then [] else [(6, 1)]) }))).settled) ∧
  (∀ (s : State) (id : Fin 512) (f rd a : Nat) (off : Word) (extra addr : Nat) (len : Nat) (inst : Word),
     s.phase = .run → s.engReady id = true → s.engIrq id = none → s.rvFetch id = some (.load f rd a off, len, inst) →
     ((s.eng id).reg a + off).toNat % accSize f = 0 → s.engLoc id ((s.eng id).reg a + off).toNat (accSize f) = .die 1
     addr →
     exec (.engineInstruction id extra) s = .next (s.did (rvCommit id inst [a] {
              pc := (s.eng id).pc + BitVec.ofNat 32 len, rd := rd, late := rd,
              val := if f < 3 then BitVec.ofInt 32 (sx (8 * accSize f) (s.engGet (.die 1 addr) (accSize f))) else BitVec.ofNat 32 (s.engGet (.die 1 addr) (accSize f)) })).settled) ∧
  (∀ (s : State) (id : Fin 512) (f a b : Nat) (off : Word) (extra addr : Nat) (len : Nat) (inst : Word),
     s.phase = .run → s.engReady id = true → s.engIrq id = none → s.rvFetch id = some (.store f a b off, len, inst) →
     ((s.eng id).reg a + off).toNat % accSize f = 0 → s.engLoc id ((s.eng id).reg a + off).toNat (accSize f) = .die 1
     addr →
     exec (.engineInstruction id extra) s = .next (s.did (rvCommit id inst [a, b] {
              pc := (s.eng id).pc + BitVec.ofNat 32 len, also := engStore (.die 1 addr) (bytesLE (accSize f) ((s.eng id).reg b).toNat) })).settled) ∧
  (∀ (s : State) (id : Fin 512) (extra : Nat) (len : Nat) (inst : Word),
     s.phase = .run → s.engReady id = true → s.engIrq id = none → s.rvFetch id = some (.illegal, len, inst) →
     exec (.engineInstruction id extra) s = .next (s.did (engTrap id 2 false inst)).settled) ∧
  (∀ (s : State) (id : Fin 512) (len : Nat) (inst : Word),
     s.phase = .run → s.engReady id = true → s.engIrq id = none → s.rvFetch id = some (.ebreak, len, inst) →
     exec (.engineTrap id) s = .next (s.did (engTrap id 3 false (s.eng id).pc)).settled) ∧
  (∀ (s : State) (id : Fin 512) (n : Nat),
     s.phase = .run → s.clRun (id / 64) = true → (s.eng id).st ≠ 4 → s.engIrq id = some n →
     exec (.engineTrap id) s = .next (s.did (engTrap id n true 0)).settled) ∧
  (∀ (s : State) (id cause : Nat) (irq : Bool) (tval : Word),
     (s.eng id).mtvec = 0 →
     s.did (engTrap id cause irq tval) = s.did (seqs [engUpd id fun r => { r with
                st := 4, mcause := BitVec.ofNat 32 (b2n irq * 2 ^ 31 + cause), mtval := tval },
              charge id [⟨1, 1, 0, (s.eng id).pc⟩] [(if irq then 0x14 else 0x13, 1)] (s.eng id).pc, raise (enb (id / 64)) 4,
              report eENG_FAULT (11 + id / 64) (enb (id / 64)) (s.eng id).pc.toNat (id % 64)])) ∧
  (∀ (s : State) (id : Fin 512) (a b : Nat) (len : Nat) (inst : Word),
     s.phase = .run → s.engReady id = true → s.engIrq id = none → s.rvFetch id = some (.cmac 0 a b, len, inst) →
     exec (.cmac id) s = .next (s.did (rvCommit id inst [a, b] {
              pc := (s.eng id).pc + BitVec.ofNat 32 len, upd := fun r => { r with
                accRe := (accNext 0 (s.eng id).accRe (s.eng id).accIm ((s.eng id).reg a) ((s.eng id).reg b)).1,
                accIm := (accNext 0 (s.eng id).accRe (s.eng id).accIm ((s.eng id).reg a) ((s.eng id).reg b)).2, accWait := 3 } })).settled) ∧
  (∀ (s : State) (id : Fin 512) (a b : Nat) (len : Nat) (inst : Word),
     s.phase = .run → s.engReady id = true → s.engIrq id = none → s.rvFetch id = some (.cmac 1 a b, len, inst) →
     exec (.cmacj id) s = .next (s.did (rvCommit id inst [a, b] {
              pc := (s.eng id).pc + BitVec.ofNat 32 len, upd := fun r => { r with
                accRe := (accNext 1 (s.eng id).accRe (s.eng id).accIm ((s.eng id).reg a) ((s.eng id).reg b)).1,
                accIm := (accNext 1 (s.eng id).accRe (s.eng id).accIm ((s.eng id).reg a) ((s.eng id).reg b)).2, accWait := 3 } })).settled) ∧
  (∀ (s : State) (id : Fin 512) (a b : Nat) (len : Nat) (inst : Word),
     s.phase = .run → s.engReady id = true → s.engIrq id = none → s.rvFetch id = some (.cmac 2 a b, len, inst) →
     exec (.cmul id) s = .next (s.did (rvCommit id inst [a, b] {
              pc := (s.eng id).pc + BitVec.ofNat 32 len, upd := fun r => { r with
                accRe := (accNext 2 (s.eng id).accRe (s.eng id).accIm ((s.eng id).reg a) ((s.eng id).reg b)).1,
                accIm := (accNext 2 (s.eng id).accRe (s.eng id).accIm ((s.eng id).reg a) ((s.eng id).reg b)).2, accWait := 3 } })).settled) ∧
  (∀ (s : State) (id : Fin 512) (rd b : Nat) (len : Nat) (inst : Word),
     s.phase = .run → s.engReady id = true → s.engIrq id = none → s.rvFetch id = some (.accrd rd b, len, inst) →
     exec (.accrd id) s = .next (s.did (rvCommit id inst [b] {
              pc := (s.eng id).pc + BitVec.ofNat 32 len, rd := rd, hold := (s.eng id).accWait, cause := 0x10,
              val := accPacked (s.eng id).accRe (s.eng id).accIm (((s.eng id).reg b).toNat % 32) })).settled) ∧
  (∀ (s : State) (id : Fin 512) (rd a b : Nat) (len : Nat) (inst : Word),
     s.phase = .run → s.engReady id = true → s.engIrq id = none → s.rvFetch id = some (.msend rd a b, len, inst) →
     s.mailStatus id ((s.eng id).reg a) = some 0 →
     exec (.msend id) s = .next (s.did (rvCommit id inst [a, b] {
              pc := (s.eng id).pc + BitVec.ofNat 32 len, rd := rd, val := 0,
              also := fun t => [.mails (t.mails ++ [⟨id, ((s.eng id).reg a).toNat, (s.eng id).reg b, t.ticks⟩])] })).settled) ∧
  (∀ (s : State) (id : Fin 512) (rd a b : Nat) (len : Nat) (inst : Word),
     s.phase = .run → s.engReady id = true → s.engIrq id = none → s.rvFetch id = some (.msend rd a b, len, inst) →
     s.mailStatus id ((s.eng id).reg a) = some 1 →
     exec (.msend id) s = .next (s.did (rvCommit id inst [a, b] {
              pc := (s.eng id).pc + BitVec.ofNat 32 len, rd := rd, val := 1, evs := [(0x11, 1)],
              also := if ((s.eng id).reg a).toNat = 0x3FF then raise (enb (id / 64)) 6 else skip })).settled) ∧
  (∀ (s : State) (id : Fin 512) (rd a from' : Nat) (x : Word) (l : List (Nat × Word)) (len : Nat) (inst : Word),
     s.phase = .run → s.engReady id = true → s.engIrq id = none → s.rvFetch id = some (.mrecv rd a, len, inst) →
     (s.eng id).fifo = (from', x) :: l →
     exec (.mrecv id) s = .next (s.did (rvCommit id inst [a] {
              pc := (s.eng id).pc + BitVec.ofNat 32 len, hold := 1, cause := 0xD, evs := [(0x12, 1)],
              upd := fun r => r.takeWord rd })).settled) ∧
  (∀ (s : State) (id : Fin 512) (rd a : Nat) (len : Nat) (inst : Word),
     s.phase = .run → s.engReady id = true → s.engIrq id = none → s.rvFetch id = some (.mrecv rd a, len, inst) →
     (s.eng id).fifo = [] → ((s.eng id).reg a).toNat ≠ 0 →
     exec (.mrecv id) s = .next (s.did (engUpd id fun r => { r with
                st := 2, rd := rd, limit := ((s.eng id).reg a).toNat, tick := s.ticks, len := len })).settled) ∧
  (∀ (s : State) (id : Fin 512) (rd a b : Nat) (w : Bool) (len : Nat) (inst : Word),
     s.phase = .run → s.engReady id = true → s.engIrq id = none → s.rvFetch id = some (.waitt rd a b w, len, inst) →
     (((s.eng id).reg b).zeroExtend 64 <<< 32) ||| ((s.eng id).reg a).zeroExtend 64 ≤ s.nowNs →
     exec (.waitt id) s = .next (s.did (rvCommit id inst [a, b] {
              pc := (s.eng id).pc + BitVec.ofNat 32 len, rd := rd, val := 0, hold := 1, cause := 0xE })).settled) ∧
  (∀ (s : State) (id : Fin 512) (rd a b : Nat) (t : BitVec 64) (len : Nat) (inst : Word),
     s.phase = .run → s.engReady id = true → s.engIrq id = none → s.rvFetch id = some (.waitt rd a b false, len,
     inst) → t = ((((s.eng id).reg b).zeroExtend 64 <<< 32) ||| ((s.eng id).reg a).zeroExtend 64) → s.nowNs < t →
     exec (.waitt id) s = .next (s.did (engUpd id fun r => { r with
                st := 1, rd := rd, target := t, wake := false, tick := s.ticks, len := len })).settled) ∧
  (∀ (s : State) (id : Fin 512) (rd a : Nat) (off x : Word) (extra : Nat) (len : Nat) (inst : Word),
     s.phase = .run → s.engReady id = true → s.engIrq id = none → s.rvFetch id = some (.brd rd a off, len, inst) → x
     = (s.eng id).reg a + off → x.toNat % 4 = 0 → s.engDenied (id / 64) x.toNat = false →
     exec (.brd id extra) s = .next (s.did (rvCommit id inst [a] {
              pc := (s.eng id).pc + BitVec.ofNat 32 len, rd := rd, hold := extra, cause := 0xB, val := s.busValue (0x10 + id / 64) x.toNat,
              also := busReadFx (0x10 + id / 64) x.toNat })).settled) ∧
  (∀ (s : State) (id : Fin 512) (a b : Nat) (off x : Word) (extra : Nat) (len : Nat) (inst : Word),
     s.phase = .run → s.engReady id = true → s.engIrq id = none → s.rvFetch id = some (.bwr a b off, len, inst) → x =
     (s.eng id).reg a + off → x.toNat % 4 = 0 → s.engDenied (id / 64) x.toNat = false →
     exec (.bwr id extra) s = .next (s.did (rvCommit id inst [a, b] {
              pc := (s.eng id).pc + BitVec.ofNat 32 len, hold := extra, cause := 0xC,
              also := busWrite (0x10 + id / 64) x.toNat ((s.eng id).reg b) })).settled) ∧
  (∀ (s : State) (id : Nat) (inst next : Word) (rd rs1 : Nat) (a : Word) (extra : Nat),
     a.toNat % 4 = 0 → s.engDenied (id / 64) a.toNat = true →
     s.did (brdDo id inst next rd rs1 a extra) = s.did (rvCommit id inst [rs1] {
              pc := next, rd := rd, val := 0, hold := extra, cause := 0xB, also := fincSat (enb (id / 64)) ENG.DENY_CNT_COUNT 1 })) ∧
  (∀ (s : State) (i : Fin 512) (dst : Fin 1024) (m : MailRec),
     s.phase = .run → (s.mails.find? fun x => x.src == i.val && x.dst == dst.val) = some m → dst.val ≠ 0x3FF → s.clUp
     (dst / 64) = true →
     exec (.mailboxDelivery i dst) s = .next (s.did (seqs [
              clockTo (m.tick + if dst.val / 64 = i.val / 64 then 11 else 80), fun t => [.mails (t.mails.erase m)],
              engUpd dst fun r => { r with fifo := r.fifo ++ [(i.val, m.word)] }])).settled) ∧
  (∀ (s : State) (i : Nat) (m : MailRec),
     (s.mails.find? fun x => x.src == i && x.dst == 0x3FF) = some m → s.clUp (i / 64) = true →
     s.did (mailDeliver i 0x3FF) = s.did (seqs [clockTo (m.tick + 11), fun t => [.mails (t.mails.erase m)],
              clUpd (i / 64) fun r => { r with host := r.host ++ [(i, m.word)] }, raise (enb (i / 64)) 5])) ∧
  (∀ (s : State) (id : Fin 512),
     s.phase = .run → s.clRun (id / 64) = true → (s.eng id).st = 2 → (s.eng id).fifo ≠ [] →
     exec (.mrecvEnd id) s = .next (s.did (waitFinish id 0xD (fun r => r.takeWord r.rd) [(0x12, 1)])).settled) ∧
  (∀ (s : State) (id : Nat),
     s.clRun (id / 64) = true → (s.eng id).st = 2 → (s.eng id).fifo = [] → (s.eng id).limit ≠ 0xFFFFFFFF →
     s.did (mrecvEnd id) = s.did (seqs [clockTo ((s.eng id).tick + ((s.eng id).limit * 2 + 2) / 3),
              waitFinish id 0xD (fun r => r.takeWord r.rd) []])) ∧
  (∀ (s : State) (id : Fin 512),
     s.phase = .run → s.clRun (id / 64) = true → (s.eng id).st = 1 → (s.eng id).wake = false →
     exec (.waittEnd id) s = .next (s.did (seqs [deviceTo (s.eng id).target.toNat, waitFinish id 0xE (fun r => r.put r.rd 0) []])).settled)

/-- LOAD_GO starts a load of a halted cluster; refused while it loads, with its engines running, or for an owner program
in a closed cluster. A load that ends reports LOADED or LOAD_FAIL with its cause. A write of CL_CTL halts the engines
or releases them at ENTRY. A write of word 0 of a COUNT entry sets the counter with the high part held. RESUME
restarts frozen counters, LEG_RD copies an engine's counters. A full sample writes its record into its ring with its
event. HOST_MB_TX sends a word to the engine selected with room, else is refused with MB_FULL; a read of HOST_MB_RX
takes the head and latches its sender. -/
def Obligations.ClustersLoadCountAndTrace : Prop :=
  (∀ (s : State) (src : Requester) (k : Fin 8) (v : Word),
     s.serves src ⟨.eng, k.val⟩ →
     exec (.loadGo src k v) s = .next (s.did (clCtlWrite src.id k (setF v ENG.CL_CTL_LOAD_GO 1))).settled) ∧
  (∀ (s : State) (src k : Nat),
     s.fb (enb k) ENG.CL_STAT_LOADING = false → s.fb (enb k) ENG.CL_STAT_HALTED = true → (s.fb (enb k)
     ENG.CL_CTL_LOAD_SRC = true ∨ (4 ≤ k ∧ k ≠ 7)) →
     s.did (loadGo src k) = s.did (fbset (enb k) ENG.CL_STAT_LOADING true)) ∧
  (∀ (s : State) (src k : Nat),
     s.fb (enb k) ENG.CL_STAT_LOADING = false → s.fb (enb k) ENG.CL_STAT_HALTED = false →
     s.did (loadGo src k) = s.did (seqs [errPage (enb k) ENG.CL_CTL src cENG_NOT_HALTED,
              fset (enb k) ENG.CL_STAT_LOAD_RES 5, raise (enb k) 1])) ∧
  (∀ (s : State) (src k : Nat),
     s.fb (enb k) ENG.CL_STAT_LOADING = false → s.fb (enb k) ENG.CL_STAT_HALTED = true → s.fb (enb k)
     ENG.CL_CTL_LOAD_SRC = false → (k < 4 ∨ k = 7) →
     s.did (loadGo src k) = s.did (seqs [errPage (enb k) ENG.CL_CTL src cENG_CLOSED,
              fset (enb k) ENG.CL_STAT_LOAD_RES 6, raise (enb k) 1])) ∧
  (∀ (s : State) (k : Fin 8) (n : Nat),
     s.phase = .run → s.fb (enb k) ENG.CL_STAT_LOADING = true → s.fb (enb k) ENG.CL_CTL_LOAD_SRC = false →
     s.loadResult k = n →
     exec (.loadDone k) s = .next (s.did (seqs [fbset (enb k) ENG.CL_STAT_LOADING false,
              if n = 1 then seqs [ownerLoad k, fset (enb k) ENG.CL_STAT_LOAD_RES 1, raise (enb k) 0]
              else seqs [fset (enb k) ENG.CL_STAT_LOAD_RES n, raise (enb k) 1]])).settled) ∧
  (∀ (s : State) (k : Nat),
     s.fb (enb k) ENG.CL_STAT_LOADING = true → s.fb (enb k) ENG.CL_CTL_LOAD_SRC = true →
     s.did (loadDone k) = s.did (seqs [fbset (enb k) ENG.CL_STAT_LOADING false,
              vendorLoad k, fset (enb k) ENG.CL_STAT_LOAD_RES 1, raise (enb k) 0])) ∧
  (∀ (s : State) (src : Requester) (k : Fin 8) (v : Word),
     s.serves src ⟨.eng, k.val⟩ → wroteB v ENG.CL_CTL_LOAD_GO = false → wroteB v ENG.CL_CTL_RESUME = false → wroteB v
     ENG.CL_CTL_LEG_RD = false →
     exec (.haltWrite src k v) s = .next (s.did (seqs [rset (enb k + ENG.CL_CTL) (v &&& 0x3D),
              if (s.fb (enb k) ENG.CL_CTL_HALT && !wroteB v ENG.CL_CTL_HALT) = true then haltRelease k else skip, haltEval k])).settled) ∧
  (∀ (s : State) (src : Requester) (k : Fin 8) (e : Fin 576) (v : Word) (t : State),
     s.windowServes src ⟨.eng, k.val⟩ → t = s.select ⟨.eng, k.val⟩ 0 e.val → e.val % 9 ≠ 0 →
     exec (.counterWrite src k e v) s = .next ((t.did (seqs [
              engUpd (64 * k + e / 9) fun r => { r with
                pmcs := r.pmcs.set (e % 9 - 1) (((((t.cl k).held.find? fun x => x.1 == e.val).map Prod.snd).getD ((t.eng (64 * k + e / 9)).pmcs.getD (e % 9 - 1) 0 / 2 ^ 32)) * 2 ^ 32 + v.toNat) },
              clUpd k fun r => { r with held := r.held.filter fun x => x.1 != e.val }])).winDone ⟨.eng, k.val⟩ 0)) ∧
  (∀ (s : State) (src : Requester) (k : Fin 8) (v : Word),
     s.serves src ⟨.eng, k.val⟩ →
     exec (.resume src k v) s = .next (s.did (clCtlWrite src.id k (setF v ENG.CL_CTL_RESUME 1))).settled) ∧
  (∀ (s : State) (src k : Nat) (v : Word),
     wroteB v ENG.CL_CTL_HALT = true → wroteB v ENG.CL_CTL_LOAD_GO = false → wroteB v ENG.CL_CTL_LEG_RD = false →
     wroteB v ENG.CL_CTL_RESUME = true → s.fb (enb k) ENG.CL_STAT_HALTED = true →
     s.did (clCtlWrite src k v) = s.did (seqs [rset (enb k + ENG.CL_CTL) (v &&& 0x3D), fbset (enb k) ENG.CL_STAT_FROZEN false])) ∧
  (∀ (s : State) (src : Requester) (k : Fin 8) (v : Word),
     s.serves src ⟨.eng, k.val⟩ →
     exec (.legRd src k v) s = .next (s.did (clCtlWrite src.id k (setF v ENG.CL_CTL_LEG_RD 1))).settled) ∧
  (∀ (s : State) (id : Fin 512) (t : TrcRec),
     s.phase = .run → (s.eng id).trc = some t → 16 ≤ t.strip.length →
     exec (.traceRecord id) s = .next (s.did (seqs [fun _ => [
                .tabs (engKey (id / 64) 3 (id % 64 * 4 + (s.eng id).seq % 4) 0) (BitVec.ofNat 32 (((s.eng id).seq + 1) % 65536 + 65536)),
                .tabs (engKey (id / 64) 3 (id % 64 * 4 + (s.eng id).seq % 4) 1) (BitVec.ofNat 32 t.pc.toNat),
                .tabs (engKey (id / 64) 3 (id % 64 * 4 + (s.eng id).seq % 4) 2) (BitVec.ofNat 32 t.inst.toNat),
                .tabs (engKey (id / 64) 3 (id % 64 * 4 + (s.eng id).seq % 4) 3) (BitVec.ofNat 32 (min 255 t.wait + 0x10100 + min 255 (t.wait + 3) * 2 ^ 24)),
                .tabs (engKey (id / 64) 3 (id % 64 * 4 + (s.eng id).seq % 4) 4) (BitVec.ofNat 32 (t.outcome + t.cause * 16)),
                .tabs (engKey (id / 64) 3 (id % 64 * 4 + (s.eng id).seq % 4) 5) (BitVec.ofNat 32 t.time.toNat),
                .tabs (engKey (id / 64) 3 (id % 64 * 4 + (s.eng id).seq % 4) 6) (BitVec.ofNat 32 (t.strip.zipIdx.foldl (fun n c => n + c.1 * 4 ^ c.2) 0))],
              engUpd id fun r => { r with trc := none, seq := r.seq + 1 }, raise (enb (id / 64)) 3])).settled) ∧
  (∀ (s : State) (src : Requester) (k : Fin 8) (v : Word) (i : Nat),
     s.serves src ⟨.eng, k.val⟩ → i = 64 * k + s.fg (enb k) ENG.ENG_SEL_E → s.mailRoom 0 i = true →
     exec (.hostMbTx src k v) s = .next (s.did (engUpd i fun r => { r with fifo := r.fifo ++ [(0x3FF, v)] })).settled) ∧
  (∀ (s : State) (src k : Nat) (v : Word),
     s.mailRoom 0 (64 * k + s.fg (enb k) ENG.ENG_SEL_E) = false →
     s.did (hostMbTx src k v) = s.did (seqs [errPage (enb k) ENG.HOST_MB_TX src cMB_FULL, raise (enb k) 6])) ∧
  (∀ (s : State) (k : Fin 8) (from' : Nat) (w : Word) (l : List (Nat × Word)),
     s.up ⟨.eng, k.val⟩ → (s.cl k).host = (from', w) :: l →
     exec (.hostMbRx .host k) s = .next ((s.did (seqs [clUpd k fun r => { r with host := l },
              rset (enb k + ENG.HOST_MB_SRC) (BitVec.ofNat 32 (2 ^ 31 + l.length * 65536 + from'))])).apply (.rdata w.toNat)).settled)

/-- A write of VLG_CTL takes the written bits, RETRAIN reading 0, is evaluated, and retrains a linked port; IDLE_REQ while
the port is needed is counted with IDLE_BUSY and leaves the bit. Training that ends links the port, all lanes aligned,
with its event, and the far receiver sets the taps under AUTO_EQ. Without a link in 5 ms TRAIN_FAIL is counted and
raised. An idle exit that fails after 1 us sends the port to TRAIN with its event. A received block counts its
codeword; TS words of a transit range go to their carrier, those of a remote member to their suit. A suit record of a
transit range is kept to be sent; one of a remote member is kept and acts when two in a row agree. A transit entry is
taken with room and no overlap, else refused with VLG_FULL or TS_OVERLAP. -/
def Obligations.VelaugLinksTrainIdleAndCarry : Prop :=
  (∀ (s : State) (src : Requester) (p : Fin 4) (v : Word) (r : RegRow),
     s.serves src ⟨.vlg, p.val⟩ → regRow ⟨.vlg, p.val⟩ VLG.VLG_CTL = some r → wroteB v VLG.VLG_CTL_IDLE_REQ = false →
     wroteB v VLG.VLG_CTL_RETRAIN = false →
     exec (.vlgEnable src p v) s = .next (s.did (seqs [
              rset (vb p + VLG.VLG_CTL) (r.merge (s.reg (vb p + VLG.VLG_CTL)) v &&& ~~~8), vlgEval p])).settled) ∧
  (∀ (s : State) (p : Nat),
     s.vOn p = true → s.vSt p = vDOWN →
     s.did (vlgEval p) = s.did (vlgTrain p)) ∧
  (∀ (s : State) (p : Nat),
     s.vOn p = false → s.vSt p ≠ vDOWN →
     s.did (vlgEval p) = s.did (vlgDown p)) ∧
  (∀ (s : State) (p : Fin 4),
     s.phase = .run → s.vSt p = vTRAIN → s.fb (vb p) VLG.VLG_CTL_AUTO_EQ = false →
     ∃ t, exec (.linkUp p) s = .next t.vlgDone ∧ t = s.did (seqs [
              if (s.vlg p).failed = true then clockEnd (tPause p) 10000000 else skip, fset (vb p) VLG.VLG_STAT_STATE vLINKED,
              fset (vb p) VLG.VLG_STAT_LANE_AL 255, fbset (vb p) VLG.VLG_STAT_CLK_LOCK true, timerStop (tVTrain p), timerStop (tPause p),
              vlgUpd p fun r => { r with failed := false, bad := 0, frameBad := false }, raise (vb p) 0,
              fun t => if t.stSt = kDEALER then helloSend t else []])) ∧
  (∀ (s : State) (p : Nat),
     s.vSt p = vTRAIN → s.fb (vb p) VLG.VLG_CTL_AUTO_EQ = true →
     s.did (linkUp p) = s.did (seqs [
              if (s.vlg p).failed = true then clockEnd (tPause p) 10000000 else skip, fset (vb p) VLG.VLG_STAT_STATE vLINKED,
              fset (vb p) VLG.VLG_STAT_LANE_AL 255, fbset (vb p) VLG.VLG_STAT_CLK_LOCK true, timerStop (tVTrain p), timerStop (tPause p),
              vlgUpd p fun r => { r with failed := false, bad := 0, frameBad := false },
              withFree fun w => seqs [fset (vb p) VLG.TX_EQ_PRE (64 - bitsGet w 0 8 % 20), fset (vb p) VLG.TX_EQ_POST (64 - bitsGet w 8 8 % 26)],
              raise (vb p) 0, fun t => if t.stSt = kDEALER then helloSend t else []])) ∧
  (∀ (s : State) (p : Fin 4),
     s.phase = .run → s.vSt p = vTRAIN → (s.vlg p).failed = false → s.running (tVTrain p) = true →
     exec (.vlgTrainTimeout p) s = .next ((s.did (seqs [clockEnd (tVTrain p) 5000000,
              fincSat (vb p) ⟨VLG.TRAIN_CNT, 0, 16⟩ 1, raise (vb p) 2, timerStop (tVTrain p), timerStart (tPause p),
              vlgUpd p fun r => { r with failed := true }])).vlgDone)) ∧
  (∀ (s : State) (src : Requester) (p : Fin 4) (v : Word) (r : RegRow),
     s.serves src ⟨.vlg, p.val⟩ → regRow ⟨.vlg, p.val⟩ VLG.VLG_CTL = some r → wroteB v VLG.VLG_CTL_IDLE_REQ = false →
     s.vSt p = vLINKED →
     exec (.retrain src p v) s = .next (s.did (seqs [
              rset (vb p + VLG.VLG_CTL) (r.merge (s.reg (vb p + VLG.VLG_CTL)) (setF v VLG.VLG_CTL_RETRAIN 1) &&& ~~~8), vlgEval p,
              fun t => if t.vSt p = vLINKED then vlgUnlink p t else []])).settled) ∧
  (∀ (s : State) (src : Requester) (p : Fin 4) (v : Word) (r : RegRow),
     s.serves src ⟨.vlg, p.val⟩ → regRow ⟨.vlg, p.val⟩ VLG.VLG_CTL = some r → wroteB v VLG.VLG_CTL_RETRAIN = false →
     exec (.idleReqWrite src p v) s = .next (s.did (
              let busy := wroteB v VLG.VLG_CTL_IDLE_REQ && s.idleBusy p;
              seqs [rset (vb p + VLG.VLG_CTL) (r.merge (s.reg (vb p + VLG.VLG_CTL))
                  (if busy then bitsPut v 2 1 (s.fg (vb p) VLG.VLG_CTL_IDLE_REQ) else v) &&& ~~~8),
                if busy then errPage (vb p) VLG.VLG_CTL src.id cIDLE_BUSY else skip, vlgEval p])).settled) ∧
  (∀ (s : State) (p : Nat),
     s.vOn p = true → s.vSt p = vLINKED → s.fb (vb p) VLG.VLG_CTL_IDLE_REQ = true → (s.vlg p).peerIdle = true →
     s.idleBusy p = false →
     s.did (vlgEval p) = s.did (seqs [fset (vb p) VLG.VLG_STAT_STATE vIDLE, fbset (vb p) VLG.VLG_STAT_LOL false,
              fbset (vb p) VLG.VLG_STAT_LOL_RAW false, vlgUpd p fun r => { r with run := 0 }, raise (vb p) 5])) ∧
  (∀ (s : State) (p : Fin 4),
     s.phase = .run → s.vSt p = vLINKED → s.running (tBurst p) = true →
     exec (.idleExitFail p) s = .next ((s.did (seqs [clockEnd (tBurst p) 1000, vlgTrain p, raise (vb p) 6])).vlgDone)) ∧
  (∀ (s : State) (p : Fin 4) (q : VlgBlock) (e : Nat),
     s.phase = .run → s.vSt p = vLINKED → s.fb (vb p) VLG.VLG_STAT_PEER_DUP = false → q.header.toNat / 2 ^ 16 = 1 →
     q.unc = false → q.cor = false → s.transitFor p (q.header.toNat / 2 ^ 8 % 256) (q.header.toNat / 2 ^ 4 % 16) =
     some e →
     exec (.vlgBlockReceived p q) s = .next ((s.did (seqs [
              vlgUpd p fun r => { r with
                frameBad := (s.vlg p).frameBad && !q.last,
                bad := if q.last then (if (s.vlg p).frameBad then r.bad + 1 else 0) else r.bad },
              emit (.tsWords (bitsGet (s.transit p e 0) 2 2) (if (s.transit p e 0).getLsbD 1 then some (bitsGet (s.transit p e 0) 8 6) else none)
                (q.header.toNat / 2 ^ 8 % 256) (q.header.toNat / 2 ^ 4 % 16) (bitOf q.header.toNat 3) (bitOf q.header.toNat 2) q.words)])).vlgDone)) ∧
  (∀ (s : State) (p : Nat) (q : VlgBlock),
     s.vSt p = vTRAIN → q.unc = true → q.last = true →
     s.did (vlgBlock p q) = s.did (seqs [fincSat (vb p) ⟨VLG.FEC_UNC_CNT, 0, 32⟩ 1,
              vlgUpd p fun r => { r with frameBad := false, bad := r.bad + 1 }])) ∧
  (∀ (s : State) (p : Fin 4) (r : SuitRecord) (e : Nat),
     s.phase = .run → s.vSt p = vLINKED → s.transitFor p (slotBits r.a 55 8) (slotBits r.a 40 4) = some e →
     exec (.suitRec p r) s = .next ((s.did (vlgUpd p fun q => { q with sendRecs := (e, r) :: q.sendRecs.filter fun x => x.1 != e })).vlgDone)) ∧
  (∀ (s : State) (p id : Nat) (r : SuitRecord),
     s.vSt p = vLINKED → s.transitFor p (slotBits r.a 55 8) (slotBits r.a 40 4) = none → s.remoteMember p (slotBits
     r.a 55 8) (slotBits r.a 40 4) = true → id = slotBits r.a 55 8 * 16 + slotBits r.a 40 4 → ((s.vlg p).backRecs.any
     fun x => x.1 == id && x.2.b == r.b && x.2.c == r.c && x.2.a.toNat / 2 ^ 32 == r.a.toNat / 2 ^ 32) = true →
     s.did (suitRec p r) = s.did (seqs [
              vlgUpd p fun q => { q with backRecs := (id, r) :: q.backRecs.filter fun x => x.1 != id }, suitMessage r])) ∧
  (∀ (s : State) (src : Requester) (p : Fin 4) (e : Fin 32) (v : Word) (t : State),
     s.windowServes src ⟨.vlg, p.val⟩ → t = s.select ⟨.vlg, p.val⟩ 0 e.val → (t.transit p e 0).getLsbD 0 = false →
     t.vlgTs p t.suitIds + bitsGet (t.transit p e 1) 8 8 ≤ 64 → t.transitMeets p e (v ||| 1) (t.transit p e 1) =
     false → t.transitBad (v ||| 1) (t.transit p e 1) = false →
     exec (.transitEnable src p e v) s = .next ((t.did fun _ => [.tabs (tabKey (vb p) 0 e 0) ((v ||| 1) &&& 0x0FFF3F0F)]).winDone ⟨.vlg, p.val⟩ 0)) ∧
  (∀ (s : State) (src p e : Nat) (v : Word),
     (s.transit p e 0).getLsbD 0 = false → v.getLsbD 0 = true → 64 < s.vlgTs p s.suitIds + bitsGet (s.transit p e 1)
     8 8 →
     s.did (vlgTab src p e 0 v) = s.did (errPage (vb p) (oWIN_DATA 0) src cVLG_FULL))

/-- A first HELLO of a dealer of the module's stack joins it: state, dealer port and position, members, event. HELLO goes
out on linked ports. A heartbeat restarts its limit; five missed lose the peer. A member that loses its dealer becomes
ORPHAN, cancels the dealer's deals, frees its locks and raises DEALER_LOST. TIME is answered with TIME_RPT, that with
TIME_END, which sets the link delay, the time error and the VLG reference's phase error. A member latches a stack call
at T, or at once if late. A member's CALL_REQ makes the dealer issue a call. MGMT_GO sends an access to a member or is
refused with MGMT_BUSY; a member serves it as requester DEALER and replies; the reply or 20 us end it. LEAVE,
MEMBER_GONE and a lost member clear the position, the dealer telling the others. Writes of STACK_CFG and LEAVE move
the state. -/
def Obligations.TheStackJoinsLeavesAndServes : Prop :=
  (∀ (s : State) (p pos : Fin 4) (stack : Byte) (dealer taken : Bool) (serial : BitVec 48),
     s.phase = .run → s.vSt p = vLINKED → s.stackOn = false →
     exec (.vlgHello p stack pos dealer serial taken) s = .next ((s.did (vlgHello p stack.toNat pos dealer serial taken)).vlgDone) ∧
              (s.did (vlgHello p stack.toNat pos dealer serial taken)).reg (vb p + VLG.PEER)
                = BitVec.ofNat 32 (2 ^ 31 + b2n dealer * 2 ^ 17 + pos * 2 ^ 12 + stack.toNat)) ∧
  (∀ (s : State) (p pos stack : Nat) (serial : BitVec 48),
     s.vSt p = vLINKED → s.linked = [p] → s.stackOn = true → stack = s.fg vb0 VLG.STACK_CFG_STACK_ID → s.stSt =
     kALONE → s.fb (vb p) VLG.VLG_STAT_PEER_DUP = false → s.reg (vb p + VLG.PEER) = BitVec.ofNat 32 (2 ^ 31 + 2 ^ 17
     + pos * 2 ^ 12 + stack) → s.reg (vb p + VLG.PEER_SER_LO) = serial.extractLsb' 0 32 → s.reg (vb p +
     VLG.PEER_SER_HI) = (serial.extractLsb' 32 16).zeroExtend 32 →
     s.did (vlgHello p stack pos true serial false) = s.did (seqs [
              rset (vb p + VLG.PEER) (s.reg (vb p + VLG.PEER)), rset (vb p + VLG.PEER_SER_LO) (s.reg (vb p + VLG.PEER_SER_LO)),
              rset (vb p + VLG.PEER_SER_HI) (s.reg (vb p + VLG.PEER_SER_HI)), fbset (vb p) VLG.VLG_STAT_PEER_DUP false, stackJoin p pos])) ∧
  (∀ (s : State),
     s.phase = .run →
     exec .helloSend s = .next ((s.did (forP s.linked fun p => emit (.ctl p 1 [
              s.fg vb0 VLG.STACK_CFG_STACK_ID, s.fg vb0 VLG.STACK_CFG_POS, b2n (s.stSt == kDEALER), Config.serial.toNat]))).vlgDone)) ∧
  (∀ (s : State) (p : Fin 4),
     s.phase = .run → s.vSt p = vLINKED →
     exec (.heartbeat p) s = .next ((s.did (timerStart (tHeart p))).vlgDone)) ∧
  (∀ (s : State) (p : Fin 4),
     s.phase = .run → s.stSt = kJOINED → s.dealerPort = p → s.running (tHeart p) = true →
     exec (.heartbeatMiss p) s = .next ((s.did (seqs [clockEnd (tHeart p) 10000, timerStop (tHeart p),
              fincSat (vb p) ⟨VLG.HB_MISS_CNT, 0, 32⟩ 5, linkGone p])).vlgDone)) ∧
  (∀ (s : State),
     s.phase = .run → s.stSt = kJOINED →
     exec .dealerLost s = .next ((s.did (seqs [fset vb0 VLG.STACK_STAT_STATE kORPHAN, dealsDealerLost, locksFree 3, raise vb0 9,
              memberBit (s.fg vb0 VLG.STACK_STAT_DEALER_POS) false, refsEval])).vlgDone)) ∧
  (∀ (s : State) (p : Fin 4) (t1 t2 t3 : BitVec 80),
     s.phase = .run → s.stSt = kJOINED → s.dealerPort = p → s.vSt p = vLINKED →
     exec (.timeMsg p t1 t2 t3) s = .next ((s.did (seqs [vlgUpd p fun r => { r with t1 := some t1, t2 := t2, t3 := t3 },
              emit (.ctl p 4 [t2.toNat, t3.toNat])])).vlgDone)) ∧
  (∀ (s : State) (p : Fin 4) (t2 t3 t4 : BitVec 80),
     s.phase = .run → s.stSt = kDEALER → s.peerOk p = true → s.vSt p = vLINKED →
     exec (.timeRpt p t2 t3 t4) s = .next ((s.did (emit (.ctl p 5 [t4.toNat]))).vlgDone)) ∧
  (∀ (s : State) (p : Fin 4) (t1 t4 : BitVec 80),
     s.phase = .run → (s.vlg p).t1 = some t1 → s.stSt = kJOINED → s.dealerPort = p → s.vSt p = vLINKED →
     let d : Int := (psOf (s.vlg p).t2 t1 + psOf t4 (s.vlg p).t3) / 2 + Config.vlgCal p;
              let e : Int := psOf (s.vlg p).t2 t1 - d;
              exec (.timeEnd p t4) s = .next ((s.did (seqs [vlgUpd p fun r => { r with t1 := none },
                rset (vb p + VLG.LINK_DLY) (BitVec.ofInt 32 d), rset (vb0 + VLG.STACK_TIME_ERR) (BitVec.ofInt 32 (clampS 32 e)),
                refPhase 12 e])).vlgDone)) ∧
  (∀ (s : State) (p : Fin 4) (num : BitVec 16) (x : BitVec 64),
     s.phase = .run → s.stSt = kJOINED → s.dealerPort = p → bitOf (s.fg snb SNAP.SRC_EN_SRC) cDEALER = true →
     exec (.stackCall p num x) s = .next ((s.did (seqs [fbset vb0 VLG.STACK_STAT_CALL_LATE (decide (x.toNat ≤ s.nowNs.toNat)),
              if x.toNat ≤ s.nowNs.toNat then callLatch num.toNat s.nowNs (2 ^ cDEALER)
              else fun u => [.calls { u.calls with ahead := u.calls.ahead ++ [⟨num.toNat, x, 2 ^ cDEALER⟩] }]])).vlgDone)) ∧
  (∀ (s : State) (p : Fin 4),
     s.phase = .run → s.stSt = kDEALER → s.memberPorts.contains p.val = true →
     exec (.callReq p) s = .next ((s.did (wantCall cMEMBER)).vlgDone)) ∧
  (∀ (s : State) (v : Word) (p : Nat),
     s.serves .host ⟨.vlg, 0⟩ → s.fb vb0 VLG.MGMT_STAT_BUSY = false → s.stSt = kDEALER → bitOf (s.fg vb0
     VLG.STACK_STAT_MEMBERS) (s.fg vb0 VLG.MGMT_ADDR_POS) = true → s.peerPort (s.fg vb0 VLG.MGMT_ADDR_POS) = some p →
     wroteB v VLG.MGMT_CMD_WRITE = false →
     exec (.mgmtGo .host v) s = .next (s.did (seqs [rset (vb0 + VLG.MGMT_STAT) 1, timerStart tMgmt,
              fun t => [.stack { t.stack with mgmtWrite := false }], emit (.ctl p 13 [s.fg vb0 VLG.MGMT_ADDR_OFS])])).settled) ∧
  (∀ (s : State) (v : Word) (p : Nat),
     wroteB v VLG.MGMT_CMD_GO = true → s.fb vb0 VLG.MGMT_STAT_BUSY = false → s.stSt = kDEALER → bitOf (s.fg vb0
     VLG.STACK_STAT_MEMBERS) (s.fg vb0 VLG.MGMT_ADDR_POS) = true → s.peerPort (s.fg vb0 VLG.MGMT_ADDR_POS) = some p →
     wroteB v VLG.MGMT_CMD_WRITE = true →
     s.did (mgmtGo 1 v) = s.did (seqs [rset (vb0 + VLG.MGMT_STAT) 1, timerStart tMgmt,
              fun t => [.stack { t.stack with mgmtWrite := true }],
              emit (.ctl p 14 [s.fg vb0 VLG.MGMT_ADDR_OFS, (s.reg (vb0 + VLG.MGMT_DATA)).toNat])])) ∧
  (∀ (s : State) (v : Word),
     wroteB v VLG.MGMT_CMD_GO = true → s.fb vb0 VLG.MGMT_STAT_BUSY = true →
     s.did (mgmtGo 1 v) = s.did (errPage vb0 VLG.MGMT_CMD 1 cMGMT_BUSY)) ∧
  (∀ (s : State) (v : Word),
     wroteB v VLG.MGMT_CMD_GO = true → s.fb vb0 VLG.MGMT_STAT_BUSY = false → s.stSt ≠ kDEALER →
     s.did (mgmtGo 1 v) = s.did (seqs [rset (vb0 + VLG.MGMT_STAT) 6, raise vb0 13])) ∧
  (∀ (s : State) (p : Fin 4) (a : BitVec 26),
     s.phase = .run → s.stSt = kJOINED → s.dealerPort = p → s.vSt p = vLINKED → mgmtDenied a.toNat false = false →
     exec (.mgmtRd p a) s = .next ((s.did (readWords 3 a.toNat (fun acc => emit (.ctl p 15
              [acc / 2 ^ (8 * (a.toNat % 4)) % 2 ^ 32, 0])) ((a.toNat % 4 + 7) / 4) 0 0)).vlgDone)) ∧
  (∀ (s : State) (p : Fin 4) (a : BitVec 26) (v : Word),
     s.phase = .run → s.stSt = kJOINED → s.dealerPort = p → s.vSt p = vLINKED → mgmtDenied a.toNat true = false →
     exec (.mgmtWr p a v) s = .next ((s.did (seqs [busWriteN 3 a.toNat (bytesLE 4 v.toNat), emit (.ctl p 15 [0, 0])])).vlgDone)) ∧
  (∀ (s : State) (p : Nat) (a : Nat) (v : Option Word),
     s.stSt = kJOINED → s.dealerPort = p → s.vSt p = vLINKED → mgmtDenied a v.isSome = true →
     s.did (mgmtServe p a v) = s.did (seqs [badAcc false a, emit (.ctl p 15 [0, 1])])) ∧
  (∀ (s : State) (p : Fin 4) (x : Word) (denied : Bool),
     s.phase = .run → s.fb vb0 VLG.MGMT_STAT_BUSY = true → s.vSt p = vLINKED →
     exec (.mgmtRsp p x denied) s = .next ((s.did (seqs [
              rset (vb0 + VLG.MGMT_STAT) (if denied then 10 else 2), timerStop tMgmt, raise vb0 13,
              if (s.stack.mgmtWrite || denied) = true then skip else rset (vb0 + VLG.MGMT_DATA) x])).vlgDone)) ∧
  (∀ (s : State),
     s.phase = .run → s.fb vb0 VLG.MGMT_STAT_BUSY = true → s.running tMgmt = true →
     exec .mgmtTimeout s = .next ((s.did (seqs [clockEnd tMgmt 20000, rset (vb0 + VLG.MGMT_STAT) 14, timerStop tMgmt,
              raise vb0 13])).vlgDone)) ∧
  (∀ (s : State) (p : Fin 4),
     s.phase = .run → s.stSt ≠ kDEALER → s.peerOk p = true →
     exec (.leave p) s = .next ((s.did (memberBit (s.fg (vb p) VLG.PEER_POS) false)).vlgDone)) ∧
  (∀ (s : State) (p pos : Fin 4),
     s.phase = .run → s.stSt = kJOINED → s.dealerPort = p →
     exec (.memberGone p pos) s = .next ((s.did (memberBit pos false)).vlgDone)) ∧
  (∀ (s : State) (p : Fin 4) (pos : Nat),
     s.phase = .run → s.stSt = kDEALER → s.peerOk p = true → pos = s.fg (vb p) VLG.PEER_POS → bitOf (s.fg vb0
     VLG.STACK_STAT_MEMBERS) pos = true → pos ≠ s.fg vb0 VLG.STACK_CFG_POS →
     exec (.memberLost p) s = .next ((s.did (seqs [memberBit pos false,
              forP (s.linked.filter (· != p.val)) fun q => emit (.ctl q 18 [pos]), raise vb0 10])).vlgDone)) ∧
  (∀ (s : State) (src : Requester) (v : Word) (r : RegRow),
     s.serves src ⟨.vlg, 0⟩ → regRow ⟨.vlg, 0⟩ VLG.STACK_CFG = some r → (s.fb vb0 VLG.STACK_CFG_EN = false ∨ wroteB v
     VLG.STACK_CFG_EN = false ∨ s.stack.left = true) →
     exec (.stackEnable src v) s = .next (s.did (seqs [fun t => [.stack { t.stack with left := false }],
              plainWrite vb0 r [⟨VLG.STACK_CFG_CALL_LEAD, 1, 100⟩] v, stackEval])).settled) ∧
  (∀ (s : State) (src : Nat) (v : Word) (r : RegRow),
     s.fb vb0 VLG.STACK_CFG_EN = true → wroteB v VLG.STACK_CFG_EN = true → s.stack.left = false → (s.stSt ≠ kORPHAN ∨
     wroteB v VLG.STACK_CFG_DEALER = false) →
     s.did (stackCfgWrite src r v) = s.did (errPage vb0 VLG.STACK_CFG src cSTACK_LIVE)) ∧
  (∀ (s : State) (src : Requester),
     s.serves src ⟨.vlg, 0⟩ → s.stSt ≠ kALONE →
     exec (.leaveGo src) s = .next (s.did (seqs [fun t => [.stack { t.stack with left := true }], stackLeave])).settled) ∧
  (∀ (s : State) (src : Requester) (v : Word),
     s.serves src ⟨.vlg, 0⟩ → s.fb vb0 VLG.STACK_CFG_EN = true → wroteB v VLG.STACK_CFG_EN = true → s.stack.left =
     false → s.stSt = kORPHAN →
     exec (.dealerWrite src v) s = .next (s.did (seqs [fbset vb0 VLG.STACK_CFG_DEALER true, stackEval])).settled)

/-- A PD_REQ for a domain and state is counted and served: no effect in that state, held for its parent or child, queued
while it moves, refused with its reason, or taken up. A quiesce that ends lets the move begin; one that lasts
QUIESCE_TO aborts the entry with TRANSFER_BUSY and PD_ABORTED. A transition that ends enters its state, raises
PD_DONE, settles the bias and the rail, and serves what waited. An AVSBus attempt acknowledged within 5 mV ends the
operation; else it is counted and repeated up to four. SLEEP with the key enters wake-only or is refused with its
reason; in wake-only, WAKE over I2C or WAKE_N starts the module. Reaching THERM_LIM raises THERMAL_HIGH and reports
it. Rails lost hold the module; rails valid start it. -/
def Obligations.PowerDomainsMoveAndSleep : Prop :=
  (∀ (s : State) (src : Requester) (v : Word),
     s.serves src ⟨.pwr, 0⟩ → v.toNat % 256 < 80 → bitsGet v 8 2 < 3 →
     exec (.pdReq src v) s = .next (s.did (pdArrive [(v.toNat % 256, { st := bitsGet v 8 2, src := src.id, off := PWR.PD_REQ, deal := none })])).settled) ∧
  (∀ (s : State) (src : Nat) (v : Word),
     (80 ≤ v.toNat % 256 ∨ bitsGet v 8 2 = 3) →
     s.did (pdReq src v) = s.did (withFree fun w => pdArrive [(if v.toNat % 256 < 80 then v.toNat % 256 else bitsGet w 0 8 % 80,
              { st := if bitsGet v 8 2 < 3 then bitsGet v 8 2 else bitsGet w 8 8 % 3, src := src, off := PWR.PD_REQ, deal := none })])) ∧
  (∀ (s : State) (d : Nat) (a : PdAsk),
     (s.pd d).step = .idle → (s.pd d).st = a.st →
     s.did (pdServe d a) = s.did (seqs [pdUpd d fun r => { r with queued := none, held := false, completed := satAdd 16 r.completed 1 }, raise pwb 0])) ∧
  (∀ (s : State) (d code : Nat) (a : PdAsk),
     (s.pd d).step = .idle → (s.pd d).st ≠ a.st → s.pdHold d a.st = false → s.pdRefuser d a = some code →
     s.did (pdServe d a) = s.did (seqs [pdUpd d fun r => { r with queued := none, held := false }, pdRefuse d code a])) ∧
  (∀ (s : State) (d : Nat) (a : PdAsk),
     (s.pd d).step = .idle → (s.pd d).st ≠ a.st → s.pdHold d a.st = false → s.pdRefuser d a = none →
     s.did (pdServe d a) = s.did (seqs [pdUpd d fun r => { r with queued := none, held := false }, pdUpd d fun r => { r with step := .rail, ask := a }])) ∧
  (∀ (s : State) (d : Fin 80),
     s.phase = .run → (s.pd d).step = .quiesce →
     exec (.quiesceDone d) s = .next (s.did (seqs [pdUpd d fun r => { r with step := .move }, timerStop (tQuiesce d)])).settled) ∧
  (∀ (s : State) (d : Fin 80) (blocker : Byte),
     s.phase = .run → (s.pd d).step = .quiesce → s.running (tQuiesce d) = true →
     exec (.quiesceTimeout d blocker) s = .next (s.did (seqs [clockEnd (tQuiesce d) (s.fg pwb PWR.PWR_CFG_QUIESCE_TO * 1000),
              fun t => pdUpd d (fun r => { r with
                step := .idle, refuser := pBUSY, blocker := blocker.toNat, aborted := satAdd 16 r.aborted 1, lastT := t.nowNs.toNat % 2 ^ 32 }) t,
              timerStop (tQuiesce d), raise pwb 2, pdRelease d])).settled) ∧
  (∀ (s : State) (d : Fin 80),
     s.phase = .run → (s.pd d).step = .move →
     exec (.pdTransitionDone d) s = .next (s.did (seqs [
              pdUpd d fun r => { r with step := .idle, completed := satAdd 16 r.completed 1 },
              pdEnter d (s.pd d).st (s.pd d).ask.st, raise pwb 0,
              fun t => seqs [biasTake (t.fullAt t.ncar) d, if t.fullAt t.ncar = s.fullAt s.ncar then skip else raise pwb 5, railSettle,
                fun u => if t.fullAt t.ncar ≠ s.fullAt s.ncar ∧ u.railNow = t.railNow then biasAll (t.fullAt t.ncar) u else []] t,
              pdRelease d])).settled) ∧
  (∀ (s : State) (o : AvsOp) (l : List AvsOp) (mv : Nat),
     s.phase = .run → s.avs = o :: l → mv ≤ o.mv + 5 → o.mv ≤ mv + 5 →
     exec (.avsAttemptEnd (some mv)) s = .next (s.did (seqs [fset pwb PWR.AVS_STAT_VNOW mv, avsEnd true])).settled) ∧
  (∀ (s : State) (o : AvsOp) (l : List AvsOp),
     s.phase = .run → s.avs = o :: l → o.attempts < 4 →
     exec (.avsAttemptEnd none) s = .next (s.did (seqs [fincSat pwb PWR.AVS_ERR_CNT_COUNT 1,
              fun _ => [.avs ({ o with attempts := o.attempts + 1 } :: l)], fset pwb PWR.AVS_STAT_ATTEMPTS (o.attempts + 1),
              timerStart tAvs, emit (.avs o.mv)])).settled) ∧
  (∀ (s : State) (o : AvsOp) (l : List AvsOp),
     s.avs = o :: l → 4 ≤ o.attempts →
     s.did (avsAttemptEnd none) = s.did (seqs [fincSat pwb PWR.AVS_ERR_CNT_COUNT 1, avsEnd false])) ∧
  (∀ (s : State) (src : Requester) (v : Word),
     s.serves src ⟨.pwr, 0⟩ → wrote v PWR.WAKE_CMD_KEY = 0xA5C3 → s.sleepBar = none →
     exec (.sleep src v) s = .next (s.did (seqs [deviceWipe, rset MGT.I2C_ADDR (s.reg MGT.I2C_ADDR), fun _ => [.phase .wakeOnly]])).settled) ∧
  (∀ (s : State) (src reason : Nat) (v : Word),
     s.phase = .run → wrote v PWR.WAKE_CMD_KEY = 0xA5C3 → wroteB v PWR.WAKE_CMD_SLEEP = true → s.sleepBar = some
     reason →
     s.did (wakeCmd src v) = s.did (seqs [fset pwb PWR.WAKE_STAT_REASON reason, errPage pwb PWR.WAKE_CMD src cSLEEP_REFUSED])) ∧
  (∀ (s : State) (v : Word),
     s.phase = .wakeOnly → s.srstBusy pwb = false → s.fb pwb DEAL_CTL_STAGE = false → wrote v PWR.WAKE_CMD_KEY =
     0xA5C3 →
     exec (.wake .i2c v) s = .next (s.did (startUp true)).settled) ∧
  (∀ (s : State),
     s.phase = .wakeOnly →
     exec .wakeN s = .next (s.did (startUp true)).settled) ∧
  (∀ (s : State) (deg : Int) (t : State),
     s.phase = .run → t = s.did (fset pwb PWR.PWR_TEMP_DEG (tc 16 deg)) →
     exec (.thermal deg) s = .next (if (t.hot && !s.hot) = true then (t.did (seqs [raise pwb 6, report eTHERMAL 24 pwb])).settled else t.settled)) ∧
  (∀ (s : State),
     exec (.railLoss false) s = .next (s.did (seqs [deviceWipe, fun _ => [.phase .held]])).settled) ∧
  (∀ (s : State),
     exec (.railLoss true) s = .next (s.did (seqs [resetAssert,
              fun s => [.pds 0 (s.pd 0)] ++ (List.range 80).map fun d => .pds d { st := 0, lastT := 0 },
              rclear (pwb + PWR.WAKE_STAT), forP (List.range 7) fun w => rset (eb + ERR.DF_LAST w) 0,
              rclear (btb + BOOT.FL_ADDR), rclear (btb + BOOT.FL_STAT), tabsClear btb [], rclear MGT.I2C_ADDR])).settled) ∧
  (∀ (s : State),
     s.phase = .held →
     exec .railsValid s = .next (s.did (startUp false)).settled)

/-- RESET_N released starts the module held; asserted, it resets it and holds it. PERST# masks the MSI-X table and drops
the pending bits; released, it is recorded. A step that ends closes its record; done, it clears its count and does its
work, then the next steps follow; failed, it counts it, raises STEP_FAIL, and a module step waits for a restart. A
step past its limit fails with TIMEOUT. After 10 ms a boot restart follows; RESTART with the key makes one at once.
SET_PREF sets the preferred slot or is refused with NOT_VERIFIED. BOOT_CLR clears its steps. ERASE, PROGRAM and VERIFY
begin, or are refused with FL_BUSY, FL_RANGE; they end with DONE, ERR and their effect. -/
def Obligations.TheModuleStartsAndUpdatesItsFlash : Prop :=
  (∀ (s : State),
     s.phase = .held →
     exec .resetNRelease s = .next (s.did (startUp false)).settled) ∧
  (∀ (s : State),
     exec .resetNAssert s = .next (s.did (seqs [deviceWipe, fun _ => [.phase .held]])).settled) ∧
  (∀ (s : State),
     exec .perst s = .next (s.applyAll (.perst true :: .pba 0 :: s.msix.map fun e => .msix e.1 (msixReset e.1))).settled) ∧
  (∀ (s : State),
     exec .perstRelease s = .next (s.apply (.perst false)).settled) ∧
  (∀ (s : State) (e : StepEnd) (k : Nat),
     s.phase = .run → s.boot.step = some k → e.cause = 0 → (k ≠ 3 ∨ s.slotOk (s.fg btb BOOT.BOOT_STAT_SLOT) = true) →
     exec (.bootStepEnd e) s = .next (s.did (seqs [recEnd 1 0 0xFF, timerStop tStep, failsPut k 0,
              if 7 ≤ k ∧ s.stepLevel k = 0 then unitPut k 0 else skip, stepWork k e, stepsFrom 12 (k + 1)])).settled) ∧
  (∀ (s : State) (e : StepEnd) (k : Nat),
     s.boot.step = some k → s.phase = .run → e.cause ≠ 0 → k < 7 → k ≠ 0 → (k ≠ 3 ∨ e.cause ≠ 6) →
     s.did (stepEnd e) = s.did (seqs [recEnd 2 e.cause e.unit, timerStop tStep, fset btb BOOT.BOOT_STAT_CAUSE e.cause, raise btb 2,
              stepCount k e.units e.cause, bootUpd fun r => { r with step := none },
              fun t => if t.phase = .run then timerStart tRestart t else []])) ∧
  (∀ (s : State) (units k : Nat),
     s.phase = .run → s.boot.step = some k → k ≠ 9 → s.running tStep = true →
     exec (.bootStepTimeout units) s = .next (s.did (seqs [clockEnd tStep (stepLimit k),
              stepEnd { cause := 1, unit := 0xFF, units := units, pairs := 2, bin := 0, gb := 0, ranks := 1 }])).settled) ∧
  (∀ (s : State),
     s.phase = .run → s.running tRestart = true →
     exec .bootRestart s = .next (s.did (seqs [clockEnd tRestart 10000000, bootWipe, bootStart false])).settled) ∧
  (∀ (s : State) (v : Word),
     s.serves .host ⟨.boot, 0⟩ → wrote v BOOT.BOOT_CMD_KEY = 0x5A5A → wroteB v BOOT.BOOT_CMD_SET_PREF = false →
     exec (.restart .host v) s = .next (s.did (seqs [bootWipe, bootStart false])).settled) ∧
  (∀ (s : State) (src : Nat) (v : Word),
     wrote v BOOT.BOOT_CMD_KEY ≠ 0x5A5A →
     s.did (bootCmd src v) = s.did (errPage btb BOOT.BOOT_CMD src cBAD_KEY)) ∧
  (∀ (s : State) (v : Word),
     s.serves .host ⟨.boot, 0⟩ → wrote v BOOT.BOOT_CMD_KEY = 0x5A5A → wroteB v BOOT.BOOT_CMD_RESTART = false →
     exec (.setPref .host v) s = .next (s.did (
              if s.fb btb (slotFlag (wrote v BOOT.BOOT_CMD_PREF)) then fset btb BOOT.SLOT_STAT_PREF (wrote v BOOT.BOOT_CMD_PREF)
              else errPage btb BOOT.BOOT_CMD 1 cNOT_VERIFIED)).settled) ∧
  (∀ (s : State) (v : Word),
     s.serves .host ⟨.boot, 0⟩ →
     exec (.bootClr .host v) s = .next (s.did (forP ((List.range 12).filter (bitOf v.toNat)) fun k =>
              seqs [fset btb ⟨BOOT.BOOT_FB, 2 * levelOf k, 2⟩ 0, fset btb ⟨BOOT.BOOT_FAILS, 2 * levelOf k, 2⟩ 0,
                if k < 7 then skip else fset btb ⟨BOOT.FB_UNIT, (unitField k).1, (unitField k).2⟩ 0])).settled) ∧
  (∀ (s : State) (v : Word) (slot : Nat),
     s.serves .host ⟨.boot, 0⟩ → s.fb btb BOOT.FL_STAT_BUSY = false → s.fg btb BOOT.FL_ADDR_ADDR * 256 % 65536 = 0 →
     flashSlot (s.fg btb BOOT.FL_ADDR_ADDR * 256) = some slot → slot ≠ s.fg btb BOOT.BOOT_STAT_SLOT →
     exec (.flashErase .host v) s = .next (s.did (flBegin 1 slot (s.fg btb BOOT.FL_ADDR_ADDR * 256))).settled) ∧
  (∀ (s : State) (v : Word) (slot : Nat),
     s.serves .host ⟨.boot, 0⟩ → s.fb btb BOOT.FL_STAT_BUSY = false → flashSlot (s.fg btb BOOT.FL_ADDR_ADDR * 256) =
     some slot → slot ≠ s.fg btb BOOT.BOOT_STAT_SLOT →
     exec (.flashProgram .host v) s = .next (s.did (flBegin 2 slot (s.fg btb BOOT.FL_ADDR_ADDR * 256))).settled) ∧
  (∀ (s : State) (v : Word),
     s.serves .host ⟨.boot, 0⟩ → s.fb btb BOOT.FL_STAT_BUSY = false →
     exec (.flashVerify .host v) s = .next (s.did (flBegin 3 (wrote v BOOT.FL_CMD_SLOT) (s.fg btb BOOT.FL_ADDR_ADDR * 256))).settled) ∧
  (∀ (s : State) (src cmd slot addr : Nat),
     s.phase = .run → cmd ≠ 3 → (flashSlot addr = none ∨ flashSlot addr = some (s.fg btb BOOT.BOOT_STAT_SLOT)) →
     s.did (flRun src cmd slot addr) = s.did (errPage btb BOOT.FL_CMD src cFL_RANGE)) ∧
  (∀ (s : State) (src : Nat) (v : Word),
     s.fb btb BOOT.FL_STAT_BUSY = true →
     s.did (flCmd src v) = s.did (errPage btb BOOT.FL_CMD src cFL_BUSY)) ∧
  (∀ (s : State),
     s.phase = .run → s.fb btb BOOT.FL_STAT_BUSY = true → s.boot.flCmd = 2 →
     exec (.flDone true) s = .next (s.did (seqs [fun _ => (List.range 256).map fun i => .flash (s.boot.flAddr + i) (some (s.boot.flData.getD i 0)),
              fbset btb BOOT.FL_STAT_BUSY false, fbset btb BOOT.FL_STAT_DONE true, fbset btb BOOT.FL_STAT_ERR false, raise btb 4])).settled)

/-- SVN_COMMIT with the key burns the SVN fuses up to the booted image's SVN, never down. PROVISION burns the owner hash
and the provisioning fuse and closes every scope, or is refused with PROVISIONED. ATT_CMD.GO takes the nonce, or is
refused with SIGN_BUSY or RNG_FAIL; an attestation whose index is committed places its report and signature and raises
ATT_DONE, else fails with its cause. CHAL_CMD.GO draws a nonce, or is refused with LOCKOUT or RNG_FAIL. TOKEN_GO
starts verification, or is refused with SIGN_BUSY or NO_CHAL; a verified token opens its scopes, a failed one is
counted, sixteen locking out. A nonce expires after 60 s. CLOSE closes every scope. A read of RNG_DATA takes a word or
is counted with RNG_FAIL; a read of MEAS answers the next word of the measurement. -/
def Obligations.SecurityCommandsAnswer : Prop :=
  (∀ (s : State) (v : Word),
     s.serves .host ⟨.sec, 0⟩ → wrote v SEC.SEC_CMD_KEY = 0x5A5A → wroteB v SEC.SEC_CMD_PROVISION = false →
     exec (.svnCommit .host v) s = .next (s.did fun t => [.fuses { t.fuses with
              svn := max t.fuses.svn (min 64 ((t.reg (btb + BOOT.IMG_VER)).toNat % 128)) }]).settled) ∧
  (∀ (s : State) (v : Word),
     s.serves .host ⟨.sec, 0⟩ → wrote v SEC.SEC_CMD_KEY = 0x5A5A → wroteB v SEC.SEC_CMD_SVN_COMMIT = false →
     s.fuses.prov = false →
     exec (.provision .host v) s = .next (s.did (seqs [fun t => [.fuses { t.fuses with
                prov := true, owner := BitVec.ofNat 256 (ofBytesBE (s.inbuf 32)) }], fset secb SEC.SEC_STAT_SESSION 0])).settled) ∧
  (∀ (s : State) (src : Nat) (v : Word),
     wrote v SEC.SEC_CMD_KEY = 0x5A5A → wroteB v SEC.SEC_CMD_SVN_COMMIT = false → wroteB v SEC.SEC_CMD_PROVISION =
     true → s.fuses.prov = true →
     s.did (secCmd src v) = s.did (errPage secb SEC.SEC_CMD src cPROVISIONED)) ∧
  (∀ (s : State) (v : Word),
     s.serves .host ⟨.sec, 0⟩ → s.fb secb SEC.SEC_STAT_SIGN_BUSY = false → s.fb secb SEC.SEC_STAT_RNG_OK = true →
     exec (.attGo .host v) s = .next (s.did (seqs [fbset secb SEC.SEC_STAT_SIGN_BUSY true, rset (secb + SEC.ATT_STAT) 0,
              secUpd fun r => { r with att := some (s.inbuf 32) }])).settled) ∧
  (∀ (s : State) (src : Nat),
     s.fb secb SEC.SEC_STAT_SIGN_BUSY = false → s.fb secb SEC.SEC_STAT_RNG_OK = false →
     s.did (attGo src) = s.did (seqs [errPage secb SEC.ATT_CMD src cRNG_FAIL, rset (secb + SEC.ATT_STAT) 0x302])) ∧
  (∀ (s : State) (nonce : List Byte) (i : Nat × Nat),
     s.phase = .run → s.sec.att = some nonce → s.sigIndex = some i → i.2 ≠ 0 →
     exec (.attDone true) s = .next (s.did (seqs [secUpd fun r => { r with idx := some (idxNext i) },
              fun t => reportPut (t.reportMsg nonce i ++ Config.hssSign i.1 i.2 (t.reportMsg nonce i)) t, attEnd 0])).settled) ∧
  (∀ (s : State) (nonce : List Byte) (i : Nat × Nat),
     s.sec.att = some nonce → s.sigIndex = some i → i.2 ≠ 0 →
     s.did (attDone false) = s.did (seqs [secUpd fun r => { r with idx := some (idxNext i) }, attEnd 1])) ∧
  (∀ (s : State) (nonce : List Byte) (ok : Bool),
     s.sec.att = some nonce → s.sigIndex = none →
     s.did (attDone ok) = s.did (attEnd 2)) ∧
  (∀ (s : State) (v : Word),
     s.serves .host ⟨.sec, 0⟩ → wroteB v SEC.CHAL_CMD_CLOSE = false → wroteB v SEC.CHAL_CMD_TOKEN_GO = false → s.fb
     secb SEC.SEC_STAT_LOCKOUT = false → s.fb secb SEC.SEC_STAT_RNG_OK = true →
     exec (.chalGo .host v) s = .next (s.did (seqs [
              fun _ => (List.range 8).map fun i => .regs (secb + SEC.CHAL_NONCE i) (Config.rng (s.sec.draws + i)),
              secUpd fun r => { r with draws := r.draws + 8 }, secUpd fun r => { r with nonce := some (wrote v SEC.CHAL_CMD_SCOPE) },
              fbset secb SEC.SEC_STAT_CHAL_PENDING true, timerStart tNonce, raise secb 1])).settled) ∧
  (∀ (s : State) (src scope : Nat),
     s.fb secb SEC.SEC_STAT_LOCKOUT = true →
     s.did (chalGo src scope) = s.did (errPage secb SEC.CHAL_CMD src cLOCKOUT)) ∧
  (∀ (s : State) (v : Word) (scope : Nat),
     s.serves .host ⟨.sec, 0⟩ → wroteB v SEC.CHAL_CMD_CLOSE = false → wroteB v SEC.CHAL_CMD_GO = false → s.fb secb
     SEC.SEC_STAT_SIGN_BUSY = false → s.sec.nonce = some scope →
     exec (.tokenGo .host v) s = .next (s.did (seqs [secUpd fun r => { r with token := true }, fbset secb SEC.SEC_STAT_SIGN_BUSY true])).settled) ∧
  (∀ (s : State) (src : Nat),
     s.fb secb SEC.SEC_STAT_SIGN_BUSY = false → s.sec.nonce = none →
     s.did (tokenGo src) = s.did (errPage secb SEC.CHAL_CMD src cNO_CHAL)) ∧
  (∀ (s : State) (scope : Nat),
     s.phase = .run → s.sec.token = true → s.sec.nonce = some scope →
     exec .tokenVerifyEnd s = .next (s.did (seqs [secUpd fun r => { r with token := false }, fbset secb SEC.SEC_STAT_SIGN_BUSY false,
              if s.tokenOk scope = true then seqs [fset secb SEC.SEC_STAT_SESSION (s.fg secb SEC.SEC_STAT_SESSION ||| scope),
                  secUpd fun r => { r with fails := 0 }, fset secb SEC.CHAL_STAT_FAILS 0, nonceDrop, raise secb 2]
              else seqs [secUpd fun r => { r with fails := s.sec.fails + 1 }, fset secb SEC.CHAL_STAT_FAILS (min (s.sec.fails + 1) 15), raise secb 3,
                if s.sec.fails = 15 then seqs [fbset secb SEC.SEC_STAT_LOCKOUT true, raise secb 5] else skip]])).settled) ∧
  (∀ (s : State),
     s.phase = .run → s.running tNonce = true →
     exec .nonceExpiry s = .next (s.did (seqs [clockEnd tNonce 60000000000, secUpd fun r => { r with nonce := none },
              fbset secb SEC.SEC_STAT_CHAL_PENDING false, timerStop tNonce])).settled) ∧
  (∀ (s : State) (v : Word),
     s.serves .host ⟨.sec, 0⟩ → wroteB v SEC.CHAL_CMD_GO = false → wroteB v SEC.CHAL_CMD_TOKEN_GO = false →
     exec (.close .host v) s = .next (s.did (fset secb SEC.SEC_STAT_SESSION 0)).settled) ∧
  (∀ (s : State),
     s.up ⟨.sec, 0⟩ → s.fb secb SEC.SEC_STAT_RNG_OK = true →
     exec (.rngDataRead .host) s = .next ((s.did (secUpd fun r => { r with draws := r.draws + 1 })).apply (.rdata (Config.rng s.sec.draws).toNat)).settled) ∧
  (∀ (s : State),
     s.up ⟨.sec, 0⟩ → s.fb secb SEC.SEC_STAT_RNG_OK = false →
     exec (.rngDataRead .host) s = .next ((s.did (errPage secb SEC.RNG_DATA 1 cRNG_FAIL)).apply (.rdata 0)).settled) ∧
  (∀ (s : State),
     s.phase = .run →
     exec .rngHealthFail s = .next (s.did (seqs [fbset secb SEC.SEC_STAT_RNG_OK false, raise secb 4])).settled) ∧
  (∀ (s : State),
     s.up ⟨.sec, 0⟩ →
     exec (.measRead .host) s = .next ((s.did (secUpd fun r => { r with mpos := (r.mpos + 1) % 8 })).apply (.rdata s.measWord.toNat)).settled)

/-- A detected error is reported by its page's island under its source; the watchdog under its own. A report takes a
record with the next sequence number, counts its class, raises its event and starts its test. An island reset that is
due begins; it ends with the island out of reset, its engines reloaded, RESET_DONE raised, and its blocks restarted,
unless it failed. A DEVICE_FATAL error resets the module. ISL_CTL with the key makes an island reset, or is refused
with MGT_ISLAND; RELEASE takes a failed island out of reset, or is refused with NOT_FAILED; without the key it is
refused. Q_POP removes the head of the queue selected. A self-test that ends classifies its error, lasting after 100
ms. The engine check leaves failing engines in FAULT and classifies the error. -/
def Obligations.ErrorsAreReportedAndIslandsReset : Prop :=
  (∀ (s : State) (src : Fin 17) (slot : BitVec 14) (addr : BitVec 41) (unit : Byte) (loc : Nat) (p : Page),
     s.phase = .run → pageAt (slot.toNat * 0x1000) = some p → src.val ≠ 0 →
     exec (.errorReport src slot addr unit loc) s = .next (s.did (reportErr {
              src := src, cls := errClass src, test := errTest src, island := pageIsland p, page := p.base, addr := addr.toNat,
              unit := unit.toNat, loc := loc })).settled) ∧
  (∀ (s : State) (e : ErrIn) (r : ErrRec),
     r = s.errRec e → s.phase = .run → r.esc = false → r.shown = true → r.cls < 3 → e.test = 0 → r.cls < s.fg eb
     ERR.ERR_CFG_CALL_LEVEL →
     s.did (reportErr e) = s.did (seqs [fun _ => [.errs (s.errs ++ [r])], fset eb ERR.SEQ_NEXT ((r.seq + 1) % 2 ^ 16),
              fincSat eb ⟨ERR.CLASS_CNT r.cls, 0, 32⟩ 1, raise eb r.cls])) ∧
  (∀ (s : State),
     s.phase = .run →
     exec .watchdog s = .next (s.did (report eWATCHDOG 19 0)).settled) ∧
  (∀ (s : State) (n : Fin 25),
     s.phase = .run → s.islandDue n = true → s.resetting.contains n.val = false →
     exec (.islandReset n) s = .next (s.did (seqs [fun t => [.resetting (t.resetting ++ [n.val])], islandLocks n, dealsIslandReset n,
              forP (islandPages n) islandWipe, forP (islandPages n) pageEval, carriersEval])).settled) ∧
  (∀ (s : State) (n : Fin 25),
     s.phase = .run → s.resetting.contains n.val = true → bitOf (s.reg (eb + ERR.ISL_FAILED)).toNat n = false →
     exec (.resetDone n) s = .next (s.did (seqs [fun t => [.resetting (t.resetting.filter (· != n.val))],
              if 11 ≤ n.val ∧ n.val < 19 then vendorLoad (n - 11) else skip, errsReset n, raise eb 8, forP (islandPages n) pageEval,
              carriersEval])).settled) ∧
  (∀ (s : State) (n : Nat),
     s.resetting.contains n = true → bitOf (s.reg (eb + ERR.ISL_FAILED)).toNat n = true →
     s.did (resetDone n) = s.apply (.resetting (s.resetting.filter (· != n)))) ∧
  (∀ (s : State),
     s.phase = .run → (s.errs.any fun e => e.cls == 4 && !e.handled) = true →
     exec .deviceReset s = .next (s.did (seqs [deviceWipe, startUp false])).settled) ∧
  (∀ (s : State) (v : Word),
     s.serves .host ⟨.err, 0⟩ → wrote v ERR.ISL_CTL_KEY = 0x5A5A → wroteB v ERR.ISL_CTL_RELEASE = false → wrote v
     ERR.ISL_CTL_ISLAND ≤ 24 → wrote v ERR.ISL_CTL_ISLAND ≠ 19 → wrote v ERR.ISL_CTL_ISLAND ≠ 21 → wrote v
     ERR.ISL_CTL_ISLAND ≠ 24 →
     exec (.islCtlReset .host v) s = .next (s.did (reportErr {
              src := 0, cls := 3, test := 0, island := wrote v ERR.ISL_CTL_ISLAND, page := eb })).settled) ∧
  (∀ (s : State) (src : Nat) (v : Word),
     wrote v ERR.ISL_CTL_KEY = 0x5A5A → wroteB v ERR.ISL_CTL_RESET = true → wroteB v ERR.ISL_CTL_RELEASE = false →
     (wrote v ERR.ISL_CTL_ISLAND = 19 ∨ wrote v ERR.ISL_CTL_ISLAND = 21 ∨ wrote v ERR.ISL_CTL_ISLAND = 24) →
     s.did (islCtl src v) = s.did (errPage eb ERR.ISL_CTL src cMGT_ISLAND)) ∧
  (∀ (s : State) (src : Nat) (v : Word),
     wrote v ERR.ISL_CTL_KEY ≠ 0x5A5A →
     s.did (islCtl src v) = s.did (errPage eb ERR.ISL_CTL src cERR_BAD_KEY)) ∧
  (∀ (s : State) (v : Word) (i : Nat),
     s.serves .host ⟨.err, 0⟩ → wrote v ERR.ISL_CTL_KEY = 0x5A5A → wroteB v ERR.ISL_CTL_RESET = false → i = wrote v
     ERR.ISL_CTL_ISLAND → bitOf (s.reg (eb + ERR.ISL_FAILED)).toNat i = true →
     exec (.islCtlRelease .host v) s = .next (s.did (seqs [
              fun t => fset eb ERR.ISL_FAILED_MAP (t.fg eb ERR.ISL_FAILED_MAP - 2 ^ i) t,
              fun t => [.resetting (t.resetting.filter (· != i))], islandReset i])).settled) ∧
  (∀ (s : State) (src : Nat) (v : Word),
     wrote v ERR.ISL_CTL_KEY = 0x5A5A → wroteB v ERR.ISL_CTL_RESET = false → wroteB v ERR.ISL_CTL_RELEASE = true →
     bitOf (s.reg (eb + ERR.ISL_FAILED)).toNat (wrote v ERR.ISL_CTL_ISLAND) = false →
     s.did (islCtl src v) = s.did (errPage eb ERR.ISL_CTL src cNOT_FAILED)) ∧
  (∀ (s : State) (src : Requester) (e : ErrRec) (l : List ErrRec),
     s.serves src ⟨.err, 0⟩ → s.queueOf (s.fg eb ERR.Q_SEL_ISLAND) = e :: l →
     exec (.qPop src) s = .next (s.did fun _ => [.errs (s.errs.map fun r => if r = e then { r with shown := false } else r)]).settled) ∧
  (∀ (s : State) (seq : BitVec 16) (e : ErrRec),
     s.phase = .run → (s.errs.find? fun r => r.seq == seq.toNat && r.result == 0) = some e →
     exec (.selfTestEnd seq true) s = .next (s.did (seqs [lastingDo e, classify seq.toNat true])).settled) ∧
  (∀ (s : State) (seq : Nat) (e : ErrRec),
     (s.errs.find? fun r => r.seq == seq && r.result == 0) = some e → (e.test ≠ 1 ∨ s.repeated e = false) →
     s.did (selfTestEnd seq false) = s.did (classify seq false)) ∧
  (∀ (s : State) (seq : BitVec 16),
     s.phase = .run → s.running (errTimer seq.toNat) = true →
     exec (.selfTestTimeout seq) s = .next (s.did (seqs [clockEnd (errTimer seq.toNat) 100000000, selfTestEnd seq.toNat true])).settled) ∧
  (∀ (s : State) (k : Fin 8) (failed : BitVec 64) (q : Nat),
     s.phase = .run → s.waitingTest 5 (fun e => e.island == 11 + k.val) = some q →
     exec (.engCheck k failed) s = .next (s.did (seqs [forP (List.range 64) fun e t =>
                  [.engs (64 * k + e) { t.eng (64 * k + e) with
                    bad := bitOf failed.toNat e,
                    st := if bitOf failed.toNat e then 4 else if (t.eng (64 * k + e)).bad then 0 else (t.eng (64 * k + e)).st }],
                classify q (failed.toNat != 0)])).settled)

/-- CALL_CMD.GO requests a call from REG. An accepted edge of CALL_IN, held for MIN_W, is time-stamped with its event and
requests a call; others do nothing. A call that is issued latches at this time with its number and sources, or, on a
dealer, is sent ahead to its members for T; one whose T has come latches. WIDTH us after the last call the CALL_OUT
pin returns low. A write of the MSI-X table sets the word; unmasking a vector that is pending sends its message and
clears the pending bit. An island's copy of device time that leaves the master clears DIST_OK and raises DIST_LOST;
one that returns sets it. -/
def Obligations.CallsLatchAndVectorsSend : Prop :=
  (∀ (s : State) (src : Requester) (v : Word),
     s.serves src ⟨.snap, 0⟩ →
     exec (.callCmdGo src v) s = .next (s.did (wantCall cREG)).settled) ∧
  (∀ (s : State) (src : Nat),
     bitOf (s.fg snb SNAP.SRC_EN_SRC) src = true → s.callUp = false → s.callRecent = false →
     s.did (wantCall src) = s.apply (.calls { s.calls with want := s.calls.want ||| 2 ^ src })) ∧
  (∀ (s : State) (held : Nat) (t : BitVec 64) (rising : Bool),
     s.phase = .run → s.fb snb SNAP.CALL_IN_CFG_EN = true → s.fb snb SNAP.CALL_IN_CFG_EDGE = rising → s.fg snb
     SNAP.CALL_IN_CFG_MIN_W * 10 ≤ held →
     exec (.callInEdge rising held t) s = .next (s.did (seqs [rset (snb + SNAP.CALL_IN_T_LO) (t.extractLsb' 0 32),
              rset (snb + SNAP.CALL_IN_T_HI) (t.extractLsb' 32 32), raise snb 1, wantCall cCALLIN])).settled) ∧
  (∀ (s : State) (held : Nat) (t : BitVec 64) (rising : Bool),
     (s.fb snb SNAP.CALL_IN_CFG_EDGE ≠ rising ∨ held < s.fg snb SNAP.CALL_IN_CFG_MIN_W * 10) →
     s.did (callIn rising held t) = s) ∧
  (∀ (s : State),
     s.phase = .run → s.calls.ahead = [] → s.calls.want ≠ 0 → s.stSt ≠ kDEALER →
     exec .callIssue s = .next (s.did (seqs [fun t => [.calls { t.calls with want := 0, lastTick := some t.ticks }],
              callLatch s.nextCall s.nowNs s.calls.want])).settled) ∧
  (∀ (s : State),
     s.calls.ahead = [] → s.calls.want ≠ 0 → s.stSt = kDEALER →
     s.did callIssue = s.did (seqs [fun u => [.calls { u.calls with
                want := 0, lastTick := some u.ticks,
                ahead := [⟨s.nextCall, s.nowNs + BitVec.ofNat 64 (s.fg vb0 VLG.STACK_CFG_CALL_LEAD * 1000), s.calls.want⟩] }],
              forP s.memberPorts fun p => emit (.ctl p 11 [s.nextCall, (s.nowNs + BitVec.ofNat 64 (s.fg vb0 VLG.STACK_CFG_CALL_LEAD * 1000)).toNat])])) ∧
  (∀ (s : State) (q : StackCall) (l : List StackCall),
     s.calls.ahead = q :: l → q.t.toNat ≤ s.nowNs.toNat →
     s.did callIssue = s.did (seqs [fun t => [.calls { t.calls with ahead := l }], callLatch q.num q.t q.srcs])) ∧
  (∀ (s : State),
     s.phase = .run → s.calls.pulse = true → s.running tPulse = true →
     exec .callOutPulseEnd s = .next (s.did (seqs [clockEnd tPulse (s.fg snb SNAP.CALL_OUT_CFG_WIDTH * 1000),
              fun t => [.calls { t.calls with pulse := false }], timerStop tPulse, emit (.callOut false)])).settled) ∧
  (∀ (s : State) (a : BitVec 14) (v : Word),
     s.phase = .run → a.toNat < 0x1000 → (a.toNat % 16 = 0 ∨ a.toNat % 16 = 4 ∨ a.toNat % 16 = 8) →
     exec (.msixTableWrite a v) s = .next (s.apply (.msix (a.toNat / 4) (if a.toNat % 16 = 0 then v &&& 0xFFFFFFFC else v))).settled) ∧
  (∀ (s : State) (a : BitVec 14) (v : Word) (t : State),
     s.phase = .run → a.toNat < 0x1000 → a.toNat % 16 = 12 → t = s.apply (.msix (a.toNat / 4) (v &&& 1)) →
     t.msixMasked (a.toNat / 16) = false → t.pba.getLsbD (a.toNat / 16) = true →
     exec (.msixTableWrite a v) s = .next (t.did (seqs [
              fun _ => [.pba (t.pba &&& ~~~ BitVec.ofNat 256 (2 ^ (a.toNat / 16)))], emit (t.msixOut (a.toNat / 16))])).settled) ∧
  (∀ (s : State) (ok : Bool),
     s.phase = .run →
     exec (.distLost ok) s = .next (s.did (seqs [fbset tb TIME.TIME_STAT_DIST_OK ok, if ok then skip else raise tb 7])).settled)

/-- State.reset is held in reset with an empty queue; every register of every page at 0x100 to 0x7FF reads its reset value
from that page's table, PAGE_CTL reads EN and CALL_EN set and the rest of the header 0 as stored; its sparse maps are
canonical. Where the spec gives a register no reset value, the table's is the model's choice (log 4). With nothing
waiting a step is 1 ns of the module's clock (the model's choice, log 5). -/
def Obligations.ResetHoldsTheModule : Prop :=
  ((State.reset.phase = .held ∧ State.reset.pending = [] ∧ State.reset.wf = true ∧ Memory.wf State.reset = true)) ∧
  ((∀ (p : Page) (off : Nat) (r : RegRow), pageAt (p.base + off) = some p → 0x100 ≤ off → off < 0x800 → regRow p off = some r →
    State.reset.reg (p.base + off) = r.rst)) ∧
  ((∀ (p : Page) (off : Nat), pageAt (p.base + off) = some p → off < 0x100 →
    State.reset.reg (p.base + off) = if off = oPAGE_CTL then 5 else 0)) ∧
  (∀ (s : State),
     s.pending = [] →
     step s = .next (s.did tick).settled)

/-- While the module runs, a 4-byte write by the host or an engine of TIME.MARK_CFG whose LEAD is below 8 or MIN_MARKS is
0 (their fields are 8 and 4 bits wide), or of TIME.COMMIT_LEAD outside 10,000 to 10,000,000, is counted in the page's
ERR_CNT with code CFG_RANGE, and is otherwise without effect; the register keeps its value. -/
def Obligations.MarkTimesOutOfRangeAreIgnored : Prop :=
  ∀ (s : State) (src : Requester) (off : Nat) (v : Word),
    s.serves src ⟨.time, 0⟩ → ((off = TIME.MARK_CFG ∧ (wrote v TIME.MARK_CFG_LEAD < 8 ∨ wrote v
    TIME.MARK_CFG_MIN_MARKS = 0)) ∨ (off = TIME.COMMIT_LEAD ∧ (v.toNat < 10000 ∨ 10000000 < v.toNat))) →
    exec (.registerWrite src (BitVec.ofNat 26 (tb + off)) (bytesLE 4 v.toNat)) s =
             .next (s.did (errPage tb off src.id cTIME_CFG_RANGE)).settled ∧
             (s.did (errPage tb off src.id cTIME_CFG_RANGE)).settled.reg (tb + off) = s.reg (tb + off)

/-- For every state whose sparse maps (registers, window tables, attached memory, engine memory, flash and the module's
records) are canonical, each step, whatever command is in front or none, answers a next state whose maps are
canonical. So equal contents are equal data in every state that a run from a canonical state reaches. The form is the
model's own. -/
def Obligations.EveryStepKeepsTheStateCanonical : Prop :=
  ∀ (s : State),
    s.wf = true →
    ∃ t, step s = .next t ∧ t.wf = true ∧ Memory.wf t = true

/-- From every state, running as many steps as commands wait answers a next state with none waiting, its part number and
canonical form kept; and the state that serving the first k commands reaches waits on exactly those that follow, in
their order (R15: the writes of a requester are applied in arrival order; the queue is the model's own, log 5). -/
def Obligations.TheQueueDrainsInOrder : Prop :=
  (∀ (s : State),
     s.wf = true →
     ∃ u, Sys2Proof.core.run s.pending.length s = .next u ∧ u.pending = [] ∧ u.part = s.part ∧ u.wf = true) ∧
  (∀ (s : State) (l m : List Instr),
     s.pending = l ++ m →
     ∃ u, Sys2Proof.core.run l.length s = .next u ∧ u.pending = m)
end

