-- ==== Sys2Proof/Laws/Bits.lean ====
section
/-!
SUPPORT. Laws/Bits.lean: reading a field of a word after writing one.
-/

namespace Sys2Proof.Machine

theorem testBit_bitsGet (v : Word) (lo w i : Nat) :
    (bitsGet v lo w).testBit i = (decide (i < w) && v.getLsbD (lo + i)) := by
  simp [bitsGet, Nat.testBit_mod_two_pow, Nat.testBit_div_two_pow, BitVec.testBit_toNat, Nat.add_comm]

theorem getLsbD_bitsPut (v : Word) (lo w x i : Nat) (h : i < 32) :
    (bitsPut v lo w x).getLsbD i =
      if lo ≤ i ∧ i < lo + w then x.testBit (i - lo) else v.getLsbD i := by
  simp only [bitsPut, maskAt, BitVec.getLsbD_or, BitVec.getLsbD_and, BitVec.getLsbD_not, BitVec.getLsbD_ofNat,
    Nat.testBit_mul_two_pow, Nat.testBit_two_pow_sub_one, Nat.testBit_mod_two_pow, h, decide_true, Bool.true_and]
  by_cases h1 : lo ≤ i <;> by_cases h2 : i < lo + w
  · have : i - lo < w := by omega
    simp [h1, h2, this]
  · have : ¬ (i - lo < w) := by omega
    simp [h1, h2, this]
  · simp [h1]
  · simp [h1]

/-- A field reads as what was written to it. -/
theorem bitsGet_put_same (v : Word) (lo w x : Nat) (h : lo + w ≤ 32) : bitsGet (bitsPut v lo w x) lo w = x % 2 ^ w := by
  refine Nat.eq_of_testBit_eq fun i => ?_
  rw [testBit_bitsGet, Nat.testBit_mod_two_pow]
  by_cases hi : i < w
  · have h1 : lo + i < 32 := by omega
    have h2 : lo + i < lo + w := by omega
    simp [hi, getLsbD_bitsPut _ _ _ _ _ h1]
  · simp [hi]

/-- A field apart from the one written reads as before. -/
theorem bitsGet_put_other (v : Word) (lo w x lo' w' : Nat) (h : lo' + w' ≤ lo ∨ lo + w ≤ lo') :
    bitsGet (bitsPut v lo w x) lo' w' = bitsGet v lo' w' := by
  refine Nat.eq_of_testBit_eq fun i => ?_
  rw [testBit_bitsGet, testBit_bitsGet]
  by_cases hi : i < w'
  · by_cases h1 : lo' + i < 32
    · have h2 : ¬ (lo ≤ lo' + i ∧ lo' + i < lo + w) := by omega
      rw [getLsbD_bitsPut _ _ _ _ _ h1, if_neg h2]
    · rw [BitVec.getLsbD_of_ge _ _ (by omega), BitVec.getLsbD_of_ge _ _ (by omega)]
  · simp [hi]

/-- What a command's name says of one field leaves the other fields of the value written. -/
theorem wrote_setF_other (v : Word) (f g : Fld) (x : Nat) (h : g.lo + g.w ≤ f.lo ∨ f.lo + f.w ≤ g.lo) :
    wrote (setF v f x) g = wrote v g := bitsGet_put_other v f.lo f.w x g.lo g.w h

theorem wroteB_setF_other (v : Word) (f g : Fld) (x : Nat) (h : g.lo + g.w ≤ f.lo ∨ f.lo + f.w ≤ g.lo) :
    wroteB (setF v f x) g = wroteB v g := by
  simp only [wroteB, setF, bitsGet_put_other v f.lo f.w x g.lo g.w h]

theorem wrote_setF_same (v : Word) (f : Fld) (x : Nat) (h : f.lo + f.w ≤ 32) : wrote (setF v f x) f = x % 2 ^ f.w :=
  bitsGet_put_same v f.lo f.w x h

theorem wroteB_setF_same (v : Word) (f : Fld) (x : Nat) (h : f.lo + f.w ≤ 32) :
    wroteB (setF v f x) f = (x % 2 ^ f.w != 0) := by
  simp only [wroteB, setF, bitsGet_put_same v f.lo f.w x h]

end Sys2Proof.Machine
end

