-- ==== Sys2Proof/Laws/State.lean ====
section
/-!
SUPPORT. Laws/State.lean: what each elementary change leaves of each field and of each reading of the state, so that no proof
unfolds a record update.
-/

namespace Sys2Proof.Machine

/-! ### Sparse maps -/

theorem SMap.find_erase {α : Type} (m : List (Nat × α)) (k k' : Nat) :
    SMap.find (SMap.erase m k) k' = if k' = k then none else SMap.find m k' := by
  induction m with
  | nil => simp [SMap.erase, SMap.find]
  | cons e m ih =>
    obtain ⟨j, v⟩ := e
    by_cases h : j = k <;> by_cases h2 : j = k' <;> simp_all [SMap.erase, SMap.find]

theorem SMap.find_insert {α : Type} (m : List (Nat × α)) (k : Nat) (v : α) (k' : Nat) :
    SMap.find (SMap.insert m k v) k' = if k' = k then some v else SMap.find m k' := by
  induction m with
  | nil => simp [SMap.insert, SMap.find, eq_comm]
  | cons e m ih =>
    obtain ⟨j, w⟩ := e
    unfold SMap.insert
    split
    · by_cases h : k' = k
      · simp [SMap.find, h]
      · simp [SMap.find, h, Ne.symm h]
    · split
      · next h =>
        subst h
        by_cases h2 : k' = k
        · simp [SMap.find, h2]
        · simp [SMap.find, h2, Ne.symm h2]
      · by_cases h2 : j = k' <;> by_cases h3 : k' = k <;> simp_all [SMap.find]

/-- A read after a write: the value at the key written, what stood there elsewhere. -/
theorem SMap.get_set {α : Type} [DecidableEq α] (d : Nat → α) (m : List (Nat × α)) (k : Nat) (v : α) (k' : Nat) :
    SMap.get d (SMap.set d m k v) k' = if k' = k then v else SMap.get d m k' := by
  unfold SMap.set SMap.get
  by_cases h : v = d k
  · rw [if_pos h, SMap.find_erase]; by_cases h2 : k' = k <;> simp [h2, h]
  · rw [if_neg h, SMap.find_insert]; by_cases h2 : k' = k <;> simp [h2]

/-! ### Fields and readings -/

@[simp] theorem State.apply_part (s : State) (e : Eff) : (s.apply e).part = s.part := by cases e <;> rfl

@[simp] theorem State.apply_phase (s : State) (e : Eff) :
    (s.apply e).phase = match e with | .phase v => v | _ => s.phase := by cases e <;> rfl

@[simp] theorem State.apply_ticks (s : State) (e : Eff) :
    (s.apply e).ticks = match e with | .ticks v => v | _ => s.ticks := by cases e <;> rfl

@[simp] theorem State.apply_now (s : State) (e : Eff) :
    (s.apply e).now = match e with | .now v => v | _ => s.now := by cases e <;> rfl

@[simp] theorem State.apply_rateAcc (s : State) (e : Eff) :
    (s.apply e).rateAcc = match e with | .rateAcc v => v | _ => s.rateAcc := by cases e <;> rfl

@[simp] theorem State.apply_free (s : State) (e : Eff) :
    (s.apply e).free = match e with | .free v => v | _ => s.free := by cases e <;> rfl

@[simp] theorem State.apply_rdata (s : State) (e : Eff) :
    (s.apply e).rdata = match e with | .rdata v => v | _ => s.rdata := by cases e <;> rfl

@[simp] theorem State.apply_outs (s : State) (e : Eff) :
    (s.apply e).outs = match e with | .outs v => v | _ => s.outs := by cases e <;> rfl

@[simp] theorem State.apply_regs (s : State) (e : Eff) :
    (s.apply e).regs = match e with | .regs k v => SMap.set (regReset) s.regs k v | _ => s.regs := by cases e <;> rfl

@[simp] theorem State.apply_reg (s : State) (e : Eff) (i : Nat) :
    (s.apply e).reg i = match e with | .regs k v => if i = k then v else s.reg i | _ => s.reg i := by
  cases e <;> first | rfl | exact SMap.get_set _ _ _ _ _

@[simp] theorem State.apply_tabs (s : State) (e : Eff) :
    (s.apply e).tabs = match e with | .tabs k v => SMap.set (tabReset) s.tabs k v | _ => s.tabs := by cases e <;> rfl

@[simp] theorem State.apply_tab (s : State) (e : Eff) (i : Nat) :
    (s.apply e).tab i = match e with | .tabs k v => if i = k then v else s.tab i | _ => s.tab i := by
  cases e <;> first | rfl | exact SMap.get_set _ _ _ _ _

@[simp] theorem State.apply_cnts (s : State) (e : Eff) :
    (s.apply e).cnts = match e with | .cnts k v => SMap.set (fun _ => 0) s.cnts k v | _ => s.cnts := by cases e <;> rfl

@[simp] theorem State.apply_cnt (s : State) (e : Eff) (i : Nat) :
    (s.apply e).cnt i = match e with | .cnts k v => if i = k then v else s.cnt i | _ => s.cnt i := by
  cases e <;> first | rfl | exact SMap.get_set _ _ _ _ _

@[simp] theorem State.apply_timers (s : State) (e : Eff) :
    (s.apply e).timers = match e with | .timers k v => SMap.set (fun _ => 0) s.timers k v | _ => s.timers := by cases e <;> rfl

@[simp] theorem State.apply_timer (s : State) (e : Eff) (i : Nat) :
    (s.apply e).timer i = match e with | .timers k v => if i = k then v else s.timer i | _ => s.timer i := by
  cases e <;> first | rfl | exact SMap.get_set _ _ _ _ _

@[simp] theorem State.apply_msix (s : State) (e : Eff) :
    (s.apply e).msix = match e with | .msix k v => SMap.set (msixReset) s.msix k v | _ => s.msix := by cases e <;> rfl

@[simp] theorem State.apply_msixWord (s : State) (e : Eff) (i : Nat) :
    (s.apply e).msixWord i = match e with | .msix k v => if i = k then v else s.msixWord i | _ => s.msixWord i := by
  cases e <;> first | rfl | exact SMap.get_set _ _ _ _ _

@[simp] theorem State.apply_pba (s : State) (e : Eff) :
    (s.apply e).pba = match e with | .pba v => v | _ => s.pba := by cases e <;> rfl

@[simp] theorem State.apply_inInt (s : State) (e : Eff) :
    (s.apply e).inInt = match e with | .inInt v => v | _ => s.inInt := by cases e <;> rfl

@[simp] theorem State.apply_pds (s : State) (e : Eff) :
    (s.apply e).pds = match e with | .pds k v => SMap.set (fun _ => {}) s.pds k v | _ => s.pds := by cases e <;> rfl

@[simp] theorem State.apply_pd (s : State) (e : Eff) (i : Nat) :
    (s.apply e).pd i = match e with | .pds k v => if i = k then v else s.pd i | _ => s.pd i := by
  cases e <;> first | rfl | exact SMap.get_set _ _ _ _ _

@[simp] theorem State.apply_avs (s : State) (e : Eff) :
    (s.apply e).avs = match e with | .avs v => v | _ => s.avs := by cases e <;> rfl

@[simp] theorem State.apply_deals (s : State) (e : Eff) :
    (s.apply e).deals = match e with | .deals v => v | _ => s.deals := by cases e <;> rfl

@[simp] theorem State.apply_prepares (s : State) (e : Eff) :
    (s.apply e).prepares = match e with | .prepares v => v | _ => s.prepares := by cases e <;> rfl

@[simp] theorem State.apply_stepOfs (s : State) (e : Eff) :
    (s.apply e).stepOfs = match e with | .stepOfs v => v | _ => s.stepOfs := by cases e <;> rfl

@[simp] theorem State.apply_tls (s : State) (e : Eff) :
    (s.apply e).tls = match e with | .tls k v => SMap.set (fun _ => {}) s.tls k v | _ => s.tls := by cases e <;> rfl

@[simp] theorem State.apply_tl (s : State) (e : Eff) (i : Nat) :
    (s.apply e).tl i = match e with | .tls k v => if i = k then v else s.tl i | _ => s.tl i := by
  cases e <;> first | rfl | exact SMap.get_set _ _ _ _ _

@[simp] theorem State.apply_opts (s : State) (e : Eff) :
    (s.apply e).opts = match e with | .opts k v => SMap.set (fun _ => {}) s.opts k v | _ => s.opts := by cases e <;> rfl

@[simp] theorem State.apply_opt (s : State) (e : Eff) (i : Nat) :
    (s.apply e).opt i = match e with | .opts k v => if i = k then v else s.opt i | _ => s.opt i := by
  cases e <;> first | rfl | exact SMap.get_set _ _ _ _ _

@[simp] theorem State.apply_cnvs (s : State) (e : Eff) :
    (s.apply e).cnvs = match e with | .cnvs k v => SMap.set (fun _ => {}) s.cnvs k v | _ => s.cnvs := by cases e <;> rfl

@[simp] theorem State.apply_cnv (s : State) (e : Eff) (i : Nat) :
    (s.apply e).cnv i = match e with | .cnvs k v => if i = k then v else s.cnv i | _ => s.cnv i := by
  cases e <;> first | rfl | exact SMap.get_set _ _ _ _ _

@[simp] theorem State.apply_txds (s : State) (e : Eff) :
    (s.apply e).txds = match e with | .txds k v => SMap.set (fun _ => {}) s.txds k v | _ => s.txds := by cases e <;> rfl

@[simp] theorem State.apply_txd (s : State) (e : Eff) (i : Nat) :
    (s.apply e).txd i = match e with | .txds k v => if i = k then v else s.txd i | _ => s.txd i := by
  cases e <;> first | rfl | exact SMap.get_set _ _ _ _ _

@[simp] theorem State.apply_rxfs (s : State) (e : Eff) :
    (s.apply e).rxfs = match e with | .rxfs k v => SMap.set (fun _ => {}) s.rxfs k v | _ => s.rxfs := by cases e <;> rfl

@[simp] theorem State.apply_rxf (s : State) (e : Eff) (i : Nat) :
    (s.apply e).rxf i = match e with | .rxfs k v => if i = k then v else s.rxf i | _ => s.rxf i := by
  cases e <;> first | rfl | exact SMap.get_set _ _ _ _ _

@[simp] theorem State.apply_errs (s : State) (e : Eff) :
    (s.apply e).errs = match e with | .errs v => v | _ => s.errs := by cases e <;> rfl

@[simp] theorem State.apply_resetting (s : State) (e : Eff) :
    (s.apply e).resetting = match e with | .resetting v => v | _ => s.resetting := by cases e <;> rfl

@[simp] theorem State.apply_calls (s : State) (e : Eff) :
    (s.apply e).calls = match e with | .calls v => v | _ => s.calls := by cases e <;> rfl

@[simp] theorem State.apply_intWrite (s : State) (e : Eff) :
    (s.apply e).intWrite = match e with | .intWrite v => v | _ => s.intWrite := by cases e <;> rfl

@[simp] theorem State.apply_fuses (s : State) (e : Eff) :
    (s.apply e).fuses = match e with | .fuses v => v | _ => s.fuses := by cases e <;> rfl

@[simp] theorem State.apply_swaps (s : State) (e : Eff) :
    (s.apply e).swaps = match e with | .swaps k v => SMap.set (fun _ => {}) s.swaps k v | _ => s.swaps := by cases e <;> rfl

@[simp] theorem State.apply_swap (s : State) (e : Eff) (i : Nat) :
    (s.apply e).swap i = match e with | .swaps k v => if i = k then v else s.swap i | _ => s.swap i := by
  cases e <;> first | rfl | exact SMap.get_set _ _ _ _ _

@[simp] theorem State.apply_rxms (s : State) (e : Eff) :
    (s.apply e).rxms = match e with | .rxms k v => SMap.set (fun _ => {}) s.rxms k v | _ => s.rxms := by cases e <;> rfl

@[simp] theorem State.apply_rxm (s : State) (e : Eff) (i : Nat) :
    (s.apply e).rxm i = match e with | .rxms k v => if i = k then v else s.rxm i | _ => s.rxm i := by
  cases e <;> first | rfl | exact SMap.get_set _ _ _ _ _

@[simp] theorem State.apply_taps (s : State) (e : Eff) :
    (s.apply e).taps = match e with | .taps k v => SMap.set (fun _ => 0) s.taps k v | _ => s.taps := by cases e <;> rfl

@[simp] theorem State.apply_tap (s : State) (e : Eff) (i : Nat) :
    (s.apply e).tap i = match e with | .taps k v => if i = k then v else s.tap i | _ => s.tap i := by
  cases e <;> first | rfl | exact SMap.get_set _ _ _ _ _

@[simp] theorem State.apply_fecs (s : State) (e : Eff) :
    (s.apply e).fecs = match e with | .fecs k v => SMap.set (fun _ => {}) s.fecs k v | _ => s.fecs := by cases e <;> rfl

@[simp] theorem State.apply_fec (s : State) (e : Eff) (i : Nat) :
    (s.apply e).fec i = match e with | .fecs k v => if i = k then v else s.fec i | _ => s.fec i := by
  cases e <;> first | rfl | exact SMap.get_set _ _ _ _ _

@[simp] theorem State.apply_frs (s : State) (e : Eff) :
    (s.apply e).frs = match e with | .frs k v => SMap.set (fun _ => {}) s.frs k v | _ => s.frs := by cases e <;> rfl

@[simp] theorem State.apply_fr (s : State) (e : Eff) (i : Nat) :
    (s.apply e).fr i = match e with | .frs k v => if i = k then v else s.fr i | _ => s.fr i := by
  cases e <;> first | rfl | exact SMap.get_set _ _ _ _ _

@[simp] theorem State.apply_ddrs (s : State) (e : Eff) :
    (s.apply e).ddrs = match e with | .ddrs k v => SMap.set (fun _ => {}) s.ddrs k v | _ => s.ddrs := by cases e <;> rfl

@[simp] theorem State.apply_ddr (s : State) (e : Eff) (i : Nat) :
    (s.apply e).ddr i = match e with | .ddrs k v => if i = k then v else s.ddr i | _ => s.ddr i := by
  cases e <;> first | rfl | exact SMap.get_set _ _ _ _ _

@[simp] theorem State.apply_ddrMem (s : State) (e : Eff) :
    (s.apply e).ddrMem = match e with | .ddrMem k v => SMap.set (fun _ => 0) s.ddrMem k v | _ => s.ddrMem := by cases e <;> rfl

@[simp] theorem State.apply_ddrByte (s : State) (e : Eff) (i : Nat) :
    (s.apply e).ddrByte i = match e with | .ddrMem k v => if i = k then v else s.ddrByte i | _ => s.ddrByte i := by
  cases e <;> first | rfl | exact SMap.get_set _ _ _ _ _

@[simp] theorem State.apply_spares (s : State) (e : Eff) :
    (s.apply e).spares = match e with | .spares k v => SMap.set (fun _ => 0) s.spares k v | _ => s.spares := by cases e <;> rfl

@[simp] theorem State.apply_spare (s : State) (e : Eff) (i : Nat) :
    (s.apply e).spare i = match e with | .spares k v => if i = k then v else s.spare i | _ => s.spare i := by
  cases e <;> first | rfl | exact SMap.get_set _ _ _ _ _

@[simp] theorem State.apply_suits (s : State) (e : Eff) :
    (s.apply e).suits = match e with | .suits k v => SMap.set (fun _ => {}) s.suits k v | _ => s.suits := by cases e <;> rfl

@[simp] theorem State.apply_suit (s : State) (e : Eff) (i : Nat) :
    (s.apply e).suit i = match e with | .suits k v => if i = k then v else s.suit i | _ => s.suit i := by
  cases e <;> first | rfl | exact SMap.get_set _ _ _ _ _

@[simp] theorem State.apply_pairs (s : State) (e : Eff) :
    (s.apply e).pairs = match e with | .pairs k v => SMap.set (fun _ => {}) s.pairs k v | _ => s.pairs := by cases e <;> rfl

@[simp] theorem State.apply_pair (s : State) (e : Eff) (i : Nat) :
    (s.apply e).pair i = match e with | .pairs k v => if i = k then v else s.pair i | _ => s.pair i := by
  cases e <;> first | rfl | exact SMap.get_set _ _ _ _ _

@[simp] theorem State.apply_hubs (s : State) (e : Eff) :
    (s.apply e).hubs = match e with | .hubs k v => SMap.set (fun _ => {}) s.hubs k v | _ => s.hubs := by cases e <;> rfl

@[simp] theorem State.apply_hub (s : State) (e : Eff) (i : Nat) :
    (s.apply e).hub i = match e with | .hubs k v => if i = k then v else s.hub i | _ => s.hub i := by
  cases e <;> first | rfl | exact SMap.get_set _ _ _ _ _

@[simp] theorem State.apply_leaves (s : State) (e : Eff) :
    (s.apply e).leaves = match e with | .leaves k v => SMap.set (fun _ => {}) s.leaves k v | _ => s.leaves := by cases e <;> rfl

@[simp] theorem State.apply_leafRec (s : State) (e : Eff) (i : Nat) :
    (s.apply e).leafRec i = match e with | .leaves k v => if i = k then v else s.leafRec i | _ => s.leafRec i := by
  cases e <;> first | rfl | exact SMap.get_set _ _ _ _ _

@[simp] theorem State.apply_brxs (s : State) (e : Eff) :
    (s.apply e).brxs = match e with | .brxs k v => SMap.set (fun _ => {}) s.brxs k v | _ => s.brxs := by cases e <;> rfl

@[simp] theorem State.apply_brx (s : State) (e : Eff) (i : Nat) :
    (s.apply e).brx i = match e with | .brxs k v => if i = k then v else s.brx i | _ => s.brx i := by
  cases e <;> first | rfl | exact SMap.get_set _ _ _ _ _

@[simp] theorem State.apply_cips (s : State) (e : Eff) :
    (s.apply e).cips = match e with | .cips k v => SMap.set (fun _ => {}) s.cips k v | _ => s.cips := by cases e <;> rfl

@[simp] theorem State.apply_cip (s : State) (e : Eff) (i : Nat) :
    (s.apply e).cip i = match e with | .cips k v => if i = k then v else s.cip i | _ => s.cip i := by
  cases e <;> first | rfl | exact SMap.get_set _ _ _ _ _

@[simp] theorem State.apply_slots (s : State) (e : Eff) :
    (s.apply e).slots = match e with | .slots k v => SMap.set (fun _ => {}) s.slots k v | _ => s.slots := by cases e <;> rfl

@[simp] theorem State.apply_slot (s : State) (e : Eff) (i : Nat) :
    (s.apply e).slot i = match e with | .slots k v => if i = k then v else s.slot i | _ => s.slot i := by
  cases e <;> first | rfl | exact SMap.get_set _ _ _ _ _

@[simp] theorem State.apply_assocs (s : State) (e : Eff) :
    (s.apply e).assocs = match e with | .assocs k v => SMap.set (fun _ => {}) s.assocs k v | _ => s.assocs := by cases e <;> rfl

@[simp] theorem State.apply_assoc (s : State) (e : Eff) (i : Nat) :
    (s.apply e).assoc i = match e with | .assocs k v => if i = k then v else s.assoc i | _ => s.assoc i := by
  cases e <;> first | rfl | exact SMap.get_set _ _ _ _ _

@[simp] theorem State.apply_stamps (s : State) (e : Eff) :
    (s.apply e).stamps = match e with | .stamps k v => SMap.set (fun _ => []) s.stamps k v | _ => s.stamps := by cases e <;> rfl

@[simp] theorem State.apply_stamp (s : State) (e : Eff) (i : Nat) :
    (s.apply e).stamp i = match e with | .stamps k v => if i = k then v else s.stamp i | _ => s.stamp i := by
  cases e <;> first | rfl | exact SMap.get_set _ _ _ _ _

@[simp] theorem State.apply_cls (s : State) (e : Eff) :
    (s.apply e).cls = match e with | .cls v => v | _ => s.cls := by cases e <;> rfl

@[simp] theorem State.apply_queues (s : State) (e : Eff) :
    (s.apply e).queues = match e with | .queues k v => SMap.set (fun _ => {}) s.queues k v | _ => s.queues := by cases e <;> rfl

@[simp] theorem State.apply_queue (s : State) (e : Eff) (i : Nat) :
    (s.apply e).queue i = match e with | .queues k v => if i = k then v else s.queue i | _ => s.queue i := by
  cases e <;> first | rfl | exact SMap.get_set _ _ _ _ _

@[simp] theorem State.apply_scheds (s : State) (e : Eff) :
    (s.apply e).scheds = match e with | .scheds k v => SMap.set (fun _ => {}) s.scheds k v | _ => s.scheds := by cases e <;> rfl

@[simp] theorem State.apply_sched (s : State) (e : Eff) (i : Nat) :
    (s.apply e).sched i = match e with | .scheds k v => if i = k then v else s.sched i | _ => s.sched i := by
  cases e <;> first | rfl | exact SMap.get_set _ _ _ _ _

@[simp] theorem State.apply_sns (s : State) (e : Eff) :
    (s.apply e).sns = match e with | .sns v => v | _ => s.sns := by cases e <;> rfl

@[simp] theorem State.apply_streams (s : State) (e : Eff) :
    (s.apply e).streams = match e with | .streams k v => SMap.set (fun _ => {}) s.streams k v | _ => s.streams := by cases e <;> rfl

@[simp] theorem State.apply_stream (s : State) (e : Eff) (i : Nat) :
    (s.apply e).stream i = match e with | .streams k v => if i = k then v else s.stream i | _ => s.stream i := by
  cases e <;> first | rfl | exact SMap.get_set _ _ _ _ _

@[simp] theorem State.apply_dets (s : State) (e : Eff) :
    (s.apply e).dets = match e with | .dets k v => SMap.set (fun _ => {}) s.dets k v | _ => s.dets := by cases e <;> rfl

@[simp] theorem State.apply_det (s : State) (e : Eff) (i : Nat) :
    (s.apply e).det i = match e with | .dets k v => if i = k then v else s.det i | _ => s.det i := by
  cases e <;> first | rfl | exact SMap.get_set _ _ _ _ _

@[simp] theorem State.apply_archs (s : State) (e : Eff) :
    (s.apply e).archs = match e with | .archs k v => SMap.set (fun _ => {}) s.archs k v | _ => s.archs := by cases e <;> rfl

@[simp] theorem State.apply_arch (s : State) (e : Eff) (i : Nat) :
    (s.apply e).arch i = match e with | .archs k v => if i = k then v else s.arch i | _ => s.arch i := by
  cases e <;> first | rfl | exact SMap.get_set _ _ _ _ _

@[simp] theorem State.apply_refs (s : State) (e : Eff) :
    (s.apply e).refs = match e with | .refs k v => SMap.set (fun _ => {}) s.refs k v | _ => s.refs := by cases e <;> rfl

@[simp] theorem State.apply_ref (s : State) (e : Eff) (i : Nat) :
    (s.apply e).ref i = match e with | .refs k v => if i = k then v else s.ref i | _ => s.ref i := by
  cases e <;> first | rfl | exact SMap.get_set _ _ _ _ _

@[simp] theorem State.apply_dplls (s : State) (e : Eff) :
    (s.apply e).dplls = match e with | .dplls k v => SMap.set (fun _ => {}) s.dplls k v | _ => s.dplls := by cases e <;> rfl

@[simp] theorem State.apply_dpll (s : State) (e : Eff) (i : Nat) :
    (s.apply e).dpll i = match e with | .dplls k v => if i = k then v else s.dpll i | _ => s.dpll i := by
  cases e <;> first | rfl | exact SMap.get_set _ _ _ _ _

@[simp] theorem State.apply_vlgs (s : State) (e : Eff) :
    (s.apply e).vlgs = match e with | .vlgs k v => SMap.set (fun _ => {}) s.vlgs k v | _ => s.vlgs := by cases e <;> rfl

@[simp] theorem State.apply_vlg (s : State) (e : Eff) (i : Nat) :
    (s.apply e).vlg i = match e with | .vlgs k v => if i = k then v else s.vlg i | _ => s.vlg i := by
  cases e <;> first | rfl | exact SMap.get_set _ _ _ _ _

@[simp] theorem State.apply_stack (s : State) (e : Eff) :
    (s.apply e).stack = match e with | .stack v => v | _ => s.stack := by cases e <;> rfl

@[simp] theorem State.apply_engs (s : State) (e : Eff) :
    (s.apply e).engs = match e with | .engs k v => SMap.set (fun _ => {}) s.engs k v | _ => s.engs := by cases e <;> rfl

@[simp] theorem State.apply_eng (s : State) (e : Eff) (i : Nat) :
    (s.apply e).eng i = match e with | .engs k v => if i = k then v else s.eng i | _ => s.eng i := by
  cases e <;> first | rfl | exact SMap.get_set _ _ _ _ _

@[simp] theorem State.apply_cls8 (s : State) (e : Eff) :
    (s.apply e).cls8 = match e with | .cls8 k v => SMap.set (fun _ => {}) s.cls8 k v | _ => s.cls8 := by cases e <;> rfl

@[simp] theorem State.apply_cl (s : State) (e : Eff) (i : Nat) :
    (s.apply e).cl i = match e with | .cls8 k v => if i = k then v else s.cl i | _ => s.cl i := by
  cases e <;> first | rfl | exact SMap.get_set _ _ _ _ _

@[simp] theorem State.apply_engMem (s : State) (e : Eff) :
    (s.apply e).engMem = match e with | .engMem k v => SMap.set (fun _ => 0) s.engMem k v | _ => s.engMem := by cases e <;> rfl

@[simp] theorem State.apply_engByte (s : State) (e : Eff) (i : Nat) :
    (s.apply e).engByte i = match e with | .engMem k v => if i = k then v else s.engByte i | _ => s.engByte i := by
  cases e <;> first | rfl | exact SMap.get_set _ _ _ _ _

@[simp] theorem State.apply_mails (s : State) (e : Eff) :
    (s.apply e).mails = match e with | .mails v => v | _ => s.mails := by cases e <;> rfl

@[simp] theorem State.apply_boot (s : State) (e : Eff) :
    (s.apply e).boot = match e with | .boot v => v | _ => s.boot := by cases e <;> rfl

@[simp] theorem State.apply_sec (s : State) (e : Eff) :
    (s.apply e).sec = match e with | .sec v => v | _ => s.sec := by cases e <;> rfl

@[simp] theorem State.apply_flash (s : State) (e : Eff) :
    (s.apply e).flash = match e with | .flash k v => SMap.set (fun _ => none) s.flash k v | _ => s.flash := by cases e <;> rfl

@[simp] theorem State.apply_flashAt (s : State) (e : Eff) (i : Nat) :
    (s.apply e).flashAt i = match e with | .flash k v => if i = k then v else s.flashAt i | _ => s.flashAt i := by
  cases e <;> first | rfl | exact SMap.get_set _ _ _ _ _

@[simp] theorem State.apply_i2c (s : State) (e : Eff) :
    (s.apply e).i2c = match e with | .i2c v => v | _ => s.i2c := by cases e <;> rfl

@[simp] theorem State.apply_perst (s : State) (e : Eff) :
    (s.apply e).perst = match e with | .perst v => v | _ => s.perst := by cases e <;> rfl

@[simp] theorem State.apply_pending (s : State) (e : Eff) : (s.apply e).pending = s.pending := by cases e <;> rfl

end Sys2Proof.Machine
end

