-- ==== Sys2Proof/Laws/Run.lean ====
section
/-!
SUPPORT. Laws/Run.lean: how programs run: one after another, under a condition, as an event; and what a write by a requester
that a page serves comes to.
-/

namespace Sys2Proof.Machine

theorem State.applyAll_append (s : State) (l m : List Eff) : s.applyAll (l ++ m) = (s.applyAll l).applyAll m := by
  induction l generalizing s with
  | nil => rfl
  | cons e l ih => exact ih (s.apply e)

@[simp] theorem State.applyAll_nil (s : State) : s.applyAll [] = s := rfl
@[simp] theorem State.applyAll_cons (s : State) (e : Eff) (l : List Eff) : s.applyAll (e :: l) = (s.apply e).applyAll l := rfl

theorem State.did_eq (s : State) (p : Prog) : s.did p = s.applyAll (p s) := rfl

@[simp] theorem State.did_skip (s : State) : s.did skip = s := rfl
@[simp] theorem State.did_seqs_nil (s : State) : s.did (seqs []) = s := rfl

@[simp] theorem State.did_seqs_cons (s : State) (p : Prog) (l : List Prog) :
    s.did (seqs (p :: l)) = (s.did p).did (seqs l) := State.applyAll_append s (p s) (seqs l (s.did p))

theorem State.did_ite (s : State) (b : Prop) [Decidable b] (p q : Prog) :
    s.did (if b then p else q) = if b then s.did p else s.did q := by split <;> rfl

/-- An event while the module runs. -/
@[simp] theorem State.did_ev {s : State} (h : s.phase = .run) (p : Prog) : s.did (ev p) = s.did p := by
  simp [State.did, ev, h]

/-- A command's program, told as the state that it leaves. -/
theorem run_eq (p : Prog) (s : State) : run p s = .next (s.did p).settled := rfl

/-- Events of the module's surroundings while the module runs, told as the state that each leaves. -/
theorem run_ev {s : State} (h : s.phase = .run) (p : Prog) : run (ev p) s = .next (s.did p).settled := by
  rw [run_eq, State.did_ev h]

theorem State.did_seqs_pair (s : State) (p q : Prog) (l : List Prog) :
    s.did (seqs (p :: q :: l)) = (s.did p).did (seqs (q :: l)) := State.did_seqs_cons s p (q :: l)

theorem State.did_seqs_cons_pair (s : State) (p q : Prog) : s.did (seqs [p, q]) = (s.did p).did q := by
  rw [State.did_seqs_cons, State.did_seqs_cons, State.did_seqs_nil]

theorem run_carEv {s : State} (h : s.phase = .run) (c : Nat) (p : Prog) :
    run (carEv c p) s = .next ((s.did p).carDone c) := by
  rw [carEv, run_ev h, State.did_seqs_pair, State.carDone]

theorem run_suitEv {s : State} (h : s.phase = .run) (p : Prog) : run (suitEv p) s = .next (s.did p).suitDone := by
  rw [suitEv, run_ev h, State.did_seqs_pair, State.did_seqs_cons, State.did_seqs_nil, State.suitDone]

theorem run_refEv {s : State} (h : s.phase = .run) (p : Prog) : run (refEv p) s = .next (s.did p).refDone := by
  rw [refEv, run_ev h, State.did_seqs_pair, State.did_seqs_cons, State.did_seqs_nil, State.refDone]

theorem run_vlgEv {s : State} (h : s.phase = .run) (p : Prog) : run (vlgEv p) s = .next (s.did p).vlgDone := by
  rw [vlgEv, run_ev h, State.did_seqs_pair, State.vlgDone]

/-! ### Writes that a page serves -/

/-- Every page's base is a slot. -/
theorem Page.base_slot (p : Page) : p.base % 0x1000 = 0 := by
  obtain ⟨k, i⟩ := p
  cases k <;> simp only [Page.base, pageBase] <;> omega

/-- A live write of a writable register reaches its page. -/
theorem did_regCmd {s : State} {src : Requester} {p : Page} {off : Nat} {r : RegRow} (v : Word)
    (h : s.serves src p) (hp : pageAt (p.base + off) = some p) (ho : 0x100 ≤ off) (ho' : off < 0x800)
    (hr : regRow p off = some r) (hw : r.rw ≠ 0 ∨ r.w1 ≠ 0) (hk : p.kind ≠ .time) :
    s.did (regCmd src p.base off v) = s.did (pageWrite p src.id false r v) := by
  obtain ⟨h1, h2, h3, h4, h5, h6⟩ := h
  have ha : (p.base + off) % 0x1000 = off := by have := p.base_slot; omega
  have e1 : ¬ ((src.id = 2 ∧ !i2cWrites p) ∨ (src.id ≠ 1 ∧ hostOnly p off)) := by
    rcases h6 with rfl | ⟨_, _, hm, h6⟩
    · simp [Requester.id]
    · have : hostOnly p off = false := by simp [hostOnly, hm]
      rcases h6 with h6 | h6
      · cases src <;> simp_all [Requester.id]
        omega
      · simp [h6, this]
  have e2 : ¬ ((p.kind = .boot ∨ p.kind = .sec) ∧ src.id ≠ 1) := by
    rcases h6 with rfl | ⟨hb, hs, _⟩
    · simp [Requester.id]
    · simp [hb, hs]
  have e3 : ¬ (r.rw = 0 ∧ r.w1 = 0) := fun ⟨a, b⟩ => hw.elim (· a) (· b)
  have e4 : ¬ (0x800 ≤ off) := by omega
  have e5 : ¬ (off < 0x100) := by omega
  simp only [State.did, regCmd]
  congr 1
  simp only [busWrite, ha, h1, hp, h2, Bool.false_eq_true, if_false, if_neg e1, if_neg e5,
    blockWrite, h3, h4, if_neg e4, if_neg e2, h5, liveWrite, hr, if_neg e3, hk, Bool.not_true]

/-- A write of a window register reaches the window. -/
theorem did_window {s : State} {src : Requester} {p : Page} {off : Nat} (v : Word) (h : s.windowServes src p)
    (hp : pageAt (p.base + off) = some p) (hw : pageWindow p = true) (ho : 0x800 ≤ off) (ho' : off < 0x1000)
    (hk : winOff off = true) : s.did (busWrite src.id (p.base + off) v) = s.did (winWrite p src.id off v) := by
  obtain ⟨h1, h2, h3, h4, h6⟩ := h
  have ha : (p.base + off) % 0x1000 = off := by have := p.base_slot; omega
  have hm : hostOnly p off = false := by
    have : off ≠ MGT.LOCK_BREAK ∧ off ≠ MGT.I2C_ADDR := by simp only [MGT.LOCK_BREAK, MGT.I2C_ADDR]; omega
    simp [hostOnly, this]
  have e1 : ¬ ((src.id = 2 ∧ !i2cWrites p) ∨ (src.id ≠ 1 ∧ hostOnly p off)) := by
    rcases h6 with rfl | ⟨_, _, _, h6⟩
    · simp [Requester.id]
    · rcases h6 with h6 | h6
      · cases src <;> simp_all [Requester.id]
        omega
      · simp [h6, hm]
  have e2 : ¬ ((p.kind = .boot ∨ p.kind = .sec) ∧ src.id ≠ 1) := by
    rcases h6 with rfl | ⟨hb, hs, _⟩
    · simp [Requester.id]
    · simp [hb, hs]
  have e5 : ¬ (off < 0x100) := by omega
  simp only [State.did]
  congr 1
  simp only [busWrite, ha, h1, hp, h2, Bool.false_eq_true, if_false, if_neg e1, if_neg e5, blockWrite, h3, h4,
    if_neg e2, if_pos ho, hw, hk, Bool.and_self, if_true, Bool.not_true]

/-- What a selection leaves: the entry selected. -/
theorem select_winSel (s : State) (p : Page) (t e : Nat) (ht : t < 256) (he : e < 2 ^ 24) :
    (s.select p t e).winSel p.base = (t, e) := by
  have ht1 : (BitVec.ofNat 32 (t * 2 ^ 24 + e)).toNat = t * 2 ^ 24 + e := by
    rw [BitVec.toNat_ofNat]; exact Nat.mod_eq_of_lt (by omega)
  have hr : (s.select p t e).reg (p.base + oWIN_SEL) = BitVec.ofNat 32 (t * 2 ^ 24 + e) := by
    rw [State.select, State.apply_reg]; exact if_pos rfl
  have e1 : (t * 2 ^ 24 + e) / 2 ^ 24 % 2 ^ 8 = t := by omega
  have e2 : (t * 2 ^ 24 + e) / 2 ^ 0 % 2 ^ 24 = e := by omega
  simp only [State.winSel, hr, bitsGet, ht1, e1, e2]

/-- A selection leaves every register but WIN_SEL. -/
theorem select_reg (s : State) (p : Page) (t e : Nat) (a : Nat) (h : a ≠ p.base + oWIN_SEL) :
    (s.select p t e).reg a = s.reg a := by
  rw [State.select, State.apply_reg]; exact if_neg h

theorem select_serves {s : State} {src : Requester} {p : Page} (t e : Nat) (h : s.windowServes src p) :
    (s.select p t e).windowServes src p := by
  obtain ⟨h1, h2, h3, h4, h6⟩ := h
  have n1 : p.base + oPAGE_STAT ≠ p.base + oWIN_SEL := by simp only [oPAGE_STAT, oWIN_SEL]; omega
  have n2 : pageBase .err 0 + ERR.ISL_FAILED ≠ p.base + oWIN_SEL := by
    have := p.base_slot
    have : (pageBase .err 0 + ERR.ISL_FAILED) % 0x1000 ≠ 0x800 := by decide
    simp only [oWIN_SEL]; omega
  refine ⟨by rw [State.select, State.apply_phase]; exact h1, ?_, ?_, ?_, h6⟩
  · simp only [State.present, State.select, State.apply_part] at h2 ⊢; exact h2
  · have ep : (s.select p t e).pdSt (pagePd p) = s.pdSt (pagePd p) := by
      simp only [State.pdSt, State.select, State.apply_pd]
    have er : (s.select p t e).resetting = s.resetting := by rw [State.select, State.apply_resetting]
    simp only [State.pageOn, State.pdOn, State.islandDown, ep, er, select_reg s p t e _ n2] at h3 ⊢
    exact h3
  · simp only [State.srstBusy, State.fb, State.fg, PAGE_STAT_SRST_BUSY, select_reg s p t e _ n1] at h4 ⊢
    exact h4

/-- A window word written after its entry is selected. -/
theorem did_winCmd {s : State} {src : Requester} {p : Page} {t e w : Nat} {q : Nat × Nat} (v : Word)
    (h : s.windowServes src p) (hp : pageAt (p.base + oWIN_SEL) = some p)
    (hp' : pageAt (p.base + oWIN_DATA w) = some p) (hw : pageWindow p = true) (hq : winTable p t = some q) (he : e < q.1)
    (hc : w < q.2) (hl : w < 16) (ht : t < 256) (he' : e < 2 ^ 24) :
    s.did (winCmd src p.base t e w v) = ((s.select p t e).did (pageTabWrite p src.id t e w v)).did (winNext p w) := by
  have hsel : s.did (busWrite src.id (p.base + oWIN_SEL) (BitVec.ofNat 32 (t * 2 ^ 24 + e))) = s.select p t e := by
    rw [did_window _ h hp hw (by simp only [oWIN_SEL]; omega) (by simp only [oWIN_SEL]; omega) (by simp [winOff])]
    simp only [State.did, winWrite, if_true]
    rfl
  have hd : winOff (oWIN_DATA w) = true := by
    have h16 : ∀ w : Fin 16, winOff (oWIN_DATA w.val) = true := by decide
    exact h16 ⟨w, hl⟩
  have n1 : ¬ (oWIN_DATA w = oWIN_SEL) := by simp only [oWIN_DATA, oWIN_SEL]; omega
  have n2 : ¬ (oWIN_DATA w = oWIN_CTL) := by simp only [oWIN_DATA, oWIN_CTL]; omega
  have n3 : ¬ (oWIN_DATA w = oWIN_STAT) := by simp only [oWIN_DATA, oWIN_STAT]; omega
  have hi : (oWIN_DATA w - oWIN_DATA 0) / 4 = w := by simp only [oWIN_DATA]; omega
  have hs := select_winSel s p t e ht he'
  rw [winCmd, State.did_seqs_cons_pair, hsel,
    did_window v (select_serves t e h) hp' hw (by simp only [oWIN_DATA]; omega) (by simp only [oWIN_DATA]; omega) hd,
    ← State.did_seqs_cons_pair]
  simp only [State.did, winWrite, if_neg n1, if_neg n2, if_neg n3, winDataWrite, hs, hq, hi,
    if_neg (Nat.not_le.mpr he), if_neg (Nat.not_le.mpr hc)]

end Sys2Proof.Machine
end

