-- ==== Sys2Proof/Laws/Wf.lean ====
section
/-!
SUPPORT. Laws/Wf.lean: every change of the state, and so every command and every step, keeps the canonical form of the sparse
maps, the memories among them.
-/

namespace Sys2Proof.Machine

theorem SMap.rising_cons {α : Type} (a : Nat × α) (m : List (Nat × α)) :
    SMap.rising (a :: m) = true ↔ (∀ e ∈ m, a.1 < e.1) ∧ SMap.rising m = true := by
  induction m generalizing a with
  | nil => simp [SMap.rising]
  | cons b m ih =>
    simp only [SMap.rising, Bool.and_eq_true, decide_eq_true_eq, List.mem_cons, forall_eq_or_imp]
    constructor
    · rintro ⟨h1, h2⟩
      exact ⟨⟨h1, fun e he => Nat.lt_trans h1 ((ih b).1 h2 |>.1 e he)⟩, h2⟩
    · rintro ⟨⟨h1, _⟩, h2⟩
      exact ⟨h1, h2⟩

theorem SMap.mem_erase {α : Type} (m : List (Nat × α)) (k : Nat) (e : Nat × α) (h : e ∈ SMap.erase m k) : e ∈ m ∧ e.1 ≠ k := by
  induction m with
  | nil => simp [SMap.erase] at h
  | cons b m ih =>
    obtain ⟨k', v⟩ := b
    by_cases hk : k' = k
    · simp only [SMap.erase, if_pos hk] at h
      have := ih h
      simp [this]
    · simp only [SMap.erase, if_neg hk, List.mem_cons] at h
      rcases h with rfl | h
      · simp [hk]
      · have := ih h
        simp [this]

theorem SMap.rising_erase {α : Type} (m : List (Nat × α)) (k : Nat) (h : SMap.rising m = true) :
    SMap.rising (SMap.erase m k) = true := by
  induction m with
  | nil => rfl
  | cons b m ih =>
    obtain ⟨k', v⟩ := b
    rw [SMap.rising_cons] at h
    by_cases hk : k' = k
    · simp only [SMap.erase, if_pos hk]
      exact ih h.2
    · simp only [SMap.erase, if_neg hk]
      rw [SMap.rising_cons]
      exact ⟨fun e he => h.1 e (SMap.mem_erase m k e he).1, ih h.2⟩

theorem SMap.mem_insert {α : Type} (m : List (Nat × α)) (k : Nat) (v : α) (e : Nat × α) (h : e ∈ SMap.insert m k v) :
    e = (k, v) ∨ e ∈ m := by
  induction m with
  | nil => simpa [SMap.insert] using h
  | cons b m ih =>
    obtain ⟨k', v'⟩ := b
    simp only [SMap.insert] at h
    split at h
    · simpa using h
    · split at h
      · simp only [List.mem_cons] at h ⊢
        tauto
      · simp only [List.mem_cons] at h ⊢
        rcases h with h | h
        · tauto
        · rcases ih h with h | h <;> tauto

theorem SMap.rising_insert {α : Type} (m : List (Nat × α)) (k : Nat) (v : α) (h : SMap.rising m = true) :
    SMap.rising (SMap.insert m k v) = true := by
  induction m with
  | nil => rfl
  | cons b m ih =>
    obtain ⟨k', v'⟩ := b
    have h' := (SMap.rising_cons (k', v') m).1 h
    simp only [SMap.insert]
    split
    · rename_i hk
      rw [SMap.rising_cons]
      refine ⟨fun e he => ?_, h⟩
      rcases List.mem_cons.1 he with rfl | he
      · exact hk
      · exact Nat.lt_trans hk (h'.1 e he)
    · split
      · rename_i hk
        rw [SMap.rising_cons]
        exact ⟨fun e he => by simpa [hk] using h'.1 e he, h'.2⟩
      · rw [SMap.rising_cons]
        refine ⟨fun e he => ?_, ih h'.2⟩
        rcases SMap.mem_insert m k v e he with rfl | he
        · simp only; omega
        · exact h'.1 e he

/-- A write keeps the canonical form. -/
theorem SMap.wf_set {α : Type} [DecidableEq α] (d : Nat → α) (m : List (Nat × α)) (k : Nat) (v : α)
    (h : SMap.wf d m = true) : SMap.wf d (SMap.set d m k v) = true := by
  simp only [SMap.wf, Bool.and_eq_true, List.all_eq_true] at h ⊢
  simp only [SMap.set]
  split
  · exact ⟨SMap.rising_erase m k h.1, fun e he => h.2 e (SMap.mem_erase m k e he).1⟩
  · rename_i hv
    refine ⟨SMap.rising_insert m k v h.1, fun e he => ?_⟩
    rcases SMap.mem_insert m k v e he with rfl | he
    · simpa using hv
    · exact h.2 e he

/-! ### The maps of the state, one by one -/

theorem State.regs_wf (s : State) (e : Eff) (h : SMap.wf (regReset) s.regs = true) : SMap.wf (regReset) (s.apply e).regs = true := by
  cases e <;> first | exact h | exact SMap.wf_set _ _ _ _ h

theorem State.tabs_wf (s : State) (e : Eff) (h : SMap.wf (tabReset) s.tabs = true) : SMap.wf (tabReset) (s.apply e).tabs = true := by
  cases e <;> first | exact h | exact SMap.wf_set _ _ _ _ h

theorem State.cnts_wf (s : State) (e : Eff) (h : SMap.wf (fun _ => 0) s.cnts = true) : SMap.wf (fun _ => 0) (s.apply e).cnts = true := by
  cases e <;> first | exact h | exact SMap.wf_set _ _ _ _ h

theorem State.timers_wf (s : State) (e : Eff) (h : SMap.wf (fun _ => 0) s.timers = true) : SMap.wf (fun _ => 0) (s.apply e).timers = true := by
  cases e <;> first | exact h | exact SMap.wf_set _ _ _ _ h

theorem State.msix_wf (s : State) (e : Eff) (h : SMap.wf (msixReset) s.msix = true) : SMap.wf (msixReset) (s.apply e).msix = true := by
  cases e <;> first | exact h | exact SMap.wf_set _ _ _ _ h

theorem State.pds_wf (s : State) (e : Eff) (h : SMap.wf (fun _ => {}) s.pds = true) : SMap.wf (fun _ => {}) (s.apply e).pds = true := by
  cases e <;> first | exact h | exact SMap.wf_set _ _ _ _ h

theorem State.tls_wf (s : State) (e : Eff) (h : SMap.wf (fun _ => {}) s.tls = true) : SMap.wf (fun _ => {}) (s.apply e).tls = true := by
  cases e <;> first | exact h | exact SMap.wf_set _ _ _ _ h

theorem State.opts_wf (s : State) (e : Eff) (h : SMap.wf (fun _ => {}) s.opts = true) : SMap.wf (fun _ => {}) (s.apply e).opts = true := by
  cases e <;> first | exact h | exact SMap.wf_set _ _ _ _ h

theorem State.cnvs_wf (s : State) (e : Eff) (h : SMap.wf (fun _ => {}) s.cnvs = true) : SMap.wf (fun _ => {}) (s.apply e).cnvs = true := by
  cases e <;> first | exact h | exact SMap.wf_set _ _ _ _ h

theorem State.txds_wf (s : State) (e : Eff) (h : SMap.wf (fun _ => {}) s.txds = true) : SMap.wf (fun _ => {}) (s.apply e).txds = true := by
  cases e <;> first | exact h | exact SMap.wf_set _ _ _ _ h

theorem State.rxfs_wf (s : State) (e : Eff) (h : SMap.wf (fun _ => {}) s.rxfs = true) : SMap.wf (fun _ => {}) (s.apply e).rxfs = true := by
  cases e <;> first | exact h | exact SMap.wf_set _ _ _ _ h

theorem State.swaps_wf (s : State) (e : Eff) (h : SMap.wf (fun _ => {}) s.swaps = true) : SMap.wf (fun _ => {}) (s.apply e).swaps = true := by
  cases e <;> first | exact h | exact SMap.wf_set _ _ _ _ h

theorem State.rxms_wf (s : State) (e : Eff) (h : SMap.wf (fun _ => {}) s.rxms = true) : SMap.wf (fun _ => {}) (s.apply e).rxms = true := by
  cases e <;> first | exact h | exact SMap.wf_set _ _ _ _ h

theorem State.taps_wf (s : State) (e : Eff) (h : SMap.wf (fun _ => 0) s.taps = true) : SMap.wf (fun _ => 0) (s.apply e).taps = true := by
  cases e <;> first | exact h | exact SMap.wf_set _ _ _ _ h

theorem State.fecs_wf (s : State) (e : Eff) (h : SMap.wf (fun _ => {}) s.fecs = true) : SMap.wf (fun _ => {}) (s.apply e).fecs = true := by
  cases e <;> first | exact h | exact SMap.wf_set _ _ _ _ h

theorem State.frs_wf (s : State) (e : Eff) (h : SMap.wf (fun _ => {}) s.frs = true) : SMap.wf (fun _ => {}) (s.apply e).frs = true := by
  cases e <;> first | exact h | exact SMap.wf_set _ _ _ _ h

theorem State.ddrs_wf (s : State) (e : Eff) (h : SMap.wf (fun _ => {}) s.ddrs = true) : SMap.wf (fun _ => {}) (s.apply e).ddrs = true := by
  cases e <;> first | exact h | exact SMap.wf_set _ _ _ _ h

theorem State.ddrMem_wf (s : State) (e : Eff) (h : SMap.wf (fun _ => 0) s.ddrMem = true) : SMap.wf (fun _ => 0) (s.apply e).ddrMem = true := by
  cases e <;> first | exact h | exact SMap.wf_set _ _ _ _ h

theorem State.spares_wf (s : State) (e : Eff) (h : SMap.wf (fun _ => 0) s.spares = true) : SMap.wf (fun _ => 0) (s.apply e).spares = true := by
  cases e <;> first | exact h | exact SMap.wf_set _ _ _ _ h

theorem State.suits_wf (s : State) (e : Eff) (h : SMap.wf (fun _ => {}) s.suits = true) : SMap.wf (fun _ => {}) (s.apply e).suits = true := by
  cases e <;> first | exact h | exact SMap.wf_set _ _ _ _ h

theorem State.pairs_wf (s : State) (e : Eff) (h : SMap.wf (fun _ => {}) s.pairs = true) : SMap.wf (fun _ => {}) (s.apply e).pairs = true := by
  cases e <;> first | exact h | exact SMap.wf_set _ _ _ _ h

theorem State.hubs_wf (s : State) (e : Eff) (h : SMap.wf (fun _ => {}) s.hubs = true) : SMap.wf (fun _ => {}) (s.apply e).hubs = true := by
  cases e <;> first | exact h | exact SMap.wf_set _ _ _ _ h

theorem State.leaves_wf (s : State) (e : Eff) (h : SMap.wf (fun _ => {}) s.leaves = true) : SMap.wf (fun _ => {}) (s.apply e).leaves = true := by
  cases e <;> first | exact h | exact SMap.wf_set _ _ _ _ h

theorem State.brxs_wf (s : State) (e : Eff) (h : SMap.wf (fun _ => {}) s.brxs = true) : SMap.wf (fun _ => {}) (s.apply e).brxs = true := by
  cases e <;> first | exact h | exact SMap.wf_set _ _ _ _ h

theorem State.cips_wf (s : State) (e : Eff) (h : SMap.wf (fun _ => {}) s.cips = true) : SMap.wf (fun _ => {}) (s.apply e).cips = true := by
  cases e <;> first | exact h | exact SMap.wf_set _ _ _ _ h

theorem State.slots_wf (s : State) (e : Eff) (h : SMap.wf (fun _ => {}) s.slots = true) : SMap.wf (fun _ => {}) (s.apply e).slots = true := by
  cases e <;> first | exact h | exact SMap.wf_set _ _ _ _ h

theorem State.assocs_wf (s : State) (e : Eff) (h : SMap.wf (fun _ => {}) s.assocs = true) : SMap.wf (fun _ => {}) (s.apply e).assocs = true := by
  cases e <;> first | exact h | exact SMap.wf_set _ _ _ _ h

theorem State.stamps_wf (s : State) (e : Eff) (h : SMap.wf (fun _ => []) s.stamps = true) : SMap.wf (fun _ => []) (s.apply e).stamps = true := by
  cases e <;> first | exact h | exact SMap.wf_set _ _ _ _ h

theorem State.queues_wf (s : State) (e : Eff) (h : SMap.wf (fun _ => {}) s.queues = true) : SMap.wf (fun _ => {}) (s.apply e).queues = true := by
  cases e <;> first | exact h | exact SMap.wf_set _ _ _ _ h

theorem State.scheds_wf (s : State) (e : Eff) (h : SMap.wf (fun _ => {}) s.scheds = true) : SMap.wf (fun _ => {}) (s.apply e).scheds = true := by
  cases e <;> first | exact h | exact SMap.wf_set _ _ _ _ h

theorem State.streams_wf (s : State) (e : Eff) (h : SMap.wf (fun _ => {}) s.streams = true) : SMap.wf (fun _ => {}) (s.apply e).streams = true := by
  cases e <;> first | exact h | exact SMap.wf_set _ _ _ _ h

theorem State.dets_wf (s : State) (e : Eff) (h : SMap.wf (fun _ => {}) s.dets = true) : SMap.wf (fun _ => {}) (s.apply e).dets = true := by
  cases e <;> first | exact h | exact SMap.wf_set _ _ _ _ h

theorem State.archs_wf (s : State) (e : Eff) (h : SMap.wf (fun _ => {}) s.archs = true) : SMap.wf (fun _ => {}) (s.apply e).archs = true := by
  cases e <;> first | exact h | exact SMap.wf_set _ _ _ _ h

theorem State.refs_wf (s : State) (e : Eff) (h : SMap.wf (fun _ => {}) s.refs = true) : SMap.wf (fun _ => {}) (s.apply e).refs = true := by
  cases e <;> first | exact h | exact SMap.wf_set _ _ _ _ h

theorem State.dplls_wf (s : State) (e : Eff) (h : SMap.wf (fun _ => {}) s.dplls = true) : SMap.wf (fun _ => {}) (s.apply e).dplls = true := by
  cases e <;> first | exact h | exact SMap.wf_set _ _ _ _ h

theorem State.vlgs_wf (s : State) (e : Eff) (h : SMap.wf (fun _ => {}) s.vlgs = true) : SMap.wf (fun _ => {}) (s.apply e).vlgs = true := by
  cases e <;> first | exact h | exact SMap.wf_set _ _ _ _ h

theorem State.engs_wf (s : State) (e : Eff) (h : SMap.wf (fun _ => {}) s.engs = true) : SMap.wf (fun _ => {}) (s.apply e).engs = true := by
  cases e <;> first | exact h | exact SMap.wf_set _ _ _ _ h

theorem State.cls8_wf (s : State) (e : Eff) (h : SMap.wf (fun _ => {}) s.cls8 = true) : SMap.wf (fun _ => {}) (s.apply e).cls8 = true := by
  cases e <;> first | exact h | exact SMap.wf_set _ _ _ _ h

theorem State.engMem_wf (s : State) (e : Eff) (h : SMap.wf (fun _ => 0) s.engMem = true) : SMap.wf (fun _ => 0) (s.apply e).engMem = true := by
  cases e <;> first | exact h | exact SMap.wf_set _ _ _ _ h

theorem State.flash_wf (s : State) (e : Eff) (h : SMap.wf (fun _ => none) s.flash = true) : SMap.wf (fun _ => none) (s.apply e).flash = true := by
  cases e <;> first | exact h | exact SMap.wf_set _ _ _ _ h

/-- Every elementary change keeps the canonical form. -/
theorem State.wf_apply (s : State) (e : Eff) (h : s.wf = true) : (s.apply e).wf = true := by
  simp only [State.wf, Bool.and_eq_true, and_assoc] at h ⊢
  exact ⟨State.regs_wf s e h.1, State.tabs_wf s e h.2.1, State.cnts_wf s e h.2.2.1, State.timers_wf s e h.2.2.2.1,
    State.msix_wf s e h.2.2.2.2.1, State.pds_wf s e h.2.2.2.2.2.1, State.tls_wf s e h.2.2.2.2.2.2.1,
    State.opts_wf s e h.2.2.2.2.2.2.2.1, State.cnvs_wf s e h.2.2.2.2.2.2.2.2.1,
    State.txds_wf s e h.2.2.2.2.2.2.2.2.2.1, State.rxfs_wf s e h.2.2.2.2.2.2.2.2.2.2.1,
    State.swaps_wf s e h.2.2.2.2.2.2.2.2.2.2.2.1, State.rxms_wf s e h.2.2.2.2.2.2.2.2.2.2.2.2.1,
    State.taps_wf s e h.2.2.2.2.2.2.2.2.2.2.2.2.2.1, State.fecs_wf s e h.2.2.2.2.2.2.2.2.2.2.2.2.2.2.1,
    State.frs_wf s e h.2.2.2.2.2.2.2.2.2.2.2.2.2.2.2.1, State.ddrs_wf s e h.2.2.2.2.2.2.2.2.2.2.2.2.2.2.2.2.1,
    State.ddrMem_wf s e h.2.2.2.2.2.2.2.2.2.2.2.2.2.2.2.2.2.1,
    State.spares_wf s e h.2.2.2.2.2.2.2.2.2.2.2.2.2.2.2.2.2.2.1,
    State.suits_wf s e h.2.2.2.2.2.2.2.2.2.2.2.2.2.2.2.2.2.2.2.1,
    State.pairs_wf s e h.2.2.2.2.2.2.2.2.2.2.2.2.2.2.2.2.2.2.2.2.1,
    State.hubs_wf s e h.2.2.2.2.2.2.2.2.2.2.2.2.2.2.2.2.2.2.2.2.2.1,
    State.leaves_wf s e h.2.2.2.2.2.2.2.2.2.2.2.2.2.2.2.2.2.2.2.2.2.2.1,
    State.brxs_wf s e h.2.2.2.2.2.2.2.2.2.2.2.2.2.2.2.2.2.2.2.2.2.2.2.1,
    State.cips_wf s e h.2.2.2.2.2.2.2.2.2.2.2.2.2.2.2.2.2.2.2.2.2.2.2.2.1,
    State.slots_wf s e h.2.2.2.2.2.2.2.2.2.2.2.2.2.2.2.2.2.2.2.2.2.2.2.2.2.1,
    State.assocs_wf s e h.2.2.2.2.2.2.2.2.2.2.2.2.2.2.2.2.2.2.2.2.2.2.2.2.2.2.1,
    State.stamps_wf s e h.2.2.2.2.2.2.2.2.2.2.2.2.2.2.2.2.2.2.2.2.2.2.2.2.2.2.2.1,
    State.queues_wf s e h.2.2.2.2.2.2.2.2.2.2.2.2.2.2.2.2.2.2.2.2.2.2.2.2.2.2.2.2.1,
    State.scheds_wf s e h.2.2.2.2.2.2.2.2.2.2.2.2.2.2.2.2.2.2.2.2.2.2.2.2.2.2.2.2.2.1,
    State.streams_wf s e h.2.2.2.2.2.2.2.2.2.2.2.2.2.2.2.2.2.2.2.2.2.2.2.2.2.2.2.2.2.2.1,
    State.dets_wf s e h.2.2.2.2.2.2.2.2.2.2.2.2.2.2.2.2.2.2.2.2.2.2.2.2.2.2.2.2.2.2.2.1,
    State.archs_wf s e h.2.2.2.2.2.2.2.2.2.2.2.2.2.2.2.2.2.2.2.2.2.2.2.2.2.2.2.2.2.2.2.2.1,
    State.refs_wf s e h.2.2.2.2.2.2.2.2.2.2.2.2.2.2.2.2.2.2.2.2.2.2.2.2.2.2.2.2.2.2.2.2.2.1,
    State.dplls_wf s e h.2.2.2.2.2.2.2.2.2.2.2.2.2.2.2.2.2.2.2.2.2.2.2.2.2.2.2.2.2.2.2.2.2.2.1,
    State.vlgs_wf s e h.2.2.2.2.2.2.2.2.2.2.2.2.2.2.2.2.2.2.2.2.2.2.2.2.2.2.2.2.2.2.2.2.2.2.2.1,
    State.engs_wf s e h.2.2.2.2.2.2.2.2.2.2.2.2.2.2.2.2.2.2.2.2.2.2.2.2.2.2.2.2.2.2.2.2.2.2.2.2.1,
    State.cls8_wf s e h.2.2.2.2.2.2.2.2.2.2.2.2.2.2.2.2.2.2.2.2.2.2.2.2.2.2.2.2.2.2.2.2.2.2.2.2.2.1,
    State.engMem_wf s e h.2.2.2.2.2.2.2.2.2.2.2.2.2.2.2.2.2.2.2.2.2.2.2.2.2.2.2.2.2.2.2.2.2.2.2.2.2.2.1,
    State.flash_wf s e h.2.2.2.2.2.2.2.2.2.2.2.2.2.2.2.2.2.2.2.2.2.2.2.2.2.2.2.2.2.2.2.2.2.2.2.2.2.2.2⟩

/-- Every program of changes keeps the canonical form. -/
theorem State.wf_applyAll (s : State) (l : List Eff) (h : s.wf = true) : (s.applyAll l).wf = true := by
  induction l generalizing s with
  | nil => exact h
  | cons e l ih => exact ih _ (State.wf_apply s e h)

theorem State.wf_did (s : State) (p : Prog) (h : s.wf = true) : (s.did p).wf = true := State.wf_applyAll s (p s) h

/-- Every change keeps the canonical form of the addressed memories. -/
theorem Memory.wf_did (s : State) (p : Prog) (h : s.wf = true) : Memory.wf (s.did p) = true := by
  have := State.wf_did s p h
  simp only [State.wf, Bool.and_eq_true, Memory.wf] at this ⊢
  tauto

/-- Every command answers with what a program of changes makes of the state. -/
theorem exec_run (i : Instr) (s : State) : ∃ p : Prog, exec i s = run p s := by
  cases i <;> exact ⟨_, rfl⟩

end Sys2Proof.Machine
end

