-- ==== Sys2Proof/WellFormed.lean ====
section
/-!
DEFINITION. WellFormed.lean: which commands are well formed: operand ranges that the types of Syntax do not already give
(a power domain is one of 80, an I2C transfer carries 0 or 4 data bytes, and so on).
-/

namespace Sys2Proof

/-- The command's operands lie in the ranges the spec gives them. -/
def Instr.wf (i : Instr) : Bool :=
  match i with
  | .registerWrite _ _ bytes => bytes.length != 0 && decide (bytes.length ≤ 8)
  | .emptySlotAccess _ _ => true
  | .bar2Write _ bytes => bytes.length != 0 && decide (bytes.length ≤ 8)
  | .errClr _ _ _ => true
  | .srst _ _ _ => true
  | .softResetDone _ => true
  | .pageEnableWrite _ _ _ => true
  | .intStatClear _ _ _ => true
  | .intForce _ _ _ => true
  | .interruptEvent _ _ => true
  | .ownerWrite _ _ _ => true
  | .lockBreak _ _ => true
  | .stagedWrite _ _ _ => true
  | .windowRead _ _ => true
  | .windowWrite _ _ _ _ => true
  | .i2cWriteTransfer bytes => bytes.length == 4 || bytes.length == 8
  | .i2cReadTransfer => true
  | .nowLoRead _ => true
  | .stepGo _ => true
  | .stepDone => true
  | .carMfNumRead _ _ => true
  | .txMultiframeStart _ => true
  | .txLineFrameStart _ _ => true
  | .dealOpen _ => true
  | .dealArm _ => true
  | .dealCancel _ => true
  | .dealRelease _ => true
  | .cmdCode _ _ => true
  | .dealExecute => true
  | .markReceived _ _ _ left => decide (left < 256)
  | .noMark _ => true
  | .swapBank _ arg => decide (arg.toNat < 4)
  | .keyRollTx _ arg => decide (arg.toNat < 256)
  | .keyRollRx _ arg => decide (arg.toNat < 256)
  | .suitResize arg _ => decide (arg.toNat < 64)
  | .grantMapSwap arg => decide (arg.toNat < 4)
  | .pdSet _ args => args.all fun a => decide (a.toNat % 256 < 80 ∧ a.toNat < 768)
  | .call => true
  | .pulseRealign arg => decide (arg.toNat < 4)
  | .dealPrepare id _ _ _ acts => decide (192 ≤ id.toNat ∧ acts.length ≤ 64)
  | .dealAccept _ _ => true
  | .dealReject _ _ _ => true
  | .dealCommit _ => true
  | .dealCancelMsg _ => true
  | .prepareTimeout _ => true
  | .laserColdStart _ _ _ => true
  | .laserDisable _ _ _ => true
  | .tuneGo _ _ _ => true
  | .txEnWrite _ _ _ => true
  | .followWrite _ _ _ => true
  | .laserFineWrite _ _ _ => true
  | .txPwrSetWrite _ _ _ => true
  | .tecSettled _ _ _ => true
  | .tuningDone _ _ => true
  | .laserLocked _ _ => true
  | .lockAttemptTimeout _ => true
  | .laserUnlock _ _ => true
  | .holdTimeout _ => true
  | .txAtTarget _ _ => true
  | .biasLoopLocked _ _ => true
  | .mzmUnlock _ _ => true
  | .followOk _ _ => true
  | .followLost _ _ => true
  | .rxPowerUpdate _ _ _ _ _ => true
  | .fgCalGo _ _ _ => true
  | .fgCalDone _ fail _ _ => decide (fail < 65536)
  | .bgCalUpdate _ _ _ => true
  | .storeGo _ _ _ => true
  | .storeDone _ _ => true
  | .loadStored _ _ _ => true
  | .checkGo _ _ _ => true
  | .checkDone _ _ => true
  | .capGo _ _ _ => true
  | .capDone _ samples => decide (samples.length = 16384)
  | .clkUnlock _ => true
  | .clkRelock _ => true
  | .profileValidate _ _ _ => true
  | .profileSelect _ _ _ _ => true
  | .shapingSwitch _ _ => true
  | .txdSwapReq _ _ _ => true
  | .txdFadeEnd _ => true
  | .txRunWrite _ _ _ => true
  | .cdBankWrite _ _ _ _ => true
  | .cdBankReady _ _ => true
  | .rxfSwapReq _ _ _ => true
  | .cdBlockBoundary _ => true
  | .cdFadeEnd _ => true
  | .scanGo _ _ _ => true
  | .scanDone _ _ conf => decide (conf < 65536)
  | .rxRunWrite _ _ _ => true
  | .acqTryStart _ => true
  | .acqTrialDone _ _ _ => true
  | .trLock _ _ => true
  | .timingTimeout _ => true
  | .trLockLost _ => true
  | .trSlip _ => true
  | .cdMonUpdate _ _ _ => true
  | .trackEvent _ => true
  | .rxmRunWrite _ _ _ => true
  | .coarseFreqDone _ _ _ => true
  | .blindConverged _ _ => true
  | .mimoFail _ _ => true
  | .trackSnrLoss _ _ _ => true
  | .recoverDone _ _ _ => true
  | .freezeExit _ _ => true
  | .adaptationBlock _ _ _ _ _ => true
  | .leakStart _ _ => true
  | .rotationUpdate _ _ _ _ _ => true
  | .rotStatRead _ _ => true
  | .hpEnableWrite _ _ _ => true
  | .hpSearchDone _ _ _ => true
  | .hpLock _ _ _ => true
  | .hpLockingTimeout _ => true
  | .hpUnlock _ _ => true
  | .hpHoldTimeout _ => true
  | .hpAdaptResume _ => true
  | .cprSlip _ _ => true
  | .rxmSwapReq _ _ _ => true
  | .anchorFadeEnd _ _ => true
  | .anchorSave _ _ _ => true
  | .qualityUpdate _ _ _ => true
  | .qualityRead _ _ _ _ => true
  | .fecModeWrite _ _ _ => true
  | .modeTakeEffect _ _ => true
  | .codewordDecode _ _ _ => true
  | .tvGo _ _ _ => true
  | .tvDone _ _ => true
  | .counterLoRead _ _ => true
  | .lineFrameReceived _ _ f => f.oh.length == 512 || f.oh.length == 8
  | .rxMfnRead _ _ => true
  | .defectSample _ => true
  | .pmSecond _ _ => true
  | .pmBinClose _ _ _ => true
  | .pmCmdClr _ _ _ _ => true
  | .suitRecordReceived _ _ => true
  | .tmfReceived _ _ _ => true
  | .suitFrameReadout _ _ _ => true
  | .suitEnable _ _ _ => true
  | .memberWrite _ _ _ => true
  | .noReady _ => true
  | .resizeDone _ => true
  | .resizeAbortEnd _ => true
  | .memberDrop _ => true
  | .dropDone _ => true
  | .pairEnable _ _ _ => true
  | .hubRunWrite _ _ => true
  | .roundStart _ _ _ => true
  | .upstreamRoundStart _ _ => true
  | .grantSubmit _ _ => true
  | .dmapSubmit _ _ => true
  | .grantEnd _ _ _ => true
  | .discoveryWindow _ => true
  | .discDone _ => true
  | .leafProvision _ _ _ => true
  | .leafCmdRemove _ _ => true
  | .leafLost _ => true
  | .leafDropTimeout _ => true
  | .drained _ _ => true
  | .roundMsg _ _ _ => true
  | .grantMsg _ _ _ => true
  | .dmapMsg _ _ _ => true
  | .discoverMsg _ _ _ => true
  | .assignMsg _ _ _ => true
  | .rangeMsg _ _ _ => true
  | .deregMsg _ _ _ => true
  | .suitAMsg _ _ _ => true
  | .suitBMsg _ _ _ => true
  | .reportMsg _ _ => true
  | .helloMsg _ _ _ => true
  | .leafListenDone _ => true
  | .leafBackoff _ => true
  | .leafHoldEntry _ => true
  | .leafHoldTimeout _ => true
  | .leafGrantStart _ _ => true
  | .burstDetection _ _ _ _ _ _ => true
  | .burstTrainingDone _ _ _ _ => true
  | .burstSync _ _ _ _ => true
  | .falseDetection _ _ => true
  | .burstReport _ _ _ => true
  | .burstClose _ _ _ _ _ => true
  | .strSwapGo _ _ _ _ => true
  | .strAnchorSave _ _ _ _ => true
  | .burstAnchorSave _ _ _ _ => true
  | .cipLockWrite _ _ _ => true
  | .keyDataWrite _ _ _ => true
  | .keySaltWrite _ _ _ => true
  | .keyCommit _ _ _ => true
  | .keyArm _ _ _ => true
  | .keyDisarm _ _ _ => true
  | .keyErase _ _ _ => true
  | .assocWrite _ _ _ _ => true
  | .rxGraceExpiry _ _ => true
  | .unitTransmit _ _ _ _ => true
  | .unitReceived _ _ _ _ _ _ => true
  | .unitVerify _ _ => true
  | .cipParity _ _ _ => true
  | .katGo _ _ _ => true
  | .katDone _ _ => true
  | .laneEnable _ _ _ => true
  | .trainDone _ _ => true
  | .trainFail _ _ => true
  | .portEnable _ _ _ => true
  | .alignStatusChange _ _ _ _ => true
  | .portFecWindow _ _ _ _ _ => true
  | .calSwitch _ => true
  | .flexeSwitchWrite _ _ _ => true
  | .flexoGroupEnable _ _ _ => true
  | .frameIngress _ _ _ _ => true
  | .tsPop _ _ => true
  | .clsProfileWrite _ _ _ _ => true
  | .entryPublish _ tern e _ => decide (e < if tern then 8192 else 262144)
  | .actionRewrite _ tern e _ => decide (e < if tern then 8192 else 262144)
  | .slowPathReturn _ _ _ => true
  | .puntPop _ => true
  | .packetAdmit q _ _ => decide (q < 35232)
  | .schedulerDecision g => decide (g < 4404)
  | .recordReceived g _ _ _ _ => decide (g < 4404)
  | .flush _ _ => true
  | .sensingSample _ _ _ _ => true
  | .recordWrite _ => true
  | .recordFlushTimeout _ => true
  | .freezeClose => true
  | .frzManual _ => true
  | .frzRelease _ _ => true
  | .archEnWrite _ _ => true
  | .rdRecWrite _ _ => true
  | .rdReady _ => true
  | .seekGo _ _ => true
  | .seekDone => true
  | .snsSwapReq _ _ => true
  | .snsFadeEnd => true
  | .activityLoss _ => true
  | .activityReturn _ => true
  | .frequencyMeasure offs => decide (offs.length = 14)
  | .driftEvaluate => true
  | .historySample _ _ _ => true
  | .qualified _ => true
  | .wtrExpiry _ => true
  | .dpllLocked _ => true
  | .slewDone => true
  | .dpllCtlWrite _ _ _ => true
  | .swPherrWrite _ _ => true
  | .swTimeout => true
  | .ffoSetWrite _ _ _ => true
  | .realign _ _ _ => true
  | .regionEnable _ _ => true
  | .regionDisable _ _ => true
  | .ddrError _ _ _ _ _ => true
  | .sramError _ => true
  | .rowTest _ _ => true
  | .sramPatrol _ => true
  | .scrubGo _ _ => true
  | .scrubAbort _ _ => true
  | .scrubDone => true
  | .engineInstruction _ _ => true
  | .cmac _ => true
  | .cmacj _ => true
  | .cmul _ => true
  | .accrd _ => true
  | .msend _ => true
  | .mrecv _ => true
  | .mailboxDelivery _ _ => true
  | .mrecvEnd _ => true
  | .waitt _ => true
  | .waittEnd _ => true
  | .brd _ _ => true
  | .bwr _ _ => true
  | .engineTrap _ => true
  | .loadGo _ _ _ => true
  | .loadDone _ => true
  | .haltWrite _ _ _ => true
  | .counterWrite _ _ _ _ => true
  | .resume _ _ _ => true
  | .legRd _ _ _ => true
  | .traceRecord _ => true
  | .hostMbTx _ _ _ => true
  | .hostMbRx _ _ => true
  | .vlgEnable _ _ _ => true
  | .linkUp _ => true
  | .vlgTrainTimeout _ => true
  | .retrain _ _ _ => true
  | .idleReqWrite _ _ _ => true
  | .idleExitFail _ => true
  | .vlgBlockReceived _ b => decide (b.words.length = 40)
  | .vlgHello _ _ _ _ _ _ => true
  | .helloSend => true
  | .heartbeat _ => true
  | .heartbeatMiss _ => true
  | .dealerLost => true
  | .timeMsg _ _ _ _ => true
  | .timeRpt _ _ _ _ => true
  | .timeEnd _ _ => true
  | .stackCall _ _ _ => true
  | .callReq _ => true
  | .mgmtGo _ _ => true
  | .mgmtRd _ _ => true
  | .mgmtWr _ _ _ => true
  | .mgmtRsp _ _ _ => true
  | .mgmtTimeout => true
  | .suitRec _ _ => true
  | .leave _ => true
  | .memberGone _ _ => true
  | .memberLost _ => true
  | .stackEnable _ _ => true
  | .leaveGo _ => true
  | .dealerWrite _ _ => true
  | .transitEnable _ _ _ _ => true
  | .pdReq _ _ => true
  | .quiesceDone _ => true
  | .quiesceTimeout _ _ => true
  | .pdTransitionDone _ => true
  | .avsAttemptEnd _ => true
  | .sleep _ _ => true
  | .wake _ _ => true
  | .wakeN => true
  | .thermal _ => true
  | .resetNRelease => true
  | .resetNAssert => true
  | .perst => true
  | .railLoss _ => true
  | .bootStepEnd e => decide (e.cause < 256 ∧ e.unit < 256 ∧ e.bin < 5 ∧ (e.pairs = 2 ∨ e.pairs = 4 ∨ e.pairs = 8) ∧ (e.ranks = 1 ∨ e.ranks = 2))
  | .bootStepTimeout _ => true
  | .bootRestart => true
  | .restart _ _ => true
  | .setPref _ _ => true
  | .bootClr _ _ => true
  | .flashErase _ _ => true
  | .flashProgram _ _ => true
  | .flashVerify _ _ => true
  | .flDone _ => true
  | .svnCommit _ _ => true
  | .provision _ _ => true
  | .attGo _ _ => true
  | .attDone _ => true
  | .chalGo _ _ => true
  | .tokenGo _ _ => true
  | .tokenVerifyEnd => true
  | .nonceExpiry => true
  | .close _ _ => true
  | .rngDataRead _ => true
  | .rngHealthFail => true
  | .measRead _ => true
  | .errorReport _ _ _ _ _ => true
  | .watchdog => true
  | .islandReset _ => true
  | .resetDone _ => true
  | .deviceReset => true
  | .islCtlReset _ _ => true
  | .islCtlRelease _ _ => true
  | .qPop _ => true
  | .selfTestEnd _ _ => true
  | .selfTestTimeout _ => true
  | .engCheck _ _ => true
  | .callCmdGo _ _ => true
  | .callInEdge _ _ _ => true
  | .callIssue => true
  | .msixTableWrite a _ => decide (a.toNat % 4 = 0)
  | .distLost _ => true
  | .cdrLockLoss _ _ _ _ _ => true
  | .pllUnlock _ _ => true
  | .faultReceived _ _ _ => true
  | .tempHigh _ _ => true
  | .leafGrantEnd _ => true
  | .callOutPulseEnd => true
  | .railsValid => true
  | .perstRelease => true

end Sys2Proof
end

