-- ==== Sys2Proof/Tests/Slice0.lean ====
section
/-!
SUPPORT. Tests/Slice0.lean: what WellFormed refuses; the worked examples of spec/; and, for each obligation, states and
operands that meet the premises of every one of its clauses.
-/

set_option Elab.async false

namespace Sys2Proof.Tests

open Sys2Proof Sys2Proof.Machine

/-- A module that runs with every domain ON, and changes made to it. -/
def bench (l : List Eff) : State :=
  { State.reset with phase := .run, perst := false, pds := (List.range 80).map fun d => (d, { st := 2 }) }.applyAll l

/-- A field of a register alone, the rest of the register 0. -/
def put (b : Nat) (f : Fld) (x : Nat) : Eff := .regs (b + f.off) (bitsPut 0 f.lo f.w x)

/-- A carrier in a mode. -/
def inMode (c m : Nat) : Eff := put (feb c) FEC.FEC_MODE_MODE_NOW m

/-- A cluster that runs, with an engine at an instruction. -/
def engAt (id : Nat) (w : Word) : List Eff :=
  .regs (enb (id / 64) + ENG.CL_STAT) 0 ::
    (bytesLE 4 w.toNat).zipIdx.map fun p => .engMem (id / 64 * 0x800000 + 0x400000 + id % 64 * 0x10000 + p.2) p.1

/-- The state that a command answers. -/
def after (s : State) (c : Instr) : State :=
  match exec c s with
  | .next t => t
  | _ => s

/-- A register write by the host. -/
def wr (a : BitVec 26) (v : Word) : Instr := .registerWrite .host a (bytesLE 4 v.toNat)

/-- What a read by the host returns. -/
def seen (s : State) (a : Nat) : Word := s.busValue 1 a

/-- A carrier's FEC_MODE with both directions in a mode. -/
def bothIn (c m : Nat) : Eff := .regs (feb c + FEC.FEC_MODE_MODE.off) (BitVec.ofNat 32 (m * 0x110011))

/-! ### WellFormed -/

/-- Ill-formed terms, one for each check. -/
theorem test_wf_refuses_accesses :
    (Instr.registerWrite .host 0x100 []).wf = false ∧
    (Instr.registerWrite .host 0x100 (List.replicate 9 0)).wf = false ∧
    (Instr.bar2Write 0x100 []).wf = false ∧
    (Instr.bar2Write 0x100 (List.replicate 9 0)).wf = false ∧
    (Instr.i2cWriteTransfer [1, 2, 3]).wf = false := by
  decide +kernel

/-- Ill-formed terms, one for each check. -/
theorem test_wf_refuses_events_and_deals :
    (Instr.markReceived 0 0 0 256).wf = false ∧
    (Instr.swapBank 0x1003 4).wf = false ∧
    (Instr.keyRollTx 0 256).wf = false ∧
    (Instr.keyRollRx 0 256).wf = false ∧
    (Instr.suitResize 64 []).wf = false ∧
    (Instr.grantMapSwap 4).wf = false ∧
    (Instr.pdSet 0 [80]).wf = false ∧
    (Instr.pdSet 0 [768]).wf = false ∧
    (Instr.pulseRealign 4).wf = false ∧
    (Instr.dealPrepare 191 0 0 0 []).wf = false ∧
    (Instr.dealPrepare 192 0 0 0 (List.replicate 65 (.write 0 0))).wf = false := by
  decide +kernel

/-- Ill-formed terms, one for each check. -/
theorem test_wf_refuses_receivers :
    (Instr.fgCalDone 0 65536 0 []).wf = false ∧
    (Instr.capDone 0 []).wf = false ∧
    (Instr.scanDone 0 0 65536).wf = false ∧
    (Instr.lineFrameReceived 0 none ⟨0, 0, 0, 0, 0, [], 0, false⟩).wf = false := by
  decide +kernel

/-- Ill-formed terms, one for each check. -/
theorem test_wf_refuses_packets :
    (Instr.entryPublish .host false 262144 0).wf = false ∧
    (Instr.entryPublish .host true 8192 0).wf = false ∧
    (Instr.actionRewrite .host false 262144 0).wf = false ∧
    (Instr.actionRewrite .host true 8192 0).wf = false ∧
    (Instr.packetAdmit 35232 [] true).wf = false ∧
    (Instr.schedulerDecision 4404).wf = false ∧
    (Instr.recordReceived 4404 [] false false true).wf = false ∧
    (Instr.frequencyMeasure []).wf = false := by
  decide +kernel

/-- Ill-formed terms, one for each check. -/
theorem test_wf_refuses_links_and_boot :
    (Instr.vlgBlockReceived 0 ⟨0, [], false, false, true⟩).wf = false ∧
    (Instr.bootStepEnd ⟨256, 0, 0, 8, 4, 64, 1⟩).wf = false ∧
    (Instr.bootStepEnd ⟨0, 256, 0, 8, 4, 64, 1⟩).wf = false ∧
    (Instr.bootStepEnd ⟨0, 0, 0, 8, 5, 64, 1⟩).wf = false ∧
    (Instr.bootStepEnd ⟨0, 0, 0, 3, 4, 64, 1⟩).wf = false ∧
    (Instr.bootStepEnd ⟨0, 0, 0, 8, 4, 64, 3⟩).wf = false ∧
    (Instr.msixTableWrite 2 0).wf = false := by
  decide +kernel

/-- Terms at the limits of the checks are well formed. -/
theorem test_wf_accepts :
    (Instr.registerWrite .host 0x100 (List.replicate 8 0)).wf = true ∧ (Instr.pdSet 0 [0x24F]).wf = true ∧
    (Instr.packetAdmit 35231 [] true).wf = true ∧ (Instr.bootStepEnd ⟨255, 255, 0, 2, 4, 64, 2⟩).wf = true := by
  decide +kernel

/-! ### The worked examples of spec/, one command each -/

/-- 01: SCB2.37's PAGE_ID. -/
theorem test_page_id : seen (bench []) 0x1235000 = 0x0018A501 := by decide +kernel

/-- 01: bit 3 of SCB2.37 follows bit 6; the roll-up to group G10. -/
theorem test_interrupt_event :
    let t := after (bench [.regs 0x1235014 0xFF, .regs 0x1235010 0x40, .regs 0x123501C 0x80000006]) (.interruptEvent 0x1235 3)
    [0x1235010, 0x123501C, 0x4128, 0x100].map (seen t) = [0x48, 0x80000006, 0x20, 0x400] := by decide +kernel

/-- 01: the last clear releases the group. -/
theorem test_interrupt_clear :
    let t := after (bench [.regs 0x1235014 0xBF, .regs 0x1235010 0x8, .regs 0x123501C 0x80000006]) (wr 0x1235010 8)
    [0x1235010, 0x123501C, 0x4128, 0x100].map (seen t) = [0, 0, 0, 0] := by decide +kernel

/-- 02: the remote-triggered deal of module B is ARMED with 2 actions. -/
theorem test_deal_arm :
    let d : Deal :=
      { id := 0x21, st := .staging, cfg := 0x005A0096, num := 0x2B000000, time := 0x10000000000,
        acts := [.cmd 0x1107000 12 3, .cmd 0x1103000 1 1] }
    let t := after (bench [bothIn 1 mL2000, .regs (rb 1 + RXF.RXF_CTL) 1, .regs 0x6180 0x21, .deals [d]]) (.dealArm .host)
    seen t 0x6198 = 0x22 := by decide +kernel

/-- 03: the lock of C2's laser at -100 MHz. -/
theorem test_laser_locked :
    let t := after (bench [bothIn 2 mL2000, .regs 0x1200100 3, put (ob 2) OPT.LASER_STAT_STATE lLOCKING]) (.laserLocked 2 (-100))
    seen t 0x1200114 = 0xFF9C0004 := by decide +kernel

/-- 03: the SOA of C2 at +1.50 dBm. -/
theorem test_tx_at_target :
    let t := after (bench [bothIn 2 mL2000, .regs 0x1200100 3, put (ob 2) OPT.LASER_STAT_STATE lLOCKED, .regs 0x1200130 0xF,
      put (ob 2) OPT.TX_PWR_MON_SOA_OPEN 1, .timers (tRamp 2) 1]) (.txAtTarget 2 150)
    seen t 0x1200138 = 0x00030096 := by decide +kernel

/-- 04: KMAX and H_EFF of the composition for L2000. -/
theorem test_profile_l2000 :
    let t := after (bench [.tabs (tabKey (xb 2) 0 2 1) 0x58E, .tabs (tabKey (xb 2) 0 2 2) 0x0143024A,
      .tabs (tabKey (xb 2) 0 2 3) 0x00100063]) (.profileValidate 2 false 2)
    t.tab (tabKey (xb 2) 0 2 0) = 0x80000000 ∧ t.tab (tabKey (xb 2) 0 2 4) = 0x4C700592 := by decide +kernel

/-- 04: profile 2 comes into effect. -/
theorem test_shaping_switch :
    let t := after (bench [bothIn 2 mL2000, .regs 0x1202100 5, .regs 0x1202108 2, .tabs (tabKey (xb 2) 0 2 0) 0x80000000,
      .tabs (tabKey (xb 2) 0 2 4) 0x4C700592, .txds 2 { shape := 2 }]) (.shapingSwitch 2 false)
    seen t 0x1202108 = 0x00020002 ∧ seen t 0x1202130 = 0x4C70 := by decide +kernel

/-- 05: the trial of bank 1 is accepted and rewrites it. -/
theorem test_trial_accepted :
    let t := after (bench [bothIn 0 mL2000, .regs 0x1003100 1, .regs 0x1003104 0x1B, .regs 0x1003114 0x7918,
      put (rb 0) RXF.ACQ_STAT_STATE 3]) (.acqTrialDone 0 31240 212)
    seen t 0x1003114 = 0x7A08 := by decide +kernel

/-- 06: the predictor locks at 50,012 mHz. -/
theorem test_hp_lock :
    let t := after (bench [bothIn 3 mL1200, .regs 0x1304100 5, .regs 0x1304118 0x0A0E2803, put (mb 3) RXM.RXM_STAT_STATE zTRACK,
      .regs (rb 3 + RXF.RXF_CTL) 1, put (rb 3) RXF.ACQ_STAT_STATE qRUN, put (mb 3) RXM.HP_STAT_STATE hLOCKING]) (.hpLock 3 50012 100)
    seen t (mb 3 + RXM.HP_STAT) = 0xC35C0003 := by decide +kernel

/-- 06: RATE 0.3 Mrad/s after the second stroke; PEAK stays at 62. -/
theorem test_rotation :
    let t := after (bench [bothIn 3 mL1200, .regs 0x1304100 5, put (mb 3) RXM.ROT_STAT_PEAK 620]) (.rotationUpdate 3 3 0 0 [])
    seen t (mb 3 + RXM.ROT_STAT) = 0x026C0003 := by decide +kernel

/-- 07: KMAX and H_EFF of the composition for L1200. -/
theorem test_profile_l1200 :
    let t := after (bench [.tabs (tabKey (feb 0) 0 1 0) 1, .tabs (tabKey (feb 0) 0 1 1) 0x262,
      .tabs (tabKey (feb 0) 0 1 2) 0x009C0364]) (.profileValidate 0 true 1)
    t.tab (tabKey (feb 0) 0 1 0) = 0x80000001 ∧ t.tab (tabKey (feb 0) 0 1 4) = 0x33100271 := by decide +kernel

/-- 07: the mode's registers. -/
theorem test_fec_mode :
    let t := after (bench []) (wr 0x1005100 0x33)
    bitsGet (seen t 0x1005100) 0 8 = 0x33 := by decide +kernel

/-- 07: the domains and the threshold of L1200. -/
theorem test_fec_dom : [0x1005118, 0x100511C].map (seen (bench [bothIn 0 mL1200])) = [0x3DF, 0x5D7] := by decide +kernel

/-- 09: pair 0 comes up with 48 TS of the budget. -/
theorem test_pair_enable :
    let t := after (bench [bothIn 0 mL2400, bothIn 1 mL2400, .tabs (tabKey meb 0 0 0) 1, .tabs (tabKey meb 0 0 2) 0x1C00,
      .tabs (tabKey (pageBase .suit 0) 0 10 0) 0x00300519, .tabs (tabKey (pageBase .suit 0) 0 11 0) 0x00300519,
      .tabs (tabKey (pageBase .tsh 0) 0 0 1) 0x0FA0, .tabs (tabKey (pageBase .tsh 0) 0 0 2) 0x01220000,
      .tabs (tabKey (pageBase .suit 0) 1 160 0) 0x30000001,
      .suits 10 { on := true, active := 1 }, .suits 11 { on := true, active := 1 }]) (.pairEnable .host 0 0x000B0A01)
    seen t 0x20C0104 = 0x00C00030 := by decide +kernel

/-- 12: a DRAINING slot refuses ERASE. -/
theorem test_key_erase_refused :
    let t := after (bench [.slots (3 * 512 + 80) { st := tDRAINING }, .regs 0x1307100 1]) (.keyErase .host 3 0x00020050)
    seen t 0x1307114 = 0x01810500 := by decide +kernel

/-- 12: bytes 4 and 5 of a header under KI 1 of association 40. -/
theorem test_unit_header : (unitHeader 1 1 0 40 0).extractLsb' 80 16 = 0x1828#16 := by decide +kernel

/-- 13: an aligned 1.6TbE port. -/
theorem test_port_up :
    let t := after (bench [.regs 0x2010100 0x33, .regs 0x2010104 0x100]) (.alignStatusChange 0 true true true)
    seen t 0x2010104 = 0xF := by decide +kernel

/-- 14: the bucket rule's CRC-32C, by its published check value. -/
theorem test_crc32c : crc32c [0x31, 0x32, 0x33, 0x34, 0x35, 0x36, 0x37, 0x38, 0x39] = 0xE3069283 := by decide +kernel

/-- 14: a frame on VLAN 1007 with PCP 5 enters queue 8,245 (set 1030, leaf 6). -/
theorem test_vlan_queue :
    let f : List Byte := [1, 2, 3, 4, 5, 6, 7, 8, 9, 10, 11, 12, 0x81, 0x00, 0xA3, 0xEF, 0x08, 0x00] ++ List.replicate 46 0x45
    let e := 4 * bucketOf 0 ([16, 3, 0xEF] ++ List.replicate 37 0)
    let t := after (bench [.regs 0x2020100 0x21, .regs 0x2020104 0xF, .regs 0x2040100 1, .regs 0x2080100 1,
      .tabs (clsKey 0 0 0) 0xA1, .tabs (clsKey 4 16 0) 0, .tabs (clsKey 4 16 1) 1, .tabs (clsKey 1 e 0) 1,
      .tabs (clsKey 1 e 1) 0x1003EF00, .tabs (clsKey 1 e 11) 0x04060020, .tabs (qmgKey 0 1030 0) 0x1114C001])
      (.frameIngress 16 f true true)
    t.queues.map (fun q => q.1) = [8245] := by decide +kernel

/-- 16: DA_CTL's reset value. -/
theorem test_da_ctl : seen (bench []) (dpb + DPL.D_CTL 0) = 0x000143F1 := by decide +kernel

/-- 16: the slope at 35 s of the ramp, 0.0522 ppm/min, is over the limit. -/
theorem test_drift :
    let f : List Int := (List.range 60).map fun i => if i < 35 then 20000 + (8000 * (34 - i) + 4000) / 6 else 20000
    let t := after (bench [.regs (dpb + DPL.REF_CFG 0) 0x101, .refs 0 { fofs := f }]) .driftEvaluate
    t.fg dpb (DPL.REF_MON_SLOPE 0) = 52 ∧ t.fb dpb (DPL.REF_STAT_DRIFTING 0) = true := by decide +kernel

/-- 17: the fourth region's reservation completes the budget. -/
theorem test_budget :
    let t := after (bench [.regs 0xB100 0x60100440, .regs (meb + MEM.USABLE) 1048512, .regs 0xB10C 0x1E000000,
      .tabs (tabKey meb 0 0 0) 1, .tabs (tabKey meb 0 1 0) 1, .tabs (tabKey meb 0 9 0) 1, .tabs (tabKey meb 0 2 1) 76800,
      .tabs (tabKey meb 0 2 2) 0xE8D4A]) (.regionEnable .host 2)
    seen t 0xB10C = 0x1E001DF1 := by decide +kernel

/-- 18: CMAC x0, x10, x11. -/
theorem test_cmac_word : decode32 0x00B5000B = .cmac 0 10 11 := by decide +kernel

/-- 20: PD43 is refused with TRAFFIC_ACTIVE while association 40 is enabled. -/
theorem test_pd_traffic :
    let t := after (bench [.pds 43 { st := 2, level := 2 }, bothIn 3 mL2400, .tabs (assocKey 3 40) 1]) (.pdReq .host 43)
    pdomView t 43 0 = 0x02000102 := by decide +kernel

/-- 21: DDR_TRAIN of start 0x41 fails on channel 11 at 435 ms. -/
theorem test_boot_record :
    let e : StepEnd := { cause := 9, unit := 11, units := 0, pairs := 8, bin := 4, gb := 128, ranks := 2 }
    let t := after (bench [.ticks 435000000, .boot { step := some 5 }, put btb BOOT.BOOT_STAT_STEP 5,
      .regs (btb + BOOT.REC_W0 0) 0x41050000]) (.bootStepEnd e)
    seen t (btb + BOOT.REC_W0 0) = 0x41050209 ∧ seen t (btb + BOOT.REC_W1 0) = 0x0B0001B3 := by decide +kernel

/-- 22: the record of a corrected DDR error, before its row test ends. -/
theorem test_ddr_record :
    let t := after (bench [.regs 0xB100 0x60100440, .regs (meb + MEM.INSTALLED) 1048576, .tabs (tabKey meb 0 2 0) 1,
      .tabs (tabKey meb 0 2 1) 76800, .tabs (tabKey meb 0 2 2) 0xE8D4A, .regs (eb + ERR.SEQ) 0x1C7])
      (.ddrError 0x142A573040 0x55 0xA52B false false)
    [0, 1, 2, 3, 6].map (errTabView t 184) = [0x92052000, 0x02803000, 0x2A573040, 0x03000014, 0xFFFF01C7] := by decide +kernel

/-- The hash of "abc" (FIPS 180-2, B.1). -/
theorem test_sha256_abc : sha256 [0x61, 0x62, 0x63]
    = 0xba7816bf8f01cfea414140de5dae2223b00361a396177a9cb410ff61f20015ad#256 := by decide +kernel

/-- AES-256-GCM of a block of zeros under a key of zeros (the GCM specification's test case 14). -/
theorem test_gcm_zeros : gcmSeal 0 0 [] (List.replicate 16 0)
    = (bytesBE 16 0xcea7403d4d606b6e074ec5d3baf39d18, 0xd0d1c8a799996bf0265b98b5d48ab919#128) := by decide +kernel

/-! ### The premises of the obligations -/

/-- An ASSIGN message to a serial. -/
def assignTo (x : BitVec 48) : BitVec 115 := BitVec.ofNat 115 (5 * 2 ^ 111 + x.toNat * 2 ^ 63)

theorem assignTo_type (x : BitVec 48) : at115 (assignTo x) 0 4 = 5 := by
  have := x.isLt
  simp only [assignTo, at115, BitVec.toNat_ofNat]
  omega

theorem assignTo_serial (x : BitVec 48) : at115 (assignTo x) 4 48 = x.toNat := by
  have := x.isLt
  simp only [assignTo, at115, BitVec.toNat_ofNat]
  omega

/-- The premises of `Obligations.StepRunsTheFrontCommand` are met. -/
theorem witness_StepRunsTheFrontCommand :
    ∃ (s : State) (c : Instr) (rest : List Instr), s.pending = c :: rest :=
  ⟨{ State.reset with pending := [.i2cReadTransfer] }, .i2cReadTransfer, [], by decide +kernel⟩

/-- The premises of each clause of `Obligations.HeaderWritesComplete` are met. -/
theorem witness_HeaderWritesComplete :
    (∃ (s : State) (src : Requester) (page : BitVec 14) (v : Word) (p : Page), pageAt (slotBase page) = some p ∧
      s.phase = .run ∧ s.present p = true ∧ (src ≠ .i2c ∨ i2cWrites p = true) ∧ v.getLsbD 0 = true ∧ s.pageEn p.base
      = true ∧ v.getLsbD 1 = false) ∧
    (∃ (s : State) (src : Requester) (page : BitVec 14) (v : Word) (p : Page), pageAt (slotBase page) = some p ∧
      s.phase = .run ∧ s.present p = true ∧ (src ≠ .i2c ∨ i2cWrites p = true) ∧ v.getLsbD 0 = true ∧ s.pageEn p.base
      = true ∧ v.getLsbD 3 = false ∧ s.dealPending p.base = false ∧ s.srstBusy p.base = false) ∧
    (∃ (s : State) (page : BitVec 14) (p : Page), pageAt (slotBase page) = some p ∧ s.phase = .run ∧ s.srstBusy
      p.base = true) ∧
    (∃ (s : State) (src : Requester) (page : BitVec 14) (v : Word) (p : Page), pageAt (slotBase page) = some p ∧
      s.phase = .run ∧ s.present p = true ∧ (src ≠ .i2c ∨ i2cWrites p = true) ∧ enFixed p = false ∧ s.pageEn p.base
      ≠ v.getLsbD 0 ∧ v.getLsbD 1 = false ∧ v.getLsbD 3 = false) ∧
    (∃ (s : State) (src : Requester) (page : BitVec 14) (_v : Word) (p : Page), pageAt (slotBase page) = some p ∧
      s.phase = .run ∧ s.present p = true ∧ (src ≠ .i2c ∨ i2cWrites p = true)) ∧
    (∃ (s : State) (src : Requester) (page : BitVec 14) (n : Fin 32) (p : Page), pageAt (slotBase page) = some p ∧
      s.phase = .run ∧ s.present p = true ∧ (src ≠ .i2c ∨ i2cWrites p = true) ∧ n.val < pageNumInt p) ∧
    (∃ (s : State) (src : Requester) (page : BitVec 14) (v : Word) (p : Page), pageAt (slotBase page) = some p ∧
      s.phase = .run ∧ s.present p = true ∧ (src ≠ .i2c ∨ i2cWrites p = true) ∧ (s.fg p.base OWNER_ID = 0 ∨ s.fg
      p.base OWNER_ID = src.id) ∧ (bitsGet v 0 8 = 0 ∨ bitsGet v 0 8 = src.id)) ∧
    (∃ (s : State) (src : Requester) (page : BitVec 14) (_v : Word) (p : Page), pageAt (slotBase page) = some p ∧
      s.phase = .run ∧ s.present p = true ∧ (src ≠ .i2c ∨ i2cWrites p = true) ∧ s.fg p.base OWNER_ID ≠ 0 ∧ s.fg
      p.base OWNER_ID ≠ src.id) :=
  ⟨⟨bench [.regs 0x1000020 3], .host, 0x1000, 9, ⟨.opt, 0⟩, by decide +kernel⟩,
   ⟨bench [], .host, 0x1000, 3, ⟨.opt, 0⟩, by decide +kernel⟩,
   ⟨bench [.regs 0x100000C 2], 0x1000, ⟨.opt, 0⟩, by decide +kernel⟩,
   ⟨bench [], .host, 0x1000, 4, ⟨.opt, 0⟩, by decide +kernel⟩,
   ⟨bench [.regs 0x1000010 3], .host, 0x1000, 3, ⟨.opt, 0⟩, by decide +kernel⟩,
   ⟨bench [], .host, 0x1000, 8, ⟨.opt, 0⟩, by decide +kernel⟩,
   ⟨bench [], .eng 2, 0x1000, 0x12, ⟨.opt, 0⟩, by decide +kernel⟩,
   ⟨bench [.regs 0x1000028 1], .eng 2, 0x1000, 0x12, ⟨.opt, 0⟩, by decide +kernel⟩⟩

/-- The premises of each clause of `Obligations.SoftResetRefusedWhileADealIsPending` are met. -/
theorem witness_SoftResetRefusedWhileADealIsPending :
    (∃ (s : State) (src : Requester) (page : BitVec 14) (v : Word) (p : Page), pageAt (slotBase page) = some p ∧
      s.phase = .run ∧ s.present p = true ∧ (src ≠ .i2c ∨ i2cWrites p = true) ∧ v.getLsbD 0 = true ∧ s.pageEn p.base
      = true ∧ v.getLsbD 3 = false ∧ s.dealPending p.base = true) ∧
    (∃ (s : State) (src : Requester) (page : BitVec 14) (v : Word) (p : Page), pageAt (slotBase page) = some p ∧
      s.phase = .run ∧ s.present p = true ∧ (src ≠ .i2c ∨ i2cWrites p = true) ∧ v.getLsbD 0 = true ∧ s.pageEn p.base
      = true ∧ v.getLsbD 3 = false ∧ s.dealPending p.base = false ∧ s.srstBusy p.base = true) :=
  ⟨⟨bench [.deals [{ id := 5, st := .armed, acts := [.write 0x1002100 0] }]], .host, 0x1002, 3, ⟨.txd, 0⟩, by decide +kernel⟩,
   ⟨bench [.regs 0x100200C 2], .host, 0x1002, 3, ⟨.txd, 0⟩, by decide +kernel⟩⟩

/-- The premises of `Obligations.SoftResetRestoresThePage` are met. -/
theorem witness_SoftResetRestoresThePage :
    ∃ (_s : State) (p : Page) (off : Nat), (p = ⟨.cls, 0⟩ ∨ p = ⟨.qmg, 0⟩ ∨ p = ⟨.snap, 0⟩) ∧ off < 0x1000 :=
  ⟨bench [.regs 0x2040110 7], ⟨.cls, 0⟩, 0x110, by decide +kernel⟩

/-- The premises of `Obligations.EventSetsItsBitAndTheFirst` are met. -/
theorem witness_EventSetsItsBitAndTheFirst :
    ∃ (s : State) (page : BitVec 14) (n : Fin 32) (p : Page), pageAt (slotBase page) = some p ∧ s.up p ∧ n.val <
      pageNumInt p :=
  ⟨bench [], 0x1000, 8, ⟨.opt, 0⟩, by decide +kernel⟩

/-- The premises of each clause of `Obligations.OwnerLockFreedByTheHost` are met. -/
theorem witness_OwnerLockFreedByTheHost :
    (∃ (s : State) (p : Page), pageAt p.base = some p ∧ p.kind ≠ .sec ∧ p.base < 2 ^ 32 ∧ s.serves .host ⟨.mgt, 0⟩
      ∧ s.fg p.base OWNER_ID ≠ 0) ∧
    (∃ (s : State) (p : Page), pageAt p.base = some p ∧ p.kind ≠ .sec ∧ p.base < 2 ^ 32 ∧ s.serves .host ⟨.mgt, 0⟩
      ∧ s.fg p.base OWNER_ID = 0) ∧
    (∃ (s : State) (v : Word), (∀ p ∈ pageAt v.toNat, p.base ≠ v.toNat ∨ p.kind = .sec) ∧ s.serves .host ⟨.mgt, 0⟩) ∧
    (∃ (s : State) (src : Requester) (_v : Word), src ≠ .host ∧ s.phase = .run) :=
  ⟨⟨bench [.regs 0x1000028 0x12], ⟨.opt, 0⟩, by decide +kernel⟩,
   ⟨bench [], ⟨.opt, 0⟩, by decide +kernel⟩,
   ⟨bench [], 0x2000, by decide +kernel⟩,
   ⟨bench [], .eng 0, 0x1000000, by decide +kernel⟩⟩

/-- The premises of each clause of `Obligations.BadAccessIsCounted` are met. -/
theorem witness_BadAccessIsCounted :
    (∃ (s : State) (a : BitVec 26), pageAt a.toNat = none ∧ s.phase = .run) ∧
    (∃ (s : State) (a : BitVec 26), pageAt a.toNat = none ∧ s.phase = .run ∧ a.toNat % 4 = 0) ∧
    (∃ (s : State) (a : BitVec 26) (bytes : List Byte), s.phase = .run ∧ a.toNat + bytes.length ≤ 2 ^ 26 ∧ bytes ≠
      [] ∧ (a.toNat / 0x800000 < 4 ∨ a.toNat / 0x800000 = 7) ∧ s.scope 0 = false) ∧
    (∃ (s : State) (a : BitVec 26) (bytes : List Byte), s.phase = .run ∧ a.toNat + bytes.length ≤ 2 ^ 26 ∧ bytes ≠
      [] ∧ 4 ≤ a.toNat / 0x800000 ∧ a.toNat / 0x800000 < 7 ∧ (a.toNat % 0x800000 < 0x400000 ∨ 0x8000 ≤ a.toNat %
      0x10000) ∧ s.fb (enb (a.toNat / 0x800000)) ENG.CL_STAT_LOADING = false ∧ s.clUp (a.toNat / 0x800000) = true) :=
  ⟨⟨bench [], 0x3FFF000, by decide +kernel⟩,
   ⟨bench [], 0x3FFF000, by decide +kernel⟩,
   ⟨bench [.fuses { prov := true }], 0x10000, [1, 2, 3, 4], by decide +kernel⟩,
   ⟨bench [], 0x2000000, [1, 2, 3, 4], by decide +kernel⟩⟩

/-- The premises of each clause of `Obligations.OrdinaryRegisterWrites` are met. -/
theorem witness_OrdinaryRegisterWrites :
    (∃ (s : State) (a : BitVec 26) (bytes : List Byte) (p : Page), pageAt a.toNat = some p ∧ s.phase = .run ∧
      s.present p = true ∧ a.toNat % 4 = 0 ∧ bytes.length = 4 ∧ 0x100 ≤ a.toNat % 0x1000 ∧ s.pageOn p = false ∧
      hostOnly p (a.toNat % 0x1000) = false) ∧
    (∃ (s : State) (a : BitVec 26) (bytes : List Byte) (p : Page), pageAt a.toNat = some p ∧ s.phase = .run ∧
      s.present p = true ∧ a.toNat % 4 = 0 ∧ bytes.length = 4 ∧ 0x100 ≤ a.toNat % 0x1000 ∧ s.pageOn p = true ∧
      s.srstBusy p.base = true) ∧
    (∃ (s : State) (a : BitVec 26) (bytes : List Byte) (p : Page), pageAt a.toNat = some p ∧ s.serves .host p ∧
      a.toNat % 4 = 0 ∧ bytes.length = 4 ∧ 0x100 ≤ a.toNat % 0x1000 ∧ a.toNat % 0x1000 < 0x800 ∧ regRow p (a.toNat %
      0x1000) = none) ∧
    (∃ (s : State) (a : BitVec 26) (bytes : List Byte) (p : Page) (r : RegRow), pageAt a.toNat = some p ∧ s.serves
      .host p ∧ a.toNat % 4 = 0 ∧ bytes.length = 4 ∧ 0x100 ≤ a.toNat % 0x1000 ∧ a.toNat % 0x1000 < 0x800 ∧ regRow p
      (a.toNat % 0x1000) = some r ∧ r.rw = 0 ∧ r.w1 = 0) ∧
    (∃ (s : State) (a : BitVec 26) (bytes : List Byte) (p : Page), pageAt a.toNat = some p ∧ s.phase = .run ∧
      s.present p = true ∧ (bytes.length = 1 ∨ bytes.length = 2)) ∧
    (∃ (s : State) (n : Fin 16) (off : Nat) (_v : Word) (r : RegRow), s.serves .host ⟨.ddr, n.val⟩ ∧ off < 0x800 ∧
      0x100 ≤ off ∧ off % 4 = 0 ∧ regRow ⟨.ddr, n.val⟩ off = some r ∧ r.rw ≠ 0) :=
  ⟨⟨State.reset.apply (.phase .run), 0x1000104, [1, 0, 0, 0], ⟨.opt, 0⟩, by decide +kernel⟩,
   ⟨bench [.regs 0x100000C 2], 0x1000104, [1, 0, 0, 0], ⟨.opt, 0⟩, by decide +kernel⟩,
   ⟨bench [], 0x10007FC, [1, 0, 0, 0], ⟨.opt, 0⟩, by decide +kernel⟩,
   ⟨bench [], 0x100, [1, 0, 0, 0], ⟨.mgt, 0⟩, (regRow ⟨.mgt, 0⟩ 0x100).get (by decide), by decide +kernel⟩,
   ⟨bench [], 0x1000104, [1, 0], ⟨.opt, 0⟩, by decide +kernel⟩,
   ⟨bench [], 3, DDR.DDR_TEMP_LIM, 5, (regRow ⟨.ddr, 3⟩ DDR.DDR_TEMP_LIM).get (by decide), by decide +kernel⟩⟩

/-- The premises of each clause of `Obligations.StagedWritesWait` are met. -/
theorem witness_StagedWritesWait :
    (∃ (s : State) (a : BitVec 26) (v : Word) (p : Page) (r : RegRow) (d : Deal), pageAt a.toNat = some p ∧ s.up p
      ∧ s.srstBusy p.base = false ∧ a.toNat = p.base + a.toNat % 0x1000 ∧ s.fb p.base DEAL_CTL_STAGE = true ∧ p.kind
      ≠ .mgt ∧ 0x100 ≤ a.toNat % 0x1000 ∧ a.toNat % 0x1000 < 0x800 ∧ regRow p (a.toNat % 0x1000) = some r ∧ r.stage
      = true ∧ s.deal (s.fg p.base DEAL_CTL_DEAL_ID) = some d ∧ d.st = .staging ∧ d.acts.any (Action.same (.write
      a.toNat v)) = false ∧ d.acts.length < 64) ∧
    (∃ (s : State) (a : BitVec 26) (_v : Word) (p : Page) (r : RegRow), pageAt a.toNat = some p ∧ s.up p ∧
      s.srstBusy p.base = false ∧ s.fb p.base DEAL_CTL_STAGE = true ∧ p.kind ≠ .mgt ∧ 0x100 ≤ a.toNat % 0x1000 ∧
      a.toNat % 0x1000 < 0x800 ∧ regRow p (a.toNat % 0x1000) = some r ∧ (s.deal (s.fg p.base DEAL_CTL_DEAL_ID)).any
      (fun d => d.st == .staging) = false) ∧
    (∃ (s : State) (a : BitVec 26) (_v : Word) (p : Page) (r : RegRow), pageAt a.toNat = some p ∧ s.up p ∧
      s.srstBusy p.base = false ∧ s.fb p.base DEAL_CTL_STAGE = true ∧ p.kind ≠ .mgt ∧ 0x100 ≤ a.toNat % 0x1000 ∧
      a.toNat % 0x1000 < 0x800 ∧ regRow p (a.toNat % 0x1000) = some r ∧ (s.deal (s.fg p.base DEAL_CTL_DEAL_ID)).any
      (fun d => d.st == .staging) = true ∧ r.stage = false) :=
  ⟨⟨bench [.deals [{ id := 5, st := .staging }], .regs 0x100202C 0x105], 0x1002000 + BitVec.ofNat 26 TXD.TXD_SHAPE, 1, ⟨.txd, 0⟩, (regRow ⟨.txd, 0⟩ TXD.TXD_SHAPE).get (by decide), { id := 5, st := .staging }, by decide +kernel⟩,
   ⟨bench [.regs 0x100202C 0x105], 0x1002000 + BitVec.ofNat 26 TXD.TXD_SHAPE, 1, ⟨.txd, 0⟩, (regRow ⟨.txd, 0⟩ TXD.TXD_SHAPE).get (by decide), by decide +kernel⟩,
   ⟨bench [.deals [{ id := 5, st := .staging }], .regs 0x100202C 0x105], 0x1002000 + BitVec.ofNat 26 TXD.TXD_CTL, 1, ⟨.txd, 0⟩, (regRow ⟨.txd, 0⟩ TXD.TXD_CTL).get (by decide), by decide +kernel⟩⟩

/-- The premises of each clause of `Obligations.WindowAccesses` are met. -/
theorem witness_WindowAccesses :
    (∃ (s : State) (src : Requester) (page : BitVec 14) (w : Fin 16) (_v : Word) (p : Page) (q : Nat × Nat), pageAt
      (slotBase page) = some p ∧ s.serves src p ∧ pageWindow p = true ∧ winTable p (bitsGet (s.reg (p.base +
      oWIN_SEL)) 24 8) = some q ∧ bitsGet (s.reg (p.base + oWIN_SEL)) 0 24 < q.1 ∧ w.val < q.2) ∧
    (∃ (s : State) (src : Requester) (page : BitVec 14) (_w : Fin 16) (_v : Word) (p : Page) (q : Nat × Nat),
      pageAt (slotBase page) = some p ∧ s.serves src p ∧ pageWindow p = true ∧ winTable p (bitsGet (s.reg (p.base +
      oWIN_SEL)) 24 8) = some q ∧ q.1 ≤ bitsGet (s.reg (p.base + oWIN_SEL)) 0 24) ∧
    (∃ (s : State) (page : BitVec 14) (p : Page) (q : Nat × Nat), pageAt (slotBase page) = some p ∧ s.up p ∧
      pageWindow p = true ∧ winTable p (bitsGet (s.reg (p.base + oWIN_SEL)) 24 8) = some q ∧ bitsGet (s.reg (p.base
      + oWIN_SEL)) 0 24 < q.1 ∧ q.2 ≤ 16 ∧ p.kind ≠ .err ∧ 0 < q.2) :=
  ⟨⟨bench [], .host, 0x1002, 0, 7, ⟨.txd, 0⟩, (winTable ⟨.txd, 0⟩ 0).get (by decide), by decide +kernel⟩,
   ⟨bench [.regs 0x1002800 0xFFFFFF], .host, 0x1002, 0, 7, ⟨.txd, 0⟩, (winTable ⟨.txd, 0⟩ 0).get (by decide), by decide +kernel⟩,
   ⟨bench [], 0x1002, ⟨.txd, 0⟩, (winTable ⟨.txd, 0⟩ 0).get (by decide), by decide +kernel⟩⟩

/-- The premises of each clause of `Obligations.TransfersOfTheSideBus` are met. -/
theorem witness_TransfersOfTheSideBus :
    (∃ (_s : State) (bytes : List Byte), bytes.length = 4) ∧
    (∃ (_s : State) (bytes : List Byte), bytes.length = 8 ∧ (wordAt bytes 0).toNat < 2 ^ 26 ∧ (wordAt bytes
      0).toNat % 4 = 0) ∧
    (∃ (s : State) (p : Page) (r : RegRow), s.phase = .run ∧ s.i2c < 2 ^ 26 ∧ s.i2c % 4 = 0 ∧ pageAt s.i2c = some p
      ∧ i2cReads p (s.i2c % 0x1000) = true ∧ (p.kind = .opt ∨ p.kind = .pwr) ∧ 0x100 ≤ s.i2c % 0x1000 ∧ s.i2c %
      0x1000 < 0x800 ∧ regRow p (s.i2c % 0x1000) = some r) :=
  ⟨⟨bench [], [0, 0, 0, 1], by decide +kernel⟩,
   ⟨bench [], [0, 1, 0, 1, 5, 0, 0, 0], by decide +kernel⟩,
   ⟨bench [.i2c 0x1000104], ⟨.opt, 0⟩, (regRow ⟨.opt, 0⟩ 0x104).get (by decide), by decide +kernel⟩⟩

/-- The premises of each clause of `Obligations.DeviceTimeReadsAndSteps` are met. -/
theorem witness_DeviceTimeReadsAndSteps :
    (∃ (s : State), s.phase = .run) ∧
    (∃ (s : State) (c : Fin 4), s.phase = .run ∧ (s.tl c).run = true) ∧
    (∃ (s : State) (src : Requester), s.serves src ⟨.time, 0⟩ ∧ s.fb tb TIME.STEP_CMD_BUSY = false) ∧
    (∃ (s : State) (src : Requester), s.serves src ⟨.time, 0⟩ ∧ s.fb tb TIME.STEP_CMD_BUSY = true) ∧
    (∃ (s : State), s.phase = .run ∧ s.fb tb TIME.STEP_CMD_BUSY = true ∧ s.stepOfs.toInt ≤ 0) :=
  ⟨⟨bench [.now 0x1234567890ABCDEF0000], by decide +kernel⟩,
   ⟨bench [.tls 2 { run := true, mf := 77, start := 0x123456789A }], 2, by decide +kernel⟩,
   ⟨bench [.regs (tb + TIME.STEP_LO) 500], .host, by decide +kernel⟩,
   ⟨bench [.regs (tb + TIME.STEP_CMD) 2], .host, by decide +kernel⟩,
   ⟨bench [.regs (tb + TIME.STEP_CMD) 2, .stepOfs (-500), .now 0x1234567890ABCDEF0000], by decide +kernel⟩⟩

/-- The premises of each clause of `Obligations.TimelineBoundaries` are met. -/
theorem witness_TimelineBoundaries :
    (∃ (s : State) (c : Fin 4), s.phase = .run ∧ (s.tl c).run = true) ∧
    (∃ (s : State) (c : Fin 4) (_clips : Nat), s.phase = .run ∧ (s.tl c).run = true) :=
  ⟨⟨bench [.tls 2 { run := true, mf := 77, start := 0x123456789A }], 2, by decide +kernel⟩,
   ⟨bench [.tls 2 { run := true, mf := 77, frame := 255 }], 2, 0, by decide +kernel⟩⟩

/-- The premises of each clause of `Obligations.DealsOpenAndClose` are met. -/
theorem witness_DealsOpenAndClose :
    (∃ (s : State) (src : Requester), s.serves src ⟨.time, 0⟩ ∧ (s.fg tb TIME.DEAL_SEL_ID < 0xC0 ∨ src = .dealer) ∧
      s.deal (s.fg tb TIME.DEAL_SEL_ID) = none ∧ s.deals.length < 32) ∧
    (∃ (s : State) (src : Requester) (d : Deal), s.serves src ⟨.time, 0⟩ ∧ s.fg tb TIME.DEAL_SEL_ID < 0xC0 ∧ s.deal
      (s.fg tb TIME.DEAL_SEL_ID) = some d ∧ d.pending = true) ∧
    (∃ (s : State) (src : Requester), s.serves src ⟨.time, 0⟩ ∧ s.fg tb TIME.DEAL_SEL_ID < 0xC0 ∧ s.deal (s.fg tb
      TIME.DEAL_SEL_ID) = none ∧ 32 ≤ s.deals.length ∧ (∀ d ∈ s.deals, d.pending = true)) ∧
    (∃ (s : State) (src : Requester) (d : Deal), s.serves src ⟨.time, 0⟩ ∧ s.deal (s.fg tb TIME.DEAL_SEL_ID) = some
      d ∧ d.pending = true) ∧
    (∃ (s : State) (src : Requester) (d : Deal), s.serves src ⟨.time, 0⟩ ∧ s.deal (s.fg tb TIME.DEAL_SEL_ID) = some
      d ∧ d.pending = false) ∧
    (∃ (s : State) (src : Requester), s.serves src ⟨.time, 0⟩ ∧ (∀ d ∈ s.deal (s.fg tb TIME.DEAL_SEL_ID), d.pending
      = true)) :=
  ⟨⟨bench [], .host, by decide +kernel⟩,
   ⟨bench [.deals [{ id := 0, st := .armed }]], .host, { id := 0, st := .armed }, by decide +kernel⟩,
   ⟨bench [.deals ((List.range 32).map fun i => { id := i + 1, st := .staging })], .host, by decide +kernel⟩,
   ⟨bench [.deals [{ id := 0, st := .armed }]], .host, { id := 0, st := .armed }, by decide +kernel⟩,
   ⟨bench [.deals [{ id := 0, st := .done }]], .host, { id := 0, st := .done }, by decide +kernel⟩,
   ⟨bench [], .host, by decide +kernel⟩⟩

/-- The premises of each clause of `Obligations.StackDealIdsAreTheDealers` are met. -/
theorem witness_StackDealIdsAreTheDealers :
    (∃ (s : State) (src : Requester), s.serves src ⟨.time, 0⟩ ∧ 0xC0 ≤ s.fg tb TIME.DEAL_SEL_ID ∧ (s.fg vb0
      VLG.STACK_STAT_STATE = 1 ∨ s.fg vb0 VLG.STACK_STAT_STATE = 3) ∧ src ≠ .dealer) ∧
    (∃ (s : State), s.serves .dealer ⟨.time, 0⟩ ∧ 0xC0 ≤ s.fg tb TIME.DEAL_SEL_ID ∧ (s.fg vb0 VLG.STACK_STAT_STATE
      = 1 ∨ s.fg vb0 VLG.STACK_STAT_STATE = 3) ∧ s.deal (s.fg tb TIME.DEAL_SEL_ID) = none ∧ s.deals.length < 32) :=
  ⟨⟨bench [.regs (tb + TIME.DEAL_SEL) 0xC1, .regs (vb0 + VLG.STACK_STAT) (bitsPut 0 VLG.STACK_STAT_STATE.lo VLG.STACK_STAT_STATE.w 1)], .host, by decide +kernel⟩,
   ⟨bench [.regs (tb + TIME.DEAL_SEL) 0xC1, .regs (vb0 + VLG.STACK_STAT) (bitsPut 0 VLG.STACK_STAT_STATE.lo VLG.STACK_STAT_STATE.w 1)], by decide +kernel⟩⟩

/-- The premises of each clause of `Obligations.ArmDecides` are met. -/
theorem witness_ArmDecides :
    (∃ (s : State) (src : Requester) (d : Deal), s.serves src ⟨.time, 0⟩ ∧ s.deal (s.fg tb TIME.DEAL_SEL_ID) = some
      d ∧ d.st = .staging ∧ s.prepares = [] ∧ s.stSt ≠ kDEALER ∧ d.num ≠ 0 ∧ s.armVerdict d = .armed) ∧
    (∃ (s : State) (src : Requester) (d : Deal), s.serves src ⟨.time, 0⟩ ∧ s.deal (s.fg tb TIME.DEAL_SEL_ID) = some
      d ∧ d.st = .staging ∧ s.prepares = [] ∧ s.stSt ≠ kDEALER ∧ d.num ≠ 0 ∧ s.armVerdict d = .late) ∧
    (∃ (s : State) (src : Requester) (d : Deal) (r : Nat), s.serves src ⟨.time, 0⟩ ∧ s.deal (s.fg tb
      TIME.DEAL_SEL_ID) = some d ∧ d.st = .staging ∧ s.prepares = [] ∧ s.stSt ≠ kDEALER ∧ d.num ≠ 0 ∧ s.armVerdict d
      = .refused r) ∧
    (∃ (s : State) (src : Requester), s.serves src ⟨.time, 0⟩ ∧ (∀ d ∈ s.deal (s.fg tb TIME.DEAL_SEL_ID), d.st ≠
      .staging)) ∧
    (∃ (_s : State) (d : Deal), d.lineLock = false ∧ d.trigMark = false ∧ d.overflow = false ∧ d.tgtNum = false ∧
      d.align = aNONE) ∧
    (∃ (n N C : Nat), 0 < n ∧ N < 2 ^ n ∧ C < 2 ^ n) :=
  ⟨⟨bench [.deals [{ id := 0, st := .staging, num := 1, time := 1000 }]], .host, { id := 0, st := .staging, num := 1, time := 1000 }, by decide +kernel⟩,
   ⟨bench [.now 0x100000000000, .deals [{ id := 0, st := .staging, num := 1, time := 1000, cfg := 0x20 }]], .host, { id := 0, st := .staging, num := 1, time := 1000, cfg := 0x20 }, by decide +kernel⟩,
   ⟨bench [.now 0x100000000000, .deals [{ id := 0, st := .staging, num := 1, time := 1000 }]], .host, { id := 0, st := .staging, num := 1, time := 1000 }, 1, by decide +kernel⟩,
   ⟨bench [], .host, by decide +kernel⟩,
   ⟨bench [], { id := 0, st := .staging }, by decide +kernel⟩,
   ⟨32, 5, 0xFFFFFFFF, by decide +kernel⟩⟩

/-- The premises of each clause of `Obligations.CommandsAreStaged` are met. -/
theorem witness_CommandsAreStaged :
    (∃ (s : State) (src : Requester) (code : Byte) (d : Deal) (p : Page), s.serves src ⟨.time, 0⟩ ∧ s.deal (s.fg tb
      TIME.DEAL_SEL_ID) = some d ∧ d.st = .staging ∧ d.acts.length < 64 ∧ pageAt (s.reg (tb + TIME.CMD_PAGE)).toNat
      = some p ∧ (s.reg (tb + TIME.CMD_PAGE)).toNat % 0x1000 = 0 ∧ s.present p = true ∧ pageAccepts p.kind
      code.toNat = true ∧ cmdArgOk p.kind code.toNat (s.reg (tb + TIME.CMD_ARG)) = true) ∧
    (∃ (s : State) (src : Requester) (code : Byte) (d : Deal) (p : Page), s.serves src ⟨.time, 0⟩ ∧ s.deal (s.fg tb
      TIME.DEAL_SEL_ID) = some d ∧ d.st = .staging ∧ pageAt (s.reg (tb + TIME.CMD_PAGE)).toNat = some p ∧
      pageAccepts p.kind code.toNat = false) ∧
    (∃ (s : State) (src : Requester) (_code : Byte) (d : Deal), s.serves src ⟨.time, 0⟩ ∧ s.deal (s.fg tb
      TIME.DEAL_SEL_ID) = some d ∧ d.st ≠ .staging) :=
  ⟨⟨bench [.deals [{ id := 0, st := .staging }], .regs (tb + TIME.CMD_PAGE) 0x1002000, .regs (tb + TIME.CMD_ARG) 1], .host, 1, { id := 0, st := .staging }, ⟨.txd, 0⟩, by decide +kernel⟩,
   ⟨bench [.deals [{ id := 0, st := .staging }], .regs (tb + TIME.CMD_PAGE) 0x1002000, .regs (tb + TIME.CMD_ARG) 1], .host, 2, { id := 0, st := .staging }, ⟨.txd, 0⟩, by decide +kernel⟩,
   ⟨bench [.deals [{ id := 0, st := .armed }]], .host, 2, { id := 0, st := .armed }, by decide +kernel⟩⟩

/-- The premises of each clause of `Obligations.DealsExecute` are met. -/
theorem witness_DealsExecute :
    (∃ (s : State) (d : Deal) (n : Word) (fly : Bool), s.phase = .run ∧ s.deals = [d] ∧ s.dueNow d = some (.exec n
      fly)) ∧
    (∃ (s : State) (d : Deal) (a : Nat) (v _num : Word) (p : Page) (r : RegRow), s.deal d.id = some d ∧ d.acts =
      [.write a v] ∧ pageAt (a / 0x1000 * 0x1000) = some p ∧ s.present p = true ∧ s.pageOn p = true ∧ s.srstBusy
      p.base = false ∧ regRow p (a % 0x1000) = some r) ∧
    (∃ (s : State) (d : Deal) (a : Nat) (v _num : Word) (p : Page), s.deal d.id = some d ∧ d.acts = [.write a v] ∧
      pageAt (a / 0x1000 * 0x1000) = some p ∧ s.pageOn p = false) ∧
    (∃ (s : State) (id : Byte) (d : Deal), s.phase = .run ∧ s.deal id.toNat = some d ∧ d.trigMark = true ∧ d.st =
      .armed ∧ d.bound = none ∧ d.time.toNat ≤ s.nowNs.toNat) ∧
    (∃ (s : State) (c : Fin 4) (_tag : Byte) (_n : Word) (_left : Nat), s.phase = .run ∧ s.rxLocked c = false) ∧
    (∃ (s : State) (c : Fin 4) (tag : Byte) (_n : Word) (_left : Nat), s.phase = .run ∧ s.rxLocked c = true ∧ (s.tl
      c).rxAt ≠ 0 ∧ s.deals.filter (fun d => d.st == .armed && d.trigMark && d.carrier == c.val && d.tag ==
      tag.toNat) = []) ∧
    (∃ (s : State) (c : Fin 4) (tag : Byte) (n : Word) (_left : Nat) (d : Deal), s.phase = .run ∧ s.rxLocked c =
      true ∧ (s.tl c).rxAt ≠ 0 ∧ s.deals.filter (fun d => d.st == .armed && d.trigMark && d.carrier == c.val &&
      d.tag == tag.toNat) = [d] ∧ d.bound = none ∧ (d.num = 0 ∨ d.num = n) ∧ d.marks = none) :=
  ⟨⟨bench [.now 0x100000000000, .deals [{ id := 7, st := .armed, num := 1, time := 1000 }]], { id := 7, st := .armed, num := 1, time := 1000 }, 0, false, by decide +kernel⟩,
   ⟨bench [.deals [{ id := 7, st := .armed, acts := [.write (0x1002000 + TXD.TXD_SHAPE) 0] }]], { id := 7, st := .armed, acts := [.write (0x1002000 + TXD.TXD_SHAPE) 0] }, 0x1002000 + TXD.TXD_SHAPE, 0, 0, ⟨.txd, 0⟩, (regRow ⟨.txd, 0⟩ TXD.TXD_SHAPE).get (by decide), by decide +kernel⟩,
   ⟨State.reset.applyAll [.phase .run, .deals [{ id := 7, st := .armed, acts := [.write 0x1002120 0] }]], { id := 7, st := .armed, acts := [.write 0x1002120 0] }, 0x1002120, 0, 0, ⟨.txd, 0⟩, by decide +kernel⟩,
   ⟨bench [.deals [{ id := 7, st := .armed, cfg := 0x80 }]], 7, { id := 7, st := .armed, cfg := 0x80 }, by decide +kernel⟩,
   ⟨bench [], 1, 3, 90, 4, by decide +kernel⟩,
   ⟨bench [.tls 1 { rxAt := 5 }, put (lb 1) LFR.FR_STAT_STATE 2, .frs (mb 1) { mfLock := true }], 1, 3, 90, 4, by decide +kernel⟩,
   ⟨bench [.tls 1 { rxAt := 5 }, put (lb 1) LFR.FR_STAT_STATE 2, .frs (mb 1) { mfLock := true }, .deals [{ id := 7, st := .armed, cfg := 0x030084 }]], 1, 3, 90, 4, { id := 7, st := .armed, cfg := 0x030084 }, by decide +kernel⟩⟩

/-- The premises of each clause of `Obligations.StackDealsAreAgreed` are met. -/
theorem witness_StackDealsAreAgreed :
    (∃ (s : State) (id : Byte) (time : BitVec 64) (num cfg : Word), s.phase = .run ∧ s.stSt = kJOINED ∧ s.deal
      id.toNat = none ∧ s.deals.length < 32 ∧ 0xC0 ≤ id.toNat ∧ s.armVerdict
      { id := id.toNat, st := .staging, stack := true, time := time, num := num, cfg := cfg &&& 0x00FF00FF } =
      .armed) ∧
    (∃ (s : State) (id : Byte) (_time : BitVec 64) (_num _cfg : Word) (_acts : List StackAct) (d : Deal), s.phase =
      .run ∧ s.stSt = kJOINED ∧ s.deal id.toNat = some d ∧ d.pending = true) ∧
    (∃ (s : State) (pos : Fin 4) (id : Byte) (q : Prepare), s.phase = .run ∧ s.prepares.find? (fun q => q.id ==
      id.toNat) = some q ∧ q.waiting.contains pos.val = true ∧ q.waiting.filter (· != pos.val) ≠ []) ∧
    (∃ (s : State) (pos : Fin 4) (id : Byte) (q : Prepare) (d : Deal), s.phase = .run ∧ s.prepares.find? (fun q =>
      q.id == id.toNat) = some q ∧ q.waiting = [pos.val] ∧ s.deal id.toNat = some d ∧ d.st = .staging) ∧
    (∃ (s : State) (pos : Fin 4) (id : Byte) (_reason : Fin 16) (d : Deal), s.phase = .run ∧ s.prepares.any (fun q
      => q.id == id.toNat && q.waiting.contains pos.val) = true ∧ s.deal id.toNat = some d) ∧
    (∃ (s : State) (id : Byte) (d : Deal), s.phase = .run ∧ s.prepares.any (fun q => q.id == id.toNat) = true ∧
      s.running (tPrep id.toNat) = true ∧ s.timer (tPrep id.toNat) + 999999 ≤ s.ticks ∧ s.deal id.toNat = some d) ∧
    (∃ (s : State) (_id : Byte), s.phase = .run ∧ s.stSt = kJOINED) ∧
    (∃ (s : State) (id : Byte) (d : Deal), s.phase = .run ∧ s.stSt = kJOINED ∧ s.deal id.toNat = some d ∧ d.pending
      = true) :=
  ⟨⟨bench [.regs (vb0 + VLG.STACK_STAT) (bitsPut 0 VLG.STACK_STAT_STATE.lo VLG.STACK_STAT_STATE.w kJOINED)], 0xC1, 1000, 0, 0, by decide +kernel⟩,
   ⟨bench [.deals [{ id := 0xC1, st := .armed }], .regs (vb0 + VLG.STACK_STAT) (bitsPut 0 VLG.STACK_STAT_STATE.lo VLG.STACK_STAT_STATE.w kJOINED)], 0xC1, 1000, 0, 0, [], { id := 0xC1, st := .armed }, by decide +kernel⟩,
   ⟨bench [.prepares [{ id := 0xC1, waiting := [1, 2] }]], 1, 0xC1, { id := 0xC1, waiting := [1, 2] }, by decide +kernel⟩,
   ⟨bench [.prepares [{ id := 0xC1, waiting := [1] }], .deals [{ id := 0xC1, st := .staging }]], 1, 0xC1, { id := 0xC1, waiting := [1] }, { id := 0xC1, st := .staging }, by decide +kernel⟩,
   ⟨bench [.prepares [{ id := 0xC1, waiting := [1] }], .deals [{ id := 0xC1, st := .staging }]], 1, 0xC1, 4, { id := 0xC1, st := .staging }, by decide +kernel⟩,
   ⟨bench [.ticks 2000000, .timers (tPrep 0xC1) 5, .prepares [{ id := 0xC1, waiting := [1] }], .deals [{ id := 0xC1, st := .staging }]], 0xC1, { id := 0xC1, st := .staging }, by decide +kernel⟩,
   ⟨bench [.deals [{ id := 0xC1, st := .staging }], .regs (vb0 + VLG.STACK_STAT) (bitsPut 0 VLG.STACK_STAT_STATE.lo VLG.STACK_STAT_STATE.w kJOINED)], 0xC1, by decide +kernel⟩,
   ⟨bench [.deals [{ id := 0xC1, st := .armed }], .regs (vb0 + VLG.STACK_STAT) (bitsPut 0 VLG.STACK_STAT_STATE.lo VLG.STACK_STAT_STATE.w kJOINED)], 0xC1, { id := 0xC1, st := .armed }, by decide +kernel⟩⟩

/-- The premises of each clause of `Obligations.BlockCommandsReachTheirPages` are met. -/
theorem witness_BlockCommandsReachTheirPages :
    (∃ (s : State) (page : BitVec 14) (c : Fin 4) (_arg : Word), pageAt (slotBase page) = some ⟨.txd, c.val⟩ ∧ s.up
      ⟨.txd, c.val⟩) ∧
    (∃ (s : State) (page : BitVec 14) (c : Fin 4) (_arg : Word), pageAt (slotBase page) = some ⟨.rxm, c.val⟩ ∧ s.up
      ⟨.rxm, c.val⟩) ∧
    (∃ (s : State) (page : BitVec 14) (c : Fin 4) (_arg : Word), pageAt (slotBase page) = some ⟨.rxf, c.val⟩ ∧ s.up
      ⟨.rxf, c.val⟩) ∧
    (∃ (s : State) (page : BitVec 14) (_arg : Word), pageAt (slotBase page) = some ⟨.sns, 0⟩ ∧ s.up ⟨.sns, 0⟩) ∧
    (∃ (s : State) (page : BitVec 14) (p : Page) (_arg : Word), pageAt (slotBase page) = some p ∧ s.phase = .run ∧
      pageAccepts p.kind 1 = true ∧ s.pageOn p = false) ∧
    (∃ (s : State) (c : Fin 4) (_arg : Word), s.up ⟨.cip, c.val⟩) ∧
    (∃ (s : State) (c : Fin 4) (_arg : Word), s.up ⟨.cip, c.val⟩) ∧
    (∃ (s : State) (_arg : Word) (_others : List Nat), s.up ⟨.suit, 0⟩) ∧
    (∃ (s : State) (_arg : Word), s.up ⟨.hub, 0⟩) ∧
    (∃ (s : State) (_id : Byte) (_args : List Word), s.phase = .run) ∧
    (∃ (s : State), s.up ⟨.snap, 0⟩ ∧ bitOf (s.fg snb SNAP.SRC_EN_SRC) cDEAL = true ∧ s.callUp = false ∧
      s.callRecent = false) ∧
    (∃ (s : State) (arg : Word), s.up ⟨.dpl, 0⟩ ∧ s.outPulse (arg.toNat % 4) = true) :=
  ⟨⟨bench [], 0x1002, 0, 1, by decide +kernel⟩,
   ⟨bench [], 0x1004, 0, 1, by decide +kernel⟩,
   ⟨bench [], 0x1003, 0, 3, by decide +kernel⟩,
   ⟨bench [], 0xA, 1, by decide +kernel⟩,
   ⟨State.reset.apply (.phase .run), 0x1002, ⟨.txd, 0⟩, 1, by decide +kernel⟩,
   ⟨bench [], 1, 7, by decide +kernel⟩,
   ⟨bench [], 1, 7, by decide +kernel⟩,
   ⟨bench [], 3, [], by decide +kernel⟩,
   ⟨bench [], 2, by decide +kernel⟩,
   ⟨bench [], 5, [0x205], by decide +kernel⟩,
   ⟨bench [.regs (snb + SNAP.SRC_EN) 0xFF], by decide +kernel⟩,
   ⟨bench [.regs (dpb + DPL.OUT_CFG 1) (bitsPut 0 (DPL.OUT_CFG_SRC 1).lo (DPL.OUT_CFG_SRC 1).w 3)], 1, by decide +kernel⟩⟩

/-- The premises of each clause of `Obligations.LaserCommandsAnswer` are met. -/
theorem witness_LaserCommandsAnswer :
    (∃ (s : State) (src : Requester) (c : Fin 4) (_v : Word), s.serves src ⟨.opt, c.val⟩ ∧ s.fb (ob c)
      OPT.LASER_CTL_LASER_EN = false) ∧
    (∃ (s : State) (_src : Nat) (c : Fin 4), s.tuneOk c = true) ∧
    (∃ (s : State) (_src : Nat) (c : Fin 4), s.tuneOk c = false) ∧
    (∃ (s : State) (src : Requester) (c : Fin 4) (v : Word), s.serves src ⟨.opt, c.val⟩ ∧ s.fb (ob c)
      OPT.LASER_CTL_LASER_EN = true ∧ wroteB v OPT.LASER_CTL_TUNE_GO = false) ∧
    (∃ (s : State) (src : Requester) (c : Fin 4) (v : Word), s.serves src ⟨.opt, c.val⟩ ∧ wroteB v
      OPT.LASER_CTL_LASER_EN = s.fb (ob c) OPT.LASER_CTL_LASER_EN) ∧
    (∃ (s : State) (_src : Nat) (c : Fin 4), (s.laser c = lLOCKED ∨ s.laser c = lHOLD) ∧ s.tuneOk c = true) ∧
    (∃ (s : State) (_src : Nat) (c : Fin 4), (s.laser c = lWARMUP ∨ s.laser c = lTUNING ∨ s.laser c = lLOCKING) ∧
      s.tuneOk c = true) ∧
    (∃ (s : State) (_src : Nat) (c : Fin 4), (s.laser c = lOFF ∨ s.laser c = lFAULT)) ∧
    (∃ (s : State) (src : Requester) (c : Fin 4) (v : Word), s.serves src ⟨.opt, c.val⟩ ∧ wroteB v
      OPT.LASER_CTL_LASER_EN = s.fb (ob c) OPT.LASER_CTL_LASER_EN ∧ wroteB v OPT.LASER_CTL_FOLLOW = s.fb (ob c)
      OPT.LASER_CTL_FOLLOW ∧ wroteB v OPT.LASER_CTL_TUNE_GO = false) ∧
    (∃ (s : State) (src : Requester) (c : Fin 4) (v : Word), s.serves src ⟨.opt, c.val⟩ ∧ wroteB v
      OPT.LASER_CTL_LASER_EN = s.fb (ob c) OPT.LASER_CTL_LASER_EN ∧ wroteB v OPT.LASER_CTL_TUNE_GO = false) ∧
    (∃ (s : State) (c : Fin 4), s.fb (ob c) OPT.LASER_CTL_FOLLOW = false) ∧
    (∃ (s : State) (c : Fin 4), s.fb (ob c) OPT.LASER_CTL_FOLLOW = true ∧ s.laser c = lLOCKED) ∧
    (∃ (s : State) (src : Requester) (c : Fin 4) (v : Word), s.serves src ⟨.opt, c.val⟩ ∧ -6000 ≤ sx 14 (wrote v
      OPT.LASER_FINE_MHZ) ∧ sx 14 (wrote v OPT.LASER_FINE_MHZ) ≤ 6000 ∧ bandOk s.part (sx 16 (s.fineIndex c)) (sx 14
      (wrote v OPT.LASER_FINE_MHZ)) = true) ∧
    (∃ (s : State) (src : Requester) (c : Fin 4) (v : Word), s.serves src ⟨.opt, c.val⟩ ∧ (6000 < sx 14 (wrote v
      OPT.LASER_FINE_MHZ) ∨ sx 14 (wrote v OPT.LASER_FINE_MHZ) < -6000)) ∧
    (∃ (s : State) (src : Requester) (c : Fin 4) (v : Word), s.serves src ⟨.opt, c.val⟩ ∧ -80 ≤ sx 8 (wrote v
      OPT.TX_PWR_SET_DBM) ∧ sx 8 (wrote v OPT.TX_PWR_SET_DBM) ≤ 40 ∧ s.soaOpen c = false) ∧
    (∃ (s : State) (src : Requester) (c : Fin 4) (v : Word), s.serves src ⟨.opt, c.val⟩ ∧ (sx 8 (wrote v
      OPT.TX_PWR_SET_DBM) < -80 ∨ 40 < sx 8 (wrote v OPT.TX_PWR_SET_DBM))) :=
  ⟨⟨bench [], .host, 1, 0, by decide +kernel⟩,
   ⟨bench [], 1, 1, by decide +kernel⟩,
   ⟨bench [.regs (ob 1 + OPT.LASER_FREQ) 0x7FFF], 1, 1, by decide +kernel⟩,
   ⟨bench [.regs (ob 1 + OPT.LASER_CTL) (bitsPut 0 OPT.LASER_CTL_LASER_EN.lo 1 1)], .host, 1, 0, by decide +kernel⟩,
   ⟨bench [], .host, 1, 0, by decide +kernel⟩,
   ⟨bench [.regs (ob 1 + OPT.LASER_STAT) (bitsPut 0 OPT.LASER_STAT_STATE.lo OPT.LASER_STAT_STATE.w lHOLD)], 1, 1, by decide +kernel⟩,
   ⟨bench [.regs (ob 1 + OPT.LASER_STAT) (bitsPut 0 OPT.LASER_STAT_STATE.lo OPT.LASER_STAT_STATE.w lTUNING)], 1, 1, by decide +kernel⟩,
   ⟨bench [], 1, 1, by decide +kernel⟩,
   ⟨bench [], .host, 1, bitsPut 0 OPT.LASER_CTL_TX_EN.lo 1 1, by decide +kernel⟩,
   ⟨bench [], .host, 1, bitsPut 0 OPT.LASER_CTL_FOLLOW.lo 1 1, by decide +kernel⟩,
   ⟨bench [], 1, by decide +kernel⟩,
   ⟨bench [.regs (ob 1 + OPT.LASER_CTL) (bitsPut 0 OPT.LASER_CTL_FOLLOW.lo 1 1), .regs (ob 1 + OPT.LASER_STAT) (bitsPut 0 OPT.LASER_STAT_STATE.lo OPT.LASER_STAT_STATE.w lLOCKED)], 1, by decide +kernel⟩,
   ⟨bench [.regs (ob 1 + OPT.LASER_STAT) (bitsPut 0 OPT.LASER_STAT_STATE.lo OPT.LASER_STAT_STATE.w lLOCKED)], .host, 1, bitsPut 0 OPT.LASER_FINE_MHZ.lo OPT.LASER_FINE_MHZ.w 6000, by decide +kernel⟩,
   ⟨bench [], .host, 1, bitsPut 0 OPT.LASER_FINE_MHZ.lo OPT.LASER_FINE_MHZ.w 6001, by decide +kernel⟩,
   ⟨bench [], .host, 1, 40, by decide +kernel⟩,
   ⟨bench [], .host, 1, 41, by decide +kernel⟩⟩

/-- The premises of `Obligations.LaserStateChanges` are met. -/
theorem witness_LaserStateChanges :
    ∃ (_s : State) (_c : Fin 4) (st : Nat), st < 8 :=
  ⟨bench [], 1, 5, by decide +kernel⟩

/-- The premises of each clause of `Obligations.LaserEventsAnswer` are met. -/
theorem witness_LaserEventsAnswer :
    (∃ (s : State) (c : Fin 4) (_temp : Int) (_cur : Nat), s.up ⟨.opt, c.val⟩ ∧ s.laser c = lWARMUP) ∧
    (∃ (s : State) (c : Fin 4) (_err : Int), s.phase = .run ∧ s.laser c = lTUNING) ∧
    (∃ (s : State) (c : Fin 4) (err : Int), s.phase = .run ∧ err.natAbs ≤ 150 ∧ s.laser c = lLOCKING ∧ s.elapsed
      (tLock c) ≤ 20000000 ∧ s.fb (ob c) OPT.LASER_STAT_QUEUED = false ∧ s.fb (ob c) OPT.LASER_CTL_FOLLOW = false) ∧
    (∃ (s : State) (c : Fin 4) (err : Int), s.phase = .run ∧ err.natAbs ≤ 150 ∧ s.laser c = lLOCKING ∧ s.elapsed
      (tLock c) ≤ 20000000 ∧ s.fb (ob c) OPT.LASER_STAT_QUEUED = true) ∧
    (∃ (s : State) (c : Fin 4), s.phase = .run ∧ s.laser c = lLOCKING ∧ s.running (tLock c) = true ∧ (s.opt
      c).attempt = 1) ∧
    (∃ (s : State) (c : Fin 4), s.phase = .run ∧ s.laser c = lLOCKING ∧ s.running (tLock c) = true ∧ (s.opt
      c).attempt ≠ 1) ∧
    (∃ (s : State) (c : Fin 4) (err : Int), s.phase = .run ∧ s.laser c = lLOCKED ∧ s.fg (ob c)
      OPT.LASER_GUARD_OFF_GRID < err.natAbs) ∧
    (∃ (s : State) (c : Fin 4), s.phase = .run ∧ s.laser c = lHOLD ∧ s.running (tHold c) = true) ∧
    (∃ (s : State) (c : Fin 4) (dbm : Int), s.phase = .run ∧ s.soaOpen c = true ∧ s.fb (ob c)
      OPT.TX_PWR_MON_AT_TARGET = false ∧ (dbm - s.pwrSet c).natAbs ≤ 20) ∧
    (∃ (s : State) (c : Fin 4) (_loop : Fin 6), s.phase = .run ∧ s.laser c = lLOCKED ∧ s.fb (ob c)
      OPT.MZM_CTL_BIAS_EN = true ∧ s.fb (ob c) OPT.MZM_CTL_BIAS_HOLD = false) ∧
    (∃ (s : State) (c : Fin 4) (loop : Fin 6), s.phase = .run ∧ bitOf (s.fg (ob c) OPT.MZM_STAT_LOCKED) loop.val =
      true ∧ s.fb (ob c) OPT.MZM_CTL_BIAS_HOLD = false) ∧
    (∃ (s : State) (c : Fin 4) (_fine : Int), s.phase = .run ∧ s.fb (ob c) OPT.LASER_CTL_FOLLOW = true ∧ s.laser c
      = lLOCKED) ∧
    (∃ (s : State) (c : Fin 4) (_fine : Int), s.phase = .run ∧ s.fb (ob c) OPT.LASER_CTL_FOLLOW = true ∧ s.fb (ob
      c) OPT.LASER_STAT_FOLLOW_OK = true) ∧
    (∃ (s : State) (c : Fin 4) (_x _y total : Int) (_gain : Nat), s.up ⟨.opt, c.val⟩ ∧ s.fb (ob c)
      OPT.RX_STAT_LOS_RAW = false ∧ sx 12 (s.fg (ob c) OPT.LOS_CFG_THR) * 10 ≤ total ∧ total ≤ 550 ∧ s.fb (ob c)
      OPT.TIA_CTL_AGC_EN = true ∧ s.fb (ob c) OPT.TIA_CTL_AGC_FREEZE = false ∧ (s.opt c).burstFreeze = false) ∧
    (∃ (s : State) (c : Fin 4) (_x _y total : Int) (_gain : Nat), s.up ⟨.opt, c.val⟩ ∧ s.fb (ob c)
      OPT.RX_STAT_LOS_RAW = false ∧ total < sx 12 (s.fg (ob c) OPT.LOS_CFG_THR) * 10 ∧ total ≤ 550 ∧ s.fb (ob c)
      OPT.TIA_CTL_AGC_EN = false) :=
  ⟨⟨bench [.regs (ob 1 + OPT.LASER_STAT) (bitsPut 0 OPT.LASER_STAT_STATE.lo OPT.LASER_STAT_STATE.w lWARMUP)], 1, -5, 100, by decide +kernel⟩,
   ⟨bench [.regs (ob 1 + OPT.LASER_STAT) (bitsPut 0 OPT.LASER_STAT_STATE.lo OPT.LASER_STAT_STATE.w lTUNING)], 1, 300, by decide +kernel⟩,
   ⟨bench [.timers (tLock 1) 1, .regs (ob 1 + OPT.LASER_STAT) (bitsPut 0 OPT.LASER_STAT_STATE.lo OPT.LASER_STAT_STATE.w lLOCKING)], 1, 30, by decide +kernel⟩,
   ⟨bench [.timers (tLock 1) 1, .regs (ob 1 + OPT.LASER_STAT) (bitsPut (bitsPut 0 OPT.LASER_STAT_STATE.lo OPT.LASER_STAT_STATE.w lLOCKING) OPT.LASER_STAT_QUEUED.lo 1 1)], 1, 30, by decide +kernel⟩,
   ⟨bench [.opts 1 { attempt := 1 }, .timers (tLock 1) 1, .regs (ob 1 + OPT.LASER_STAT) (bitsPut 0 OPT.LASER_STAT_STATE.lo OPT.LASER_STAT_STATE.w lLOCKING)], 1, by decide +kernel⟩,
   ⟨bench [.opts 1 { attempt := 2 }, .timers (tLock 1) 1, .regs (ob 1 + OPT.LASER_STAT) (bitsPut 0 OPT.LASER_STAT_STATE.lo OPT.LASER_STAT_STATE.w lLOCKING)], 1, by decide +kernel⟩,
   ⟨bench [.regs (ob 1 + OPT.LASER_STAT) (bitsPut 0 OPT.LASER_STAT_STATE.lo OPT.LASER_STAT_STATE.w lLOCKED)], 1, -6000, by decide +kernel⟩,
   ⟨bench [.timers (tHold 1) 1, .regs (ob 1 + OPT.LASER_STAT) (bitsPut 0 OPT.LASER_STAT_STATE.lo OPT.LASER_STAT_STATE.w lHOLD)], 1, by decide +kernel⟩,
   ⟨bench [.regs (ob 1 + OPT.TX_PWR_MON) (bitsPut 0 OPT.TX_PWR_MON_SOA_OPEN.lo 1 1)], 1, (bench []).pwrSet 1 + 20, by decide +kernel⟩,
   ⟨bench [.regs (ob 1 + OPT.MZM_CTL) (bitsPut 0 OPT.MZM_CTL_BIAS_EN.lo 1 1), .regs (ob 1 + OPT.LASER_STAT) (bitsPut 0 OPT.LASER_STAT_STATE.lo OPT.LASER_STAT_STATE.w lLOCKED)], 1, 5, by decide +kernel⟩,
   ⟨bench [.regs (ob 1 + OPT.MZM_STAT) 0x3F], 1, 0, by decide +kernel⟩,
   ⟨bench [.regs (ob 1 + OPT.LASER_CTL) (bitsPut 0 OPT.LASER_CTL_FOLLOW.lo 1 1), .regs (ob 1 + OPT.LASER_STAT) (bitsPut 0 OPT.LASER_STAT_STATE.lo OPT.LASER_STAT_STATE.w lLOCKED)], 1, -40, by decide +kernel⟩,
   ⟨bench [.regs (ob 1 + OPT.LASER_CTL) (bitsPut 0 OPT.LASER_CTL_FOLLOW.lo 1 1), .regs (ob 1 + OPT.LASER_STAT) (bitsPut 0 OPT.LASER_STAT_FOLLOW_OK.lo 1 1)], 1, -40, by decide +kernel⟩,
   ⟨bench [.regs (ob 1 + OPT.RX_STAT) 0, .regs (ob 1 + OPT.TIA_CTL) (bitsPut 0 OPT.TIA_CTL_AGC_EN.lo 1 1)], 1, -300, -310, 0, 44, by decide +kernel⟩,
   ⟨bench [.regs (ob 1 + OPT.RX_STAT) 0, .regs (ob 1 + OPT.TIA_CTL) 0], 1, -3300, -3310, -9000, 44, by decide +kernel⟩⟩

/-- The premises of each clause of `Obligations.ConverterCommandsAnswer` are met. -/
theorem witness_ConverterCommandsAnswer :
    (∃ (s : State) (src : Requester) (c : Fin 4) (r : RegRow), s.serves src ⟨.cnv, c.val⟩ ∧ s.calState c = 0 ∧
      s.soaOpen c = false ∧ regRow ⟨.cnv, c.val⟩ CNV.CNV_CTL = some r) ∧
    (∃ (s : State) (src : Requester) (c : Fin 4) (r : RegRow), s.serves src ⟨.cnv, c.val⟩ ∧ s.soaOpen c = true ∧
      regRow ⟨.cnv, c.val⟩ CNV.CNV_CTL = some r ∧ r.rw &&& maskAt CNV.CNV_CTL_FG_FORCE.lo 1 ≠ 0) ∧
    (∃ (s : State) (c : Fin 4) (fail : Nat) (_die : Int) (_trims : List Word), s.phase = .run ∧ s.calState c = 1 ∧
      fail % 256 = 0) ∧
    (∃ (s : State) (c : Fin 4) (fail : Nat) (_die : Int) (_trims : List Word), s.phase = .run ∧ s.calState c = 1 ∧
      fail % 256 ≠ 0) ∧
    (∃ (s : State) (c : Fin 4) (_die : Int) (_moves : List (Nat × Nat × Nat × Bool)), s.phase = .run ∧ s.bgActive c
      = true) ∧
    (∃ (s : State) (src : Requester) (c : Fin 4) (r : RegRow), s.serves src ⟨.cnv, c.val⟩ ∧ s.calState c = 0 ∧
      regRow ⟨.cnv, c.val⟩ CNV.CNV_CTL = some r) ∧
    (∃ (s : State) (c : Fin 4), s.phase = .run ∧ s.calState c = 3) ∧
    (∃ (s : State) (c : Fin 4), s.phase = .run ∧ s.calState c = 3) ∧
    (∃ (s : State) (src : Requester) (c : Fin 4) (r : RegRow) (w : Word) (l : List Word), s.serves src ⟨.cnv,
      c.val⟩ ∧ (s.cnv c).stored = w :: l ∧ regRow ⟨.cnv, c.val⟩ CNV.CNV_CTL = some r) ∧
    (∃ (s : State) (src : Requester) (c : Fin 4) (r : RegRow), s.serves src ⟨.cnv, c.val⟩ ∧ (s.cnv c).stored = [] ∧
      regRow ⟨.cnv, c.val⟩ CNV.CNV_CTL = some r) ∧
    (∃ (s : State) (src : Requester) (c : Fin 4) (r : RegRow), s.serves src ⟨.cnv, c.val⟩ ∧ s.calState c = 0 ∧
      regRow ⟨.cnv, c.val⟩ CNV.CNV_CTL = some r) ∧
    (∃ (s : State) (c : Fin 4) (enob : List Nat), s.phase = .run ∧ s.calState c = 2 ∧ s.errs = [] ∧ (enob.take
      4).all (fun e => decide (s.fg (nb c) CNV.CHECK_LIMIT_ADC_LIM ≤ e)) = true ∧ (enob.drop 4).all (fun e => decide
      (s.fg (nb c) CNV.CHECK_LIMIT_DAC_LIM ≤ e)) = true) ∧
    (∃ (s : State) (src : Requester) (c : Fin 4) (r : RegRow), s.serves src ⟨.cnv, c.val⟩ ∧ s.scopeOpen 1 = true ∧
      (s.cnv c).capBusy = false ∧ regRow ⟨.cnv, c.val⟩ CNV.CAP_CTL = some r) ∧
    (∃ (s : State) (src : Requester) (c : Fin 4) (r : RegRow), s.serves src ⟨.cnv, c.val⟩ ∧ s.scopeOpen 1 = false ∧
      (s.cnv c).capBusy = false ∧ regRow ⟨.cnv, c.val⟩ CNV.CAP_CTL = some r) ∧
    (∃ (s : State) (c : Fin 4) (_samples : List Word), s.phase = .run ∧ (s.cnv c).capBusy = true) ∧
    (∃ (s : State) (c : Fin 4), s.phase = .run ∧ s.pageOn ⟨.cnv, c.val⟩ = true ∧ (s.cnv c).clkLost = false) ∧
    (∃ (s : State) (c : Fin 4), s.phase = .run ∧ s.pageOn ⟨.cnv, c.val⟩ = true ∧ s.errs = []) :=
  ⟨⟨bench [], .host, 1, (regRow ⟨.cnv, 1⟩ CNV.CNV_CTL).get (by decide), by decide +kernel⟩,
   ⟨bench [.regs (ob 1 + OPT.TX_PWR_MON) (bitsPut 0 OPT.TX_PWR_MON_SOA_OPEN.lo 1 1)], .host, 1, (regRow ⟨.cnv, 1⟩ CNV.CNV_CTL).get (by decide), by decide +kernel⟩,
   ⟨bench [.regs (nb 1 + CNV.CNV_STAT) (bitsPut 0 CNV.CNV_STAT_CAL_STATE.lo CNV.CNV_STAT_CAL_STATE.w 1)], 1, 0, 450, [], by decide +kernel⟩,
   ⟨bench [.regs (nb 1 + CNV.CNV_STAT) (bitsPut 0 CNV.CNV_STAT_CAL_STATE.lo CNV.CNV_STAT_CAL_STATE.w 1)], 1, 4, 450, [], by decide +kernel⟩,
   ⟨bench [.regs (nb 1 + CNV.CNV_CTL) (bitsPut 0 CNV.CNV_CTL_BG_CAL_EN.lo 1 1)], 1, 450, [(0, 3, 0, true)], by decide +kernel⟩,
   ⟨bench [], .host, 1, (regRow ⟨.cnv, 1⟩ CNV.CNV_CTL).get (by decide), by decide +kernel⟩,
   ⟨bench [.regs (nb 1 + CNV.CNV_STAT) (bitsPut 0 CNV.CNV_STAT_CAL_STATE.lo CNV.CNV_STAT_CAL_STATE.w 3)], 1, by decide +kernel⟩,
   ⟨bench [.regs (nb 1 + CNV.CNV_STAT) (bitsPut 0 CNV.CNV_STAT_CAL_STATE.lo CNV.CNV_STAT_CAL_STATE.w 3)], 1, by decide +kernel⟩,
   ⟨bench [.cnvs 1 { stored := [450, 1, 2] }], .host, 1, (regRow ⟨.cnv, 1⟩ CNV.CNV_CTL).get (by decide), 450, [1, 2], by decide +kernel⟩,
   ⟨bench [], .host, 1, (regRow ⟨.cnv, 1⟩ CNV.CNV_CTL).get (by decide), by decide +kernel⟩,
   ⟨bench [], .host, 1, (regRow ⟨.cnv, 1⟩ CNV.CNV_CTL).get (by decide), by decide +kernel⟩,
   ⟨bench [.regs (nb 1 + CNV.CNV_STAT) (bitsPut 0 CNV.CNV_STAT_CAL_STATE.lo CNV.CNV_STAT_CAL_STATE.w 2)], 1, [9000, 9000, 9000, 9000, 9000, 9000, 9000, 9000], by decide +kernel⟩,
   ⟨bench [], .host, 1, (regRow ⟨.cnv, 1⟩ CNV.CAP_CTL).get (by decide), by decide +kernel⟩,
   ⟨bench [.fuses { prov := true }], .host, 1, (regRow ⟨.cnv, 1⟩ CNV.CAP_CTL).get (by decide), by decide +kernel⟩,
   ⟨bench [.cnvs 1 { capBusy := true }], 1, [7], by decide +kernel⟩,
   ⟨bench [], 1, by decide +kernel⟩,
   ⟨bench [.cnvs 1 { clkLost := true }], 1, by decide +kernel⟩⟩

/-- The premises of each clause of `Obligations.TransmitChainsAnswer` are met. -/
theorem witness_TransmitChainsAnswer :
    (∃ (s : State) (c : Fin 4) (e : Fin 16), s.phase = .run ∧ profWays (profCounts s (xb c) e) ≠ 0) ∧
    (∃ (s : State) (src : Requester) (c : Fin 4) (v : Word), s.serves src ⟨.txd, c.val⟩ ∧ s.selectOk (xb c) (wrote
      v TXD.TXD_SHAPE_PROFILE) (s.frameMode c) = true) ∧
    (∃ (s : State) (src : Requester) (c : Fin 4) (v : Word), s.serves src ⟨.txd, c.val⟩ ∧ s.selectOk (xb c) (wrote
      v TXD.TXD_SHAPE_PROFILE) (s.frameMode c) = false) ∧
    (∃ (s : State) (src : Requester) (c : Fin 4) (v : Word), s.serves src ⟨.txd, c.val⟩ ∧ s.setOk c (wrote v
      TXD.TXD_SC_SEL_SET) = true) ∧
    (∃ (s : State) (src : Requester) (c : Fin 4) (v : Word), s.serves src ⟨.fec, c.val⟩ ∧ s.selectOk (feb c) (wrote
      v FEC.FEC_SHAPE_PROFILE) (s.rxMode c) = true) ∧
    (∃ (s : State) (c : Fin 4), s.phase = .run ∧ (s.txd c).shape = 2 ∧ s.fg (xb c) TXD.TXD_STAT_SET_NOW ≠ s.fg (xb
      c) TXD.TXD_SC_SEL_SET) ∧
    (∃ (s : State) (c : Fin 4), s.phase = .run ∧ (s.fec c).shape = 2) ∧
    (∃ (s : State) (src : Requester) (c : Fin 4) (_v : Word), s.serves src ⟨.txd, c.val⟩) ∧
    (∃ (s : State) (p : SwapPage) (_stopped : Bool) (_src bank : Nat), s.fb p.b p.fading = false ∧ s.fg p.b
      p.active = bank) ∧
    (∃ (s : State) (p : SwapPage) (_src bank : Nat), s.fb p.b p.fading = false ∧ s.fg p.b p.active ≠ bank) ∧
    (∃ (s : State) (p : SwapPage) (_src bank : Nat), s.fb p.b p.fading = false ∧ s.fg p.b p.active ≠ bank ∧ s.fg
      p.b p.mode = 0) ∧
    (∃ (s : State) (p : SwapPage) (_src bank : Nat), s.fb p.b p.fading = false ∧ s.fg p.b p.active ≠ bank ∧ s.fg
      p.b p.mode ≠ 0) ∧
    (∃ (s : State) (c : Fin 4), s.phase = .run ∧ s.fb (xb c) TXD.TXD_STAT_FADING = true ∧ (s.swap (xb c)).left = 0) ∧
    (∃ (s : State) (src : Requester) (c : Fin 4) (_v : Word) (r : RegRow), s.serves src ⟨.txd, c.val⟩ ∧ regRow
      ⟨.txd, c.val⟩ TXD.TXD_CTL = some r) :=
  ⟨⟨bench [.tabs (tabKey (xb 1) 0 3 1) 1422, .tabs (tabKey (xb 1) 0 3 2) (586 + 323 * 65536), .tabs (tabKey (xb 1) 0 3 3) (99 + 16 * 65536)], 1, 3, by decide +kernel⟩,
   ⟨bench [.tabs (tabKey (xb 1) 0 3 0) 0x80000000], .host, 1, bitsPut 0 TXD.TXD_SHAPE_PROFILE.lo TXD.TXD_SHAPE_PROFILE.w 3, by decide +kernel⟩,
   ⟨bench [], .host, 1, 3, by decide +kernel⟩,
   ⟨bench [], .host, 1, 1, by decide +kernel⟩,
   ⟨bench [.tabs (tabKey (feb 1) 0 3 0) 0x80000000], .host, 1, bitsPut 0 FEC.FEC_SHAPE_PROFILE.lo FEC.FEC_SHAPE_PROFILE.w 3, by decide +kernel⟩,
   ⟨bench [.txds 1 { shape := 2 }, .regs (xb 1 + TXD.TXD_SC_SEL) 1], 1, by decide +kernel⟩,
   ⟨bench [.fecs 1 { shape := 2 }], 1, by decide +kernel⟩,
   ⟨bench [], .host, 1, 1, by decide +kernel⟩,
   ⟨bench [], txdSwap 1, true, 1, 0, by decide +kernel⟩,
   ⟨bench [], txdSwap 1, 1, 1, by decide +kernel⟩,
   ⟨bench [], txdSwap 1, 1, 1, by decide +kernel⟩,
   ⟨bench [.regs (xb 1 + TXD.TXD_CTL) 0xFFFF], txdSwap 1, 1, 1, by decide +kernel⟩,
   ⟨bench [.regs (xb 1 + TXD.TXD_STAT) (bitsPut 0 TXD.TXD_STAT_FADING.lo 1 1)], 1, by decide +kernel⟩,
   ⟨bench [], .host, 1, 1, (regRow ⟨.txd, 1⟩ TXD.TXD_CTL).get (by decide), by decide +kernel⟩⟩

/-- The premises of each clause of `Obligations.DispersionEqualisersAnswer` are met. -/
theorem witness_DispersionEqualisersAnswer :
    (∃ (s : State) (src : Requester) (c : Fin 4) (b : Fin 2) (v : Word), s.serves src ⟨.rxf, c.val⟩ ∧ s.fb (rb c)
      RXF.CD_STAT_FADING = false ∧ (s.cdActive c ≠ b.val ∨ s.rxRunning c = false) ∧ s.acqTrying c = false ∧ s.fb (rb
      c) RXF.CD_CTL_TRACK_EN = false ∧ (sx 20 (bitsGet v 0 20)).natAbs ≤ cdRange (s.rxMode c)) ∧
    (∃ (s : State) (src : Requester) (c : Fin 4) (b : Fin 2) (v : Word), s.serves src ⟨.rxf, c.val⟩ ∧ s.fb (rb c)
      RXF.CD_STAT_FADING = false ∧ (s.cdActive c ≠ b.val ∨ s.rxRunning c = false) ∧ s.acqTrying c = false ∧ s.fb (rb
      c) RXF.CD_CTL_TRACK_EN = false ∧ cdRange (s.rxMode c) < (sx 20 (bitsGet v 0 20)).natAbs) ∧
    (∃ (s : State) (c : Fin 4) (b : Fin 2), s.phase = .run ∧ (s.rxf c).busy b.val = true) ∧
    (∃ (s : State) (src : Requester) (c : Fin 4) (_v : Word), s.serves src ⟨.rxf, c.val⟩) ∧
    (∃ (s : State) (_src : Nat) (c : Fin 4) (b : Fin 2) (_hard : Bool), s.acqTrying c = false ∧ s.fb (rb c)
      RXF.CD_STAT_FADING = false ∧ s.fb (rb c) (fldRANGE b.val) = false ∧ s.fb (rb c) (fldREADY b.val) = true ∧
      s.cdActive c ≠ b.val ∧ s.rxRunning c = false) ∧
    (∃ (s : State) (_src : Nat) (c : Fin 4) (_b : Fin 2) (_hard : Bool), s.acqTrying c = false ∧ s.fb (rb c)
      RXF.CD_STAT_FADING = true) ∧
    (∃ (s : State) (c : Fin 4) (b : Nat), s.phase = .run ∧ s.rxRunning c = true ∧ (s.rxf c).boundary = .hard b) ∧
    (∃ (s : State) (c : Fin 4) (b : Nat), s.phase = .run ∧ s.rxRunning c = true ∧ (s.rxf c).boundary = .fade b) ∧
    (∃ (s : State) (c : Fin 4), s.phase = .run ∧ s.fb (rb c) RXF.CD_STAT_FADING = true ∧ s.running (tCdFade c) =
      true ∧ (s.rxf c).mode = none ∧ (s.rxf c).rewrite = none ∧ (s.rxf c).trackRetry = false) ∧
    (∃ (s : State) (src : Requester) (c : Fin 4) (_v : Word) (r : RegRow), s.serves src ⟨.rxf, c.val⟩ ∧ regRow
      ⟨.rxf, c.val⟩ RXF.CD_CTL = some r ∧ s.fb (rb c) RXF.CD_STAT_FADING = false ∧ s.scanning c = false ∧
      s.rxRunning c = true) ∧
    (∃ (s : State) (src : Requester) (c : Fin 4) (_v : Word) (r : RegRow), s.serves src ⟨.rxf, c.val⟩ ∧ regRow
      ⟨.rxf, c.val⟩ RXF.CD_CTL = some r ∧ s.fb (rb c) RXF.CD_STAT_FADING = false ∧ (s.scanning c = true ∨
      s.acqTrying c = true)) ∧
    (∃ (s : State) (c : Fin 4) (_est : Int) (_conf : Nat), s.phase = .run ∧ s.scanning c = true ∧ s.acq c ≠ qSCAN ∧
      s.fb (rb c) RXF.CD_CTL_SCAN_LOAD = false) ∧
    (∃ (s : State) (src : Requester) (c : Fin 4) (v : Word) (r : RegRow), s.serves src ⟨.rxf, c.val⟩ ∧ regRow
      ⟨.rxf, c.val⟩ RXF.RXF_CTL = some r ∧ wrote v RXF.RXF_CTL_MON_AS ≤ 9) ∧
    (∃ (s : State) (c : Fin 4), s.rxMay c = true ∧ s.acq c = qIDLE) ∧
    (∃ (s : State) (c : Fin 4), s.phase = .run ∧ s.acq c = qWAIT ∧ s.fb (ob c) OPT.RX_STAT_LOS_RAW = false) ∧
    (∃ (s : State) (c : Fin 4) (best : Int) (conf : Nat), s.phase = .run ∧ s.acq c = qTRY_ACTIVE ∧ (s.rxf
      c).acqWait = none ∧ (s.rxf c).rewrite = none ∧ s.fb (rb c) (fldREADY (s.cdActive c)) = true ∧ s.fg (rb c)
      RXF.SCAN_CFG_CONF_MIN ≤ conf ∧ (best - s.cdBank c (s.cdActive c)).natAbs < s.fg (rb c) RXF.ALT_CFG_TOL / s.fg
      (rb c) RXF.SCAN_CFG_FINE * s.fg (rb c) RXF.SCAN_CFG_FINE) ∧
    (∃ (s : State) (c : Fin 4) (_best : Int) (conf : Nat), s.phase = .run ∧ s.acq c = qTRY_ACTIVE ∧ (s.rxf
      c).acqWait = none ∧ (s.rxf c).rewrite = none ∧ conf < s.fg (rb c) RXF.SCAN_CFG_CONF_MIN) ∧
    (∃ (s : State) (c : Fin 4) (_ppm : Int), s.phase = .run ∧ s.acq c = qTIMING) ∧
    (∃ (s : State) (c : Fin 4), s.phase = .run ∧ s.acq c = qTIMING ∧ s.running (tTiming c) = true) ∧
    (∃ (s : State) (c : Fin 4), s.phase = .run ∧ s.acq c = qRUN ∧ s.fb (ob c) OPT.RX_STAT_LOS_RAW = false) ∧
    (∃ (s : State) (c : Fin 4), s.phase = .run ∧ s.rxRunning c = true) ∧
    (∃ (s : State) (c : Fin 4) (resid _ppm : Int), s.phase = .run ∧ s.acq c = qRUN ∧ resid.natAbs ≤ s.fg (rb c)
      RXF.TRACK_CFG_THR) ∧
    (∃ (s : State) (c : Fin 4), s.phase = .run ∧ s.acq c = qRUN ∧ s.running (tTrack c) = true ∧ s.fb (rb c)
      RXF.CD_CTL_TRACK_EN = false) :=
  ⟨⟨bench [.regs (feb 1 + FEC.FEC_MODE) 0], .host, 1, 0, 20000, by decide +kernel⟩,
   ⟨bench [.regs (feb 1 + FEC.FEC_MODE) 0], .host, 1, 1, 20001, by decide +kernel⟩,
   ⟨bench [.rxfs 1 { busy1 := true }], 1, 1, by decide +kernel⟩,
   ⟨bench [], .host, 1, 1, by decide +kernel⟩,
   ⟨bench [.regs (rb 1 + RXF.CD_STAT) (bitsPut 0 RXF.CD_STAT_READY1.lo 1 1)], 1, 1, 1, false, by decide +kernel⟩,
   ⟨bench [.regs (rb 1 + RXF.CD_STAT) (bitsPut 0 RXF.CD_STAT_FADING.lo 1 1)], 1, 1, 1, false, by decide +kernel⟩,
   ⟨bench [.rxfs 1 { boundary := .hard 1 }, .regs (rb 1 + RXF.ACQ_STAT) (bitsPut 0 RXF.ACQ_STAT_STATE.lo RXF.ACQ_STAT_STATE.w 6)], 1, 1, by decide +kernel⟩,
   ⟨bench [.rxfs 1 { boundary := .fade 1 }, .regs (rb 1 + RXF.ACQ_STAT) (bitsPut 0 RXF.ACQ_STAT_STATE.lo RXF.ACQ_STAT_STATE.w 6)], 1, 1, by decide +kernel⟩,
   ⟨bench [.rxfs 1 { fadeTo := 1 }, .timers (tCdFade 1) 1, .regs (rb 1 + RXF.CD_STAT) (bitsPut 0 RXF.CD_STAT_FADING.lo 1 1)], 1, by decide +kernel⟩,
   ⟨bench [.regs (rb 1 + RXF.ACQ_STAT) (bitsPut 0 RXF.ACQ_STAT_STATE.lo RXF.ACQ_STAT_STATE.w 6)], .host, 1, 0, (regRow ⟨.rxf, 1⟩ RXF.CD_CTL).get (by decide), by decide +kernel⟩,
   ⟨bench [.regs (rb 1 + RXF.ACQ_STAT) (bitsPut 0 RXF.ACQ_STAT_STATE.lo RXF.ACQ_STAT_STATE.w 4)], .host, 1, 0, (regRow ⟨.rxf, 1⟩ RXF.CD_CTL).get (by decide), by decide +kernel⟩,
   ⟨bench [.regs (rb 1 + RXF.CD_CTL) 0, .regs (rb 1 + RXF.SCAN_STAT) 1], 1, -700, 200, by decide +kernel⟩,
   ⟨bench [], .host, 1, 1, (regRow ⟨.rxf, 1⟩ RXF.RXF_CTL).get (by decide), by decide +kernel⟩,
   ⟨bench [.regs (rb 1 + RXF.RXF_CTL) (bitsPut 0 RXF.RXF_CTL_RX_RUN.lo 1 1)], 1, by decide +kernel⟩,
   ⟨bench [.regs (ob 1 + OPT.RX_STAT) 0, .regs (rb 1 + RXF.ACQ_STAT) (bitsPut 0 RXF.ACQ_STAT_STATE.lo RXF.ACQ_STAT_STATE.w 1)], 1, by decide +kernel⟩,
   ⟨bench [.regs (rb 1 + RXF.CD_STAT) (bitsPut 0 RXF.CD_STAT_READY0.lo 1 1), .regs (rb 1 + RXF.ACQ_STAT) (bitsPut 0 RXF.ACQ_STAT_STATE.lo RXF.ACQ_STAT_STATE.w 2)], 1, 5, 255, by decide +kernel⟩,
   ⟨bench [.regs (rb 1 + RXF.ACQ_STAT) (bitsPut 0 RXF.ACQ_STAT_STATE.lo RXF.ACQ_STAT_STATE.w 2)], 1, 5, 0, by decide +kernel⟩,
   ⟨bench [.regs (rb 1 + RXF.ACQ_STAT) (bitsPut 0 RXF.ACQ_STAT_STATE.lo RXF.ACQ_STAT_STATE.w 5)], 1, -1000, by decide +kernel⟩,
   ⟨bench [.timers (tTiming 1) 1, .regs (rb 1 + RXF.ACQ_STAT) (bitsPut 0 RXF.ACQ_STAT_STATE.lo RXF.ACQ_STAT_STATE.w 5)], 1, by decide +kernel⟩,
   ⟨bench [.regs (ob 1 + OPT.RX_STAT) 0, .regs (rb 1 + RXF.ACQ_STAT) (bitsPut 0 RXF.ACQ_STAT_STATE.lo RXF.ACQ_STAT_STATE.w 6)], 1, by decide +kernel⟩,
   ⟨bench [.regs (rb 1 + RXF.ACQ_STAT) (bitsPut 0 RXF.ACQ_STAT_STATE.lo RXF.ACQ_STAT_STATE.w 6)], 1, by decide +kernel⟩,
   ⟨bench [.regs (rb 1 + RXF.ACQ_STAT) (bitsPut 0 RXF.ACQ_STAT_STATE.lo RXF.ACQ_STAT_STATE.w 6)], 1, -3, 50, by decide +kernel⟩,
   ⟨bench [.regs (rb 1 + RXF.CD_CTL) 0, .timers (tTrack 1) 1, .regs (rb 1 + RXF.ACQ_STAT) (bitsPut 0 RXF.ACQ_STAT_STATE.lo RXF.ACQ_STAT_STATE.w 6)], 1, by decide +kernel⟩⟩

/-- The premises of `Obligations.AcquisitionStateChanges` are met. -/
theorem witness_AcquisitionStateChanges :
    ∃ (_s : State) (_c : Fin 4) (st : Nat), st < 7 :=
  ⟨bench [], 1, 4, by decide +kernel⟩

/-- The premises of each clause of `Obligations.ReceiversAdapt` are met. -/
theorem witness_ReceiversAdapt :
    (∃ (s : State) (src : Requester) (c : Fin 4) (_v : Word) (r : RegRow), s.serves src ⟨.rxm, c.val⟩ ∧ regRow
      ⟨.rxm, c.val⟩ RXM.RXM_CTL = some r) ∧
    (∃ (s : State) (c : Fin 4) (sc : Option (Fin 64)) (_mhz : Int), s.phase = .run ∧ s.strSt (strmOf c sc) = zSTART) ∧
    (∃ (s : State) (c : Fin 4) (sc : Option (Fin 64)), s.phase = .run ∧ s.strSt (strmOf c sc) = zBLIND ∧ s.elapsed
      (tBlind (strmOf c sc)) ≤ 200000) ∧
    (∃ (s : State) (c : Fin 4) (sc : Option (Fin 64)), s.phase = .run ∧ (s.strSt (strmOf c sc) = zBLIND ∨ s.strSt
      (strmOf c sc) = zRECOVER) ∧ s.running (tBlind (strmOf c sc)) = true) ∧
    (∃ (s : State) (c : Fin 4) (sc : Option (Fin 64)) (snr : Int), s.phase = .run ∧ s.strSt (strmOf c sc) = zTRACK
      ∧ snr < s.lostSnr (strmOf c sc)) ∧
    (∃ (s : State) (c : Fin 4) (sc : Option (Fin 64)) (snr : Int), s.phase = .run ∧ s.strSt (strmOf c sc) =
      zRECOVER ∧ s.gateSnr (strmOf c sc) ≤ snr) ∧
    (∃ (s : State) (c : Fin 4) (sc : Option (Fin 64)), s.phase = .run ∧ s.strSt (strmOf c sc) = zFREEZE ∧ s.acq c =
      qRUN) ∧
    (∃ (s : State) (c : Fin 4) (sc : Option (Fin 64)) (snr : Int) (_adapted : List Word), s.phase = .run ∧ s.strSt
      (strmOf c sc) = zTRACK ∧ s.gateSnr (strmOf c sc) ≤ snr) ∧
    (∃ (s : State) (c : Fin 4) (sc : Option (Fin 64)) (_snr : Int) (_adapted : List Word), s.phase = .run ∧ s.strSt
      (strmOf c sc) = zTRACK ∧ s.fb (strmOf c sc).b (strmOf c sc).fLeak = true ∧ s.running (tGate (strmOf c sc)) =
      true) ∧
    (∃ (s : State) (c : Fin 4) (sc : Option (Fin 64)), s.phase = .run ∧ s.running (tGate (strmOf c sc)) = true ∧
      s.fb (strmOf c sc).b (strmOf c sc).fLeak = false) ∧
    (∃ (s : State) (c : Fin 4), s.phase = .run ∧ s.strSt ⟨c, none⟩ = zTRACK) ∧
    (∃ (s : State) (src : Requester) (c : Fin 4) (_v : Word), s.serves src ⟨.rxm, c.val⟩) ∧
    (∃ (s : State) (c : Fin 4), s.phase = .run ∧ s.fb (mb c) RXM.ANCHOR_STAT_FADING = true ∧ s.running (mb c + 3) =
      true) ∧
    (∃ (s : State) (src : Requester) (c : Fin 4) (r : RegRow), s.serves src ⟨.rxm, c.val⟩ ∧ regRow ⟨.rxm, c.val⟩
      RXM.ANCHOR_CTL = some r ∧ s.strSt ⟨c, none⟩ ≠ zTRACK ∧ s.fb (mb c) RXM.ANCHOR_STAT_FADING = false) ∧
    (∃ (s : State) (src : Requester) (c : Fin 4) (r : RegRow), s.serves src ⟨.rxm, c.val⟩ ∧ regRow ⟨.rxm, c.val⟩
      RXM.ANCHOR_CTL = some r ∧ s.strSt ⟨c, none⟩ = zTRACK ∧ s.fb (mb c) RXM.ANCHOR_STAT_FADING = false) :=
  ⟨⟨bench [], .host, 1, 1, (regRow ⟨.rxm, 1⟩ RXM.RXM_CTL).get (by decide), by decide +kernel⟩,
   ⟨bench [.regs (mb 1 + RXM.RXM_STAT) (bitsPut 0 RXM.RXM_STAT_STATE.lo RXM.RXM_STAT_STATE.w 1)], 1, none, -30, by decide +kernel⟩,
   ⟨bench [.timers (mb 1 + 1) 1, .regs (mb 1 + RXM.RXM_STAT) (bitsPut 0 RXM.RXM_STAT_STATE.lo RXM.RXM_STAT_STATE.w 2)], 1, none, by decide +kernel⟩,
   ⟨bench [.timers (mb 1 + 1) 1, .regs (mb 1 + RXM.RXM_STAT) (bitsPut 0 RXM.RXM_STAT_STATE.lo RXM.RXM_STAT_STATE.w 5)], 1, none, by decide +kernel⟩,
   ⟨bench [.regs (feb 1 + FEC.FEC_MODE) 0, .regs (mb 1 + RXM.RXM_STAT) (bitsPut 0 RXM.RXM_STAT_STATE.lo RXM.RXM_STAT_STATE.w 4)], 1, none, -5000, by decide +kernel⟩,
   ⟨bench [.regs (feb 1 + FEC.FEC_MODE) 0, .regs (mb 1 + RXM.RXM_STAT) (bitsPut 0 RXM.RXM_STAT_STATE.lo RXM.RXM_STAT_STATE.w 5)], 1, none, 5000, by decide +kernel⟩,
   ⟨bench [.regs (rb 1 + RXF.ACQ_STAT) (bitsPut 0 RXF.ACQ_STAT_STATE.lo RXF.ACQ_STAT_STATE.w 6), .regs (mb 1 + RXM.RXM_STAT) (bitsPut 0 RXM.RXM_STAT_STATE.lo RXM.RXM_STAT_STATE.w 6)], 1, none, by decide +kernel⟩,
   ⟨bench [.regs (feb 1 + FEC.FEC_MODE) 0, .regs (mb 1 + RXM.RXM_STAT) (bitsPut 0 RXM.RXM_STAT_STATE.lo RXM.RXM_STAT_STATE.w 4)], 1, none, 5000, [1, 2, 3], by decide +kernel⟩,
   ⟨bench [.timers (mb 1 + 2) 1, .regs (feb 1 + FEC.FEC_MODE) 0, .regs (mb 1 + RXM.RXM_STAT) (bitsPut (bitsPut 0 RXM.RXM_STAT_LEAKING.lo 1 1) RXM.RXM_STAT_STATE.lo RXM.RXM_STAT_STATE.w 4)], 1, none, 5000, [1, 2, 3], by decide +kernel⟩,
   ⟨bench [.timers (mb 1 + 2) 1], 1, none, by decide +kernel⟩,
   ⟨bench [.regs (mb 1 + RXM.RXM_STAT) (bitsPut 0 RXM.RXM_STAT_STATE.lo RXM.RXM_STAT_STATE.w 4)], 1, by decide +kernel⟩,
   ⟨bench [], .host, 1, 1, by decide +kernel⟩,
   ⟨bench [.regs (feb 1 + FEC.FEC_MODE) 0, .timers (mb 1 + 3) 1, .regs (mb 1 + RXM.ANCHOR_STAT) (bitsPut 0 RXM.ANCHOR_STAT_FADING.lo 1 1)], 1, by decide +kernel⟩,
   ⟨bench [], .host, 1, (regRow ⟨.rxm, 1⟩ RXM.ANCHOR_CTL).get (by decide), by decide +kernel⟩,
   ⟨bench [.regs (mb 1 + RXM.RXM_STAT) (bitsPut 0 RXM.RXM_STAT_STATE.lo RXM.RXM_STAT_STATE.w 4)], .host, 1, (regRow ⟨.rxm, 1⟩ RXM.ANCHOR_CTL).get (by decide), by decide +kernel⟩⟩

/-- The premises of each clause of `Obligations.RotationAndQuality` are met. -/
theorem witness_RotationAndQuality :
    (∃ (s : State) (c : Fin 4) (rate _phase _supp : Nat) (_harm : List Word), s.phase = .run ∧ s.live ⟨.rxm, c.val⟩
      = true ∧ rate < s.fg (mb c) RXM.ROT_THR_RATE ∧ (s.rxm (mb c)).rotFrozen = false ∧ s.hp c = hOFF) ∧
    (∃ (s : State) (c : Fin 4), s.up ⟨.rxm, c.val⟩) ∧
    (∃ (s : State) (_c : Fin 4) (_q : Quality), s.phase = .run) ∧
    (∃ (s : State) (c : Fin 4) (_q : Quality), s.strSt ⟨c, none⟩ = zTRACK) ∧
    (∃ (s : State) (c : Fin 4), s.up ⟨.rxm, c.val⟩) ∧
    (∃ (s : State) (c : Fin 4), s.up ⟨.rxm, c.val⟩) ∧
    (∃ (s : State) (src : Requester) (c : Fin 4) (v : Word) (r : RegRow), s.serves src ⟨.rxm, c.val⟩ ∧ regRow
      ⟨.rxm, c.val⟩ RXM.HP_CFG = some r ∧ (rxmLims.any fun l => l.f.off == RXM.HP_CFG && l.bad v) = false) ∧
    (∃ (s : State) (c : Fin 4) (freq amp : Nat), s.phase = .run ∧ s.hp c = hSEARCH ∧ 45000 ≤ freq ∧ freq ≤ 65000 ∧
      s.fg (mb c) RXM.HP_CFG_MIN_AMP ≤ amp) ∧
    (∃ (s : State) (c : Fin 4) (_freq _amp : Nat), s.phase = .run ∧ s.hp c = hLOCKING ∧ s.elapsed (tHpLocking c) ≤
      10000000000) ∧
    (∃ (s : State) (c : Fin 4), s.phase = .run ∧ s.hp c = hLOCKING ∧ s.running (tHpLocking c) = true) ∧
    (∃ (s : State) (c : Fin 4) (amp : Nat), s.phase = .run ∧ s.hp c = hLOCKED ∧ 2 * amp < s.fg (mb c)
      RXM.HP_CFG_MIN_AMP) ∧
    (∃ (s : State) (c : Fin 4), s.phase = .run ∧ s.hp c = hHOLD ∧ s.running (tHpHold c) = true) ∧
    (∃ (s : State) (c : Fin 4), s.phase = .run ∧ s.running (tHpRate c) = true) :=
  ⟨⟨bench [], 1, 3, 0, 0, [], by decide +kernel⟩,
   ⟨bench [.regs (mb 1 + RXM.ROT_STAT) 0x026C0003], 1, by decide +kernel⟩,
   ⟨bench [], 1, { snr := 1900, evm := 0, ber := 0, gmi := 0, margin := 60, margin1 := 60, snr1 := 1900, ber1 := 0, dgd := 0, pdl := 0, fo := 0, foRate := 0 }, by decide +kernel⟩,
   ⟨bench [.regs (mb 1 + RXM.RXM_STAT) (bitsPut 0 RXM.RXM_STAT_STATE.lo RXM.RXM_STAT_STATE.w 4)], 1, { snr := 1900, evm := 0, ber := 0, gmi := 9, margin := 60, margin1 := 60, snr1 := 1900, ber1 := 0, dgd := 0, pdl := 0, fo := 0, foRate := 0 }, by decide +kernel⟩,
   ⟨bench [.regs (mb 1 + RXM.Q_SNR) 0x026C0003], 1, by decide +kernel⟩,
   ⟨bench [.regs (mb 1 + RXM.Q_BER) 0x026C0003], 1, by decide +kernel⟩,
   ⟨bench [], .host, 1, (bench []).reg (mb 1 + RXM.HP_CFG) ||| 1, (regRow ⟨.rxm, 1⟩ RXM.HP_CFG).get (by decide), by decide +kernel⟩,
   ⟨bench [.regs (mb 1 + RXM.HP_STAT) (bitsPut 0 RXM.HP_STAT_STATE.lo RXM.HP_STAT_STATE.w 1)], 1, 50000, 60000, by decide +kernel⟩,
   ⟨bench [.regs (mb 1 + RXM.HP_STAT) (bitsPut 0 RXM.HP_STAT_STATE.lo RXM.HP_STAT_STATE.w 2)], 1, 50000, 60000, by decide +kernel⟩,
   ⟨bench [.timers (tHpLocking 1) 1, .regs (mb 1 + RXM.HP_STAT) (bitsPut 0 RXM.HP_STAT_STATE.lo RXM.HP_STAT_STATE.w 2)], 1, by decide +kernel⟩,
   ⟨bench [.regs (mb 1 + RXM.HP_STAT) (bitsPut 0 RXM.HP_STAT_STATE.lo RXM.HP_STAT_STATE.w 3)], 1, 0, by decide +kernel⟩,
   ⟨bench [.timers (tHpHold 1) 1, .regs (mb 1 + RXM.HP_STAT) (bitsPut 0 RXM.HP_STAT_STATE.lo RXM.HP_STAT_STATE.w 4)], 1, by decide +kernel⟩,
   ⟨bench [.timers (tHpRate 1) 1], 1, by decide +kernel⟩⟩

/-- The premises of each clause of `Obligations.ModesAndDecoding` are met. -/
theorem witness_ModesAndDecoding :
    (∃ (s : State) (src : Requester) (c : Fin 4) (v : Word), s.serves src ⟨.fec, c.val⟩ ∧ fecModeBad s c v = false) ∧
    (∃ (s : State) (_src : Nat) (c : Fin 4) (v : Word), liveSet (wrote v FEC.FEC_MODE_MODE) = true ∧ liveSet (wrote
      v FEC.FEC_MODE_RX_MODE) = true ∧ liveSet (s.fg (feb c) FEC.FEC_MODE_MODE) = true ∧ liveSet (s.fg (feb c)
      FEC.FEC_MODE_RX_MODE) = true) ∧
    (∃ (_s : State) (_src : Nat) (_c : Fin 4) (v : Word), liveSet (wrote v FEC.FEC_MODE_MODE) = true ∧ liveSet
      (wrote v FEC.FEC_MODE_RX_MODE) = false) ∧
    (∃ (s : State) (_src : Nat) (c : Fin 4) (v : Word), liveSet (wrote v FEC.FEC_MODE_MODE) = false ∧ wrote v
      FEC.FEC_MODE_MODE ≠ s.fg (feb c) FEC.FEC_MODE_MODE ∧ s.fb (xb c) TXD.TXD_CTL_TX_RUN = true) ∧
    (∃ (s : State) (c : Fin 4), s.phase = .run ∧ s.fb (feb c) FEC.FEC_MODE_TX_PEND = true ∧ (s.noTxPeriod c = true
      ∨ (s.fec c).codePos = 0)) ∧
    (∃ (s : State) (c : Fin 4) (_lam : List Int) (m : Nat), s.phase = .run ∧ s.decMode c = some m ∧ m ≠ mZ400 ∧
      (s.fr (mb c)).plock = false) ∧
    (∃ (s : State) (c : Fin 4) (_lam : List Int) (m : Nat), s.phase = .run ∧ s.decMode c = some m ∧ s.decRun c =
      true ∧ (s.fr (mb c)).plock = true ∧ s.running (tRxInt c) = false) ∧
    (∃ (s : State) (src : Requester) (c : Fin 4) (_v : Word), s.serves src ⟨.fec, c.val⟩ ∧ s.fb (feb c)
      FEC.FEC_CTL_DEC_EN = true ∧ (s.fec c).tvBusy = false) ∧
    (∃ (s : State) (src : Requester) (c : Fin 4) (_v : Word), s.serves src ⟨.fec, c.val⟩ ∧ (s.fb (feb c)
      FEC.FEC_CTL_DEC_EN = false ∨ (s.fec c).tvBusy = true)) ∧
    (∃ (s : State) (c : Fin 4) (errs : Nat), s.phase = .run ∧ (s.fec c).tvBusy = true ∧ errs ≤ 64) ∧
    (∃ (s : State) (c : Fin 4) (a : BitVec 26), s.up ⟨.fec, c.val⟩ ∧ (a.toNat = feb c + FEC.CW_LO ∨ a.toNat = feb c
      + FEC.COR_LO ∨ a.toNat = feb c + FEC.UNC_LO ∨ a.toNat = feb c + FEC.ITMAX_LO)) :=
  ⟨⟨bench [], .host, 1, 0, by decide +kernel⟩,
   ⟨bench [.regs (feb 1 + FEC.FEC_MODE) 0], 1, 1, 0x00000012, by decide +kernel⟩,
   ⟨bench [], 1, 1, setF 0 FEC.FEC_MODE_RX_MODE 7, by decide +kernel⟩,
   ⟨bench [.regs (feb 1 + FEC.FEC_MODE) 0, .regs (xb 1 + TXD.TXD_CTL) (bitsPut 0 TXD.TXD_CTL_TX_RUN.lo 1 1)], 1, 1, 7, by decide +kernel⟩,
   ⟨bench [.regs (feb 1 + FEC.FEC_MODE) (bitsPut 0 FEC.FEC_MODE_TX_PEND.lo 1 1)], 1, by decide +kernel⟩,
   ⟨bench [.regs (feb 1 + FEC.FEC_MODE) 0], 1, [], 0, by decide +kernel⟩,
   ⟨bench [.regs (feb 1 + FEC.FEC_MODE) 0, .regs (feb 1 + FEC.FEC_CTL) (bitsPut 0 FEC.FEC_CTL_DEC_EN.lo 1 1), .frs (mb 1) { plock := true }], 1, [], 0, by decide +kernel⟩,
   ⟨bench [.regs (feb 1 + FEC.FEC_CTL) (bitsPut 0 FEC.FEC_CTL_DEC_EN.lo 1 1)], .host, 1, 0, by decide +kernel⟩,
   ⟨bench [.fecs 1 { tvBusy := true }], .host, 1, 0, by decide +kernel⟩,
   ⟨bench [.fecs 1 { tvBusy := true }], 1, 64, by decide +kernel⟩,
   ⟨bench [.cnts (feb 1 + FEC.COR_LO) 0x123456789ABC], 1, BitVec.ofNat 26 (feb 1 + FEC.COR_LO), by decide +kernel⟩⟩

/-- The premises of each clause of `Obligations.FramersFindAndHold` are met. -/
theorem witness_FramersFindAndHold :
    (∃ (s : State) (_c : Fin 4) (_f : FrameRx), s.phase = .run) ∧
    (∃ (s : State) (_c : Fin 4) (_sc : Fin 64) (_f : FrameRx), s.phase = .run) ∧
    (∃ (s : State) (x : Strm) (_f : FrameRx), s.frMay x = false ∧ s.frSt x ≠ fSEARCH ∧ (s.fr x.b).plock = false) ∧
    (∃ (s : State) (x : Strm) (f : FrameRx) (t : State), t = s.did (frCount x) ∧ s.frMay x = true ∧ s.rxMode x.c ≠
      mZ400 ∧ t.frSt x = fSEARCH ∧ x.sub ≠ none ∧ t.fawHit x false f.word = true) ∧
    (∃ (s : State) (x : Strm) (f : FrameRx) (t : State), t = s.did (frCount x) ∧ s.frMay x = true ∧ s.rxMode x.c ≠
      mZ400 ∧ t.frSt x = fPRESYNC ∧ t.fawHit x true f.word = false) ∧
    (∃ (s : State) (x : Strm) (f : FrameRx), s.fawHit x true f.word = true) ∧
    (∃ (s : State) (c : Nat) (f : FrameRx), s.fawHit ⟨c, none⟩ true f.word = false ∧ s.fawHit ⟨c, none⟩ true
      f.before = true) ∧
    (∃ (s : State) (c : Nat) (f : FrameRx), s.fawHit ⟨c, none⟩ true f.word = false ∧ s.fawHit ⟨c, none⟩ true
      f.before = false ∧ s.fawHit ⟨c, none⟩ true f.after = true) ∧
    (∃ (s : State) (x : Strm) (f : FrameRx), s.fawHit x true f.word = false ∧ s.fawHit x true f.before = false ∧
      s.fawHit x true f.after = false ∧ 4 ≤ (s.fr x.b).miss) ∧
    (∃ (s : State) (x : Strm), s.frSt x = fIF) ∧
    (∃ (s : State) (x : Strm) (v : Nat), (s.fr x.b).mfLock = true ∧ v = (s.fr x.b).num) ∧
    (∃ (s : State) (x : Strm) (v : Nat), (s.fr x.b).mfLock = true ∧ v ≠ (s.fr x.b).num ∧ 4 ≤ (s.fr x.b).dis) ∧
    (∃ (s : State) (x : Strm) (v : Nat), (s.fr x.b).mfLock = false ∧ (s.fr x.b).cand = some v) ∧
    (∃ (s : State) (c : Fin 4), s.up ⟨.lfr, c.val⟩) :=
  ⟨⟨bench [], 1, ⟨5, 1, 0, 0, 0, [], 0, false⟩, by decide +kernel⟩,
   ⟨bench [], 1, 2, ⟨5, 1, 0, 0, 0, [], 0, false⟩, by decide +kernel⟩,
   ⟨bench [.regs (lb 1 + LFR.FR_STAT) 2], ⟨1, none⟩, ⟨5, 1, 0, 0, 0, [], 0, false⟩, by decide +kernel⟩,
   ⟨bench [.regs (feb 1 + FEC.FEC_MODE) 0, .regs (lb 1 + LFR.LFR_CTL) 0xFF, .regs (sb 1 2 + SCB.STR_STAT) (bitsPut 0 SCB.STR_STAT_STATE.lo SCB.STR_STAT_STATE.w 4)], ⟨1, some 2⟩, ⟨5, 1, sfawWord, 0, 0, [], 0, false⟩, (bench [.regs (feb 1 + FEC.FEC_MODE) 0, .regs (lb 1 + LFR.LFR_CTL) 0xFF, .regs (sb 1 2 + SCB.STR_STAT) (bitsPut 0 SCB.STR_STAT_STATE.lo SCB.STR_STAT_STATE.w 4)]).did (frCount ⟨1, some 2⟩), by decide +kernel⟩,
   ⟨bench [.regs (feb 1 + FEC.FEC_MODE) 0, .regs (lb 1 + LFR.LFR_CTL) 0xFF, .regs (mb 1 + RXM.RXM_STAT) 4, .regs (lb 1 + LFR.FR_STAT) 1], ⟨1, none⟩, ⟨5, 1, 0, 0, 0, [], 0, false⟩, (bench [.regs (feb 1 + FEC.FEC_MODE) 0, .regs (lb 1 + LFR.LFR_CTL) 0xFF, .regs (mb 1 + RXM.RXM_STAT) 4, .regs (lb 1 + LFR.FR_STAT) 1]).did (frCount ⟨1, none⟩), by decide +kernel⟩,
   ⟨bench [], ⟨1, none⟩, ⟨5, 1, fawWord, 0, 0, [], 0, false⟩, by decide +kernel⟩,
   ⟨bench [], 1, ⟨5, 1, 0, fawWord, 0, [], 0, false⟩, by decide +kernel⟩,
   ⟨bench [], 1, ⟨5, 1, 0, 0, fawWord, [], 0, false⟩, by decide +kernel⟩,
   ⟨bench [.frs (mb 1) { miss := 4 }], ⟨1, none⟩, ⟨5, 1, 0, 0, 0, [], 0, false⟩, by decide +kernel⟩,
   ⟨bench [.regs (lb 1 + LFR.FR_STAT) 2], ⟨1, none⟩, by decide +kernel⟩,
   ⟨bench [.frs (mb 1) { mfLock := true, num := 300, dis := 2 }], ⟨1, none⟩, 300, by decide +kernel⟩,
   ⟨bench [.frs (mb 1) { mfLock := true, num := 300, dis := 4 }], ⟨1, none⟩, 301, by decide +kernel⟩,
   ⟨bench [.frs (mb 1) { cand := some 301 }], ⟨1, none⟩, 301, by decide +kernel⟩,
   ⟨bench [.frs (mb 1) { num := 0x12345 }], 1, by decide +kernel⟩⟩

/-- The premises of each clause of `Obligations.DefectsAndSeconds` are met. -/
theorem witness_DefectsAndSeconds :
    (∃ (s : State) (_c : Fin 4), s.phase = .run) ∧
    (∃ (s : State), s.phase = .run) ∧
    (∃ (s : State), s.phase = .run) ∧
    (∃ (s : State) (_c : Fin 4), s.phase = .run) ∧
    (∃ (s : State) (_p : Fin 4) (_clk : Bool) (_lanes : BitVec 8) (_idle : Bool), s.phase = .run) ∧
    (∃ (s : State) (_c : Fin 4) (sc : Fin 64), s.phase = .run ∧ sc.val ≠ 0) ∧
    (∃ (run n : Nat), n < 2 ^ 14 ∧ n ≤ run) ∧
    (∃ (run n k : Nat), n < 2 ^ 14 ∧ k < 2 ^ 16 ∧ n ≤ run) ∧
    (∃ (s : State) (_c : Fin 4) (_sc : Option (Fin 64)), s.phase = .run) ∧
    (∃ (_s : State) (_x : Strm) (q : PmSec), q.suspect = true ∧ q.void = false ∧ q.neU = true ∧ q.feU = false ∧
      q.feEs = true ∧ q.feSes = false) ∧
    (∃ (_s : State) (_x : Strm) (q : PmSec), q.suspect = true ∧ q.void = true) ∧
    (∃ (s : State) (c : Fin 4) (sc : Option (Fin 64)) (day : Bool), s.phase = .run ∧ s.nowNs.toNat / 1000000000 <
      (s.tab ((strmOf c sc).pmKey (if day then 1 else 0) 1)).toNat + (s.tab ((strmOf c sc).pmKey (if day then 1 else
      0) 2)).toNat * 2 ^ 32 + pmLen (if day then 1 else 0) + 10) ∧
    (∃ (s : State) (c : Fin 4) (sc : Option (Fin 64)), s.phase = .run ∧ bitOf (s.tab ((strmOf c sc).pmKey 0
      0)).toNat 31 = true ∧ (s.tab ((strmOf c sc).pmKey 0 1)).toNat + (s.tab ((strmOf c sc).pmKey 0 2)).toNat * 2 ^
      32 + pmLen 0 + 10 ≤ s.nowNs.toNat / 1000000000) ∧
    (∃ (s : State) (c : Fin 4) (sc : Option (Fin 64)), s.phase = .run ∧ bitOf (s.tab ((strmOf c sc).pmKey 1
      0)).toNat 31 = true ∧ (s.tab ((strmOf c sc).pmKey 1 1)).toNat + (s.tab ((strmOf c sc).pmKey 1 2)).toNat * 2 ^
      32 + pmLen 1 + 10 ≤ s.nowNs.toNat / 1000000000) ∧
    (∃ (s : State) (src : Requester) (c : Fin 4) (_sc : Option (Fin 64)) (_v : Word), s.serves src ⟨.lfr, c.val⟩) :=
  ⟨⟨bench [], 1, by decide +kernel⟩,
   ⟨bench [], by decide +kernel⟩,
   ⟨bench [], by decide +kernel⟩,
   ⟨bench [], 1, by decide +kernel⟩,
   ⟨bench [], 1, true, 255, false, by decide +kernel⟩,
   ⟨bench [], 1, 2, by decide +kernel⟩,
   ⟨250, 250, by decide +kernel⟩,
   ⟨1000, 1000, 250, by decide +kernel⟩,
   ⟨bench [.now (1000 * 1000000000 * 2 ^ 32)], 1, none, by decide +kernel⟩,
   ⟨bench [], ⟨1, none⟩, { sec := 7, neSes := false, neEs := true, neU := true, feSes := false, feEs := true, feU := false, suspect := true, void := false }, by decide +kernel⟩,
   ⟨bench [], ⟨1, none⟩, { sec := 7, neSes := false, neEs := false, neU := false, feSes := false, feEs := false, feU := false, suspect := true, void := true }, by decide +kernel⟩,
   ⟨bench [], 1, none, false, by decide +kernel⟩,
   ⟨bench [.now (1000 * 1000000000 * 2 ^ 32), .tabs (Strm.pmKey ⟨1, none⟩ 0 0) 0x80000000], 1, none, by decide +kernel⟩,
   ⟨bench [.now (90000 * 1000000000 * 2 ^ 32), .tabs (Strm.pmKey ⟨1, none⟩ 1 0) 0x80000000], 1, none, by decide +kernel⟩,
   ⟨bench [], .host, 1, none, 0, by decide +kernel⟩⟩

/-- The premises of each clause of `Obligations.SuitTablesAreChecked` are met. -/
theorem witness_SuitTablesAreChecked :
    (∃ (s : State) (src : Requester) (e : Fin 4096) (v : Word) (t : State), s.windowServes src ⟨.suit, 0⟩ ∧ t =
      s.select ⟨.suit, 0⟩ 1 e.val ∧ ((t.suit (e.val / 16)).on && bitOf (t.suit (e.val / 16)).active (e.val % 16)) =
      false ∧ t.tsOverlap e.val v = false ∧ t.memberBad v = false) ∧
    (∃ (s : State) (_src : Nat) (e : Nat) (_v : Word), (s.suit (e / 16)).on = true ∧ bitOf (s.suit (e / 16)).active
      (e % 16) = true) ∧
    (∃ (s : State) (_src : Nat) (e : Nat) (v : Word), (s.suit (e / 16)).on = false ∧ s.tsOverlap e v = true) ∧
    (∃ (s : State) (src : Requester) (n : Fin 256) (v : Word) (t : State), s.windowServes src ⟨.suit, 0⟩ ∧ t =
      s.select ⟨.suit, 0⟩ 0 n.val ∧ t.suitEn n.val = false ∧ suitBad (v ||| 1) = false) ∧
    (∃ (s : State) (_src n : Nat) (v : Word), s.sourceBusy n v = true) ∧
    (∃ (s : State) (_src n p : Nat) (v : Word), s.sourceBusy n v = false ∧ (List.range 4).find? (fun p => decide
      (64 < s.vlgTs p (n :: s.suitIds))) = some p) ∧
    (∃ (s : State) (_src n : Nat) (v : Word), s.sourceBusy n v = false ∧ (List.range 4).find? (fun p => decide (64
      < s.vlgTs p (n :: s.suitIds))) = none ∧ v.getLsbD 2 = false) ∧
    (∃ (s : State) (_src i : Nat) (v : Word), s.suitEn i = true ∧ v.getLsbD 0 = false) ∧
    (∃ (s : State) (_src i : Nat) (v : Word), s.suitEn i = true ∧ v.getLsbD 0 = true) ∧
    (∃ (s : State) (src : Requester) (p : Fin 128) (v : Word) (t : State), s.windowServes src ⟨.tsh, 0⟩ ∧ t =
      s.select ⟨.tsh, 0⟩ 0 p.val ∧ (t.pairW p.val 0).getLsbD 0 = false ∧ t.pairBad ((v ||| 1) &&& 0x00FFFF03) =
      false ∧ t.tshCheck (t.tsOf (bitsGet ((v ||| 1) &&& 0x00FFFF03) 8 8) (t.suit (bitsGet ((v ||| 1) &&&
      0x00FFFF03) 8 8)).active) (bitsGet (t.pairW p.val 1) 0 15) (bitsGet (t.pairW p.val 2) 16 16) = none) ∧
    (∃ (s : State) (_src p code : Nat) (v : Word), s.tshCheck (s.tsOf (bitsGet v 8 8) (s.suit (bitsGet v 8
      8)).active) (bitsGet (s.pairW p 1) 0 15) (bitsGet (s.pairW p 2) 16 16) = some code) ∧
    (∃ (s : State) (_src p : Nat) (v : Word), (s.pairW p 0).getLsbD 0 = true ∧ v.getLsbD 0 = true) :=
  ⟨⟨bench [], .host, 17, 0x01050000, (bench []).select ⟨.suit, 0⟩ 1 17, by decide +kernel⟩,
   ⟨bench [.suits 1 { on := true, active := 2 }], 1, 17, 0x01050000, by decide +kernel⟩,
   ⟨bench [.tabs (tabKey sub' 1 33 0) 0x04050001], 1, 17, 0x04050001, by decide +kernel⟩,
   ⟨bench [], .host, 3, 0x00010000, (bench []).select ⟨.suit, 0⟩ 0 3, by decide +kernel⟩,
   ⟨bench [.suits 5 { on := true }, .tabs (tabKey sub' 0 5 0) 0x00010001], 1, 3, 0x00010001, by decide +kernel⟩,
   ⟨bench [put (pageBase .vlg 0) VLG.VLG_STAT_STATE 2, .regs (pageBase .vlg 0 + VLG.PEER_VALID.off) (bitsPut (bitsPut 0 VLG.PEER_VALID.lo 1 1) VLG.PEER_POS.lo VLG.PEER_POS.w 1), .tabs (tabKey sub' 1 48 0) 0xFF000005], 1, 3, 0, 0x00010001, by decide +kernel⟩,
   ⟨bench [], 1, 3, 0x00010001, by decide +kernel⟩,
   ⟨bench [.suits 5 { on := true }, .tabs (tabKey sub' 0 5 0) 0x00010001], 1, 5, 0, by decide +kernel⟩,
   ⟨bench [.suits 5 { on := true }, .tabs (tabKey sub' 0 5 0) 0x00010001], 1, 5, 1, by decide +kernel⟩,
   ⟨bench [.tabs (tabKey meb 0 0 0) 1, .tabs (tabKey sub' 0 1 0) 8, .tabs (tabKey sub' 0 2 0) 8, .tabs (tabKey tsb 0 9 1) 4000, .tabs (tabKey tsb 0 9 2) 0x01220000], .host, 9, 0x00020101, (bench [.tabs (tabKey meb 0 0 0) 1, .tabs (tabKey sub' 0 1 0) 8, .tabs (tabKey sub' 0 2 0) 8, .tabs (tabKey tsb 0 9 1) 4000, .tabs (tabKey tsb 0 9 2) 0x01220000]).select ⟨.tsh, 0⟩ 0 9, by decide +kernel⟩,
   ⟨bench [.suits 1 { on := true, active := 1 }, .tabs (tabKey sub' 1 16 0) 0x30000001, .tabs (tabKey tsb 0 9 1) 4000], 1, 9, cNO_REGION, 0x00020101, by decide +kernel⟩,
   ⟨bench [.tabs (tabKey tsb 0 9 0) 1], 1, 9, 1, by decide +kernel⟩⟩

/-- The premises of each clause of `Obligations.SuitsResizeAndDrop` are met. -/
theorem witness_SuitsResizeAndDrop :
    (∃ (s : State) (n : Fin 256), s.phase = .run ∧ (s.suit n).on = true ∧ (s.suit n).rstate = 1 ∧ ((s.suit n).toGo
      ≤ 8 ∨ (s.suit n).reached = true)) ∧
    (∃ (s : State) (n : Fin 256), s.phase = .run ∧ (s.suit n).on = true ∧ (s.suit n).rstate = 2 ∧ (s.suit
      n).reached = true) ∧
    (∃ (s : State) (n : Fin 256), s.phase = .run ∧ (s.suit n).on = true ∧ (s.suit n).rstate = 3 ∧ (s.suit
      n).reached = true ∧ (s.suit n).ssn ≠ (s.suit n).switchAt) ∧
    (∃ (s : State) (n : Fin 256) (keep : Nat), s.phase = .run ∧ (s.suit n).on = true ∧ s.txLost n ≠ 0 ∧ (s.suit
      n).rstate = 0 ∧ keep = mapWhere (s.suit n).active (fun k => !bitOf (s.txLost n) k) ∧ keep ≠ 0 ∧ s.reqTs n ≤
      s.tsOf n keep) ∧
    (∃ (s : State) (i : Nat), (s.suit i).on = true ∧ s.txLost i ≠ 0 ∧ (s.suit i).rstate ≠ 4 ∧ (s.suit i).rstate ≠ 0) ∧
    (∃ (s : State) (i : Nat), (s.suit i).on = true ∧ s.txLost i ≠ 0 ∧ (s.suit i).rstate = 0 ∧ s.tsOf i (mapWhere
      (s.suit i).active fun k => !bitOf (s.txLost i) k) < s.reqTs i) ∧
    (∃ (s : State) (n : Fin 256), s.phase = .run ∧ (s.suit n).on = true ∧ (s.suit n).rstate = 4 ∧ (s.suit
      n).reached = true) ∧
    (∃ (s : State) (c : Fin 4) (r : SuitRecord), s.phase = .run ∧ (List.range 4).find? (fun p =>
      match s.transitFor p (slotBits r.a 55 8) (slotBits r.a 40 4) with | some e => bitsGet (s.transit p e 0) 2 2 == c.val && !(s.transit p e 0).getLsbD 1 | none => false) = none) ∧
    (∃ (s : State) (r : SuitRecord), slotBits r.a 63 1 = 1 ∧ slotBits r.a 52 3 = 2 ∧ (s.suit (slotBits r.a 55
      8)).on = true ∧ (s.suit (slotBits r.a 55 8)).rstate = 1 ∧ 8 ≤ (s.suit (slotBits r.a 55 8)).toGo ∧ (s.suit
      (slotBits r.a 55 8)).reached = false) ∧
    (∃ (s : State) (r : SuitRecord), slotBits r.a 63 1 = 1 ∧ slotBits r.a 52 3 = 3 ∧ (s.suit (slotBits r.a 55
      8)).on = true ∧ (s.suit (slotBits r.a 55 8)).rstate = 1) ∧
    (∃ (s : State) (n : Fin 256) (k : Fin 16) (ssn : Word), s.phase = .run ∧ (s.suit n).on = true ∧ mEn (s.member n
      k) = true ∧ s.rxFailed n k = false ∧ (s.suit n).rxCommit = false ∧ (s.suit n).arrivals.find? (fun a => a.ssn
      == ssn.toNat) = none) ∧
    (∃ (s : State) (n : Fin 256) (_fa _fb : FrameCopy), s.phase = .run ∧ (s.suit n).on = true ∧ s.pairIds.find?
      (fun p => s.pairA p == n.val) = none ∧ s.suitProtect n = false) :=
  ⟨⟨bench [.suits 5 { on := true, rstate := 1, switchAt := 8 }], 5, by decide +kernel⟩,
   ⟨bench [.suits 5 { on := true, rstate := 2, switchAt := 8, ssn := 8 }], 5, by decide +kernel⟩,
   ⟨bench [.suits 5 { on := true, rstate := 3, switchAt := 8, ssn := 9 }], 5, by decide +kernel⟩,
   ⟨bench [put (ob 0) OPT.LASER_STAT_STATE 4, .suits 5 { on := true, active := 3, farFail := 1 }, .tabs (tabKey sub' 1 80 0) 0x01000001, .tabs (tabKey sub' 1 81 0) 0x01010001], 5, 2, by decide +kernel⟩,
   ⟨bench [.suits 5 { on := true, active := 3, farFail := 1, rstate := 2 }], 5, by decide +kernel⟩,
   ⟨bench [.suits 5 { on := true, active := 1, farFail := 1 }, .tabs (tabKey sub' 0 5 0) 0x00010001], 5, by decide +kernel⟩,
   ⟨bench [.suits 5 { on := true, rstate := 4, switchAt := 8, ssn := 8 }], 5, by decide +kernel⟩,
   ⟨bench [], 1, ⟨0, 0, 0⟩, by decide +kernel⟩,
   ⟨bench [.suits 5 { on := true, rstate := 1, switchAt := 20 }], ⟨0x82A0000000000000, 0, 0⟩, by decide +kernel⟩,
   ⟨bench [.suits 5 { on := true, rstate := 1, switchAt := 20 }], ⟨0x82B0000000000000, 0, 0⟩, by decide +kernel⟩,
   ⟨bench [.suits 5 { on := true, active := 3 }, .tabs (tabKey sub' 1 80 0) 0x01000001, .regs (lb 0 + LFR.FR_STAT) 0xFFFF], 5, 0, 77, by decide +kernel⟩,
   ⟨bench [.suits 5 { on := true, active := 3 }], 5, ⟨true, 0, 0, 0, true⟩, ⟨true, 0, 0, 0, true⟩, by decide +kernel⟩⟩

/-- The premises of each clause of `Obligations.HubRunsItsRounds` are met. -/
theorem witness_HubRunsItsRounds :
    (∃ (s : State) (src : Requester) (_v : Word), s.serves src ⟨.hub, 0⟩) ∧
    (∃ (s : State) (c : Fin 4) (_ps : List RoundGrant) (_fs : List RoundFrames) (rnd : Nat), s.phase = .run ∧
      (s.hub c).on = true ∧ s.isHub c = true ∧ (s.tl c).run = true ∧ s.roundPos c = 0 ∧ (s.hub c).rnd = some rnd ∧
      (s.hub c).roundMf ≠ (s.tl c).mf) ∧
    (∃ (s : State) (_c : Fin 4) (_gain : Nat), s.phase = .run) ∧
    (∃ (s : State) (src : Requester) (_v : Word) (t : State), s.windowServes src ⟨.hub, 0⟩ ∧ t = s.select ⟨.hub, 0⟩
      2 0) ∧
    (∃ (s : State) (c : Nat) (g : Grant), s.grantBad c { g with rnd := (s.hub c).nextRnd } = none ∧ s.grantUsed <
      8191) ∧
    (∃ (s : State) (c r : Nat) (g : Grant), s.grantBad c { g with rnd := (s.hub c).nextRnd } = some r) ∧
    (∃ (s : State) (src : Requester) (_v : Word) (t : State), s.windowServes src ⟨.hub, 0⟩ ∧ t = s.select ⟨.hub, 0⟩
      3 0) ∧
    (∃ (s : State) (_src c _leaf group first count : Nat), ((s.hub c).dmaps.any fun e => e.rnd == (s.hub c).nextRnd
      && e.group == group && meets e.first e.count first count) = false) ∧
    (∃ (s : State) (_src c _leaf group first count : Nat), ((s.hub c).dmaps.any fun e => e.rnd == (s.hub c).nextRnd
      && e.group == group && meets e.first e.count first count) = true) ∧
    (∃ (s : State) (c : Fin 4) (sc : Fin 64) (start t : Nat) (o : Stored), s.phase = .run ∧ (s.timed c).find? (fun
      q => q.1.g.sc == sc.val && q.1.g.start == start) = some (o, t) ∧ o.hit = true ∧ o.figs = none) ∧
    (∃ (s : State) (_c : Fin 4), s.phase = .run) ∧
    (∃ (s : State) (c : Fin 4) (w : DiscWin) (u : Nat), s.phase = .run ∧ (s.hub c).disc = some w ∧ s.upAt c w.last
      = some u) ∧
    (∃ (s : State) (src : Requester) (n : Fin 4096) (_v : Word) (t : State), s.windowServes src ⟨.hub, 0⟩ ∧ t =
      s.select ⟨.hub, 0⟩ 0 n.val ∧ t.leafSt n = nFREE) ∧
    (∃ (s : State) (_src i _w : Nat) (_v : Word), s.leafSt i ≠ nFREE) ∧
    (∃ (s : State) (src : Requester) (v : Word), s.serves src ⟨.hub, 0⟩ ∧ s.leafSt (wrote v HUB.LEAF_CMD_LEAF) ≠
      nFREE) ∧
    (∃ (s : State) (_src : Nat) (v : Word), s.leafSt (wrote v HUB.LEAF_CMD_LEAF) = nFREE) ∧
    (∃ (s : State) (n : Fin 4096), s.phase = .run ∧ s.leafSt n = nACTIVE ∧ s.burstLoss n = true ∧ s.running
      (tLeafLoss n) = true) ∧
    (∃ (s : State) (n : Fin 4096), s.phase = .run ∧ s.leafSt n = nLOST ∧ s.running (tLeafDrop n) = true) ∧
    (∃ (s : State) (c : Fin 4) (sc : Fin 64) (d : ScGroup × Nat) (q : Nat × Nat), s.phase = .run ∧ (s.hub
      c).drains.find? (fun d => d.1.low == sc.val) = some d ∧ (s.hub c).starts.find? (fun q => q.1 == d.2) = some q) ∧
    (∃ (s : State) (c : Fin 4) (m : BitVec 115), s.phase = .run ∧ at115 m 0 4 = 10 ∧ s.isHub c = true ∧ (s.hub
      c).on = true ∧ at115 m 4 11 < 1024 ∧ s.leafSt (c * 1024 + at115 m 4 11) ≠ nFREE) ∧
    (∃ (s : State) (c : Fin 4) (_start : Nat) (m : BitVec 115) (w : DiscWin) (u : Nat), s.phase = .run ∧ at115 m 0
      4 = 11 ∧ (s.hub c).disc = some w ∧ s.upAt c w.first = some u ∧ ((List.range 1024).map fun k => c.val * 1024 +
      k).filter (fun i => s.leafSt i != nFREE && s.leafSerial i == at115 m 4 48) = []) :=
  ⟨⟨bench [], .host, 2, by decide +kernel⟩,
   ⟨bench [inMode 1 mH64, .hubs 1 { on := true, starts := [(7, 0)] }, .tls 1 { run := true, mf := 8 }], 1, [], [], 7, by decide +kernel⟩,
   ⟨bench [inMode 1 mH64, .hubs 1 { on := true, starts := [(7, 0)] }, .tls 1 { run := true, mf := 8 }], 1, 10, by decide +kernel⟩,
   ⟨bench [], .host, 5, (bench []).select ⟨.hub, 0⟩ 2 0, by decide +kernel⟩,
   ⟨bench [inMode 1 mH64, .hubs 1 { on := true, starts := [(7, 0)], groups := [⟨0, 1, 2⟩], chans := [{ low := 0, width := 1 }] }, .tls 1 { run := true, mf := 8 }, .tabs (leafKey 1029 0) 3, .tabs (tabKey hb 1 1029 0) 1], 1, ⟨0, 5, 0, 0, 0, 200, 200, false, false⟩, by decide +kernel⟩,
   ⟨bench [], 1, (((bench []).grantBad 1 ⟨0, 5, 0, 0, 0, 200, 200, false, false⟩).getD 0), ⟨0, 5, 0, 0, 0, 200, 200, false, false⟩, by decide +kernel⟩,
   ⟨bench [], .host, 5, (bench []).select ⟨.hub, 0⟩ 3 0, by decide +kernel⟩,
   ⟨bench [], 1, 1, 5, 0, 0, 8, by decide +kernel⟩,
   ⟨bench [.hubs 1 { starts := [(7, 0)], dmaps := [⟨8, 4, 0, 7, 1⟩] }], 1, 1, 5, 0, 0, 8, by decide +kernel⟩,
   ⟨bench [inMode 1 mH64, .hubs 1 { on := true, starts := [(7, 0)], store := [{ g := ⟨7, 5, 2, 0, 0, 200, 200, false, false⟩, home := 0, hit := true }] }], 1, 2, 200, 8451200, { g := ⟨7, 5, 2, 0, 0, 200, 200, false, false⟩, home := 0, hit := true }, by decide +kernel⟩,
   ⟨bench [], 1, by decide +kernel⟩,
   ⟨bench [inMode 1 mH64, .hubs 1 { on := true, starts := [(7, 0)], disc := some ⟨7, 7, 2, 0⟩ }], 1, ⟨7, 7, 2, 0⟩, 8400000, by decide +kernel⟩,
   ⟨bench [], .host, 1029, 0, (bench []).select ⟨.hub, 0⟩ 0 1029, by decide +kernel⟩,
   ⟨bench [.tabs (leafKey 1029 0) 3], 1, 1029, 0, 8, by decide +kernel⟩,
   ⟨bench [.tabs (leafKey 5 0) 3], .host, bitsPut 0 HUB.LEAF_CMD_LEAF.lo HUB.LEAF_CMD_LEAF.w 5, by decide +kernel⟩,
   ⟨bench [], 1, 0, by decide +kernel⟩,
   ⟨bench [.tabs (leafKey 1029 0) (BitVec.ofNat 32 nACTIVE), .tabs (leafqKey 1029 0) 1, .timers (tLeafLoss 1029) 5], 1029, by decide +kernel⟩,
   ⟨bench [.tabs (leafKey 1029 0) (BitVec.ofNat 32 nLOST), .timers (tLeafDrop 1029) 5], 1029, by decide +kernel⟩,
   ⟨bench [inMode 1 mH64, .hubs 1 { on := true, starts := [(7, 0)], drains := [(⟨2, 1, 2⟩, 7)] }], 1, 2, (⟨2, 1, 2⟩, 7), (7, 0), by decide +kernel⟩,
   ⟨bench [inMode 1 mH64, .hubs 1 { on := true }, .tabs (leafKey 1029 0) 3], 1, (HubMsg.report 5 99).word, by decide +kernel⟩,
   ⟨bench [inMode 1 mH64, .hubs 1 { on := true, starts := [(7, 0)], disc := some ⟨7, 7, 2, 0⟩ }], 1, 100, (HubMsg.hello 0x123456789ABC 3 1 1).word, ⟨7, 7, 2, 0⟩, 8400000, by decide +kernel⟩⟩

/-- The premises of each clause of `Obligations.LeavesFollowTheHub` are met. -/
theorem witness_LeavesFollowTheHub :
    (∃ (s : State) (_c : Fin 4) (_sc : Fin 64) (m : BitVec 115), s.phase = .run ∧ at115 m 0 4 = 1) ∧
    (∃ (s : State) (_c : Fin 4) (_sc : Fin 64) (m : BitVec 115), s.phase = .run ∧ at115 m 0 4 ≠ 1) ∧
    (∃ (s : State) (c : Fin 4) (_sc : Fin 64) (m : BitVec 115) (g : Grant), s.phase = .run ∧ at115 m 0 4 = 2 ∧
      grantAt m 12 = some g ∧ grantAt m 63 = none ∧ s.isLeaf c = true ∧ s.ownLeaf c = some g.leaf ∧ (s.hub
      c).lfNext.any (fun k => k % 256 = at115 m 4 8) = true) ∧
    (∃ (s : State) (c rnd8 : Nat) (g : Grant), s.isLeaf c = true ∧ s.ownLeaf c = some g.leaf ∧ (s.hub c).lfNext.any
      (fun k => k % 256 = rnd8) = false) ∧
    (∃ (s : State) (c : Fin 4) (_sc : Fin 64) (m : BitVec 115) (k : Nat), s.phase = .run ∧ at115 m 0 4 = 3 ∧ at115
      m 12 11 ≠ 0x7FF ∧ at115 m 56 11 = 0x7FF ∧ s.isLeaf c = true ∧ s.ownLeaf c = some (at115 m 12 11) ∧ (s.hub
      c).lfNext = some k ∧ k % 256 = at115 m 4 8) ∧
    (∃ (s : State) (c : Fin 4) (_sc : Fin 64) (m : BitVec 115) (k : Nat), s.phase = .run ∧ at115 m 0 4 = 4 ∧
      s.isLeaf c = true ∧ s.leafFn c = kDISCOVER ∧ (s.hub c).lfNext = some k ∧ k % 256 = at115 m 4 8 ∧ (s.hub
      c).lfBackoff ≠ 0) ∧
    (∃ (s : State) (c : Fin 4) (_sc : Fin 64) (m : BitVec 115), s.phase = .run ∧ at115 m 0 4 = 5 ∧ s.isLeaf c =
      true ∧ s.leafFn c = kDISCOVER ∧ at115 m 4 48 = Config.serial.toNat) ∧
    (∃ (s : State) (c : Fin 4) (_sc : Fin 64) (m : BitVec 115), s.phase = .run ∧ at115 m 0 4 = 6 ∧ s.isLeaf c =
      true ∧ s.leafFn c = kRANGING ∧ s.ownLeaf c = some (at115 m 4 11) ∧ (s.hub c).lfNew = none ∧ at115 m 39 1 = 1) ∧
    (∃ (s : State) (c : Fin 4) (_sc : Fin 64) (m : BitVec 115), s.phase = .run ∧ at115 m 0 4 = 7 ∧ at115 m 15 4 = 2
      ∧ s.isLeaf c = true ∧ (s.leafFn c = kRANGING ∨ s.leafFn c = kACTIVE ∨ s.leafFn c = kHOLD) ∧ s.ownLeaf c = some
      (at115 m 4 11)) ∧
    (∃ (s : State) (c : Fin 4) (_sc : Fin 64) (m : BitVec 115), s.phase = .run ∧ at115 m 0 4 = 7 ∧ at115 m 15 4 = 1
      ∧ s.isLeaf c = true ∧ (s.leafFn c = kDISCOVER ∨ s.leafFn c = kRANGING ∨ s.leafFn c = kACTIVE ∨ s.leafFn c =
      kHOLD) ∧ s.ownLeaf c = some (at115 m 4 11)) ∧
    (∃ (s : State) (_c : Fin 4) (_sc : Fin 64) (m : BitVec 115), s.phase = .run ∧ at115 m 0 4 = 8) ∧
    (∃ (s : State) (_c : Fin 4) (_sc : Fin 64) (m : BitVec 115), s.phase = .run ∧ at115 m 0 4 = 9) ∧
    (∃ (s : State) (c : Fin 4), s.phase = .run ∧ s.isLeaf c = true ∧ s.leafFn c = kLISTEN ∧ (s.hub
      c).lfRound.isSome = true ∧ s.fb (ob c) OPT.LASER_STAT_FOLLOW_OK = true ∧ ((s.hub c).groups.any fun g => g.role
      == 2 && s.frSt ⟨c, some g.low⟩ == fIF && (s.fr (sb c g.low)).mfLock) = true) ∧
    (∃ (s : State) (_c : Fin 4), s.phase = .run) ∧
    (∃ (s : State) (c : Fin 4), s.phase = .run ∧ s.isLeaf c = true ∧ (s.leafFn c = kRANGING ∨ s.leafFn c = kACTIVE)
      ∧ s.leafCause c = true) ∧
    (∃ (s : State) (c : Fin 4), s.phase = .run ∧ s.isLeaf c = true ∧ s.leafFn c = kHOLD ∧ s.running (tLeafHold c) =
      true) ∧
    (∃ (s : State) (c : Fin 4) (_backlog : Nat) (b : LeafBurst) (a : Nat), s.phase = .run ∧ s.isLeaf c = true ∧
      s.leafFn c = kACTIVE ∧ firstBurst (fun b => b.at') ((s.hub c).lfBursts.filter fun b => !b.sent) = some (b, a)
      ∧ b.hello = none ∧ b.g.rng = false) ∧
    (∃ (s : State) (c : Fin 4) (b : LeafBurst) (a : Nat), s.phase = .run ∧ firstBurst (fun b => b.at'.map fun a =>
      a + b.g.len * 256) ((s.hub c).lfBursts.filter fun b => b.sent) = some (b, a) ∧ (((s.hub c).lfBursts.filter fun
      q => q != b).any (·.sent)) = false) :=
  ⟨⟨bench [inMode 1 mLEAF, .hubs 1 { on := true }], 1, 2, (HubMsg.round 7 3 4000).word, by decide +kernel⟩,
   ⟨bench [inMode 1 mLEAF, .hubs 1 { on := true }], 1, 2, (HubMsg.report 7 3).word, by decide +kernel⟩,
   ⟨bench [inMode 1 mLEAF, .hubs 1 { on := true, lfHas := true, lfRound := some (6, 0) }, put hb (HUB.LEAF_STAT_LEAF 1) 5], 1, 2, (HubMsg.grant 7 [⟨7, 5, 2, 0, 0, 200, 100, false, false⟩]).word, ⟨0, 5, 2, 0, 0, 200, 100, false, false⟩, by decide +kernel⟩,
   ⟨bench [inMode 1 mLEAF, .hubs 1 { on := true, lfHas := true, lfRound := some (6, 0) }, put hb (HUB.LEAF_STAT_LEAF 1) 5], 1, 9, ⟨0, 5, 2, 0, 0, 200, 100, false, false⟩, by decide +kernel⟩,
   ⟨bench [inMode 1 mLEAF, .hubs 1 { on := true, lfHas := true, lfRound := some (6, 0) }, put hb (HUB.LEAF_STAT_LEAF 1) 5], 1, 2, (HubMsg.dmap 7 [⟨7, 5, 0, 16, 8⟩]).word, 7, by decide +kernel⟩,
   ⟨bench [inMode 1 mLEAF, .hubs 1 { on := true, lfRound := some (6, 0), lfBackoff := 2 }, put hb (HUB.LEAF_STAT_STATE 1) kDISCOVER], 1, 2, (HubMsg.discover 7 1 0 100 2).word, 7, by decide +kernel⟩,
   ⟨bench [inMode 1 mLEAF, .hubs 1 { on := true }, put hb (HUB.LEAF_STAT_STATE 1) kDISCOVER], 1, 2, assignTo Config.serial, by decide +kernel, assignTo_type _, by decide +kernel, by decide +kernel, assignTo_serial _⟩,
   ⟨bench [inMode 1 mLEAF, .hubs 1 { on := true, lfHas := true, lfRound := some (6, 0) }, .regs (hb + HUB.LEAF_STAT 1) (bitsPut (bitsPut 0 (HUB.LEAF_STAT_LEAF 1).lo 11 5) (HUB.LEAF_STAT_STATE 1).lo 3 kRANGING)], 1, 2, (HubMsg.range 5 4000 true).word, by decide +kernel⟩,
   ⟨bench [inMode 1 mLEAF, .hubs 1 { on := true, lfHas := true, lfRound := some (6, 0) }, .regs (hb + HUB.LEAF_STAT 1) (bitsPut (bitsPut 0 (HUB.LEAF_STAT_LEAF 1).lo 11 5) (HUB.LEAF_STAT_STATE 1).lo 3 kRANGING)], 1, 2, (HubMsg.dereg 5 2).word, by decide +kernel⟩,
   ⟨bench [inMode 1 mLEAF, .hubs 1 { on := true, lfHas := true, lfRound := some (6, 0) }, .regs (hb + HUB.LEAF_STAT 1) (bitsPut (bitsPut 0 (HUB.LEAF_STAT_LEAF 1).lo 11 5) (HUB.LEAF_STAT_STATE 1).lo 3 kHOLD)], 1, 2, (HubMsg.dereg 5 1).word, by decide +kernel⟩,
   ⟨bench [inMode 1 mH64], 1, 2, 8#115 <<< 111, by decide +kernel⟩,
   ⟨bench [inMode 1 mH64, .hubs 1 { suitA := [(2, 0, 0, 0)] }], 1, 2, 9#115 <<< 111, by decide +kernel⟩,
   ⟨bench [inMode 1 mLEAF, .hubs 1 { on := true, lfRound := some (6, 0), groups := [⟨2, 1, 2⟩] }, put hb (HUB.LEAF_STAT_STATE 1) kLISTEN, put (ob 1) OPT.LASER_STAT_FOLLOW_OK 1, put (sb 1 2) SCB.STR_STAT_FR_STATE 2, .frs (sb 1 2) { mfLock := true }], 1, by decide +kernel⟩,
   ⟨bench [inMode 1 mLEAF, .hubs 1 { on := true, lfRound := some (16, 0), lfWin := some 7 }, put hb (HUB.LEAF_STAT_STATE 1) kDISCOVER], 1, by decide +kernel⟩,
   ⟨bench [inMode 1 mLEAF, .hubs 1 { on := true }, put hb (HUB.LEAF_STAT_STATE 1) kACTIVE], 1, by decide +kernel⟩,
   ⟨bench [inMode 1 mLEAF, .hubs 1 { on := true }, .timers (tLeafHold 1) 5, put hb (HUB.LEAF_STAT_STATE 1) kHOLD], 1, by decide +kernel⟩,
   ⟨bench [inMode 1 mLEAF, .hubs 1 { on := true, lfBursts := [{ g := ⟨7, 5, 2, 0, 0, 200, 100, false, false⟩, at' := some 400 }] }, put hb (HUB.LEAF_STAT_STATE 1) kACTIVE], 1, 9, { g := ⟨7, 5, 2, 0, 0, 200, 100, false, false⟩, at' := some 400 }, 400, by decide +kernel⟩,
   ⟨bench [inMode 1 mLEAF, .hubs 1 { on := true, lfBursts := [{ g := ⟨7, 5, 2, 0, 0, 200, 100, false, false⟩, at' := some 400, sent := true }] }], 1, { g := ⟨7, 5, 2, 0, 0, 200, 100, false, false⟩, at' := some 400, sent := true }, 26000, by decide +kernel⟩⟩

/-- The premises of each clause of `Obligations.BurstReceiversTrainAndReport` are met. -/
theorem witness_BurstReceiversTrainAndReport :
    (∃ (s : State) (c : Fin 4) (sc : Fin 64) (bond _ago _gain : Nat) (_corr : Int) (g : ScGroup), s.phase = .run ∧
      (s.hub c).burstGroup sc = some g ∧ bond < 3 ∧ sc.val % 2 ^ bond = 0 ∧ sc.val + 2 ^ bond ≤ g.low + g.size ∧
      s.brxOn c sc = true ∧ (s.receptions c).filter (fun h => meets h (s.bwidth c h) sc (2 ^ bond)) = []) ∧
    (∃ (s : State) (c : Fin 4) (sc : Fin 64) (_snr : Nat) (_fit : List Word), s.phase = .run ∧ s.bst c sc = bTRAIN) ∧
    (∃ (s : State) (c : Fin 4) (sc : Fin 64) (errs ago : Nat), s.phase = .run ∧ s.bst c sc = bSYNC ∧ errs ≤ s.fg
      (s.brxPage c sc) SCB.BRX_CFG_SYNC_TOL ∧ s.positional c sc (s.fg (sb c sc) SCB.BRX_STAT_WIDTH) (4 * s.ticks -
      ago) = none) ∧
    (∃ (s : State) (c : Fin 4) (sc : Fin 64) (errs _ago : Nat), s.phase = .run ∧ s.fg (s.brxPage c sc)
      SCB.BRX_CFG_SYNC_TOL < errs) ∧
    (∃ (s : State) (c : Fin 4) (sc : Fin 64), s.phase = .run ∧ (s.bst c sc = bTRAIN ∨ s.bst c sc = bSYNC) ∧ 128 *
      s.rateW c (s.fg (sb c sc) SCB.BRX_STAT_WIDTH) + 320 ≤ s.rateW c (s.fg (sb c sc) SCB.BRX_STAT_WIDTH) * (4 *
      s.ticks - (s.brx (sb c sc)).start) ∧ s.ticks < (s.brx (sb c sc)).falseTick + 1000000000) ∧
    (∃ (s : State) (c : Fin 4) (sc : Fin 64) (coded : List Bool) (q : Stored × Nat), s.phase = .run ∧ s.bst c sc =
      bRECEIVE ∧ (s.brx (sb c sc)).assoc = none ∧ scField coded = none ∧ s.inWindow c sc (s.fg (sb c sc)
      SCB.BRX_STAT_WIDTH) (s.brx (sb c sc)).start = false ∧ s.positional c sc (s.fg (sb c sc) SCB.BRX_STAT_WIDTH)
      (s.brx (sb c sc)).start = some q) ∧
    (∃ (s : State) (c : Fin 4) (sc : Fin 64) (coded : List Bool), s.phase = .run ∧ s.bst c sc = bRECEIVE ∧ (s.brx
      (sb c sc)).assoc = none ∧ scField coded = none ∧ s.inWindow c sc (s.fg (sb c sc) SCB.BRX_STAT_WIDTH) (s.brx
      (sb c sc)).start = false ∧ s.positional c sc (s.fg (sb c sc) SCB.BRX_STAT_WIDTH) (s.brx (sb c sc)).start =
      none) ∧
    (∃ (s : State) (c : Fin 4) (sc : Fin 64) (errs : Nat) (_final : List Word) (_f : BurstFigures) (g : Grant),
      s.phase = .run ∧ s.bst c sc = bRECEIVE ∧ (s.brx (sb c sc)).assoc = some g ∧ ((s.hub c).store.any fun o => o.g
      == g) = true ∧ errs ≤ s.fg (s.brxPage c sc) SCB.BRX_CFG_SYNC_TOL) ∧
    (∃ (s : State) (src : Requester) (c : Fin 4) (sc : Fin 64) (_v : Word), s.serves src ⟨.scb, c.val * 64 +
      sc.val⟩) ∧
    (∃ (s : State) (src : Requester) (c : Fin 4) (sc : Fin 64) (v : Word), s.serves src ⟨.scb, c.val * 64 + sc.val⟩
      ∧ s.fb (sb c sc) SCB.STR_ANCHOR_STAT_FADING = true ∧ wroteB v SCB.STR_ANCHOR_CTL_SWAP_GO = false) ∧
    (∃ (s : State) (src : Requester) (c : Fin 4) (sc : Fin 64) (v : Word), s.serves src ⟨.scb, c.val * 64 + sc.val⟩
      ∧ s.fb (sb c sc) SCB.STR_ANCHOR_STAT_FADING = true ∧ wroteB v SCB.STR_ANCHOR_CTL_SAVE = false) :=
  ⟨⟨bench [inMode 1 mH64, .regs (sb 1 4 + SCB.BRX_CFG) 0xFFFFFFFF, .hubs 1 { on := true, groups := [⟨4, 4, 2⟩] }], 1, 4, 1, 8, 20, 150, ⟨4, 4, 2⟩, by decide +kernel⟩,
   ⟨bench [put (sb 1 4) SCB.BRX_STAT_BSTATE bTRAIN], 1, 4, 200, [1, 2], by decide +kernel⟩,
   ⟨bench [put (sb 1 4) SCB.BRX_STAT_BSTATE bSYNC], 1, 4, 0, 8, by decide +kernel⟩,
   ⟨bench [put (sb 1 4) SCB.BRX_STAT_BSTATE bSYNC], 1, 4, 50, 8, by decide +kernel⟩,
   ⟨bench [inMode 1 mH64, .ticks 100000, put (sb 1 4) SCB.BRX_STAT_BSTATE bTRAIN], 1, 4, by decide +kernel⟩,
   ⟨bench [inMode 1 mH64, put (sb 1 4) SCB.BRX_STAT_BSTATE bRECEIVE, .brxs (sb 1 4) { start := 8451200 }, .hubs 1 { on := true, starts := [(7, 0)], store := [{ g := ⟨7, 5, 4, 0, 0, 200, 200, false, false⟩, home := 0 }] }], 1, 4, [], ({ g := ⟨7, 5, 4, 0, 0, 200, 200, false, false⟩, home := 0 }, 8451200), by decide +kernel⟩,
   ⟨bench [inMode 1 mH64, put (sb 1 4) SCB.BRX_STAT_BSTATE bRECEIVE], 1, 4, [], by decide +kernel⟩,
   ⟨bench [inMode 1 mH64, put (sb 1 4) SCB.BRX_STAT_BSTATE bRECEIVE, .brxs (sb 1 4) { assoc := some ⟨7, 5, 4, 0, 0, 200, 200, false, false⟩ }, .hubs 1 { on := true, store := [{ g := ⟨7, 5, 4, 0, 0, 200, 200, false, false⟩, home := 0 }] }], 1, 4, 0, [], ⟨1, 2, 3, 4, 5, 6, 7, 8⟩, ⟨7, 5, 4, 0, 0, 200, 200, false, false⟩, by decide +kernel⟩,
   ⟨bench [.tabs (priorKey 1 4 3) 77], .host, 1, 4, 0, by decide +kernel⟩,
   ⟨bench [put (sb 1 4) SCB.STR_ANCHOR_STAT_FADING 1], .host, 1, 4, 0, by decide +kernel⟩,
   ⟨bench [put (sb 1 4) SCB.STR_ANCHOR_STAT_FADING 1], .host, 1, 4, 0, by decide +kernel⟩⟩

/-- The premises of each clause of `Obligations.KeysAreLoadedByTheirOwner` are met. -/
theorem witness_KeysAreLoadedByTheirOwner :
    (∃ (s : State) (src : Requester) (c : Fin 4) (v : Word), s.serves src ⟨.cip, c.val⟩ ∧ s.fg (cb c)
      CIP.CIP_LOCK_ID = 0 ∧ wrote v CIP.CIP_LOCK_ID = src.id ∧ (src.id = 1 ∨ src.id = 3 ∨ src.id = 4 ∨ src.id =
      0x17)) ∧
    (∃ (s : State) (src c : Nat) (v : Word), s.fg (cb c) CIP.CIP_LOCK_ID = src ∧ src ≠ 0 ∧ wrote v CIP.CIP_LOCK_ID
      = 0) ∧
    (∃ (s : State) (src c : Nat) (_v : Word), s.fg (cb c) CIP.CIP_LOCK_ID ≠ 0 ∧ s.fg (cb c) CIP.CIP_LOCK_ID ≠ src) ∧
    (∃ (s : State) (src : Requester) (c : Fin 4) (_v : Word), s.serves src ⟨.cip, c.val⟩ ∧ s.keyHolder c src.id =
      true ∧ (s.cip c).words.length < 8) ∧
    (∃ (s : State) (src c : Nat) (_v : Word), s.keyHolder c src = true ∧ 8 ≤ (s.cip c).words.length) ∧
    (∃ (s : State) (src c : Nat) (_v : Word), s.keyHolder c src = false) ∧
    (∃ (s : State) (src : Requester) (c : Fin 4) (_v : Word), s.serves src ⟨.cip, c.val⟩ ∧ s.keyHolder c src.id =
      true) ∧
    (∃ (s : State) (src : Requester) (c : Fin 4) (v : Word), s.serves src ⟨.cip, c.val⟩ ∧ s.keyHolder c src.id =
      true ∧ (s.slotSt c (wrote v CIP.KEY_COMMIT_SLOT) = tFREE ∨ s.slotSt c (wrote v CIP.KEY_COMMIT_SLOT) = tLOADED)
      ∧ 8 ≤ (s.cip c).words.length) ∧
    (∃ (s : State) (src c : Nat) (v : Word), s.keyHolder c src = true ∧ (s.slotSt c (wrote v CIP.KEY_COMMIT_SLOT) =
      tARMED ∨ s.slotSt c (wrote v CIP.KEY_COMMIT_SLOT) = tACTIVE ∨ s.slotSt c (wrote v CIP.KEY_COMMIT_SLOT) =
      tDRAINING)) ∧
    (∃ (s : State) (src c : Nat) (v : Word), s.keyHolder c src = true ∧ (s.slotSt c (wrote v CIP.KEY_COMMIT_SLOT) =
      tFREE ∨ s.slotSt c (wrote v CIP.KEY_COMMIT_SLOT) = tLOADED) ∧ (s.cip c).words.length < 8) ∧
    (∃ (s : State) (src c : Nat) (v : Word), s.keyHolder c src = true ∧ s.slotSt c (wrote v CIP.KEY_COMMIT_SLOT) =
      tSPENT) ∧
    (∃ (s : State) (src : Requester) (c : Fin 4) (_v : Word), s.serves src ⟨.cip, c.val⟩ ∧ s.keyHolder c src.id =
      true) ∧
    (∃ (s : State) (src : Requester) (c : Fin 4) (_v : Word), s.serves src ⟨.cip, c.val⟩ ∧ s.keyHolder c src.id =
      true) ∧
    (∃ (s : State) (src : Requester) (c : Fin 4) (_v : Word), s.serves src ⟨.cip, c.val⟩ ∧ s.keyHolder c src.id =
      true) ∧
    (∃ (s : State) (src : Requester) (c : Fin 4) (a : Fin 256) (v : Word) (t : State), s.windowServes src ⟨.cip,
      c.val⟩ ∧ t = s.select ⟨.cip, c.val⟩ 0 a.val ∧ t.assocEn c a ≠ v.getLsbD 0 ∧ t.assocBad c a (v.getLsbD 0) =
      none ∧ (t.pairIds.any fun p => t.pairB p == a.val) = false) ∧
    (∃ (s : State) (_src c e code : Nat) (v : Word), v.getLsbD 0 ≠ s.assocEn c e ∧ s.assocBad c e (v.getLsbD 0) =
      some code) ∧
    (∃ (s : State) (c : Fin 4) (n : Fin 512) (t : Nat), s.phase = .run ∧ (s.slotAt c n).left = some t ∧ s.slotSt c
      n = tDRAINING) ∧
    (∃ (s : State) (src : Requester) (c : Fin 4) (_v : Word), s.serves src ⟨.cip, c.val⟩) ∧
    (∃ (s : State) (c : Fin 4) (_pass : Bool), s.phase = .run ∧ s.fb (cb c) CIP.CIP_STAT_KAT_RUN = true ∧
      s.waitingTest 3 (fun e => e.page == cb c) = none) ∧
    (∃ (s : State) (c : Fin 4) (a : Fin 256), s.phase = .run ∧ s.unitsRun c a = true) ∧
    (∃ (s : State) (c : Fin 4) (a : Fin 256), s.phase = .run ∧ s.unitsRun c a = true) :=
  ⟨⟨bench [], .host, 1, 1, by decide +kernel⟩,
   ⟨bench [put (cb 1) CIP.CIP_LOCK_ID 4], 4, 1, 0, by decide +kernel⟩,
   ⟨bench [put (cb 1) CIP.CIP_LOCK_ID 4], 1, 1, 1, by decide +kernel⟩,
   ⟨bench [put (cb 1) CIP.CIP_LOCK_ID 1], .host, 1, 77, by decide +kernel⟩,
   ⟨bench [put (cb 1) CIP.CIP_LOCK_ID 1, .cips 1 { words := [1, 2, 3, 4, 5, 6, 7, 8] }], 1, 1, 77, by decide +kernel⟩,
   ⟨bench [], 1, 1, 77, by decide +kernel⟩,
   ⟨bench [put (cb 1) CIP.CIP_LOCK_ID 1], .host, 1, 77, by decide +kernel⟩,
   ⟨bench [put (cb 1) CIP.CIP_LOCK_ID 1, .cips 1 { words := [1, 2, 3, 4, 5, 6, 7, 8], salt := 9 }], .host, 1, 5, by decide +kernel⟩,
   ⟨bench [put (cb 1) CIP.CIP_LOCK_ID 1, .slots (512 + 5) { st := tACTIVE }], 1, 1, 5, by decide +kernel⟩,
   ⟨bench [put (cb 1) CIP.CIP_LOCK_ID 1, .cips 1 { words := [1] }], 1, 1, 5, by decide +kernel⟩,
   ⟨bench [put (cb 1) CIP.CIP_LOCK_ID 1, .slots (512 + 5) { st := tSPENT }], 1, 1, 5, by decide +kernel⟩,
   ⟨bench [put (cb 1) CIP.CIP_LOCK_ID 1, .slots (512 + 5) { st := tLOADED }], .host, 1, 5, by decide +kernel⟩,
   ⟨bench [put (cb 1) CIP.CIP_LOCK_ID 1, .slots (512 + 5) { st := tARMED }], .host, 1, 5, by decide +kernel⟩,
   ⟨bench [put (cb 1) CIP.CIP_LOCK_ID 1, .slots (512 + 5) { st := tSPENT }], .host, 1, 5, by decide +kernel⟩,
   ⟨bench [], .host, 1, 7, 1, (bench []).select ⟨.cip, 1⟩ 0 7, by decide +kernel⟩,
   ⟨bench [.suits 7 { on := true }], 1, 1, 7, cSUIT_LIVE, 1, by decide +kernel⟩,
   ⟨bench [.slots (512 + 5) { st := tDRAINING, left := some 100 }], 1, 5, 100, by decide +kernel⟩,
   ⟨bench [], .host, 1, 0, by decide +kernel⟩,
   ⟨bench [put (cb 1) CIP.CIP_STAT_KAT_RUN 1], 1, false, by decide +kernel⟩,
   ⟨bench [put (cb 1) CIP.CIP_CTL_ENG_EN 1, .suits 7 { on := true }, .tabs (assocKey 1 7) 1], 1, 7, by decide +kernel⟩,
   ⟨bench [put (cb 1) CIP.CIP_CTL_ENG_EN 1, .suits 7 { on := true }, .tabs (assocKey 1 7) 1], 1, 7, by decide +kernel⟩⟩

/-- The premises of each clause of `Obligations.UnitsAreSealedAndVerified` are met. -/
theorem witness_UnitsAreSealedAndVerified :
    (∃ (s : State) (c : Fin 4) (a : Fin 256) (plain : List Byte) (n : Nat), s.phase = .run ∧ s.unitsRun c a = true
      ∧ plain.length = 16384 ∧ n = 2 * a + (s.assocAt c a).txKi ∧ (s.assocAt c a).txHalt = false ∧ s.fb (cb c)
      CIP.CIP_STAT_ENG_HALT = false ∧ ((s.slotAt c n).st = tACTIVE ∨ (s.slotAt c n).st = tDRAINING) ∧ (s.slotAt c
      n).uctr + 1 < 2 ^ 47) ∧
    (∃ (s : State) (c : Fin 4) (a : Fin 256) (plain : List Byte), s.phase = .run ∧ s.unitsRun c a = true ∧
      plain.length = 16384 ∧ (s.assocAt c a).txHalt = true) ∧
    (∃ (s : State) (c : Fin 4) (a : Fin 256) (_header _tag : BitVec 128) (_cipher : List Byte), s.phase = .run ∧
      s.unitsRun c a = true) ∧
    (∃ (s : State) (c : Fin 4) (a : Fin 256) (header _tag : BitVec 128) (_cipher : List Byte), s.phase = .run ∧
      s.unitsRun c a = true ∧ hdrFits header = false) ∧
    (∃ (s : State) (c : Fin 4) (a : Fin 256) (h _tag : BitVec 128) (_cipher : List Byte) (n : Nat), s.phase = .run
      ∧ s.unitsRun c a = true ∧ hdrFits h = true ∧ hdrAssoc h = a.val ∧ hdrVer h ≠ 15 ∧ hdrDir h ≠ s.assocDir c a ∧
      n = 2 * a + hdrKi h ∧ (s.slotAt c n).st = tACTIVE) ∧
    (∃ (s : State) (c : Fin 4) (a : Fin 256) (h _tag : BitVec 128) (_cipher : List Byte), s.phase = .run ∧
      s.unitsRun c a = true ∧ hdrFits h = true ∧ hdrAssoc h = a.val ∧ hdrVer h ≠ 15 ∧ (s.slotAt c (2 * a + hdrKi
      h)).st = tFREE) ∧
    (∃ (s : State) (c : Fin 4) (a : Fin 256) (k : Kitty), s.phase = .run ∧ (s.assocAt c a).kitty = some k ∧ k.tagOk
      = true ∧ (s.slotAt c (2 * a + k.ki)).seen = none ∧ s.fb (cb c) CIP.CIP_STAT_ENG_HALT = false) ∧
    (∃ (s : State) (c : Fin 4) (a : Fin 256) (k : Kitty), s.phase = .run ∧ (s.assocAt c a).kitty = some k ∧ k.tagOk
      = false) ∧
    (∃ (s : State) (c : Fin 4) (a : Fin 256) (k : Kitty) (u : Nat), s.phase = .run ∧ (s.assocAt c a).kitty = some k
      ∧ k.tagOk = true ∧ (s.slotAt c (2 * a + k.ki)).seen = some u ∧ k.uctr ≤ u) :=
  ⟨⟨bench [put (cb 1) CIP.CIP_CTL_ENG_EN 1, .suits 7 { on := true }, .tabs (assocKey 1 7) 1, .slots (512 + 14) { st := tACTIVE }], 1, 7, List.replicate 16384 0, 14, by decide +kernel⟩,
   ⟨bench [put (cb 1) CIP.CIP_CTL_ENG_EN 1, .suits 7 { on := true }, .tabs (assocKey 1 7) 1, .assocs (256 + 7) { txHalt := true }], 1, 7, List.replicate 16384 0, by decide +kernel⟩,
   ⟨bench [put (cb 1) CIP.CIP_CTL_ENG_EN 1, .suits 7 { on := true }, .tabs (assocKey 1 7) 1], 1, 7, 0, 0, [], by decide +kernel⟩,
   ⟨bench [put (cb 1) CIP.CIP_CTL_ENG_EN 1, .suits 7 { on := true }, .tabs (assocKey 1 7) 1], 1, 7, 0, 0, [], by decide +kernel⟩,
   ⟨bench [put (cb 1) CIP.CIP_CTL_ENG_EN 1, .suits 7 { on := true }, .tabs (assocKey 1 7) 1, .slots (512 + 14) { st := tACTIVE }], 1, 7, unitHeader 1 0 1 7 5, 0, [], 14, by decide +kernel⟩,
   ⟨bench [put (cb 1) CIP.CIP_CTL_ENG_EN 1, .suits 7 { on := true }, .tabs (assocKey 1 7) 1], 1, 7, unitHeader 1 0 1 7 5, 0, [], by decide +kernel⟩,
   ⟨bench [.assocs (256 + 7) { kitty := some ⟨0, false, 5, [1], true⟩ }], 1, 7, ⟨0, false, 5, [1], true⟩, by decide +kernel⟩,
   ⟨bench [.assocs (256 + 7) { kitty := some ⟨0, false, 5, [1], false⟩ }], 1, 7, ⟨0, false, 5, [1], false⟩, by decide +kernel⟩,
   ⟨bench [.assocs (256 + 7) { kitty := some ⟨0, false, 5, [1], true⟩ }, .slots (512 + 14) { seen := some 5 }], 1, 7, ⟨0, false, 5, [1], true⟩, 5, by decide +kernel⟩⟩

/-- The premises of each clause of `Obligations.HostLanesAndPortsAnswer` are met. -/
theorem witness_HostLanesAndPortsAnswer :
    (∃ (s : State) (src : Requester) (l : Fin 48) (_v : Word) (r : RegRow), s.serves src ⟨.hsl, l.val / 4⟩ ∧ regRow
      ⟨.hsl, l.val / 4⟩ (HSL.LANE_CTL (l.val % 4)) = some r) ∧
    (∃ (s : State) (_src q i : Nat) (_r : RegRow) (v : Word), s.laneOwner (4 * q + i) = none ∧ wroteB v
      (HSL.LANE_CTL_EN i) = true ∧ ((List.range 4).any fun j => j != i && s.laneEn (4 * q + j) && s.laneRate (4 * q
      + j) != wrote v (HSL.LANE_CTL_RATE i)) = true) ∧
    (∃ (s : State) (_src q i p : Nat) (_r : RegRow) (v : Word), s.laneOwner (4 * q + i) = some p ∧ wroteB v
      (HSL.LANE_CTL_EN i) ≠ s.laneEn (4 * q + i)) ∧
    (∃ (s : State) (l : Fin 48) (_ffe : Word), s.phase = .run ∧ s.running (tTrain l) = true) ∧
    (∃ (s : State) (l : Fin 48) (_ffe : Word), s.phase = .run ∧ s.running (tTrain l) = true) ∧
    (∃ (s : State) (l : Fin 48) (_lock _sig _adapted : Bool) (_snr : Nat), s.phase = .run ∧ s.live ⟨.hsl, l.val /
      4⟩ = true ∧ s.laneEn l = true) ∧
    (∃ (s : State) (q : Fin 12) (_lock : Bool), s.phase = .run ∧ s.live ⟨.hsl, q.val⟩ = true) ∧
    (∃ (s : State) (src : Requester) (p : Fin 48) (v : Word), s.serves src ⟨.eth, p.val⟩ ∧ s.portEn p = false ∧
      wrote v ETH.PORT_CFG_TYPE ≠ 7 ∧ s.portBad p (setF v ETH.PORT_CFG_EN 1) = none) ∧
    (∃ (s : State) (_src p code : Nat) (_r : RegRow) (v : Word), s.portEn p = false ∧ wroteB v ETH.PORT_CFG_EN =
      true ∧ wrote v ETH.PORT_CFG_TYPE ≠ 7 ∧ s.portBad p v = some code) ∧
    (∃ (s : State) (p : Fin 48) (_block _am _deskew : Bool), s.phase = .run ∧ s.live ⟨.eth, p.val⟩ = true ∧
      s.portEn p = true) ∧
    (∃ (s : State) (p : Fin 48) (sym corSym _cor _unc : Nat), s.phase = .run ∧ s.live ⟨.eth, p.val⟩ = true ∧
      s.portEn p = true ∧ 5560 < sym ∧ corSym ≤ s.fg (etb p) ETH.FEC_DEG_CFG_THR ∧ s.fb (etb p) ETH.PORT_STAT_HI_SER
      = false) ∧
    (∃ (s : State) (p : Fin 48) (_remote _on : Bool), s.phase = .run ∧ s.live ⟨.eth, p.val⟩ = true ∧ s.portEn p =
      true) ∧
    (∃ (s : State) (g : Fin 8), s.phase = .run ∧ ((s.tab (flexKey 0 g 0)).getLsbD 0 && (s.tab (flexKey 0 g
      0)).getLsbD 2) = true) ∧
    (∃ (s : State) (src : Requester) (g : Fin 8) (_v : Word) (t : State), s.windowServes src ⟨.eth, 0⟩ ∧ t =
      s.select ⟨.eth, 0⟩ 0 g.val) ∧
    (∃ (s : State) (src : Requester) (e : Fin 3) (_v : Word) (t : State), s.windowServes src ⟨.eth, 0⟩ ∧ t =
      s.select ⟨.eth, 0⟩ 3 e.val) ∧
    (∃ (_s : State) (_src _e : Nat) (v : Word), v.getLsbD 0 = true ∧ (bitsGet v 16 6 < 4 * (bitsGet v 1 3 + 1) - 3
      ∨ 4 * (bitsGet v 1 3 + 1) < bitsGet v 16 6 ∨ 30 < bitsGet v 16 6)) ∧
    (∃ (s : State) (p : Fin 48) (e : Stamp) (l : List Stamp), s.up ⟨.eth, p.val⟩ ∧ s.stamp p = e :: l) :=
  ⟨⟨bench [], .host, 6, 0, (regRow ⟨.hsl, 1⟩ (HSL.LANE_CTL 2)).get (by decide), by decide +kernel⟩,
   ⟨bench [.regs (hsb 1 + HSL.LANE_CTL 0) 3], 1, 1, 2, (regRow ⟨.hsl, 1⟩ (HSL.LANE_CTL 2)).get (by decide), 1, by decide +kernel⟩,
   ⟨bench [put (etb 6) ETH.PORT_CFG_EN 1], 1, 1, 2, (((bench [put (etb 6) ETH.PORT_CFG_EN 1]).laneOwner 6).getD 0), (regRow ⟨.hsl, 1⟩ (HSL.LANE_CTL 2)).get (by decide), 1, by decide +kernel⟩,
   ⟨bench [.timers (tTrain 6) 5], 6, 0x010203, by decide +kernel⟩,
   ⟨bench [.timers (tTrain 6) 5], 6, 0x010203, by decide +kernel⟩,
   ⟨bench [put (hsb 1) (HSL.LANE_CTL_EN 2) 1], 6, true, true, true, 20, by decide +kernel⟩,
   ⟨bench [], 3, false, by decide +kernel⟩,
   ⟨bench [.regs (hsb 0 + HSL.LANE_CTL 0) 1], .host, 0, bitsPut 0 ETH.PORT_CFG_TYPE.lo ETH.PORT_CFG_TYPE.w 0, by decide +kernel⟩,
   ⟨bench [], 1, 0, cRATE_BAD, (regRow ⟨.eth, 0⟩ ETH.PORT_CFG).get (by decide), bitsPut 0 ETH.PORT_CFG_EN.lo 1 1, by decide +kernel⟩,
   ⟨bench [put (etb 6) ETH.PORT_CFG_EN 1], 6, true, true, true, by decide +kernel⟩,
   ⟨bench [put (etb 6) ETH.PORT_CFG_EN 1], 6, 5561, 0, 3, 1, by decide +kernel⟩,
   ⟨bench [put (etb 6) ETH.PORT_CFG_EN 1], 6, true, true, by decide +kernel⟩,
   ⟨bench [.tabs (flexKey 0 3 0) 5], 3, by decide +kernel⟩,
   ⟨bench [], .host, 3, 5, (bench []).select ⟨.eth, 0⟩ 0 3, by decide +kernel⟩,
   ⟨bench [], .host, 1, 0x00040000, (bench []).select ⟨.eth, 0⟩ 3 1, by decide +kernel⟩,
   ⟨bench [], 1, 1, 0x00050001, by decide +kernel⟩,
   ⟨bench [.stamps 6 [⟨1, 77, 5⟩]], 6, ⟨1, 77, 5⟩, [], by decide +kernel⟩⟩

/-- The premises of each clause of `Obligations.PacketsAreClassifiedAndQueued` are met. -/
theorem witness_PacketsAreClassifiedAndQueued :
    (∃ (s : State) (src : Requester) (f : Fin 8) (w : Fin 2) (v : Word) (t : State), s.windowServes src ⟨.cls, 0⟩ ∧
      t = s.select ⟨.cls, 0⟩ 0 f.val ∧ s.fb clb CLS.CLS_CTL_EN = false ∧ ((if w.val = 0 then selectors v (t.tab
      (clsKey 0 f 1)) else selectors (t.tab (clsKey 0 f 0)) v).map selSize).sum ≤ 40) ∧
    (∃ (s : State) (_src _e _w : Nat) (_v : Word), s.fb clb CLS.CLS_CTL_EN = true) ∧
    (∃ (s : State) (src : Requester) (tern : Bool) (e : Nat) (v : Word) (t : State) (k : Nat), s.windowServes src
      ⟨.cls, 0⟩ ∧ (k = if tern then 2 else 1) ∧ (e < if tern then 8192 else 262144) ∧ t = s.select ⟨.cls, 0⟩ k e ∧
      t.entryValid k e = false ∧ t.publishBad k e (v ||| 1) = none) ∧
    (∃ (s : State) (_src e k code : Nat) (v : Word), (k = 1 ∨ k = 2) ∧ s.entryValid k e = false ∧ v.getLsbD 0 =
      true ∧ s.publishBad k e v = some code) ∧
    (∃ (s : State) (src : Requester) (tern : Bool) (e : Nat) (_v : Word) (t : State) (k : Nat), s.windowServes src
      ⟨.cls, 0⟩ ∧ (k = if tern then 2 else 1) ∧ (e < if tern then 8192 else 262144) ∧ t = s.select ⟨.cls, 0⟩ k e) ∧
    (∃ (s : State) (_src e k w : Nat) (_v : Word), (k = 1 ∨ k = 2) ∧ 0 < w ∧ w < 11 ∧ s.entryValid k e = true) ∧
    (∃ (s : State) (p : Fin 48) (_bytes : List Byte) (_ddrOk : Bool), s.phase = .run ∧ s.live ⟨.eth, p.val⟩ = true
      ∧ s.portEn p = true ∧ s.portType p ≤ 3 ∧ s.fb (etb p) ETH.PORT_CFG_MAP = false ∧ s.fb (etb p)
      ETH.PORT_STAT_LINK_UP = true ∧ s.live ⟨.cls, 0⟩ = true ∧ s.fb clb CLS.CLS_CTL_EN = true ∧ s.live ⟨.qmg, 0⟩ =
      true) ∧
    (∃ (s : State) (p : Fin 48) (bytes : List Byte) (_ddrOk : Bool), s.phase = .run ∧ s.live ⟨.eth, p.val⟩ = true ∧
      s.portEn p = true ∧ s.portType p ≤ 3 ∧ s.fb (etb p) ETH.PORT_CFG_MAP = false ∧ s.fb (etb p)
      ETH.PORT_STAT_LINK_UP = true ∧ s.live ⟨.cls, 0⟩ = true ∧ s.fb clb CLS.CLS_CTL_EN = true ∧ s.profileOpen =
      false ∧ (parseFrame ((s.clsPort p).getLsbD 0) (bytes.take 64)).reason = 0) ∧
    (∃ (s : State) (id : Nat) (v : Word) (_ddrOk : Bool) (q : Nat × Packet), s.phase = .run ∧ s.cls.slow.find? (fun
      q => q.1 == id) = some q ∧ s.live ⟨.cls, 0⟩ = true ∧ bitsGet v 0 2 ≤ 1) ∧
    (∃ (s : State) (src : Requester) (h : Punt) (l : List Punt), s.serves src ⟨.cls, 0⟩ ∧ s.cls.punts = h :: l) ∧
    (∃ (s : State) (q : Nat) (_bytes : List Byte) (_ddrOk : Bool), s.phase = .run ∧ s.live ⟨.qmg, 0⟩ = true ∧
      (s.qmgRun = false ∨ s.setEn (q / 8) = false)) ∧
    (∃ (s : State) (q : Nat) (bytes : List Byte) (_ddrOk : Bool), s.phase = .run ∧ s.live ⟨.qmg, 0⟩ = true ∧
      s.qmgRun = true ∧ s.setEn (q / 8) = true ∧ bitsGet (s.tab (qmgKey 1 q 0)) 0 20 * 1024 < (s.queue q).backlog +
      (bytes.length + 63) / 64) ∧
    (∃ (s : State) (q : Nat) (bytes : List Byte) (_ddrOk : Bool), s.phase = .run ∧ s.live ⟨.qmg, 0⟩ = true ∧
      s.qmgRun = true ∧ s.setEn (q / 8) = true ∧ (s.queue q).backlog + (bytes.length + 63) / 64 ≤ bitsGet (s.tab
      (qmgKey 1 q 0)) 0 20 * 1024 ∧ s.ovfOn = false ∧ (s.queue q).ddr = [] ∧ s.dieUsed + (bytes.length + 63) / 64 ≤
      2 ^ 20) ∧
    (∃ (s : State) (g : Nat), s.phase = .run ∧ g < 4356 ∧ s.qmgRun = true ∧ s.setEn g = false) ∧
    (∃ (s : State) (g : Nat) (l : List Byte) (_next _ddrOk : Bool), s.phase = .run ∧ s.qmgRun = true ∧ g < 4356 ∧
      (s.sched g).sync = true ∧ headerOk l = true ∧ be l 0 2 ≠ 0 ∧ 8 + be l 0 2 ≤ l.length) ∧
    (∃ (s : State) (g : Nat) (l : List Byte) (_errored _next _ddrOk : Bool), s.phase = .run ∧ s.qmgRun = true ∧ g <
      4356 ∧ (s.sched g).sync = true ∧ headerOk l = false) ∧
    (∃ (s : State) (src : Requester) (v : Word) (n : Nat), s.serves src ⟨.qmg, 0⟩ ∧ wrote v QMG.FLUSH_SET ≤ 4403 ∧
      n = ((List.range 8).map fun k => (s.queue (8 * wrote v QMG.FLUSH_SET + k)).die.length + (s.queue (8 * wrote v
      QMG.FLUSH_SET + k)).ddr.length).sum) :=
  ⟨⟨bench [put clb CLS.CLS_CTL_EN 0], .host, 3, 0, 0xA1, (bench [put clb CLS.CLS_CTL_EN 0]).select ⟨.cls, 0⟩ 0 3, by decide +kernel⟩,
   ⟨bench [put clb CLS.CLS_CTL_EN 1], 1, 3, 0, 0xA1, by decide +kernel⟩,
   ⟨bench [], .host, true, 77, 0, (bench []).select ⟨.cls, 0⟩ 2 77, 2, by decide +kernel⟩,
   ⟨bench [], 1, 0, 1, cHASH_MISMATCH, 1, by decide +kernel⟩,
   ⟨bench [], .host, true, 77, 0x50000, (bench []).select ⟨.cls, 0⟩ 2 77, 2, by decide +kernel⟩,
   ⟨bench [.tabs (clsKey 2 77 0) 1], 1, 77, 2, 3, 5, by decide +kernel⟩,
   ⟨bench [put clb CLS.CLS_CTL_EN 1, put (etb 6) ETH.PORT_CFG_EN 1, put (etb 6) ETH.PORT_STAT_LINK_UP 1], 6, [], true, by decide +kernel⟩,
   ⟨bench [put clb CLS.CLS_CTL_EN 1, put (etb 6) ETH.PORT_CFG_EN 1, put (etb 6) ETH.PORT_STAT_LINK_UP 1], 6, List.replicate 64 0x11, true, by decide +kernel⟩,
   ⟨bench [.cls { slow := [(5, { bytes := [1, 2] })] }], 5, 0x10000, true, (5, { bytes := [1, 2] }), by decide +kernel⟩,
   ⟨bench [.cls { punts := [⟨1, 6, [1]⟩, ⟨1, 6, [2]⟩] }], .host, ⟨1, 6, [1]⟩, [⟨1, 6, [2]⟩], by decide +kernel⟩,
   ⟨bench [], 77, [1, 2], true, by decide +kernel⟩,
   ⟨bench [put qmb QMG.QMG_CTL_EN 1, .tabs (qmgKey 0 9 0) 1, .tabs (qmgKey 1 77 0) 0], 77, [1, 2], true, by decide +kernel⟩,
   ⟨bench [put qmb QMG.QMG_CTL_EN 1, .tabs (qmgKey 0 9 0) 1], 77, [1, 2], true, by decide +kernel⟩,
   ⟨bench [put qmb QMG.QMG_CTL_EN 1], 77, by decide +kernel⟩,
   ⟨bench [put qmb QMG.QMG_CTL_EN 1, .scheds 9 { sync := true }], 9, recordOf 3 (List.replicate 60 7), true, true, by decide +kernel⟩,
   ⟨bench [put qmb QMG.QMG_CTL_EN 1, .scheds 9 { sync := true }], 9, [1, 2], false, true, true, by decide +kernel⟩,
   ⟨bench [.queues 72 { die := [{ bytes := [1] }] }], .host, bitsPut 0 QMG.FLUSH_SET.lo QMG.FLUSH_SET.w 9, 1, by decide +kernel⟩⟩

/-- The premises of each clause of `Obligations.SensingArchivesFreezesAndReads` are met. -/
theorem witness_SensingArchivesFreezesAndReads :
    (∃ (s : State) (_c : Fin 4) (_ch : Fin 16) (_p : Fin 4) (_x : BitVec 16), s.phase = .run ∧ s.live ⟨.sns, 0⟩ =
      true ∧ s.fb ssb SNS.SNS_CTL_RUN = true) ∧
    (∃ (s : State) (_c : Fin 4) (_ch : Fin 16) (_p : Fin 4) (_x : BitVec 16), s.snsRun = false) ∧
    (∃ (s : State) (n : Nat) (_t : BitVec 80) (_x : BitVec 16), s.archOn = true ∧ s.streamSel n = true ∧
      s.archReach = true ∧ (s.stream n).on = true ∧ 1 ≤ (s.stream n).samples.length ∧ (s.stream n).samples.length <
      240) ∧
    (∃ (s : State) (n : Byte), s.phase = .run ∧ s.archOn = true ∧ 240 ≤ (s.stream n.toNat).samples.length) ∧
    (∃ (s : State) (n p : Nat), (s.stream n).samples ≠ [] ∧ s.archReach = true ∧ 0 < s.archPositions ∧ p =
      s.nextPos (s.archs.length + 1) (s.sns.pos % max 1 s.archPositions)) ∧
    (∃ (s : State) (n : Byte), s.phase = .run ∧ s.archOn = true ∧ (s.stream n.toNat).samples ≠ [] ∧ s.running (ssb
      * 4096 + n.toNat) = true) ∧
    (∃ (s : State) (i : Nat), s.phase = .run ∧ s.openFrz = some i ∧ s.lowFree = false ∧ s.frzEnd i + s.delayUsed ≤
      s.nowNs.toNat ∧ s.sns.follow = none) ∧
    (∃ (s : State) (i : Nat) (_trunc : Bool), s.frzOpen i = true) ∧
    (∃ (s : State) (src : Requester), s.serves src ⟨.sns, 0⟩) ∧
    (∃ (s : State) (_t _pre _post _det : Nat), (s.archOn = false ∨ s.frzHeld.length = 16 ∨ s.lowFree = true)) ∧
    (∃ (s : State) (src : Requester) (n : Fin 16), s.serves src ⟨.sns, 0⟩ ∧ s.frzValid n = true ∧ s.frzOpen n =
      false) ∧
    (∃ (s : State) (_src i : Nat), (s.frzValid i = false ∨ s.frzOpen i = true)) ∧
    (∃ (s : State) (src : Requester) (v : Word), s.serves src ⟨.sns, 0⟩ ∧ s.snsRun = false ∧ s.fb ssb
      SNS.SNS_CTL_RUN = false ∧ s.fb ssb SNS.SNS_STAT_FADING = false ∧ wroteB v SNS.SNS_CTL_RUN = false ∧ s.regionOn
      2 = true) ∧
    (∃ (s : State) (_src : Nat) (v : Word), wroteB v SNS.SNS_CTL_ARCH_EN = true ∧ s.regionOn 2 = false) ∧
    (∃ (s : State) (src : Requester) (v : Word), s.serves src ⟨.sns, 0⟩ ∧ v.toNat < s.archPositions) ∧
    (∃ (s : State) (_src : Nat) (v : Word), s.archPositions ≤ v.toNat) ∧
    (∃ (s : State) (_bad : Bool), s.phase = .run ∧ s.running tSnsRead = true) ∧
    (∃ (s : State) (src : Requester) (_v : Word), s.serves src ⟨.sns, 0⟩) ∧
    (∃ (s : State), s.phase = .run ∧ s.running tSnsSeek = true ∧ s.archs = []) ∧
    (∃ (s : State) (p : Nat) (r : ArchRec), s.phase = .run ∧ s.running tSnsSeek = true ∧ s.archs = [(p, r)] ∧ p <
      s.archPositions ∧ (wroteB (s.reg (ssb + SNS.SEEK_CMD)) SNS.SEEK_CMD_ANY = true ∨ r.stream = wrote (s.reg (ssb
      + SNS.SEEK_CMD)) SNS.SEEK_CMD_STREAM) ∧ r.t0.toNat ≤ ((s.reg (ssb + SNS.SEEK_LO)).toNat + (s.reg (ssb +
      SNS.SEEK_HI)).toNat * 2 ^ 32) * 65536) ∧
    (∃ (s : State) (src : Requester) (_v : Word), s.serves src ⟨.sns, 0⟩ ∧ s.live ⟨.sns, 0⟩ = true) ∧
    (∃ (s : State), s.phase = .run ∧ s.presetsUsed ≠ [] ∧ s.fb ssb SNS.SNS_STAT_FADING = true ∧ s.running tSnsFade
      = true) :=
  ⟨⟨bench [.regs (ssb + SNS.SNS_CTL) (bitsPut (bitsPut 0 SNS.SNS_CTL_RUN.lo 1 1) SNS.SNS_CTL_ARCH_EN.lo 1 1), .tabs (tabKey meb 0 2 0) 1, .tabs (snsKey 0 19 0) 15], 1, 3, 2, 77, by decide +kernel⟩,
   ⟨bench [], 1, 3, 2, 77, by decide +kernel⟩,
   ⟨bench [.regs (ssb + SNS.SNS_CTL) (bitsPut (bitsPut 0 SNS.SNS_CTL_RUN.lo 1 1) SNS.SNS_CTL_ARCH_EN.lo 1 1), .tabs (tabKey meb 0 2 0) 1, .tabs (snsKey 0 3 0) 15, .streams 14 { on := true, samples := [5] }], 14, 99, 77, by decide +kernel⟩,
   ⟨bench [.regs (ssb + SNS.SNS_CTL) (bitsPut (bitsPut 0 SNS.SNS_CTL_RUN.lo 1 1) SNS.SNS_CTL_ARCH_EN.lo 1 1), .tabs (tabKey meb 0 2 0) 1, .streams 14 { on := true, samples := List.replicate 240 5 }], 14, by decide +kernel⟩,
   ⟨bench [.regs (ssb + SNS.SNS_CTL) (bitsPut (bitsPut 0 SNS.SNS_CTL_RUN.lo 1 1) SNS.SNS_CTL_ARCH_EN.lo 1 1), .tabs (tabKey meb 0 2 0) 1, .tabs (tabKey meb 0 2 2) 1, .streams 14 { on := true, samples := [5] }], 14, 0, by decide +kernel⟩,
   ⟨bench [.regs (ssb + SNS.SNS_CTL) (bitsPut (bitsPut 0 SNS.SNS_CTL_RUN.lo 1 1) SNS.SNS_CTL_ARCH_EN.lo 1 1), .tabs (tabKey meb 0 2 0) 1, .streams 14 { on := true, samples := [5] }, .timers (ssb * 4096 + 14) 5], 14, by decide +kernel⟩,
   ⟨bench [.tabs (snsKey 2 4 0) 3, .tabs (snsKey 2 4 5) 1000, .now (5000 * 65536)], 4, by decide +kernel⟩,
   ⟨bench [.tabs (snsKey 2 4 0) 3], 4, true, by decide +kernel⟩,
   ⟨bench [], .host, by decide +kernel⟩,
   ⟨bench [], 1000, 1, 1, 31, by decide +kernel⟩,
   ⟨bench [.tabs (snsKey 2 4 0) 1], .host, 4, by decide +kernel⟩,
   ⟨bench [.tabs (snsKey 2 4 0) 3], 1, 4, by decide +kernel⟩,
   ⟨bench [.tabs (tabKey meb 0 2 0) 1], .host, bitsPut 0 SNS.SNS_CTL_ARCH_EN.lo 1 1, by decide +kernel⟩,
   ⟨bench [], 1, bitsPut 0 SNS.SNS_CTL_ARCH_EN.lo 1 1, by decide +kernel⟩,
   ⟨bench [.tabs (tabKey meb 0 2 0) 1, .tabs (tabKey meb 0 2 2) 1], .host, 77, by decide +kernel⟩,
   ⟨bench [], 1, 77, by decide +kernel⟩,
   ⟨bench [.timers tSnsRead 5], true, by decide +kernel⟩,
   ⟨bench [], .host, 77, by decide +kernel⟩,
   ⟨bench [.timers tSnsSeek 5], by decide +kernel⟩,
   ⟨bench [.timers tSnsSeek 5, .tabs (tabKey meb 0 2 0) 1, .tabs (tabKey meb 0 2 2) 1, .archs 9 { t0 := 70, samples := [5] }, .regs (ssb + SNS.SEEK_LO) 50], 9, { t0 := 70, samples := [5] }, by decide +kernel⟩,
   ⟨bench [], .host, 1, by decide +kernel⟩,
   ⟨bench [.tabs (snsKey 0 3 0) 15, put ssb SNS.SNS_STAT_FADING 1, .timers tSnsFade 5], by decide +kernel⟩⟩

/-- The premises of each clause of `Obligations.ReferencesQualifyAndDpllsFollow` are met. -/
theorem witness_ReferencesQualifyAndDpllsFollow :
    (∃ (s : State) (k : Fin 14), s.phase = .run ∧ s.live ⟨.dpl, 0⟩ = true ∧ (k.val < 4 ∨ (k.val < 13 ∧ s.refLock k
      = false))) ∧
    (∃ (s : State) (k : Fin 14), s.phase = .run ∧ s.live ⟨.dpl, 0⟩ = true ∧ (k.val < 4 ∨ (k.val < 13 ∧ s.refLock k
      = true))) ∧
    (∃ (s : State) (x : Int), s.phase = .run ∧ s.live ⟨.dpl, 0⟩ = true ∧ s.fb dpb (DPL.REF_STAT_ACT_OK 0) = true ∧
      s.fg dpb DPL.MON_CFG_REJECT * 1000 < x.natAbs) ∧
    (∃ (s : State) (x : Int), s.phase = .run ∧ s.live ⟨.dpl, 0⟩ = true ∧ s.fb dpb (DPL.REF_STAT_ACT_OK 0) = true ∧
      x.natAbs ≤ s.fg dpb DPL.MON_CFG_REJECT * 1000 ∧ x.natAbs < s.fg dpb DPL.MON_CFG_ACCEPT * 1000) ∧
    (∃ (s : State), s.phase = .run ∧ s.live ⟨.dpl, 0⟩ = true) ∧
    (∃ (s : State) (k h : Nat) (d : Int), h = s.fg dpb DPL.DRIFT_CFG_WIN / 2 ∧ 0 < h ∧ 2 * h ≤ (s.ref
      k).fofs.length ∧ d = ((s.ref k).fofs.take h).sum - (((s.ref k).fofs.drop h).take h).sum ∧ s.fg dpb
      DPL.DRIFT_CFG_LIM * 1000 * h * h < 60 * d.natAbs ∧ s.fb dpb (DPL.REF_STAT_DRIFTING k) = false) ∧
    (∃ (s : State) (k : Fin 14), s.phase = .run ∧ s.live ⟨.dpl, 0⟩ = true ∧ s.refGood k = true ∧ s.running (tQual
      k) = true ∧ (s.ref k).quals ≠ 0 ∧ s.fg dpb DPL.QUAL_CFG_WTR ≠ 0) ∧
    (∃ (s : State) (k : Nat), s.live ⟨.dpl, 0⟩ = true ∧ s.refGood k = true ∧ s.running (tQual k) = true ∧ (s.ref
      k).quals = 0) ∧
    (∃ (s : State) (k : Fin 14), s.phase = .run ∧ s.live ⟨.dpl, 0⟩ = true ∧ s.running (tWtr k) = true) ∧
    (∃ (s : State) (i : Fin 2), s.phase = .run ∧ s.live ⟨.dpl, 0⟩ = true ∧ s.dState i = 1 ∧ s.fb dpb
      (DPL.D_STAT_SLEWING i) = false ∧ s.running (tAcq i) = true) ∧
    (∃ (s : State) (i : Fin 2) (_ffo _pherr : Int), s.phase = .run ∧ s.live ⟨.dpl, 0⟩ = true ∧ (s.dState i = 1 ∨
      s.dState i = 2) ∧ s.fb dpb (DPL.D_STAT_HIST_FROZEN i) = false) ∧
    (∃ (s : State), s.phase = .run ∧ s.live ⟨.dpl, 0⟩ = true ∧ s.fb dpb (DPL.D_STAT_SLEWING 1) = true) ∧
    (∃ (s : State) (src : Requester) (i : Fin 2) (_v : Word) (r : RegRow), s.serves src ⟨.dpl, 0⟩ ∧ regRow ⟨.dpl,
      0⟩ (DPL.D_CTL i.val) = some r) ∧
    (∃ (_s : State) (i : Nat) (_r : RegRow) (v : Word), wrote v (DPL.D_CTL_FORCE_REF i) ≠ 14 ∧ wroteB v
      (DPL.D_CTL_EN i) = false ∧ wroteB v (DPL.D_CTL_STACK_HOLD i) = true ∧ wroteB v (DPL.D_CTL_FORCE_HO i) = false) ∧
    (∃ (s : State) (src : Requester) (_v : Word), s.serves src ⟨.dpl, 0⟩) ∧
    (∃ (s : State) (k : Nat) (e x : Int), s.dSel 1 = k ∧ (s.dState 1 = 1 ∨ s.dState 1 = 2 ∨ s.dState 1 = 4) ∧ x = e
      + (s.reg (dpb + DPL.REF_DLY k)).toInt) ∧
    (∃ (s : State), s.phase = .run ∧ s.live ⟨.dpl, 0⟩ = true ∧ s.running tSw = true) ∧
    (∃ (s : State) (src : Requester) (i : Fin 2) (v : Word), s.serves src ⟨.dpl, 0⟩ ∧ s.dState i = 4 ∧ (s.dpll
      i).openVal - s.fg dpb (DPL.D_SLOPE_NS_S i) * 1000 ≤ v.toInt ∧ v.toInt ≤ (s.dpll i).openVal + s.fg dpb
      (DPL.D_SLOPE_NS_S i) * 1000) ∧
    (∃ (s : State) (_src i : Nat) (v : Word), s.dState i = 4 ∧ (s.dpll i).openVal + s.fg dpb (DPL.D_SLOPE_NS_S i) *
      1000 < v.toInt) ∧
    (∃ (s : State) (src : Requester) (k : Fin 4) (_v : Word) (r : RegRow), s.serves src ⟨.dpl, 0⟩ ∧ regRow ⟨.dpl,
      0⟩ (DPL.OUT_CFG k.val) = some r) ∧
    (∃ (s : State) (k : Nat), (s.fg dpb (DPL.OUT_CFG_SRC k) = 3 ∨ s.fg dpb (DPL.OUT_CFG_SRC k) = 4)) :=
  ⟨⟨bench [put dpb (DPL.REF_STAT_ACT_OK 3) 1], 3, by decide +kernel⟩,
   ⟨bench [], 3, by decide +kernel⟩,
   ⟨bench [put dpb (DPL.REF_STAT_ACT_OK 0) 1], 90000000, by decide +kernel⟩,
   ⟨bench [put dpb (DPL.REF_STAT_ACT_OK 0) 1], -900, by decide +kernel⟩,
   ⟨bench [put dpb DPL.DRIFT_CFG_WIN 10, .refs 3 { fofs := [900000, 900000, 900000, 900000, 900000, 0, 0, 0, 0, 0] }], by decide +kernel⟩,
   ⟨bench [put dpb DPL.DRIFT_CFG_WIN 10, .refs 3 { fofs := [900000, 900000, 900000, 900000, 900000, 0, 0, 0, 0, 0] }], 3, 5, 4500000, by decide +kernel⟩,
   ⟨bench [.regs (dpb + (DPL.REF_STAT_ACT_OK 3).off) (bitsPut (bitsPut 0 (DPL.REF_STAT_ACT_OK 3).lo 1 1) (DPL.REF_STAT_FREQ_OK 3).lo 1 1), .timers (tQual 3) 5, .refs 3 { quals := 1 }, put dpb DPL.QUAL_CFG_WTR 300], 3, by decide +kernel⟩,
   ⟨bench [.regs (dpb + (DPL.REF_STAT_ACT_OK 3).off) (bitsPut (bitsPut 0 (DPL.REF_STAT_ACT_OK 3).lo 1 1) (DPL.REF_STAT_FREQ_OK 3).lo 1 1), .timers (tQual 3) 5], 3, by decide +kernel⟩,
   ⟨bench [.timers (tWtr 3) 5], 3, by decide +kernel⟩,
   ⟨bench [put dpb (DPL.D_STAT_STATE 1) 1, .timers (tAcq 1) 5], 1, by decide +kernel⟩,
   ⟨bench [put dpb (DPL.D_STAT_STATE 1) 2], 1, -20000, 5, by decide +kernel⟩,
   ⟨bench [put dpb (DPL.D_STAT_SLEWING 1) 1], by decide +kernel⟩,
   ⟨bench [], .host, 1, 1, (regRow ⟨.dpl, 0⟩ (DPL.D_CTL 1)).get (by decide), by decide +kernel⟩,
   ⟨bench [put dpb (DPL.D_CTL_EN 1) 1], 1, (regRow ⟨.dpl, 0⟩ (DPL.D_CTL 1)).get (by decide), bitsPut 0 (DPL.D_CTL_STACK_HOLD 1).lo 1 1, by decide +kernel⟩,
   ⟨bench [], .host, 77, by decide +kernel⟩,
   ⟨bench [.regs (dpb + (DPL.D_STAT_STATE 1).off) (bitsPut (bitsPut 0 (DPL.D_STAT_STATE 1).lo (DPL.D_STAT_STATE 1).w 2) (DPL.D_STAT_SEL 1).lo (DPL.D_STAT_SEL 1).w 13)], 13, 7, 7, by decide +kernel⟩,
   ⟨bench [.timers tSw 5], by decide +kernel⟩,
   ⟨bench [put dpb (DPL.D_STAT_STATE 1) 4], .host, 1, 5, by decide +kernel⟩,
   ⟨bench [put dpb (DPL.D_STAT_STATE 1) 4, put dpb (DPL.D_SLOPE_NS_S 1) 1], 1, 1, 0x7FFFFFFF, by decide +kernel⟩,
   ⟨bench [], .host, 1, 3, (regRow ⟨.dpl, 0⟩ (DPL.OUT_CFG 1)).get (by decide), by decide +kernel⟩,
   ⟨bench [put dpb (DPL.OUT_CFG_SRC 2) 3, .regs (dpb + DPL.OUT_MIS 2) 50], 2, by decide +kernel⟩⟩

/-- The premises of each clause of `Obligations.MemoryChecksRegionsAndErrors` are met. -/
theorem witness_MemoryChecksRegionsAndErrors :
    (∃ (s : State) (src : Requester) (r : Fin 11) (t : State), s.windowServes src ⟨.mem, 0⟩ ∧ t = s.select ⟨.mem,
      0⟩ 0 r.val ∧ t.regionOn r = false ∧ t.regionCheck r = none) ∧
    (∃ (s : State) (_src r code : Nat), s.regionCheck r = some code) ∧
    (∃ (s : State) (src : Requester) (r : Fin 11) (t : State), s.windowServes src ⟨.mem, 0⟩ ∧ t = s.select ⟨.mem,
      0⟩ 0 r.val ∧ t.regionOn r = true ∧ t.regionUsed r = false) ∧
    (∃ (s : State) (_src r : Nat), s.regionUsed r = true) ∧
    (∃ (s : State) (a _place _row n : Nat) (_ue _scrub : Bool), s.phase = .run ∧ s.nch ≠ 0 ∧ a < s.fg meb
      MEM.INSTALLED_MIB * 2 ^ 20 ∧ n = s.chanOf a ∧ s.pdOn (56 + n / 2) = true) ∧
    (∃ (s : State) (n : Fin 16) (q : RowTest) (l : List RowTest), s.phase = .run ∧ (s.ddr n).tests = q :: l ∧
      ((s.ddr n).hits.filter fun h => h.1 == q.row).length < 2) ∧
    (∃ (s : State) (n : Fin 16) (q : RowTest) (l : List RowTest), s.phase = .run ∧ (s.ddr n).tests = q :: l) ∧
    (∃ (s : State) (n : Nat) (_q : RowTest), s.fg (db n) DDR.SPARE_LEFT_ROWS = 0) ∧
    (∃ (s : State) (_e : SramErr), s.phase = .run) ∧
    (∃ (s : State) (_l : List SramErr), s.phase = .run ∧ s.running tPatrol = true) ∧
    (∃ (s : State) (src : Requester) (v : Word), s.serves src ⟨.mem, 0⟩ ∧ wroteB v MEM.SCRUB_CMD_ABORT = false ∧
      s.fb meb MEM.SCRUB_STAT_BUSY = false ∧ s.fg meb MEM.SCRUB_BASE_MIB + s.fg meb MEM.SCRUB_LEN_MIB ≤ s.fg meb
      MEM.INSTALLED_MIB ∧ s.fg meb MEM.SCRUB_RATE_MBS ≤ (s.fg meb MEM.BUDGET_TOTAL - reserved s.regionOn) * 100 ∧
      s.pairOff = false) ∧
    (∃ (s : State) (_src : Nat), s.fb meb MEM.SCRUB_STAT_BUSY = true) ∧
    (∃ (s : State) (src : Requester) (v : Word), s.serves src ⟨.mem, 0⟩ ∧ wroteB v MEM.SCRUB_CMD_GO = false ∧ s.fb
      meb MEM.SCRUB_STAT_BUSY = true) ∧
    (∃ (s : State), s.phase = .run ∧ s.fb meb MEM.SCRUB_STAT_BUSY = true) ∧
    (∃ (s : State) (n : Fin 16) (x : Int), s.phase = .run ∧ sx 16 (s.fg (db n) DDR.DDR_TEMP_LIM_DEG) ≤ x ∧ sx 16
      (s.fg (db n) DDR.DDR_TEMP_DEG) < sx 16 (s.fg (db n) DDR.DDR_TEMP_LIM_DEG)) :=
  ⟨⟨bench [.regs (meb + MEM.MEM_STAT_FILL_DONE.off) (bitsPut 0 MEM.MEM_STAT_FILL_DONE.lo 1 1), .regs (meb + MEM.USABLE) 8000, .regs (meb + MEM.BUDGET) 0x7FFF0000, .tabs (tabKey meb 0 4 2) 100], .host, 4, (bench [.regs (meb + MEM.MEM_STAT_FILL_DONE.off) (bitsPut 0 MEM.MEM_STAT_FILL_DONE.lo 1 1), .regs (meb + MEM.USABLE) 8000, .regs (meb + MEM.BUDGET) 0x7FFF0000, .tabs (tabKey meb 0 4 2) 100]).select ⟨.mem, 0⟩ 0 4, by decide +kernel⟩,
   ⟨bench [], 1, 4, cNO_DDR, by decide +kernel⟩,
   ⟨bench [.tabs (tabKey meb 0 4 0) 1], .host, 4, (bench [.tabs (tabKey meb 0 4 0) 1]).select ⟨.mem, 0⟩ 0 4, by decide +kernel⟩,
   ⟨bench [.tabs (tabKey meb 0 2 0) 1, .regs (ssb + SNS.SNS_CTL) (bitsPut (bitsPut 0 SNS.SNS_CTL_RUN.lo 1 1) SNS.SNS_CTL_ARCH_EN.lo 1 1)], 1, 2, by decide +kernel⟩,
   ⟨bench [put meb MEM.MEM_STAT_NCH 4, .regs (meb + MEM.INSTALLED) 4096], 20480, 3, 77, 1, false, false, by decide +kernel⟩,
   ⟨bench [.ddrs 3 { tests := [{ row := 5, seq := 1, addr := 64, ue := false }] }], 3, { row := 5, seq := 1, addr := 64, ue := false }, [], by decide +kernel⟩,
   ⟨bench [.ddrs 3 { tests := [{ row := 5, seq := 1, addr := 64, ue := false }] }], 3, { row := 5, seq := 1, addr := 64, ue := false }, [], by decide +kernel⟩,
   ⟨bench [put (db 3) DDR.SPARE_LEFT_ROWS 0], 3, { row := 5, seq := 1, addr := 64, ue := false }, by decide +kernel⟩,
   ⟨bench [], { page := 5, addr := 64, unit := 1, eng := false, ue := false }, by decide +kernel⟩,
   ⟨bench [.timers tPatrol 5], [], by decide +kernel⟩,
   ⟨bench [.regs (meb + MEM.BUDGET) 0x7FFF0000, .regs (meb + MEM.INSTALLED) 4096], .host, 0, by decide +kernel⟩,
   ⟨bench [put meb MEM.SCRUB_STAT_BUSY 1], 1, by decide +kernel⟩,
   ⟨bench [put meb MEM.SCRUB_STAT_BUSY 1], .host, 0, by decide +kernel⟩,
   ⟨bench [put meb MEM.SCRUB_STAT_BUSY 1], by decide +kernel⟩,
   ⟨bench [put (db 3) DDR.DDR_TEMP_LIM_DEG 900], 3, 910, by decide +kernel⟩⟩

/-- The premises of each clause of `Obligations.EnginesIssueTheirInstructions` are met. -/
theorem witness_EnginesIssueTheirInstructions :
    (∃ (s : State) (id : Fin 512) (f rd a b : Nat) (alt : Bool) (_extra : Nat) (len : Nat) (inst : Word), s.phase =
      .run ∧ s.engReady id = true ∧ s.engIrq id = none ∧ s.rvFetch id = some (.op f rd a b alt, len, inst)) ∧
    (∃ (s : State) (id : Fin 512) (f rd a : Nat) (v : Word) (alt : Bool) (_extra : Nat) (len : Nat) (inst : Word),
      s.phase = .run ∧ s.engReady id = true ∧ s.engIrq id = none ∧ s.rvFetch id = some (.opImm f rd a v alt, len,
      inst)) ∧
    (∃ (s : State) (id : Fin 512) (f rd a : Nat) (v : Word) (alt : Bool) (_extra : Nat) (len : Nat) (inst : Word),
      s.phase = .run ∧ s.engReady id = true ∧ s.engIrq id = none ∧ s.rvFetch id = some (.opImm f rd a v alt, len,
      inst) ∧ rd < (s.eng id).regs.length) ∧
    (∃ (s : State) (id : Fin 512) (f a b : Nat) (off : Word) (_extra : Nat) (len : Nat) (inst : Word), s.phase =
      .run ∧ s.engReady id = true ∧ s.engIrq id = none ∧ s.rvFetch id = some (.branch f a b off, len, inst)) ∧
    (∃ (s : State) (id : Fin 512) (f rd a : Nat) (off : Word) (_extra addr : Nat) (len : Nat) (inst : Word),
      s.phase = .run ∧ s.engReady id = true ∧ s.engIrq id = none ∧ s.rvFetch id = some (.load f rd a off, len, inst)
      ∧ ((s.eng id).reg a + off).toNat % accSize f = 0 ∧ s.engLoc id ((s.eng id).reg a + off).toNat (accSize f) =
      .die 1 addr) ∧
    (∃ (s : State) (id : Fin 512) (f a b : Nat) (off : Word) (_extra addr : Nat) (len : Nat) (inst : Word), s.phase
      = .run ∧ s.engReady id = true ∧ s.engIrq id = none ∧ s.rvFetch id = some (.store f a b off, len, inst) ∧
      ((s.eng id).reg a + off).toNat % accSize f = 0 ∧ s.engLoc id ((s.eng id).reg a + off).toNat (accSize f) = .die
      1 addr) ∧
    (∃ (s : State) (id : Fin 512) (_extra : Nat) (len : Nat) (inst : Word), s.phase = .run ∧ s.engReady id = true ∧
      s.engIrq id = none ∧ s.rvFetch id = some (.illegal, len, inst)) ∧
    (∃ (s : State) (id : Fin 512) (len : Nat) (inst : Word), s.phase = .run ∧ s.engReady id = true ∧ s.engIrq id =
      none ∧ s.rvFetch id = some (.ebreak, len, inst)) ∧
    (∃ (s : State) (id : Fin 512) (n : Nat), s.phase = .run ∧ s.clRun (id / 64) = true ∧ (s.eng id).st ≠ 4 ∧
      s.engIrq id = some n) ∧
    (∃ (s : State) (id _cause : Nat) (_irq : Bool) (_tval : Word), (s.eng id).mtvec = 0) ∧
    (∃ (s : State) (id : Fin 512) (a b : Nat) (len : Nat) (inst : Word), s.phase = .run ∧ s.engReady id = true ∧
      s.engIrq id = none ∧ s.rvFetch id = some (.cmac 0 a b, len, inst)) ∧
    (∃ (s : State) (id : Fin 512) (a b : Nat) (len : Nat) (inst : Word), s.phase = .run ∧ s.engReady id = true ∧
      s.engIrq id = none ∧ s.rvFetch id = some (.cmac 1 a b, len, inst)) ∧
    (∃ (s : State) (id : Fin 512) (a b : Nat) (len : Nat) (inst : Word), s.phase = .run ∧ s.engReady id = true ∧
      s.engIrq id = none ∧ s.rvFetch id = some (.cmac 2 a b, len, inst)) ∧
    (∃ (s : State) (id : Fin 512) (rd b : Nat) (len : Nat) (inst : Word), s.phase = .run ∧ s.engReady id = true ∧
      s.engIrq id = none ∧ s.rvFetch id = some (.accrd rd b, len, inst)) ∧
    (∃ (s : State) (id : Fin 512) (rd a b : Nat) (len : Nat) (inst : Word), s.phase = .run ∧ s.engReady id = true ∧
      s.engIrq id = none ∧ s.rvFetch id = some (.msend rd a b, len, inst) ∧ s.mailStatus id ((s.eng id).reg a) =
      some 0) ∧
    (∃ (s : State) (id : Fin 512) (rd a b : Nat) (len : Nat) (inst : Word), s.phase = .run ∧ s.engReady id = true ∧
      s.engIrq id = none ∧ s.rvFetch id = some (.msend rd a b, len, inst) ∧ s.mailStatus id ((s.eng id).reg a) =
      some 1) ∧
    (∃ (s : State) (id : Fin 512) (rd a from' : Nat) (x : Word) (l : List (Nat × Word)) (len : Nat) (inst : Word),
      s.phase = .run ∧ s.engReady id = true ∧ s.engIrq id = none ∧ s.rvFetch id = some (.mrecv rd a, len, inst) ∧
      (s.eng id).fifo = (from', x) :: l) ∧
    (∃ (s : State) (id : Fin 512) (rd a : Nat) (len : Nat) (inst : Word), s.phase = .run ∧ s.engReady id = true ∧
      s.engIrq id = none ∧ s.rvFetch id = some (.mrecv rd a, len, inst) ∧ (s.eng id).fifo = [] ∧ ((s.eng id).reg
      a).toNat ≠ 0) ∧
    (∃ (s : State) (id : Fin 512) (rd a b : Nat) (w : Bool) (len : Nat) (inst : Word), s.phase = .run ∧ s.engReady
      id = true ∧ s.engIrq id = none ∧ s.rvFetch id = some (.waitt rd a b w, len, inst) ∧ (((s.eng id).reg
      b).zeroExtend 64 <<< 32) ||| ((s.eng id).reg a).zeroExtend 64 ≤ s.nowNs) ∧
    (∃ (s : State) (id : Fin 512) (rd a b : Nat) (t : BitVec 64) (len : Nat) (inst : Word), s.phase = .run ∧
      s.engReady id = true ∧ s.engIrq id = none ∧ s.rvFetch id = some (.waitt rd a b false, len, inst) ∧ t =
      ((((s.eng id).reg b).zeroExtend 64 <<< 32) ||| ((s.eng id).reg a).zeroExtend 64) ∧ s.nowNs < t) ∧
    (∃ (s : State) (id : Fin 512) (rd a : Nat) (off x : Word) (_extra : Nat) (len : Nat) (inst : Word), s.phase =
      .run ∧ s.engReady id = true ∧ s.engIrq id = none ∧ s.rvFetch id = some (.brd rd a off, len, inst) ∧ x = (s.eng
      id).reg a + off ∧ x.toNat % 4 = 0 ∧ s.engDenied (id / 64) x.toNat = false) ∧
    (∃ (s : State) (id : Fin 512) (a b : Nat) (off x : Word) (_extra : Nat) (len : Nat) (inst : Word), s.phase =
      .run ∧ s.engReady id = true ∧ s.engIrq id = none ∧ s.rvFetch id = some (.bwr a b off, len, inst) ∧ x = (s.eng
      id).reg a + off ∧ x.toNat % 4 = 0 ∧ s.engDenied (id / 64) x.toNat = false) ∧
    (∃ (s : State) (id : Nat) (_inst _next : Word) (_rd _rs1 : Nat) (a : Word) (_extra : Nat), a.toNat % 4 = 0 ∧
      s.engDenied (id / 64) a.toNat = true) ∧
    (∃ (s : State) (i : Fin 512) (dst : Fin 1024) (m : MailRec), s.phase = .run ∧ (s.mails.find? fun x => x.src ==
      i.val && x.dst == dst.val) = some m ∧ dst.val ≠ 0x3FF ∧ s.clUp (dst / 64) = true) ∧
    (∃ (s : State) (i : Nat) (m : MailRec), (s.mails.find? fun x => x.src == i && x.dst == 0x3FF) = some m ∧ s.clUp
      (i / 64) = true) ∧
    (∃ (s : State) (id : Fin 512), s.phase = .run ∧ s.clRun (id / 64) = true ∧ (s.eng id).st = 2 ∧ (s.eng id).fifo
      ≠ []) ∧
    (∃ (s : State) (id : Nat), s.clRun (id / 64) = true ∧ (s.eng id).st = 2 ∧ (s.eng id).fifo = [] ∧ (s.eng
      id).limit ≠ 0xFFFFFFFF) ∧
    (∃ (s : State) (id : Fin 512), s.phase = .run ∧ s.clRun (id / 64) = true ∧ (s.eng id).st = 1 ∧ (s.eng id).wake
      = false) :=
  ⟨⟨bench (engAt 300 0x00B50633), 300, 0, 12, 10, 11, false, 0, 4, 0x00B50633, by decide +kernel⟩,
   ⟨bench (engAt 300 0x00550613), 300, 0, 12, 10, 5, false, 0, 4, 0x00550613, by decide +kernel⟩,
   ⟨bench (engAt 300 0x00550613), 300, 0, 12, 10, 5, false, 0, 4, 0x00550613, by decide +kernel⟩,
   ⟨bench (engAt 300 0x00B50463), 300, 0, 10, 11, 8, 0, 4, 0x00B50463, by decide +kernel⟩,
   ⟨bench (.engs 300 { regs := (List.replicate 32 0).set 10 0x10000000 } :: engAt 300 0x01052603), 300, 2, 12, 10, 16, 0, (300 / 64 * 0x800000 + 0x400000 + 300 % 64 * 0x10000 + 0x8010), 4, 0x01052603, by decide +kernel⟩,
   ⟨bench (.engs 300 { regs := (List.replicate 32 0).set 10 0x10000000 } :: engAt 300 0x00B52823), 300, 2, 10, 11, 16, 0, (300 / 64 * 0x800000 + 0x400000 + 300 % 64 * 0x10000 + 0x8010), 4, 0x00B52823, by decide +kernel⟩,
   ⟨bench (engAt 300 0x0000700B), 300, 0, 4, 0x0000700B, by decide +kernel⟩,
   ⟨bench (engAt 300 0x00100073), 300, 4, 0x00100073, by decide +kernel⟩,
   ⟨bench (.engs 300 { mstatus := 0x1808, mie := 0x10000, fifo := [(5, 77)], mtvec := 0x100, st := 1 } :: engAt 300 0), 300, 16, by decide +kernel⟩,
   ⟨bench (engAt 300 0), 300, 2, false, 77, by decide +kernel⟩,
   ⟨bench (engAt 300 0x00B5000B), 300, 10, 11, 4, 0x00B5000B, by decide +kernel⟩,
   ⟨bench (engAt 300 0x02B5000B), 300, 10, 11, 4, 0x02B5000B, by decide +kernel⟩,
   ⟨bench (engAt 300 0x04B5000B), 300, 10, 11, 4, 0x04B5000B, by decide +kernel⟩,
   ⟨bench (engAt 300 0x06B0060B), 300, 12, 11, 4, 0x06B0060B, by decide +kernel⟩,
   ⟨bench (.regs (enb 0 + ENG.CL_STAT) 0 :: engAt 300 0x00B5160B), 300, 12, 10, 11, 4, 0x00B5160B, by decide +kernel⟩,
   ⟨bench (.engs 0 { fifo := List.replicate 16 (5, 77) } :: engAt 300 0x00B5160B), 300, 12, 10, 11, 4, 0x00B5160B, by decide +kernel⟩,
   ⟨bench (.engs 300 { fifo := [(5, 77)] } :: engAt 300 0x0005260B), 300, 12, 10, 5, 77, [], 4, 0x0005260B, by decide +kernel⟩,
   ⟨bench (.engs 300 { regs := (List.replicate 32 0).set 10 9 } :: engAt 300 0x0005260B), 300, 12, 10, 4, 0x0005260B, by decide +kernel⟩,
   ⟨bench (engAt 300 0x00B5360B), 300, 12, 10, 11, false, 4, 0x00B5360B, by decide +kernel⟩,
   ⟨bench (.engs 300 { regs := ((List.replicate 32 0).set 10 410065408).set 11 2 } :: engAt 300 0x00B5360B), 300, 12, 10, 11, 9000000000, 4, 0x00B5360B, by decide +kernel⟩,
   ⟨bench (engAt 300 0x0105062B), 300, 12, 10, 16, 16, 5, 4, 0x0105062B, by decide +kernel⟩,
   ⟨bench (engAt 300 0x00B5182B), 300, 10, 11, 16, 16, 5, 4, 0x00B5182B, by decide +kernel⟩,
   ⟨bench [put (enb 4) ENG.CL_STAT_OWNER_PROG 1], 300, 77, 4, 12, 10, BitVec.ofNat 32 (pageBase .sec 0), 5, by decide +kernel⟩,
   ⟨bench (.mails [⟨300, 5, 77, 0⟩] :: engAt 300 0), 300, 5, ⟨300, 5, 77, 0⟩, by decide +kernel⟩,
   ⟨bench (.mails [⟨300, 0x3FF, 77, 0⟩] :: engAt 300 0), 300, ⟨300, 0x3FF, 77, 0⟩, by decide +kernel⟩,
   ⟨bench (.engs 300 { st := 2, fifo := [(5, 77)] } :: engAt 300 0), 300, by decide +kernel⟩,
   ⟨bench (.engs 300 { st := 2, limit := 90 } :: engAt 300 0), 300, by decide +kernel⟩,
   ⟨bench (.engs 300 { st := 1, target := 5000 } :: engAt 300 0), 300, by decide +kernel⟩⟩

/-- The premises of each clause of `Obligations.ClustersLoadCountAndTrace` are met. -/
theorem witness_ClustersLoadCountAndTrace :
    (∃ (s : State) (src : Requester) (k : Fin 8) (_v : Word), s.serves src ⟨.eng, k.val⟩) ∧
    (∃ (s : State) (_src k : Nat), s.fb (enb k) ENG.CL_STAT_LOADING = false ∧ s.fb (enb k) ENG.CL_STAT_HALTED =
      true ∧ (s.fb (enb k) ENG.CL_CTL_LOAD_SRC = true ∨ (4 ≤ k ∧ k ≠ 7))) ∧
    (∃ (s : State) (_src k : Nat), s.fb (enb k) ENG.CL_STAT_LOADING = false ∧ s.fb (enb k) ENG.CL_STAT_HALTED =
      false) ∧
    (∃ (s : State) (_src k : Nat), s.fb (enb k) ENG.CL_STAT_LOADING = false ∧ s.fb (enb k) ENG.CL_STAT_HALTED =
      true ∧ s.fb (enb k) ENG.CL_CTL_LOAD_SRC = false ∧ (k < 4 ∨ k = 7)) ∧
    (∃ (s : State) (k : Fin 8) (n : Nat), s.phase = .run ∧ s.fb (enb k) ENG.CL_STAT_LOADING = true ∧ s.fb (enb k)
      ENG.CL_CTL_LOAD_SRC = false ∧ s.loadResult k = n) ∧
    (∃ (s : State) (k : Nat), s.fb (enb k) ENG.CL_STAT_LOADING = true ∧ s.fb (enb k) ENG.CL_CTL_LOAD_SRC = true) ∧
    (∃ (s : State) (src : Requester) (k : Fin 8) (v : Word), s.serves src ⟨.eng, k.val⟩ ∧ wroteB v
      ENG.CL_CTL_LOAD_GO = false ∧ wroteB v ENG.CL_CTL_RESUME = false ∧ wroteB v ENG.CL_CTL_LEG_RD = false) ∧
    (∃ (s : State) (src : Requester) (k : Fin 8) (e : Fin 576) (_v : Word) (t : State), s.windowServes src ⟨.eng,
      k.val⟩ ∧ t = s.select ⟨.eng, k.val⟩ 0 e.val ∧ e.val % 9 ≠ 0) ∧
    (∃ (s : State) (src : Requester) (k : Fin 8) (_v : Word), s.serves src ⟨.eng, k.val⟩) ∧
    (∃ (s : State) (_src k : Nat) (v : Word), wroteB v ENG.CL_CTL_HALT = true ∧ wroteB v ENG.CL_CTL_LOAD_GO = false
      ∧ wroteB v ENG.CL_CTL_LEG_RD = false ∧ wroteB v ENG.CL_CTL_RESUME = true ∧ s.fb (enb k) ENG.CL_STAT_HALTED =
      true) ∧
    (∃ (s : State) (src : Requester) (k : Fin 8) (_v : Word), s.serves src ⟨.eng, k.val⟩) ∧
    (∃ (s : State) (id : Fin 512) (t : TrcRec), s.phase = .run ∧ (s.eng id).trc = some t ∧ 16 ≤ t.strip.length) ∧
    (∃ (s : State) (src : Requester) (k : Fin 8) (_v : Word) (i : Nat), s.serves src ⟨.eng, k.val⟩ ∧ i = 64 * k +
      s.fg (enb k) ENG.ENG_SEL_E ∧ s.mailRoom 0 i = true) ∧
    (∃ (s : State) (_src k : Nat) (_v : Word), s.mailRoom 0 (64 * k + s.fg (enb k) ENG.ENG_SEL_E) = false) ∧
    (∃ (s : State) (k : Fin 8) (from' : Nat) (w : Word) (l : List (Nat × Word)), s.up ⟨.eng, k.val⟩ ∧ (s.cl k).host
      = (from', w) :: l) :=
  ⟨⟨bench [], .host, 5, bitsPut 0 ENG.CL_CTL_HALT.lo 1 1, by decide +kernel⟩,
   ⟨bench [put (enb 5) ENG.CL_STAT_HALTED 1], 1, 5, by decide +kernel⟩,
   ⟨bench [put (enb 5) ENG.CL_STAT_HALTED 0], 1, 5, by decide +kernel⟩,
   ⟨bench [put (enb 7) ENG.CL_STAT_HALTED 1], 1, 7, by decide +kernel⟩,
   ⟨bench [put (enb 5) ENG.CL_STAT_LOADING 1], 5, 3, by decide +kernel⟩,
   ⟨bench [put (enb 5) ENG.CL_STAT_LOADING 1, put (enb 5) ENG.CL_CTL_LOAD_SRC 1], 5, by decide +kernel⟩,
   ⟨bench [], .host, 5, 0, by decide +kernel⟩,
   ⟨bench [], .host, 5, 31, 77, (bench []).select ⟨.eng, 5⟩ 0 31, by decide +kernel⟩,
   ⟨bench [put (enb 5) ENG.CL_STAT_FROZEN 1], .host, 5, 0, by decide +kernel⟩,
   ⟨bench [.regs (enb 5 + ENG.CL_STAT) (bitsPut (bitsPut 0 ENG.CL_STAT_FROZEN.lo 1 1) ENG.CL_STAT_HALTED.lo 1 1)], 1, 5, bitsPut (bitsPut 0 ENG.CL_CTL_HALT.lo 1 1) ENG.CL_CTL_RESUME.lo 1 1, by decide +kernel⟩,
   ⟨bench [], .host, 5, 0, by decide +kernel⟩,
   ⟨bench [.engs 300 { trc := some { pc := 8, inst := 19, time := 7, wait := 0, outcome := 0, cause := 0, strip := List.replicate 16 1 } }], 300, { pc := 8, inst := 19, time := 7, wait := 0, outcome := 0, cause := 0, strip := List.replicate 16 1 }, by decide +kernel⟩,
   ⟨bench [], .host, 5, 77, 320, by decide +kernel⟩,
   ⟨bench [.engs 320 { fifo := List.replicate 16 (5, 77) }], 1, 5, 77, by decide +kernel⟩,
   ⟨bench [.cls8 5 { host := [(320, 77)] }], 5, 320, 77, [], by decide +kernel⟩⟩

/-- The premises of each clause of `Obligations.VelaugLinksTrainIdleAndCarry` are met. -/
theorem witness_VelaugLinksTrainIdleAndCarry :
    (∃ (s : State) (src : Requester) (p : Fin 4) (v : Word) (r : RegRow), s.serves src ⟨.vlg, p.val⟩ ∧ regRow
      ⟨.vlg, p.val⟩ VLG.VLG_CTL = some r ∧ wroteB v VLG.VLG_CTL_IDLE_REQ = false ∧ wroteB v VLG.VLG_CTL_RETRAIN =
      false) ∧
    (∃ (s : State) (p : Nat), s.vOn p = true ∧ s.vSt p = vDOWN) ∧
    (∃ (s : State) (p : Nat), s.vOn p = false ∧ s.vSt p ≠ vDOWN) ∧
    (∃ (s : State) (p : Fin 4), s.phase = .run ∧ s.vSt p = vTRAIN ∧ s.fb (vb p) VLG.VLG_CTL_AUTO_EQ = false) ∧
    (∃ (s : State) (p : Nat), s.vSt p = vTRAIN ∧ s.fb (vb p) VLG.VLG_CTL_AUTO_EQ = true) ∧
    (∃ (s : State) (p : Fin 4), s.phase = .run ∧ s.vSt p = vTRAIN ∧ (s.vlg p).failed = false ∧ s.running (tVTrain
      p) = true) ∧
    (∃ (s : State) (src : Requester) (p : Fin 4) (v : Word) (r : RegRow), s.serves src ⟨.vlg, p.val⟩ ∧ regRow
      ⟨.vlg, p.val⟩ VLG.VLG_CTL = some r ∧ wroteB v VLG.VLG_CTL_IDLE_REQ = false ∧ s.vSt p = vLINKED) ∧
    (∃ (s : State) (src : Requester) (p : Fin 4) (v : Word) (r : RegRow), s.serves src ⟨.vlg, p.val⟩ ∧ regRow
      ⟨.vlg, p.val⟩ VLG.VLG_CTL = some r ∧ wroteB v VLG.VLG_CTL_RETRAIN = false) ∧
    (∃ (s : State) (p : Nat), s.vOn p = true ∧ s.vSt p = vLINKED ∧ s.fb (vb p) VLG.VLG_CTL_IDLE_REQ = true ∧ (s.vlg
      p).peerIdle = true ∧ s.idleBusy p = false) ∧
    (∃ (s : State) (p : Fin 4), s.phase = .run ∧ s.vSt p = vLINKED ∧ s.running (tBurst p) = true) ∧
    (∃ (s : State) (p : Fin 4) (q : VlgBlock) (e : Nat), s.phase = .run ∧ s.vSt p = vLINKED ∧ s.fb (vb p)
      VLG.VLG_STAT_PEER_DUP = false ∧ q.header.toNat / 2 ^ 16 = 1 ∧ q.unc = false ∧ q.cor = false ∧ s.transitFor p
      (q.header.toNat / 2 ^ 8 % 256) (q.header.toNat / 2 ^ 4 % 16) = some e) ∧
    (∃ (s : State) (p : Nat) (q : VlgBlock), s.vSt p = vTRAIN ∧ q.unc = true ∧ q.last = true) ∧
    (∃ (s : State) (p : Fin 4) (r : SuitRecord) (e : Nat), s.phase = .run ∧ s.vSt p = vLINKED ∧ s.transitFor p
      (slotBits r.a 55 8) (slotBits r.a 40 4) = some e) ∧
    (∃ (s : State) (p id : Nat) (r : SuitRecord), s.vSt p = vLINKED ∧ s.transitFor p (slotBits r.a 55 8) (slotBits
      r.a 40 4) = none ∧ s.remoteMember p (slotBits r.a 55 8) (slotBits r.a 40 4) = true ∧ id = slotBits r.a 55 8 *
      16 + slotBits r.a 40 4 ∧ ((s.vlg p).backRecs.any fun x => x.1 == id && x.2.b == r.b && x.2.c == r.c &&
      x.2.a.toNat / 2 ^ 32 == r.a.toNat / 2 ^ 32) = true) ∧
    (∃ (s : State) (src : Requester) (p : Fin 4) (e : Fin 32) (v : Word) (t : State), s.windowServes src ⟨.vlg,
      p.val⟩ ∧ t = s.select ⟨.vlg, p.val⟩ 0 e.val ∧ (t.transit p e 0).getLsbD 0 = false ∧ t.vlgTs p t.suitIds +
      bitsGet (t.transit p e 1) 8 8 ≤ 64 ∧ t.transitMeets p e (v ||| 1) (t.transit p e 1) = false ∧ t.transitBad (v
      ||| 1) (t.transit p e 1) = false) ∧
    (∃ (s : State) (_src p e : Nat) (v : Word), (s.transit p e 0).getLsbD 0 = false ∧ v.getLsbD 0 = true ∧ 64 <
      s.vlgTs p s.suitIds + bitsGet (s.transit p e 1) 8 8) :=
  ⟨⟨bench [], .host, 1, 1, (regRow ⟨.vlg, 1⟩ VLG.VLG_CTL).get (by decide), by decide +kernel⟩,
   ⟨bench [put (vb 1) VLG.VLG_CTL_EN 1], 1, by decide +kernel⟩,
   ⟨bench [put (vb 1) VLG.VLG_STAT_STATE 2], 1, by decide +kernel⟩,
   ⟨bench [put (vb 1) VLG.VLG_STAT_STATE 1, .regs (vb 1 + VLG.VLG_CTL) 0], 1, by decide +kernel⟩,
   ⟨bench [put (vb 1) VLG.VLG_STAT_STATE 1, put (vb 1) VLG.VLG_CTL_AUTO_EQ 1], 1, by decide +kernel⟩,
   ⟨bench [put (vb 1) VLG.VLG_STAT_STATE 1, .timers (tVTrain 1) 5], 1, by decide +kernel⟩,
   ⟨bench [put (vb 1) VLG.VLG_STAT_STATE 2, put (vb 1) VLG.VLG_CTL_EN 1], .host, 1, 1, (regRow ⟨.vlg, 1⟩ VLG.VLG_CTL).get (by decide), by decide +kernel⟩,
   ⟨bench [put (vb 1) VLG.VLG_STAT_STATE 2, put (vb 1) VLG.VLG_CTL_EN 1, put vb0 VLG.STACK_STAT_STATE 1], .host, 1, 5, (regRow ⟨.vlg, 1⟩ VLG.VLG_CTL).get (by decide), by decide +kernel⟩,
   ⟨bench [put (vb 1) VLG.VLG_STAT_STATE 2, .regs (vb 1 + VLG.VLG_CTL) 5, .vlgs 1 { peerIdle := true }], 1, by decide +kernel⟩,
   ⟨bench [put (vb 1) VLG.VLG_STAT_STATE 2, .timers (tBurst 1) 5], 1, by decide +kernel⟩,
   ⟨bench [put (vb 1) VLG.VLG_STAT_STATE 2, put (vb 1) VLG.VLG_CTL_EN 1, .tabs (tabKey (vb 1) 0 3 0) 0x02050001, .tabs (tabKey (vb 1) 0 3 1) 0x0400], 1, { header := 0x10520, words := [7], cor := false, unc := false, last := true }, 3, by decide +kernel⟩,
   ⟨bench [put (vb 1) VLG.VLG_STAT_STATE 1], 1, { header := 0, words := [], cor := false, unc := true, last := true }, by decide +kernel⟩,
   ⟨bench [put (vb 1) VLG.VLG_STAT_STATE 2, put (vb 1) VLG.VLG_CTL_EN 1, .tabs (tabKey (vb 1) 0 3 0) 1, .tabs (tabKey (vb 1) 0 3 1) 0x0400], 1, ⟨0, 0, 0⟩, 3, by decide +kernel⟩,
   ⟨bench [put (vb 1) VLG.VLG_STAT_STATE 2, .regs (vb 1 + VLG.PEER) 0x80001000, .tabs (tabKey sub' 1 0 0) 0x01000005, .vlgs 1 { backRecs := [(0, ⟨0, 0, 0⟩)] }], 1, 0, ⟨0, 0, 0⟩, by decide +kernel⟩,
   ⟨bench [inMode 0 3, .tabs (tabKey (vb 1) 0 3 1) 0x0100], .host, 1, 3, 0, (bench [inMode 0 3, .tabs (tabKey (vb 1) 0 3 1) 0x0100]).select ⟨.vlg, 1⟩ 0 3, by decide +kernel⟩,
   ⟨bench [.tabs (tabKey (vb 1) 0 3 1) 0x4100], 1, 1, 3, 1, by decide +kernel⟩⟩

/-- The premises of each clause of `Obligations.TheStackJoinsLeavesAndServes` are met. -/
theorem witness_TheStackJoinsLeavesAndServes :
    (∃ (s : State) (p _pos : Fin 4) (_stack : Byte) (_dealer _taken : Bool) (_serial : BitVec 48), s.phase = .run ∧
      s.vSt p = vLINKED ∧ s.stackOn = false) ∧
    (∃ (s : State) (p pos stack : Nat) (serial : BitVec 48), s.vSt p = vLINKED ∧ s.linked = [p] ∧ s.stackOn = true
      ∧ stack = s.fg vb0 VLG.STACK_CFG_STACK_ID ∧ s.stSt = kALONE ∧ s.fb (vb p) VLG.VLG_STAT_PEER_DUP = false ∧
      s.reg (vb p + VLG.PEER) = BitVec.ofNat 32 (2 ^ 31 + 2 ^ 17 + pos * 2 ^ 12 + stack) ∧ s.reg (vb p +
      VLG.PEER_SER_LO) = serial.extractLsb' 0 32 ∧ s.reg (vb p + VLG.PEER_SER_HI) = (serial.extractLsb' 32
      16).zeroExtend 32) ∧
    (∃ (s : State), s.phase = .run) ∧
    (∃ (s : State) (p : Fin 4), s.phase = .run ∧ s.vSt p = vLINKED) ∧
    (∃ (s : State) (p : Fin 4), s.phase = .run ∧ s.stSt = kJOINED ∧ s.dealerPort = p ∧ s.running (tHeart p) = true) ∧
    (∃ (s : State), s.phase = .run ∧ s.stSt = kJOINED) ∧
    (∃ (s : State) (p : Fin 4) (_t1 _t2 _t3 : BitVec 80), s.phase = .run ∧ s.stSt = kJOINED ∧ s.dealerPort = p ∧
      s.vSt p = vLINKED) ∧
    (∃ (s : State) (p : Fin 4) (_t2 _t3 _t4 : BitVec 80), s.phase = .run ∧ s.stSt = kDEALER ∧ s.peerOk p = true ∧
      s.vSt p = vLINKED) ∧
    (∃ (s : State) (p : Fin 4) (t1 _t4 : BitVec 80), s.phase = .run ∧ (s.vlg p).t1 = some t1 ∧ s.stSt = kJOINED ∧
      s.dealerPort = p ∧ s.vSt p = vLINKED) ∧
    (∃ (s : State) (p : Fin 4) (_num : BitVec 16) (_x : BitVec 64), s.phase = .run ∧ s.stSt = kJOINED ∧
      s.dealerPort = p ∧ bitOf (s.fg snb SNAP.SRC_EN_SRC) cDEALER = true) ∧
    (∃ (s : State) (p : Fin 4), s.phase = .run ∧ s.stSt = kDEALER ∧ s.memberPorts.contains p.val = true) ∧
    (∃ (s : State) (v : Word) (p : Nat), s.serves .host ⟨.vlg, 0⟩ ∧ s.fb vb0 VLG.MGMT_STAT_BUSY = false ∧ s.stSt =
      kDEALER ∧ bitOf (s.fg vb0 VLG.STACK_STAT_MEMBERS) (s.fg vb0 VLG.MGMT_ADDR_POS) = true ∧ s.peerPort (s.fg vb0
      VLG.MGMT_ADDR_POS) = some p ∧ wroteB v VLG.MGMT_CMD_WRITE = false) ∧
    (∃ (s : State) (v : Word) (p : Nat), wroteB v VLG.MGMT_CMD_GO = true ∧ s.fb vb0 VLG.MGMT_STAT_BUSY = false ∧
      s.stSt = kDEALER ∧ bitOf (s.fg vb0 VLG.STACK_STAT_MEMBERS) (s.fg vb0 VLG.MGMT_ADDR_POS) = true ∧ s.peerPort
      (s.fg vb0 VLG.MGMT_ADDR_POS) = some p ∧ wroteB v VLG.MGMT_CMD_WRITE = true) ∧
    (∃ (s : State) (v : Word), wroteB v VLG.MGMT_CMD_GO = true ∧ s.fb vb0 VLG.MGMT_STAT_BUSY = true) ∧
    (∃ (s : State) (v : Word), wroteB v VLG.MGMT_CMD_GO = true ∧ s.fb vb0 VLG.MGMT_STAT_BUSY = false ∧ s.stSt ≠
      kDEALER) ∧
    (∃ (s : State) (p : Fin 4) (a : BitVec 26), s.phase = .run ∧ s.stSt = kJOINED ∧ s.dealerPort = p ∧ s.vSt p =
      vLINKED ∧ mgmtDenied a.toNat false = false) ∧
    (∃ (s : State) (p : Fin 4) (a : BitVec 26) (_v : Word), s.phase = .run ∧ s.stSt = kJOINED ∧ s.dealerPort = p ∧
      s.vSt p = vLINKED ∧ mgmtDenied a.toNat true = false) ∧
    (∃ (s : State) (p : Nat) (a : Nat) (v : Option Word), s.stSt = kJOINED ∧ s.dealerPort = p ∧ s.vSt p = vLINKED ∧
      mgmtDenied a v.isSome = true) ∧
    (∃ (s : State) (p : Fin 4) (_x : Word) (_denied : Bool), s.phase = .run ∧ s.fb vb0 VLG.MGMT_STAT_BUSY = true ∧
      s.vSt p = vLINKED) ∧
    (∃ (s : State), s.phase = .run ∧ s.fb vb0 VLG.MGMT_STAT_BUSY = true ∧ s.running tMgmt = true) ∧
    (∃ (s : State) (p : Fin 4), s.phase = .run ∧ s.stSt ≠ kDEALER ∧ s.peerOk p = true) ∧
    (∃ (s : State) (p _pos : Fin 4), s.phase = .run ∧ s.stSt = kJOINED ∧ s.dealerPort = p) ∧
    (∃ (s : State) (p : Fin 4) (pos : Nat), s.phase = .run ∧ s.stSt = kDEALER ∧ s.peerOk p = true ∧ pos = s.fg (vb
      p) VLG.PEER_POS ∧ bitOf (s.fg vb0 VLG.STACK_STAT_MEMBERS) pos = true ∧ pos ≠ s.fg vb0 VLG.STACK_CFG_POS) ∧
    (∃ (s : State) (src : Requester) (v : Word) (r : RegRow), s.serves src ⟨.vlg, 0⟩ ∧ regRow ⟨.vlg, 0⟩
      VLG.STACK_CFG = some r ∧ (s.fb vb0 VLG.STACK_CFG_EN = false ∨ wroteB v VLG.STACK_CFG_EN = false ∨ s.stack.left
      = true)) ∧
    (∃ (s : State) (_src : Nat) (v : Word) (_r : RegRow), s.fb vb0 VLG.STACK_CFG_EN = true ∧ wroteB v
      VLG.STACK_CFG_EN = true ∧ s.stack.left = false ∧ (s.stSt ≠ kORPHAN ∨ wroteB v VLG.STACK_CFG_DEALER = false)) ∧
    (∃ (s : State) (src : Requester), s.serves src ⟨.vlg, 0⟩ ∧ s.stSt ≠ kALONE) ∧
    (∃ (s : State) (src : Requester) (v : Word), s.serves src ⟨.vlg, 0⟩ ∧ s.fb vb0 VLG.STACK_CFG_EN = true ∧ wroteB
      v VLG.STACK_CFG_EN = true ∧ s.stack.left = false ∧ s.stSt = kORPHAN) :=
  ⟨⟨bench [put (vb 1) VLG.VLG_STAT_STATE 2], 1, 2, 5, true, false, 77, by decide +kernel⟩,
   ⟨bench [put (vb 1) VLG.VLG_STAT_STATE 2, put vb0 VLG.STACK_CFG_EN 1, .regs (vb 1 + VLG.PEER) 0x80022000], 1, 2, 0, 0, by decide +kernel⟩,
   ⟨bench [put (vb 1) VLG.VLG_STAT_STATE 2], by decide +kernel⟩,
   ⟨bench [put (vb 1) VLG.VLG_STAT_STATE 2], 1, by decide +kernel⟩,
   ⟨bench [.regs (vb0 + VLG.STACK_STAT) (bitsPut (bitsPut 0 VLG.STACK_STAT_STATE.lo 3 1) VLG.STACK_STAT_DEALER_PORT.lo VLG.STACK_STAT_DEALER_PORT.w 1), .timers (tHeart 1) 5], 1, by decide +kernel⟩,
   ⟨bench [put vb0 VLG.STACK_STAT_STATE 1], by decide +kernel⟩,
   ⟨bench [.regs (vb0 + VLG.STACK_STAT) (bitsPut (bitsPut 0 VLG.STACK_STAT_STATE.lo 3 1) VLG.STACK_STAT_DEALER_PORT.lo VLG.STACK_STAT_DEALER_PORT.w 1), put (vb 1) VLG.VLG_STAT_STATE 2], 1, 5, 6, 7, by decide +kernel⟩,
   ⟨bench [put vb0 VLG.STACK_STAT_STATE 2, put (vb 1) VLG.VLG_STAT_STATE 2, put (vb 1) VLG.PEER_VALID 1], 1, 5, 6, 7, by decide +kernel⟩,
   ⟨bench [.regs (vb0 + VLG.STACK_STAT) (bitsPut (bitsPut 0 VLG.STACK_STAT_STATE.lo 3 1) VLG.STACK_STAT_DEALER_PORT.lo VLG.STACK_STAT_DEALER_PORT.w 1), put (vb 1) VLG.VLG_STAT_STATE 2, .vlgs 1 { t1 := some 5, t2 := 9, t3 := 12 }], 1, 5, 20, by decide +kernel⟩,
   ⟨bench [put vb0 VLG.STACK_STAT_STATE 1, .regs (snb + SNAP.SRC_EN) 0xFFFFFFFF], 0, 7, 9000, by decide +kernel⟩,
   ⟨bench [put vb0 VLG.STACK_STAT_STATE 2, put (vb 1) VLG.VLG_STAT_STATE 2, put (vb 1) VLG.PEER_VALID 1, .regs (snb + SNAP.SRC_EN) 0xFFFFFFFF], 1, by decide +kernel⟩,
   ⟨bench [.regs (vb0 + VLG.STACK_STAT) (bitsPut (bitsPut 0 VLG.STACK_STAT_STATE.lo 3 2) VLG.STACK_STAT_MEMBERS.lo VLG.STACK_STAT_MEMBERS.w 4), put vb0 VLG.MGMT_ADDR_POS 2, put (vb 1) VLG.VLG_STAT_STATE 2, .regs (vb 1 + VLG.PEER) 0x80002000], 0, 1, by decide +kernel⟩,
   ⟨bench [.regs (vb0 + VLG.STACK_STAT) (bitsPut (bitsPut 0 VLG.STACK_STAT_STATE.lo 3 2) VLG.STACK_STAT_MEMBERS.lo VLG.STACK_STAT_MEMBERS.w 4), put vb0 VLG.MGMT_ADDR_POS 2, put (vb 1) VLG.VLG_STAT_STATE 2, .regs (vb 1 + VLG.PEER) 0x80002000], bitsPut (bitsPut 0 VLG.MGMT_CMD_GO.lo 1 1) VLG.MGMT_CMD_WRITE.lo 1 1, 1, by decide +kernel⟩,
   ⟨bench [put vb0 VLG.MGMT_STAT_BUSY 1], bitsPut 0 VLG.MGMT_CMD_GO.lo 1 1, by decide +kernel⟩,
   ⟨bench [], bitsPut 0 VLG.MGMT_CMD_GO.lo 1 1, by decide +kernel⟩,
   ⟨bench [put vb0 VLG.STACK_STAT_STATE 1, put vb0 VLG.VLG_STAT_STATE 2], 0, BitVec.ofNat 26 (xb 0 + 0x100), by decide +kernel⟩,
   ⟨bench [put vb0 VLG.STACK_STAT_STATE 1, put vb0 VLG.VLG_STAT_STATE 2], 0, BitVec.ofNat 26 (xb 0 + 0x100), 5, by decide +kernel⟩,
   ⟨bench [put vb0 VLG.STACK_STAT_STATE 1, put vb0 VLG.VLG_STAT_STATE 2], 0, pageBase .sec 0, none, by decide +kernel⟩,
   ⟨bench [put vb0 VLG.MGMT_STAT_BUSY 1, put (vb 1) VLG.VLG_STAT_STATE 2], 1, 77, false, by decide +kernel⟩,
   ⟨bench [put vb0 VLG.MGMT_STAT_BUSY 1, .timers tMgmt 5], by decide +kernel⟩,
   ⟨bench [.regs (vb0 + VLG.STACK_STAT) (bitsPut (bitsPut 0 VLG.STACK_STAT_STATE.lo 3 1) VLG.STACK_STAT_MEMBERS.lo VLG.STACK_STAT_MEMBERS.w 4), .regs (vb 1 + VLG.PEER) 0x80002000], 1, by decide +kernel⟩,
   ⟨bench [.regs (vb0 + VLG.STACK_STAT) (bitsPut (bitsPut 0 VLG.STACK_STAT_STATE.lo 3 1) VLG.STACK_STAT_MEMBERS.lo VLG.STACK_STAT_MEMBERS.w 4)], 0, 2, by decide +kernel⟩,
   ⟨bench [.regs (vb0 + VLG.STACK_STAT) (bitsPut (bitsPut 0 VLG.STACK_STAT_STATE.lo 3 2) VLG.STACK_STAT_MEMBERS.lo VLG.STACK_STAT_MEMBERS.w 5), put (vb 1) VLG.VLG_STAT_STATE 2, .regs (vb 1 + VLG.PEER) 0x80002000], 1, 2, by decide +kernel⟩,
   ⟨bench [], .host, 0x02003C11, (regRow ⟨.vlg, 0⟩ VLG.STACK_CFG).get (by decide), by decide +kernel⟩,
   ⟨bench [put vb0 VLG.STACK_CFG_EN 1], 1, 0x02003C11, (regRow ⟨.vlg, 0⟩ VLG.STACK_CFG).get (by decide), by decide +kernel⟩,
   ⟨bench [put vb0 VLG.STACK_CFG_EN 1, put vb0 VLG.STACK_STAT_STATE 2], .host, by decide +kernel⟩,
   ⟨bench [put vb0 VLG.STACK_CFG_EN 1, put vb0 VLG.STACK_STAT_STATE 3], .host, 0x02003C11, by decide +kernel⟩⟩

/-- The premises of each clause of `Obligations.PowerDomainsMoveAndSleep` are met. -/
theorem witness_PowerDomainsMoveAndSleep :
    (∃ (s : State) (src : Requester) (v : Word), s.serves src ⟨.pwr, 0⟩ ∧ v.toNat % 256 < 80 ∧ bitsGet v 8 2 < 3) ∧
    (∃ (_s : State) (_src : Nat) (v : Word), (80 ≤ v.toNat % 256 ∨ bitsGet v 8 2 = 3)) ∧
    (∃ (s : State) (d : Nat) (a : PdAsk), (s.pd d).step = .idle ∧ (s.pd d).st = a.st) ∧
    (∃ (s : State) (d code : Nat) (a : PdAsk), (s.pd d).step = .idle ∧ (s.pd d).st ≠ a.st ∧ s.pdHold d a.st = false
      ∧ s.pdRefuser d a = some code) ∧
    (∃ (s : State) (d : Nat) (a : PdAsk), (s.pd d).step = .idle ∧ (s.pd d).st ≠ a.st ∧ s.pdHold d a.st = false ∧
      s.pdRefuser d a = none) ∧
    (∃ (s : State) (d : Fin 80), s.phase = .run ∧ (s.pd d).step = .quiesce) ∧
    (∃ (s : State) (d : Fin 80) (_blocker : Byte), s.phase = .run ∧ (s.pd d).step = .quiesce ∧ s.running (tQuiesce
      d) = true) ∧
    (∃ (s : State) (d : Fin 80), s.phase = .run ∧ (s.pd d).step = .move) ∧
    (∃ (s : State) (o : AvsOp) (l : List AvsOp) (mv : Nat), s.phase = .run ∧ s.avs = o :: l ∧ mv ≤ o.mv + 5 ∧ o.mv
      ≤ mv + 5) ∧
    (∃ (s : State) (o : AvsOp) (l : List AvsOp), s.phase = .run ∧ s.avs = o :: l ∧ o.attempts < 4) ∧
    (∃ (s : State) (o : AvsOp) (l : List AvsOp), s.avs = o :: l ∧ 4 ≤ o.attempts) ∧
    (∃ (s : State) (src : Requester) (v : Word), s.serves src ⟨.pwr, 0⟩ ∧ wrote v PWR.WAKE_CMD_KEY = 0xA5C3 ∧
      s.sleepBar = none) ∧
    (∃ (s : State) (_src reason : Nat) (v : Word), s.phase = .run ∧ wrote v PWR.WAKE_CMD_KEY = 0xA5C3 ∧ wroteB v
      PWR.WAKE_CMD_SLEEP = true ∧ s.sleepBar = some reason) ∧
    (∃ (s : State) (v : Word), s.phase = .wakeOnly ∧ s.srstBusy pwb = false ∧ s.fb pwb DEAL_CTL_STAGE = false ∧
      wrote v PWR.WAKE_CMD_KEY = 0xA5C3) ∧
    (∃ (s : State), s.phase = .wakeOnly) ∧
    (∃ (s : State) (deg : Int) (t : State), s.phase = .run ∧ t = s.did (fset pwb PWR.PWR_TEMP_DEG (tc 16 deg))) ∧
    (∃ (s : State), s.phase = .held) :=
  ⟨⟨bench [], .host, 0x0005, by decide +kernel⟩,
   ⟨bench [], 1, 0x0305, by decide +kernel⟩,
   ⟨bench [], 5, { st := 2, src := 1, off := 0, deal := none }, by decide +kernel⟩,
   ⟨bench [.pds 56 { st := 1 }], 56, 5, { st := 2, src := 1, off := 0, deal := none }, by decide +kernel⟩,
   ⟨bench [], 55, { st := 0, src := 1, off := 0, deal := none }, by decide +kernel⟩,
   ⟨bench [.pds 56 { st := 2, step := .quiesce }], 56, by decide +kernel⟩,
   ⟨bench [.pds 56 { st := 2, step := .quiesce }, .timers (tQuiesce 56) 5], 56, 7, by decide +kernel⟩,
   ⟨bench [.pds 56 { st := 2, step := .move, ask := { st := 1, src := 1, off := 0, deal := none } }], 56, by decide +kernel⟩,
   ⟨bench [.avs [{ mv := 700, prev := 720, domains := [], attempts := 1 }]], { mv := 700, prev := 720, domains := [], attempts := 1 }, [], 703, by decide +kernel⟩,
   ⟨bench [.avs [{ mv := 700, prev := 720, domains := [], attempts := 1 }]], { mv := 700, prev := 720, domains := [], attempts := 1 }, [], by decide +kernel⟩,
   ⟨bench [.avs [{ mv := 700, prev := 720, domains := [], attempts := 4 }]], { mv := 700, prev := 720, domains := [], attempts := 4 }, [], by decide +kernel⟩,
   ⟨(bench []).applyAll ((List.range 80).map fun d => .pds d (if d = 71 then { st := 2 } else { st := 0 })), .host, 0xA5C30000, by decide +kernel⟩,
   ⟨bench [], 1, 1, 0xA5C30001, by decide +kernel⟩,
   ⟨bench [.phase .wakeOnly], 0xA5C30000, by decide +kernel⟩,
   ⟨bench [.phase .wakeOnly], by decide +kernel⟩,
   ⟨bench [], 1200, (bench []).did (fset pwb PWR.PWR_TEMP_DEG (tc 16 1200)), by decide +kernel⟩,
   ⟨State.reset, by decide +kernel⟩⟩

/-- The premises of each clause of `Obligations.TheModuleStartsAndUpdatesItsFlash` are met. -/
theorem witness_TheModuleStartsAndUpdatesItsFlash :
    (∃ (s : State), s.phase = .held) ∧
    (∃ (s : State) (e : StepEnd) (k : Nat), s.phase = .run ∧ s.boot.step = some k ∧ e.cause = 0 ∧ (k ≠ 3 ∨ s.slotOk
      (s.fg btb BOOT.BOOT_STAT_SLOT) = true)) ∧
    (∃ (s : State) (e : StepEnd) (k : Nat), s.boot.step = some k ∧ s.phase = .run ∧ e.cause ≠ 0 ∧ k < 7 ∧ k ≠ 0 ∧
      (k ≠ 3 ∨ e.cause ≠ 6)) ∧
    (∃ (s : State) (_units k : Nat), s.phase = .run ∧ s.boot.step = some k ∧ k ≠ 9 ∧ s.running tStep = true) ∧
    (∃ (s : State), s.phase = .run ∧ s.running tRestart = true) ∧
    (∃ (s : State) (v : Word), s.serves .host ⟨.boot, 0⟩ ∧ wrote v BOOT.BOOT_CMD_KEY = 0x5A5A ∧ wroteB v
      BOOT.BOOT_CMD_SET_PREF = false) ∧
    (∃ (_s : State) (_src : Nat) (v : Word), wrote v BOOT.BOOT_CMD_KEY ≠ 0x5A5A) ∧
    (∃ (s : State) (v : Word), s.serves .host ⟨.boot, 0⟩ ∧ wrote v BOOT.BOOT_CMD_KEY = 0x5A5A ∧ wroteB v
      BOOT.BOOT_CMD_RESTART = false) ∧
    (∃ (s : State) (_v : Word), s.serves .host ⟨.boot, 0⟩) ∧
    (∃ (s : State) (_v : Word) (slot : Nat), s.serves .host ⟨.boot, 0⟩ ∧ s.fb btb BOOT.FL_STAT_BUSY = false ∧ s.fg
      btb BOOT.FL_ADDR_ADDR * 256 % 65536 = 0 ∧ flashSlot (s.fg btb BOOT.FL_ADDR_ADDR * 256) = some slot ∧ slot ≠
      s.fg btb BOOT.BOOT_STAT_SLOT) ∧
    (∃ (s : State) (_v : Word) (slot : Nat), s.serves .host ⟨.boot, 0⟩ ∧ s.fb btb BOOT.FL_STAT_BUSY = false ∧
      flashSlot (s.fg btb BOOT.FL_ADDR_ADDR * 256) = some slot ∧ slot ≠ s.fg btb BOOT.BOOT_STAT_SLOT) ∧
    (∃ (s : State) (_v : Word), s.serves .host ⟨.boot, 0⟩ ∧ s.fb btb BOOT.FL_STAT_BUSY = false) ∧
    (∃ (s : State) (_src cmd _slot addr : Nat), s.phase = .run ∧ cmd ≠ 3 ∧ (flashSlot addr = none ∨ flashSlot addr
      = some (s.fg btb BOOT.BOOT_STAT_SLOT))) ∧
    (∃ (s : State) (_src : Nat) (_v : Word), s.fb btb BOOT.FL_STAT_BUSY = true) ∧
    (∃ (s : State), s.phase = .run ∧ s.fb btb BOOT.FL_STAT_BUSY = true ∧ s.boot.flCmd = 2) :=
  ⟨⟨State.reset, by decide +kernel⟩,
   ⟨bench [.boot { step := some 8 }], { cause := 0, unit := 0, units := 0, pairs := 2, bin := 0, gb := 0, ranks := 1 }, 8, by decide +kernel⟩,
   ⟨bench [.boot { step := some 4 }], { cause := 2, unit := 3, units := 8, pairs := 2, bin := 0, gb := 0, ranks := 1 }, 4, by decide +kernel⟩,
   ⟨bench [.boot { step := some 4 }, .timers tStep 5], 8, 4, by decide +kernel⟩,
   ⟨bench [.timers tRestart 5], by decide +kernel⟩,
   ⟨bench [], 0x5A5A0000, by decide +kernel⟩,
   ⟨bench [], 1, 0, by decide +kernel⟩,
   ⟨bench [], 0x5A5A0000, by decide +kernel⟩,
   ⟨bench [put btb ⟨BOOT.BOOT_FB, 16, 2⟩ 1], 0x100, by decide +kernel⟩,
   ⟨bench [put btb BOOT.BOOT_STAT_SLOT 1], 0, 0, by decide +kernel⟩,
   ⟨bench [put btb BOOT.BOOT_STAT_SLOT 1], 0, 0, by decide +kernel⟩,
   ⟨bench [], 0, by decide +kernel⟩,
   ⟨bench [], 1, 1, 0, 0x3800000, by decide +kernel⟩,
   ⟨bench [put btb BOOT.FL_STAT_BUSY 1], 1, 1, by decide +kernel⟩,
   ⟨bench [put btb BOOT.FL_STAT_BUSY 1, .boot { flCmd := 2 }], by decide +kernel⟩⟩

/-- The premises of each clause of `Obligations.SecurityCommandsAnswer` are met. -/
theorem witness_SecurityCommandsAnswer :
    (∃ (s : State) (v : Word), s.serves .host ⟨.sec, 0⟩ ∧ wrote v SEC.SEC_CMD_KEY = 0x5A5A ∧ wroteB v
      SEC.SEC_CMD_PROVISION = false) ∧
    (∃ (s : State) (v : Word), s.serves .host ⟨.sec, 0⟩ ∧ wrote v SEC.SEC_CMD_KEY = 0x5A5A ∧ wroteB v
      SEC.SEC_CMD_SVN_COMMIT = false ∧ s.fuses.prov = false) ∧
    (∃ (s : State) (_src : Nat) (v : Word), wrote v SEC.SEC_CMD_KEY = 0x5A5A ∧ wroteB v SEC.SEC_CMD_SVN_COMMIT =
      false ∧ wroteB v SEC.SEC_CMD_PROVISION = true ∧ s.fuses.prov = true) ∧
    (∃ (s : State) (_v : Word), s.serves .host ⟨.sec, 0⟩ ∧ s.fb secb SEC.SEC_STAT_SIGN_BUSY = false ∧ s.fb secb
      SEC.SEC_STAT_RNG_OK = true) ∧
    (∃ (s : State) (_src : Nat), s.fb secb SEC.SEC_STAT_SIGN_BUSY = false ∧ s.fb secb SEC.SEC_STAT_RNG_OK = false) ∧
    (∃ (s : State) (nonce : List Byte) (i : Nat × Nat), s.phase = .run ∧ s.sec.att = some nonce ∧ s.sigIndex = some
      i ∧ i.2 ≠ 0) ∧
    (∃ (s : State) (nonce : List Byte) (i : Nat × Nat), s.sec.att = some nonce ∧ s.sigIndex = some i ∧ i.2 ≠ 0) ∧
    (∃ (s : State) (nonce : List Byte) (_ok : Bool), s.sec.att = some nonce ∧ s.sigIndex = none) ∧
    (∃ (s : State) (v : Word), s.serves .host ⟨.sec, 0⟩ ∧ wroteB v SEC.CHAL_CMD_CLOSE = false ∧ wroteB v
      SEC.CHAL_CMD_TOKEN_GO = false ∧ s.fb secb SEC.SEC_STAT_LOCKOUT = false ∧ s.fb secb SEC.SEC_STAT_RNG_OK = true) ∧
    (∃ (s : State) (_src _scope : Nat), s.fb secb SEC.SEC_STAT_LOCKOUT = true) ∧
    (∃ (s : State) (v : Word) (scope : Nat), s.serves .host ⟨.sec, 0⟩ ∧ wroteB v SEC.CHAL_CMD_CLOSE = false ∧
      wroteB v SEC.CHAL_CMD_GO = false ∧ s.fb secb SEC.SEC_STAT_SIGN_BUSY = false ∧ s.sec.nonce = some scope) ∧
    (∃ (s : State) (_src : Nat), s.fb secb SEC.SEC_STAT_SIGN_BUSY = false ∧ s.sec.nonce = none) ∧
    (∃ (s : State) (scope : Nat), s.phase = .run ∧ s.sec.token = true ∧ s.sec.nonce = some scope) ∧
    (∃ (s : State), s.phase = .run ∧ s.running tNonce = true) ∧
    (∃ (s : State) (v : Word), s.serves .host ⟨.sec, 0⟩ ∧ wroteB v SEC.CHAL_CMD_GO = false ∧ wroteB v
      SEC.CHAL_CMD_TOKEN_GO = false) ∧
    (∃ (s : State), s.up ⟨.sec, 0⟩ ∧ s.fb secb SEC.SEC_STAT_RNG_OK = true) ∧
    (∃ (s : State), s.up ⟨.sec, 0⟩ ∧ s.fb secb SEC.SEC_STAT_RNG_OK = false) ∧
    (∃ (s : State), s.phase = .run) ∧
    (∃ (s : State), s.up ⟨.sec, 0⟩) :=
  ⟨⟨bench [.regs (btb + BOOT.IMG_VER) 5], 0x5A5A0000, by decide +kernel⟩,
   ⟨bench [], 0x5A5A0000, by decide +kernel⟩,
   ⟨bench [.fuses { prov := true }], 1, 0x5A5A0000 ||| BitVec.ofNat 32 (2 ^ SEC.SEC_CMD_PROVISION.lo), by decide +kernel⟩,
   ⟨bench [put secb SEC.SEC_STAT_RNG_OK 1], 0, by decide +kernel⟩,
   ⟨bench [put secb SEC.SEC_STAT_RNG_OK 0], 1, by decide +kernel⟩,
   ⟨bench [.sec { att := some [], idx := some (3, 5) }], [], (3, 5), by decide +kernel⟩,
   ⟨bench [.sec { att := some [], idx := some (3, 5) }], [], (3, 5), by decide +kernel⟩,
   ⟨bench [.sec { att := some [] }, .fuses { top := 1024 }], [], true, by decide +kernel⟩,
   ⟨bench [put secb SEC.SEC_STAT_RNG_OK 1], 0, by decide +kernel⟩,
   ⟨bench [put secb SEC.SEC_STAT_LOCKOUT 1], 1, 1, by decide +kernel⟩,
   ⟨bench [.sec { nonce := some 1 }], 0, 1, by decide +kernel⟩,
   ⟨bench [], 1, by decide +kernel⟩,
   ⟨bench [.sec { token := true, nonce := some 1 }], 1, by decide +kernel⟩,
   ⟨bench [.timers tNonce 5], by decide +kernel⟩,
   ⟨bench [put secb SEC.SEC_STAT_SESSION 3], 0, by decide +kernel⟩,
   ⟨bench [put secb SEC.SEC_STAT_RNG_OK 1], by decide +kernel⟩,
   ⟨bench [put secb SEC.SEC_STAT_RNG_OK 0], by decide +kernel⟩,
   ⟨bench [put secb SEC.SEC_STAT_RNG_OK 1], by decide +kernel⟩,
   ⟨bench [], by decide +kernel⟩⟩

/-- The premises of each clause of `Obligations.ErrorsAreReportedAndIslandsReset` are met. -/
theorem witness_ErrorsAreReportedAndIslandsReset :
    (∃ (s : State) (src : Fin 17) (slot : BitVec 14) (_addr : BitVec 41) (_unit : Byte) (_loc : Nat) (p : Page),
      s.phase = .run ∧ pageAt (slot.toNat * 0x1000) = some p ∧ src.val ≠ 0) ∧
    (∃ (s : State) (e : ErrIn) (r : ErrRec), r = s.errRec e ∧ s.phase = .run ∧ r.esc = false ∧ r.shown = true ∧
      r.cls < 3 ∧ e.test = 0 ∧ r.cls < s.fg eb ERR.ERR_CFG_CALL_LEVEL) ∧
    (∃ (s : State), s.phase = .run) ∧
    (∃ (s : State) (n : Fin 25), s.phase = .run ∧ s.islandDue n = true ∧ s.resetting.contains n.val = false) ∧
    (∃ (s : State) (n : Fin 25), s.phase = .run ∧ s.resetting.contains n.val = true ∧ bitOf (s.reg (eb +
      ERR.ISL_FAILED)).toNat n = false) ∧
    (∃ (s : State) (n : Nat), s.resetting.contains n = true ∧ bitOf (s.reg (eb + ERR.ISL_FAILED)).toNat n = true) ∧
    (∃ (s : State), s.phase = .run ∧ (s.errs.any fun e => e.cls == 4 && !e.handled) = true) ∧
    (∃ (s : State) (v : Word), s.serves .host ⟨.err, 0⟩ ∧ wrote v ERR.ISL_CTL_KEY = 0x5A5A ∧ wroteB v
      ERR.ISL_CTL_RELEASE = false ∧ wrote v ERR.ISL_CTL_ISLAND ≤ 24 ∧ wrote v ERR.ISL_CTL_ISLAND ≠ 19 ∧ wrote v
      ERR.ISL_CTL_ISLAND ≠ 21 ∧ wrote v ERR.ISL_CTL_ISLAND ≠ 24) ∧
    (∃ (_s : State) (_src : Nat) (v : Word), wrote v ERR.ISL_CTL_KEY = 0x5A5A ∧ wroteB v ERR.ISL_CTL_RESET = true ∧
      wroteB v ERR.ISL_CTL_RELEASE = false ∧ (wrote v ERR.ISL_CTL_ISLAND = 19 ∨ wrote v ERR.ISL_CTL_ISLAND = 21 ∨
      wrote v ERR.ISL_CTL_ISLAND = 24)) ∧
    (∃ (_s : State) (_src : Nat) (v : Word), wrote v ERR.ISL_CTL_KEY ≠ 0x5A5A) ∧
    (∃ (s : State) (v : Word) (i : Nat), s.serves .host ⟨.err, 0⟩ ∧ wrote v ERR.ISL_CTL_KEY = 0x5A5A ∧ wroteB v
      ERR.ISL_CTL_RESET = false ∧ i = wrote v ERR.ISL_CTL_ISLAND ∧ bitOf (s.reg (eb + ERR.ISL_FAILED)).toNat i =
      true) ∧
    (∃ (s : State) (_src : Nat) (v : Word), wrote v ERR.ISL_CTL_KEY = 0x5A5A ∧ wroteB v ERR.ISL_CTL_RESET = false ∧
      wroteB v ERR.ISL_CTL_RELEASE = true ∧ bitOf (s.reg (eb + ERR.ISL_FAILED)).toNat (wrote v ERR.ISL_CTL_ISLAND) =
      false) ∧
    (∃ (s : State) (src : Requester) (e : ErrRec) (l : List ErrRec), s.serves src ⟨.err, 0⟩ ∧ s.queueOf (s.fg eb
      ERR.Q_SEL_ISLAND) = e :: l) ∧
    (∃ (s : State) (seq : BitVec 16) (e : ErrRec), s.phase = .run ∧ (s.errs.find? fun r => r.seq == seq.toNat &&
      r.result == 0) = some e) ∧
    (∃ (s : State) (seq : Nat) (e : ErrRec), (s.errs.find? fun r => r.seq == seq && r.result == 0) = some e ∧
      (e.test ≠ 1 ∨ s.repeated e = false)) ∧
    (∃ (s : State) (seq : BitVec 16), s.phase = .run ∧ s.running (errTimer seq.toNat) = true) ∧
    (∃ (s : State) (k : Fin 8) (_failed : BitVec 64) (q : Nat), s.phase = .run ∧ s.waitingTest 5 (fun e => e.island
      == 11 + k.val) = some q) :=
  ⟨⟨bench [], 9, BitVec.ofNat 14 (xb 0 / 4096), 64, 3, 7, ⟨.txd, 0⟩, by decide +kernel⟩,
   ⟨bench [put eb ERR.ERR_CFG_CALL_LEVEL 4], { src := 1, cls := 0, test := 0, island := 5, page := 0x1000 }, (bench [put eb ERR.ERR_CFG_CALL_LEVEL 4]).errRec { src := 1, cls := 0, test := 0, island := 5, page := 0x1000 }, by decide +kernel⟩,
   ⟨bench [], by decide +kernel⟩,
   ⟨(bench []).did (reportErr { src := 0, cls := 3, test := 0, island := 5, page := eb }), 5, by decide +kernel⟩,
   ⟨bench [.resetting [5]], 5, by decide +kernel⟩,
   ⟨bench [.resetting [5], .regs (eb + ERR.ISL_FAILED) 32], 5, by decide +kernel⟩,
   ⟨(bench []).did (report eWATCHDOG 19 0), by decide +kernel⟩,
   ⟨bench [], bitsPut 0x5A5A0000 ERR.ISL_CTL_ISLAND.lo ERR.ISL_CTL_ISLAND.w 5, by decide +kernel⟩,
   ⟨bench [], 1, bitsPut (bitsPut 0x5A5A0000 ERR.ISL_CTL_ISLAND.lo ERR.ISL_CTL_ISLAND.w 21) ERR.ISL_CTL_RESET.lo 1 1, by decide +kernel⟩,
   ⟨bench [], 1, 0, by decide +kernel⟩,
   ⟨bench [.regs (eb + ERR.ISL_FAILED) 32], bitsPut 0x5A5A0000 ERR.ISL_CTL_ISLAND.lo ERR.ISL_CTL_ISLAND.w 5, 5, by decide +kernel⟩,
   ⟨bench [], 1, bitsPut (bitsPut 0x5A5A0000 ERR.ISL_CTL_ISLAND.lo ERR.ISL_CTL_ISLAND.w 5) ERR.ISL_CTL_RELEASE.lo 1 1, by decide +kernel⟩,
   ⟨((bench []).did (report eWATCHDOG 19 0)).applyAll [put eb ERR.Q_SEL_ISLAND 19], .host, (((bench []).did (report eWATCHDOG 19 0)).errs.getD 0 ((bench []).errRec { src := 1, cls := 0, test := 0, island := 5, page := 0 })), [], by decide +kernel⟩,
   ⟨(bench []).did (report eESRAM_UE 16 0), 0, (((bench []).did (report eESRAM_UE 16 0)).errs.getD 0 ((bench []).errRec { src := 1, cls := 0, test := 0, island := 5, page := 0 })), by decide +kernel⟩,
   ⟨(bench []).did (report eESRAM_UE 16 0), 0, (((bench []).did (report eESRAM_UE 16 0)).errs.getD 0 ((bench []).errRec { src := 1, cls := 0, test := 0, island := 5, page := 0 })), by decide +kernel⟩,
   ⟨bench [.timers (errTimer 7) 5], 7, by decide +kernel⟩,
   ⟨(bench []).did (report eESRAM_UE 16 0), 5, 3, 0, by decide +kernel⟩⟩

/-- The premises of each clause of `Obligations.CallsLatchAndVectorsSend` are met. -/
theorem witness_CallsLatchAndVectorsSend :
    (∃ (s : State) (src : Requester) (_v : Word), s.serves src ⟨.snap, 0⟩) ∧
    (∃ (s : State) (src : Nat), bitOf (s.fg snb SNAP.SRC_EN_SRC) src = true ∧ s.callUp = false ∧ s.callRecent =
      false) ∧
    (∃ (s : State) (held : Nat) (_t : BitVec 64) (rising : Bool), s.phase = .run ∧ s.fb snb SNAP.CALL_IN_CFG_EN =
      true ∧ s.fb snb SNAP.CALL_IN_CFG_EDGE = rising ∧ s.fg snb SNAP.CALL_IN_CFG_MIN_W * 10 ≤ held) ∧
    (∃ (s : State) (held : Nat) (_t : BitVec 64) (rising : Bool), (s.fb snb SNAP.CALL_IN_CFG_EDGE ≠ rising ∨ held <
      s.fg snb SNAP.CALL_IN_CFG_MIN_W * 10)) ∧
    (∃ (s : State), s.phase = .run ∧ s.calls.ahead = [] ∧ s.calls.want ≠ 0 ∧ s.stSt ≠ kDEALER) ∧
    (∃ (s : State), s.calls.ahead = [] ∧ s.calls.want ≠ 0 ∧ s.stSt = kDEALER) ∧
    (∃ (s : State) (q : StackCall) (l : List StackCall), s.calls.ahead = q :: l ∧ q.t.toNat ≤ s.nowNs.toNat) ∧
    (∃ (s : State), s.phase = .run ∧ s.calls.pulse = true ∧ s.running tPulse = true) ∧
    (∃ (s : State) (a : BitVec 14) (_v : Word), s.phase = .run ∧ a.toNat < 0x1000 ∧ (a.toNat % 16 = 0 ∨ a.toNat %
      16 = 4 ∨ a.toNat % 16 = 8)) ∧
    (∃ (s : State) (a : BitVec 14) (v : Word) (t : State), s.phase = .run ∧ a.toNat < 0x1000 ∧ a.toNat % 16 = 12 ∧
      t = s.apply (.msix (a.toNat / 4) (v &&& 1)) ∧ t.msixMasked (a.toNat / 16) = false ∧ t.pba.getLsbD (a.toNat /
      16) = true) ∧
    (∃ (s : State) (_ok : Bool), s.phase = .run) :=
  ⟨⟨bench [.regs (snb + SNAP.SRC_EN) 0xFFFFFFFF], .host, 0, by decide +kernel⟩,
   ⟨bench [.regs (snb + SNAP.SRC_EN) 0xFFFFFFFF], 1, by decide +kernel⟩,
   ⟨bench [put snb SNAP.CALL_IN_CFG_EN 1], 90, 77, false, by decide +kernel⟩,
   ⟨bench [put snb SNAP.CALL_IN_CFG_EN 1], 90, 77, true, by decide +kernel⟩,
   ⟨bench [.calls { want := 2 }], by decide +kernel⟩,
   ⟨bench [.calls { want := 2 }, put vb0 VLG.STACK_STAT_STATE 2], by decide +kernel⟩,
   ⟨bench [.calls { ahead := [⟨5, 0, 2⟩] }], ⟨5, 0, 2⟩, [], by decide +kernel⟩,
   ⟨bench [.calls { pulse := true }, .timers tPulse 5], by decide +kernel⟩,
   ⟨bench [], 0x24, 0xFEE00003, by decide +kernel⟩,
   ⟨bench [.pba 4], 0x2C, 0, (bench [.pba 4]).apply (.msix 11 0), by decide +kernel⟩,
   ⟨bench [], false, by decide +kernel⟩⟩

/-- The premises of `Obligations.ResetHoldsTheModule` are met. -/
theorem witness_ResetHoldsTheModule :
    ∃ (s : State), s.pending = [] :=
  ⟨State.reset, by decide +kernel⟩

/-- The premises of `Obligations.MarkTimesOutOfRangeAreIgnored` are met. -/
theorem witness_MarkTimesOutOfRangeAreIgnored :
    ∃ (s : State) (src : Requester) (off : Nat) (v : Word), s.serves src ⟨.time, 0⟩ ∧ ((off = TIME.MARK_CFG ∧
      (wrote v TIME.MARK_CFG_LEAD < 8 ∨ wrote v TIME.MARK_CFG_MIN_MARKS = 0)) ∨ (off = TIME.COMMIT_LEAD ∧ (v.toNat <
      10000 ∨ 10000000 < v.toNat))) :=
  ⟨bench [], .host, TIME.COMMIT_LEAD, 9999, by decide +kernel⟩

/-- The premises of `Obligations.EveryStepKeepsTheStateCanonical` are met. -/
theorem witness_EveryStepKeepsTheStateCanonical :
    ∃ (s : State), s.wf = true :=
  ⟨{ (bench [.ddrMem 5 7, .regs 0x100 3]) with pending := [.freezeClose] }, by decide +kernel⟩

/-- The premises of each clause of `Obligations.TheQueueDrainsInOrder` are met. -/
theorem witness_TheQueueDrainsInOrder :
    (∃ (s : State), s.wf = true) ∧
    (∃ (s : State) (l m : List Instr), s.pending = l ++ m) :=
  ⟨⟨{ State.reset with pending := [.i2cReadTransfer, .freezeClose] }, by decide +kernel⟩,
   ⟨{ State.reset with pending := [.i2cReadTransfer, .freezeClose] }, [.i2cReadTransfer], [.freezeClose], by decide +kernel⟩⟩

end Sys2Proof.Tests
end

namespace Sys2Proof.Machine

/-! ## The queue and the part number -/

@[simp] theorem State.applyAll_pending (s : State) (l : List Eff) : (s.applyAll l).pending = s.pending := by
  induction l generalizing s with
  | nil => rfl
  | cons e l ih => rw [State.applyAll_cons, ih, State.apply_pending]

@[simp] theorem State.applyAll_part (s : State) (l : List Eff) : (s.applyAll l).part = s.part := by
  induction l generalizing s with
  | nil => rfl
  | cons e l ih => rw [State.applyAll_cons, ih, State.apply_part]

@[simp] theorem State.did_pending (s : State) (p : Prog) : (s.did p).pending = s.pending :=
  State.applyAll_pending s (p s)

@[simp] theorem State.did_part (s : State) (p : Prog) : (s.did p).part = s.part := State.applyAll_part s (p s)

@[simp] theorem State.settled_pending (s : State) : s.settled.pending = s.pending := State.did_pending s settle

@[simp] theorem State.settled_part (s : State) : s.settled.part = s.part := State.did_part s settle

theorem State.settled_wf {s : State} (h : s.wf = true) : s.settled.wf = true := State.wf_did s settle h

/-- The memories are among the maps whose form `State.wf` speaks of. -/
theorem Memory.wf_of_wf {s : State} (h : s.wf = true) : Memory.wf s = true := Memory.wf_did s skip h

/-- Every command answers what a program of changes, and the messages after it, make of the state. -/
theorem exec_next (i : Instr) (s : State) : ∃ p : Prog, exec i s = .next (s.did p).settled := by
  obtain ⟨p, hp⟩ := exec_run i s
  exact ⟨p, hp.trans (run_eq p s)⟩

/-- All that a step can do: a program of changes runs on the state with the front of its queue taken. -/
theorem step_next (s : State) :
    ∃ p : Prog, step s = .next (({ s with pending := s.pending.tail } : State).did p).settled := by
  obtain ⟨pending⟩ := s
  cases pending with
  | nil => exact ⟨tick, rfl⟩
  | cons c rest => exact exec_next c _

/-- What a step takes from the queue, and what it keeps. -/
theorem step_keeps (s : State) :
    ∃ t, step s = .next t ∧ t.pending = s.pending.tail ∧ t.part = s.part ∧ (s.wf = true → t.wf = true) := by
  obtain ⟨p, hp⟩ := step_next s
  refine ⟨_, hp, by simp, by simp, fun h => State.settled_wf (State.wf_did _ p h)⟩

/-- A run goes on from the state that its first step answers. -/
theorem run_succ_of_next (M : Host.Core) {s t : M.State} (h : M.step s = .next t) (k : Nat) :
    M.run (k + 1) s = M.run k t := by
  simp only [Host.Core.run, h]

/-- Serving the first commands of the queue leaves those that follow. -/
theorem run_serves (l m : List Instr) (s : State) (h : s.pending = l ++ m) :
    ∃ u, Sys2Proof.core.run l.length s = .next u ∧ u.pending = m ∧ u.part = s.part ∧ (s.wf = true → u.wf = true) := by
  induction l generalizing s with
  | nil => exact ⟨s, rfl, h, rfl, id⟩
  | cons c l ih =>
    obtain ⟨t, hstep, hpend, hpart, hwf⟩ := step_keeps s
    obtain ⟨u, hrun, hm, hpart', hwf'⟩ := ih t (by rw [hpend, h]; rfl)
    exact ⟨u, (run_succ_of_next Sys2Proof.core hstep l.length).trans hrun, hm, hpart'.trans hpart, hwf' ∘ hwf⟩

/-- Settles O59: a step is a program of changes, and each change keeps the canonical form. -/
theorem everyStepKeepsTheStateCanonical : Obligations.EveryStepKeepsTheStateCanonical := by
  intro s h
  obtain ⟨t, hstep, -, -, hwf⟩ := step_keeps s
  exact ⟨t, hstep, hwf h, Memory.wf_of_wf (hwf h)⟩

/-- Settles O60, by induction on the commands served. -/
theorem theQueueDrainsInOrder : Obligations.TheQueueDrainsInOrder := by
  refine ⟨fun s h => ?_, fun s l m h => ?_⟩
  · obtain ⟨u, hrun, hpend, hpart, hwf⟩ := run_serves s.pending [] s (List.append_nil _).symm
    exact ⟨u, hrun, hpend, hpart, hwf h⟩
  · obtain ⟨u, hrun, hpend, -, -⟩ := run_serves l m s h
    exact ⟨u, hrun, hpend⟩

/-- Settles O2: a command is a program of changes, none of which is of the queue or of the part number. -/
theorem everyCommandAnswersAndKeepsTheQueue : Obligations.EveryCommandAnswersAndKeepsTheQueue := by
  intro s i
  obtain ⟨p, hp⟩ := exec_next i s
  exact ⟨_, hp, by simp, by simp⟩

/-- Settles O1: the queue's form picks the branch of `step`. -/
theorem stepRunsTheFrontCommand : Obligations.StepRunsTheFrontCommand := by
  intro s c rest h
  rw [step, h]

/-! ## After reset (R17, R514) -/

/-- Power-on lists no register, so each reads as an unlisted one. -/
theorem reset_reg (a : Nat) : State.reset.reg a = regReset a := rfl

/-- An address of a page names the page's base and the offset. -/
theorem Page.base_add_mod (p : Page) {off : Nat} (h : off < 0x1000) : (p.base + off) % 0x1000 = off := by
  have := p.base_slot
  omega

/-- Settles O57: every map is empty, so reads give the reset values of the page's table. -/
theorem resetHoldsTheModule : Obligations.ResetHoldsTheModule := by
  refine ⟨⟨rfl, rfl, rfl, rfl⟩, fun p off r hp hlo hhi hr => ?_, fun p off hp hhi => ?_, fun s h => ?_⟩
  · have hctl : off ≠ oPAGE_CTL := by simp only [oPAGE_CTL]; omega
    simp only [reset_reg, regReset, hp, p.base_add_mod (show off < 0x1000 by omega), hr, if_neg hctl,
      if_neg (Nat.not_lt.mpr hlo)]
  · simp only [reset_reg, regReset, hp, p.base_add_mod (show off < 0x1000 by omega), if_pos hhi]
  · rw [step, h]
    rfl

/-! ## Slots and pages (R12) -/

/-- The page of an address begins at its slot. -/
theorem pageAt_base {a : Nat} {p : Page} (h : pageAt a = some p) : p.base = a / 0x1000 * 0x1000 := by
  simp only [pageAt] at h
  generalize a / 0x1000 = n at h ⊢
  split at h
  · -- device pages
    obtain ⟨k, hk, rfl⟩ := Option.map_eq_some_iff.mp h
    interval_cases n <;> cases hk <;> rfl
  split at h
  · -- pages of carriers, then those of subcarriers
    split at h
    · obtain ⟨k, hk, rfl⟩ := Option.map_eq_some_iff.mp h
      generalize hr : (n - 0x1000) % 0x100 = r at *
      interval_cases r <;> cases hk <;> simp only [Page.base, pageBase] <;> omega
    split at h
    · cases h
      simp only [Page.base, pageBase]
      omega
    · cases h
  · -- the pages that stand in a row of their own kind
    repeat' split at h
    all_goals simp only [Option.some.injEq, reduceCtorEq] at h
    all_goals
      subst h
      simp only [Page.base, pageBase]
      omega

/-- The page of an address is that of its slot. -/
theorem pageAt_slot {a b : Nat} (h : a / 0x1000 = b / 0x1000) : pageAt a = pageAt b := by
  simp only [pageAt, h]

theorem slotBase_div (page : BitVec 14) {off : Nat} (h : off < 0x1000) :
    (slotBase page + off) / 0x1000 = slotBase page / 0x1000 := by
  simp only [slotBase]
  omega

theorem base_of_slotBase {page : BitVec 14} {p : Page} (h : pageAt (slotBase page) = some p) :
    p.base = slotBase page := by
  rw [pageAt_base h, slotBase]
  omega

/-! ## Elementary programs -/

@[simp] theorem did_rset (s : State) (a : Nat) (v : Word) : s.did (rset a v) = s.apply (.regs a v) := rfl

@[simp] theorem did_const (s : State) (l : List Eff) : s.did (fun _ => l) = s.applyAll l := rfl

/-- A refusal counted: ERR_CNT saturates, ERR_LAST names offset, requester and code. -/
theorem did_errPage (s : State) (b off src code : Nat) :
    s.did (errPage b off src code) = s.applyAll
      [.regs (b + oERR_CNT) (BitVec.ofNat 32 (satAdd 32 (s.reg (b + oERR_CNT)).toNat 1)),
       .regs (b + oERR_LAST) (BitVec.ofNat 32 (off % 0x1000 * 2 ^ 20 + src % 256 * 2 ^ 8 + code))] := rfl

theorem did_raise (s : State) (b n : Nat) :
    s.did (raise b n) = s.applyAll (.regs (b + oINT_STAT) (s.reg (b + oINT_STAT) ||| BitVec.ofNat 32 (2 ^ n)) ::
      (if s.reg (b + oINT_STAT) = 0 then [.regs (b + oINT_FIRST) (BitVec.ofNat 32 (0x80000000 + n))] else [])) := rfl

theorem did_clearInt (s : State) (b : Nat) (v : Word) :
    s.did (clearInt b v) = s.applyAll (.regs (b + oINT_STAT) (s.reg (b + oINT_STAT) &&& ~~~v) ::
      (if s.reg (b + oINT_STAT) &&& ~~~v = 0 then [.regs (b + oINT_FIRST) 0] else [])) := rfl

/-- A register apart from the one written reads as before. -/
theorem apply_regs_reg_of_ne (s : State) {a k : Nat} (v : Word) (h : a ≠ k) :
    (s.apply (.regs k v)).reg a = s.reg a := by
  rw [State.apply_reg]
  exact if_neg h

/-! ## Accesses of the common header (R17, R20–R24) -/

theorem requesterId_lt (src : Requester) : src.id < 256 := by
  cases src <;> simp only [Requester.id] <;> omega

theorem eq_i2c_of_id {src : Requester} (h : src.id = 2) : src = .i2c := by
  cases src with
  | i2c => rfl
  | host | dealer | field => simp [Requester.id] at h
  | eng k => simp only [Requester.id] at h; omega

/-- The registers that only the host writes lie above the header. -/
theorem hostOnly_header (p : Page) {off : Nat} (h : off < 0x100) : hostOnly p off = false := by
  have h1 : off ≠ MGT.LOCK_BREAK := by simp only [MGT.LOCK_BREAK]; omega
  have h2 : off ≠ MGT.I2C_ADDR := by simp only [MGT.I2C_ADDR]; omega
  simp [hostOnly, h1, h2]

/-- A header write by a requester that may write the page reaches the header register. -/
theorem run_headCmd {s : State} {src : Requester} {page : BitVec 14} {p : Page} {off : Nat}
    (hp : pageAt (slotBase page) = some p) (hrun : s.phase = .run) (hpres : s.present p = true)
    (hsrc : src ≠ .i2c ∨ i2cWrites p = true) (v : Word) (ho : off < 0x100) :
    run (regCmd src (slotBase page) off v) s = .next (s.did (headWrite p src.id off v)).settled := by
  have hpa : pageAt (slotBase page + off) = some p :=
    (pageAt_slot (slotBase_div page (show off < 0x1000 by omega))).trans hp
  have hmod : (slotBase page + off) % 0x1000 = off := by
    rw [← base_of_slotBase hp, p.base_add_mod (by omega)]
  have hallow : ¬ ((src.id = 2 ∧ (!i2cWrites p) = true) ∨ (src.id ≠ 1 ∧ hostOnly p off = true)) := by
    rintro (⟨hid, hw⟩ | ⟨-, hh⟩)
    · rcases hsrc with hsrc | hsrc
      · exact hsrc (eq_i2c_of_id hid)
      · simp [hsrc] at hw
    · simp [hostOnly_header p ho] at hh
  rw [run_eq]
  simp only [State.did, regCmd, busWrite, hmod, hpa, hrun, hpres, if_neg hallow, if_pos ho, Bool.not_true,
    Bool.false_eq_true, if_false]

/-- PAGE_CTL written, step by step: ERR_CLR, then EN and CALL_EN, the refusal on a page whose EN is fixed, what a change
of EN brings about, and SRST. -/
theorem did_pageCtlWrite (s : State) (p : Page) (src : Nat) (v : Word) :
    s.did (pageCtlWrite p src v) =
      s.did (seqs [if v.getLsbD 3 then seqs [rset (p.base + oERR_CNT) 0, rset (p.base + oERR_LAST) 0] else skip,
        rset (p.base + oPAGE_CTL) (BitVec.ofNat 32 (b2n (v.getLsbD 0 || enFixed p) + b2n (v.getLsbD 2) * 4)),
        if !v.getLsbD 0 && enFixed p then errPage p.base oPAGE_CTL src cRO_WRITE else skip,
        if (v.getLsbD 0 || enFixed p) ≠ s.pageEn p.base then pageEval p else skip,
        if !v.getLsbD 1 then skip
        else if s.dealPending p.base then errPage p.base oPAGE_CTL src cSRST_REFUSED
        else if s.srstBusy p.base then skip
        else softReset p]) := rfl

/-- PAGE_CTL written with EN as it stands and 1. -/
theorem did_pageCtlWrite_enabled {s : State} {p : Page} {v : Word} (src : Nat) (hen : s.pageEn p.base = true)
    (hv : v.getLsbD 0 = true) :
    s.did (pageCtlWrite p src v) =
      s.did (seqs [if v.getLsbD 3 then seqs [rset (p.base + oERR_CNT) 0, rset (p.base + oERR_LAST) 0] else skip,
        rset (p.base + oPAGE_CTL) (if v.getLsbD 2 then 5 else 1),
        if !v.getLsbD 1 then skip
        else if s.dealPending p.base then errPage p.base oPAGE_CTL src cSRST_REFUSED
        else if s.srstBusy p.base then skip
        else softReset p]) := by
  have hword : BitVec.ofNat 32 (b2n true + b2n (v.getLsbD 2) * 4) = if v.getLsbD 2 then 5 else 1 := by
    cases v.getLsbD 2 <;> rfl
  rw [did_pageCtlWrite]
  simp only [hv, hen, Bool.true_or, Bool.not_true, Bool.false_and, ne_eq, not_true_eq_false, Bool.false_eq_true,
    if_false, hword, State.did_seqs_cons, State.did_skip]

theorem getLsbD_or_srst (v : Word) : (v ||| 2).getLsbD 0 = v.getLsbD 0 ∧ (v ||| 2).getLsbD 1 = true ∧
    (v ||| 2).getLsbD 2 = v.getLsbD 2 ∧ (v ||| 2).getLsbD 3 = v.getLsbD 3 := by simp

theorem getLsbD_or_errClr (v : Word) : (v ||| 8).getLsbD 0 = v.getLsbD 0 ∧ (v ||| 8).getLsbD 1 = v.getLsbD 1 ∧
    (v ||| 8).getLsbD 2 = v.getLsbD 2 ∧ (v ||| 8).getLsbD 3 = true := by simp

/-- A write of SRST with EN as it stands: the fields beside SRST take effect, then the reset is refused, is going on
already, or begins. -/
theorem did_srstWrite {s : State} {p : Page} {v : Word} (src : Nat) (hen : s.pageEn p.base = true)
    (hv : v.getLsbD 0 = true) (hclr : v.getLsbD 3 = false) :
    s.did (headWrite p src oPAGE_CTL (v ||| 2)) =
      (s.apply (.regs (p.base + oPAGE_CTL) (if v.getLsbD 2 then 5 else 1))).did
        (if s.dealPending p.base then errPage p.base oPAGE_CTL src cSRST_REFUSED
        else if s.srstBusy p.base then skip
        else softReset p) := by
  obtain ⟨h0, h1, h2, h3⟩ := getLsbD_or_srst v
  have hhead : headWrite p src oPAGE_CTL (v ||| 2) = pageCtlWrite p src (v ||| 2) := rfl
  rw [hhead, did_pageCtlWrite_enabled src hen (h0.trans hv), h1, h2, h3, hclr]
  simp only [Bool.false_eq_true, if_false, Bool.not_true, State.did_seqs_cons, State.did_seqs_nil, State.did_skip,
    did_rset]

/-- A change of another register leaves what the next refusal counts from. -/
theorem did_errPage_after {s : State} {a b off src code : Nat} (v : Word) (h : b + oERR_CNT ≠ a) :
    (s.apply (.regs a v)).did (errPage b off src code) = s.applyAll [.regs a v,
      .regs (b + oERR_CNT) (BitVec.ofNat 32 (satAdd 32 (s.reg (b + oERR_CNT)).toNat 1)),
      .regs (b + oERR_LAST) (BitVec.ofNat 32 (off % 0x1000 * 2 ^ 20 + src % 256 * 2 ^ 8 + code))] := by
  rw [did_errPage, apply_regs_reg_of_ne s v h]
  rfl

/-- EN and CALL_EN as PAGE_CTL stores them. -/
theorem pageCtl_word (v : Word) : BitVec.ofNat 32 (b2n (v.getLsbD 0) + b2n (v.getLsbD 2) * 4) = v &&& 5 := by
  have h5 : ∀ i < 32, (5 : Word).getLsbD i = (i == 0 || i == 2) := by decide
  refine BitVec.eq_of_getLsbD_eq fun i hi => ?_
  rw [BitVec.getLsbD_and, h5 i hi]
  by_cases h0 : i = 0
  · subst h0; cases v.getLsbD 0 <;> cases v.getLsbD 2 <;> rfl
  by_cases h2 : i = 2
  · subst h2; cases v.getLsbD 0 <;> cases v.getLsbD 2 <;> rfl
  have hz : ∀ i < 32, i ≠ 0 → i ≠ 2 → ∀ x y : Bool, (BitVec.ofNat 32 (b2n x + b2n y * 4)).getLsbD i = false := by decide
  simp [hz i hi h0 h2, h0, h2]

/-- PAGE_CTL written with a change of EN, where EN is not fixed, and neither SRST nor ERR_CLR. -/
theorem did_pageEnable {s : State} {p : Page} {v : Word} (src : Nat) (hfix : enFixed p = false)
    (hen : s.pageEn p.base ≠ v.getLsbD 0) (hsrst : v.getLsbD 1 = false) (hclr : v.getLsbD 3 = false) :
    s.did (headWrite p src oPAGE_CTL v) = (s.apply (.regs (p.base + oPAGE_CTL) (v &&& 5))).did (pageEval p) := by
  have hhead : headWrite p src oPAGE_CTL v = pageCtlWrite p src v := rfl
  rw [hhead, did_pageCtlWrite, ← pageCtl_word v]
  simp only [hfix, hsrst, hclr, Bool.or_false, Bool.and_false, Bool.false_eq_true, if_false, Bool.not_false, if_true,
    if_pos hen.symm, State.did_seqs_cons, State.did_seqs_nil, State.did_skip, did_rset]

/-- INT_STAT written: the bits named clear, and the write is noted for the messages that follow (R30). -/
theorem did_intStatWrite (s : State) (p : Page) (src : Nat) (v : Word) :
    s.did (headWrite p src oINT_STAT v) =
      s.applyAll ([.regs (p.base + oINT_STAT) (s.reg (p.base + oINT_STAT) &&& ~~~v)] ++
        (if s.reg (p.base + oINT_STAT) &&& ~~~v = 0 then [.regs (p.base + oINT_FIRST) 0] else []) ++
        [.intWrite true]) := by
  have hhead : headWrite p src oINT_STAT v = seqs [clearInt p.base v, fun _ => [.intWrite true]] := rfl
  rw [hhead, State.did_seqs_cons_pair, did_clearInt, did_const]
  exact (State.applyAll_append s (_ :: _) [.intWrite true]).symm

/-- A bit that a page implements lies in its mask. -/
theorem bit_and_intMask {p : Page} {n : Nat} (h : n < pageNumInt p) :
    BitVec.ofNat 32 (2 ^ n) &&& intMask p = BitVec.ofNat 32 (2 ^ n) := by
  refine BitVec.eq_of_getLsbD_eq fun i hi => ?_
  simp only [intMask, BitVec.getLsbD_and, BitVec.getLsbD_ofNat, hi, decide_true, Bool.true_and,
    Nat.testBit_two_pow_sub_one, Nat.testBit_two_pow]
  by_cases hin : n = i
  · simp [← hin, h]
  · simp [hin]

/-- A word with one bit raises that bit's event alone. -/
theorem did_raises_bit (s : State) (b : Nat) (n : Fin 32) :
    s.did (raises b (BitVec.ofNat 32 (2 ^ n.val))) = s.did (raise b n.val) := by
  have hone : ∀ n : Fin 32, (List.range 32).filter (bitOf (BitVec.ofNat 32 (2 ^ n.val)).toNat) = [n.val] := by decide
  rw [raises, hone, forP, List.map_singleton, State.did_seqs_cons, State.did_seqs_nil]

/-- INT_FORCE written with one bit that the page implements: as if its event had occurred (R21). -/
theorem did_intForce_bit (s : State) {p : Page} (src : Nat) {n : Fin 32} (h : n.val < pageNumInt p) :
    s.did (headWrite p src oINT_FORCE (BitVec.ofNat 32 (2 ^ n.val))) = s.did (raise p.base n.val) := by
  have hhead : headWrite p src oINT_FORCE (BitVec.ofNat 32 (2 ^ n.val)) =
      raises p.base (BitVec.ofNat 32 (2 ^ n.val) &&& intMask p) := rfl
  rw [hhead, bit_and_intMask h, did_raises_bit]

/-- OWNER written by a requester that may hold it, with its own ID or 0. -/
theorem did_ownerWrite_taken {s : State} {p : Page} {src : Nat} {v : Word}
    (hown : s.fg p.base OWNER_ID = 0 ∨ s.fg p.base OWNER_ID = src) (hid : bitsGet v 0 8 = 0 ∨ bitsGet v 0 8 = src) :
    s.did (headWrite p src oOWNER v) = s.apply (.regs (p.base + oOWNER) (BitVec.ofNat 32 (bitsGet v 0 8))) := by
  have hhead : headWrite p src oOWNER v = ownerWrite p src v := rfl
  simp only [hhead, State.did, ownerWrite, if_pos (And.intro hown hid)]
  rfl

/-- OWNER written while another requester holds it. -/
theorem did_ownerWrite_held {s : State} {p : Page} {src : Nat} (v : Word)
    (hfree : s.fg p.base OWNER_ID ≠ 0) (hown : s.fg p.base OWNER_ID ≠ src) :
    s.did (headWrite p src oOWNER v) = s.did (errPage p.base oOWNER src cNOT_OWNER) := by
  have hhead : headWrite p src oOWNER v = ownerWrite p src v := rfl
  have hno : ¬ ((s.fg p.base OWNER_ID = 0 ∨ s.fg p.base OWNER_ID = src) ∧ (bitsGet v 0 8 = 0 ∨ bitsGet v 0 8 = src)) :=
    fun h => h.1.elim hfree hown
  simp only [hhead, State.did, ownerWrite, if_neg hno]

/-- The end of a soft reset in progress. -/
theorem did_softResetDone {s : State} {page : BitVec 14} {p : Page} (hp : pageAt (slotBase page) = some p)
    (hbusy : s.srstBusy p.base = true) :
    s.did (softResetDone page.toNat) =
      (s.apply (.regs (p.base + oPAGE_STAT) (bitsPut (s.reg (p.base + oPAGE_STAT)) 1 1 0))).did (pageEval p) := by
  have hstart : s.did (softResetDone page.toNat) =
      s.did (seqs [fbset p.base PAGE_STAT_SRST_BUSY false, pageEval p]) := by
    rw [slotBase] at hp
    simp only [State.did, softResetDone, hp, hbusy, if_true]
  rw [hstart, State.did_seqs_cons_pair]
  rfl

/-- ERR_CLR with EN as it stands and no SRST. -/
theorem did_errClr {s : State} {p : Page} {v : Word} (src : Nat) (hen : s.pageEn p.base = true)
    (hv : v.getLsbD 0 = true) (hsrst : v.getLsbD 1 = false) :
    s.did (headWrite p src oPAGE_CTL (v ||| 8)) = s.applyAll [.regs (p.base + oERR_CNT) 0,
      .regs (p.base + oERR_LAST) 0, .regs (p.base + oPAGE_CTL) (if v.getLsbD 2 then 5 else 1)] := by
  obtain ⟨h0, h1, h2, h3⟩ := getLsbD_or_errClr v
  have hhead : headWrite p src oPAGE_CTL (v ||| 8) = pageCtlWrite p src (v ||| 8) := rfl
  rw [hhead, did_pageCtlWrite_enabled src hen (h0.trans hv), h1, h2, h3, hsrst]
  simp only [Bool.not_false, if_true, State.did_seqs_cons, State.did_seqs_nil, State.did_skip, did_rset,
    State.applyAll_cons, State.applyAll_nil]

/-- Settles O3: each write reaches its header register, whose lemma above says what becomes of it. -/
theorem headerWritesComplete : Obligations.HeaderWritesComplete := by
  refine ⟨fun s src page v p hp hrun hpres hsrc hv hen hsrst => ?_,
    fun s src page v p hp hrun hpres hsrc hv hen hclr hdeal hbusy => ?_,
    fun s page p hp hrun hbusy => ?_,
    fun s src page v p hp hrun hpres hsrc hfix hen hsrst hclr => ?_,
    fun s src page v p hp hrun hpres hsrc => ?_,
    fun s src page n p hp hrun hpres hsrc hn => ?_,
    fun s src page v p hp hrun hpres hsrc hown hid => ?_,
    fun s src page v p hp hrun hpres hsrc hfree hown => ?_⟩
  · exact (run_headCmd hp hrun hpres hsrc _ (by decide)).trans (by rw [did_errClr src.id hen hv hsrst])
  · exact (run_headCmd hp hrun hpres hsrc _ (by decide)).trans (by
      rw [did_srstWrite src.id hen hv hclr, hdeal, hbusy]; rfl)
  · exact (run_ev hrun _).trans (by rw [did_softResetDone hp hbusy])
  · exact (run_headCmd hp hrun hpres hsrc v (by decide)).trans (by rw [did_pageEnable src.id hfix hen hsrst hclr])
  · exact (run_headCmd hp hrun hpres hsrc v (by decide)).trans (by rw [did_intStatWrite])
  · exact (run_headCmd hp hrun hpres hsrc _ (by decide)).trans (by rw [did_intForce_bit s src.id hn, did_raise])
  · exact (run_headCmd hp hrun hpres hsrc v (by decide)).trans (by rw [did_ownerWrite_taken hown hid])
  · exact (run_headCmd hp hrun hpres hsrc v (by decide)).trans (by
      rw [did_ownerWrite_held v hfree hown, did_errPage, Nat.mod_eq_of_lt (requesterId_lt src)]; rfl)

/-- Settles O4: the three ends of a write of SRST. -/
theorem softResetRefusedWhileADealIsPending : Obligations.SoftResetRefusedWhileADealIsPending := by
  refine ⟨fun s src page v p hp hrun hpres hsrc hv hen hclr hdeal => ?_,
    fun s src page v p hp hrun hpres hsrc hv hen hclr hdeal hbusy => ?_⟩
  · have hcnt : p.base + oERR_CNT ≠ p.base + oPAGE_CTL := by simp only [oERR_CNT, oPAGE_CTL]; omega
    exact (run_headCmd hp hrun hpres hsrc _ (by decide)).trans (by
      rw [did_srstWrite src.id hen hv hclr, if_pos hdeal, did_errPage_after _ hcnt,
        Nat.mod_eq_of_lt (requesterId_lt src)]
      rfl)
  · exact (run_headCmd hp hrun hpres hsrc _ (by decide)).trans (by
      rw [did_srstWrite src.id hen hv hclr, hdeal, hbusy]; rfl)

/-! ## Event bits (R22) -/

theorem intStat_ne_intFirst : oINT_STAT ≠ oINT_FIRST := by decide

theorem raise_stat (s : State) (b n : Nat) :
    (s.did (raise b n)).reg (b + oINT_STAT) = s.reg (b + oINT_STAT) ||| BitVec.ofNat 32 (2 ^ n) := by
  rw [did_raise]
  split <;> simp [intStat_ne_intFirst]

theorem clearInt_stat (s : State) (b : Nat) (v : Word) :
    (s.did (clearInt b v)).reg (b + oINT_STAT) = s.reg (b + oINT_STAT) &&& ~~~v := by
  rw [did_clearInt]
  split <;> simp [intStat_ne_intFirst]

theorem clearInt_first (s : State) (b : Nat) (v : Word) :
    (s.did (clearInt b v)).reg (b + oINT_FIRST) =
      if s.reg (b + oINT_STAT) &&& ~~~v = 0 then 0 else s.reg (b + oINT_FIRST) := by
  rw [did_clearInt]
  split <;> simp [intStat_ne_intFirst.symm]

/-- An event of a page that is powered sets its bit. -/
theorem did_pageEvent {s : State} {page : BitVec 14} {n : Nat} {p : Page} (hp : pageAt (slotBase page) = some p)
    (hup : s.up p) (hn : n < pageNumInt p) : s.did (pageEvent page.toNat n) = s.did (raise p.base n) := by
  obtain ⟨-, hpres, hon⟩ := hup
  rw [slotBase] at hp
  simp only [State.did, pageEvent, hp, hpres, hon, hn, decide_true, Bool.and_self, if_true]

/-- Settles O6: an event is `raise`, whatever the bits were before it. -/
theorem eventSetsItsBitAndTheFirst : Obligations.EventSetsItsBitAndTheFirst := by
  refine ⟨fun s page n p hp hup hn => ?_, fun s b v n => ?_, fun s b v => clearInt_first s b v⟩
  · exact (run_ev hup.1 _).trans (by rw [did_pageEvent hp hup hn, did_raise])
  · rw [raise_stat, clearInt_stat]

/-! ## Soft reset of a page (R20) -/

/-- Registers written one after another, each with a value that its address gives. -/
theorem reg_applyAll_writes {α : Type} (s : State) (l : List α) (k : α → Nat) (f : Nat → Word) (a : Nat) :
    (s.applyAll (l.map fun x => .regs (k x) (f (k x)))).reg a = if a ∈ l.map k then f a else s.reg a := by
  induction l generalizing s with
  | nil => rfl
  | cons x l ih =>
    rw [List.map_cons, State.applyAll_cons, ih, State.apply_reg]
    by_cases hl : a ∈ l.map k
    · simp [hl]
    · by_cases hx : a = k x <;> simp [hl, hx]

theorem SMap.find_eq_none {α : Type} (m : List (Nat × α)) (k : Nat) (h : k ∉ m.map Prod.fst) :
    SMap.find m k = none := by
  induction m with
  | nil => rfl
  | cons e m ih =>
    obtain ⟨j, v⟩ := e
    rw [List.map_cons, List.mem_cons, not_or] at h
    obtain ⟨hj, hm⟩ := h
    rw [SMap.find, if_neg (Ne.symm hj), ih hm]

/-- A register that is not listed reads as its reset value. -/
theorem reg_of_not_listed {s : State} {a : Nat} (h : a ∉ s.regs.map Prod.fst) : s.reg a = regReset a := by
  rw [State.reg, SMap.get, SMap.find_eq_none _ _ h]

/-- After the registers of a page are cleared. -/
theorem reg_did_regsClear (s : State) (b a : Nat) (keep : List Nat) :
    (s.did (regsClear b keep)).reg a =
      if slotOf a = slotOf b ∧ 0x100 ≤ a % 0x1000 ∧ a % 0x1000 ∉ keep then regReset a else s.reg a := by
  rw [State.did, regsClear, reg_applyAll_writes s _ Prod.fst regReset]
  by_cases hsel : slotOf a = slotOf b ∧ 0x100 ≤ a % 0x1000 ∧ a % 0x1000 ∉ keep
  · rw [if_pos hsel]
    by_cases hlist : a ∈ s.regs.map Prod.fst
    · refine if_pos ?_
      obtain ⟨e, he, rfl⟩ := List.mem_map.mp hlist
      exact List.mem_map_of_mem (List.mem_filter.mpr ⟨he, by simpa [and_assoc] using hsel⟩)
    · rw [reg_of_not_listed hlist, ite_self]
  · rw [if_neg hsel]
    refine if_neg fun hmem => hsel ?_
    obtain ⟨e, he, rfl⟩ := List.mem_map.mp hmem
    simpa [and_assoc] using (List.mem_filter.mp he).2

/-- Changes that are not of registers leave every register. -/
theorem reg_applyAll_of_no_regs (s : State) (l : List Eff) (h : ∀ e ∈ l, ∀ k v, e ≠ .regs k v) (a : Nat) :
    (s.applyAll l).reg a = s.reg a := by
  induction l generalizing s with
  | nil => rfl
  | cons e l ih =>
    rw [State.applyAll_cons, ih _ fun x hx => h x (List.mem_cons_of_mem e hx), State.apply_reg]
    have he := h e (List.mem_cons_self)
    cases e <;> simp_all

/-- So does a list of such changes that is made from another list. -/
theorem reg_applyAll_map {α : Type} (s : State) (l : List α) (f : α → Eff) (h : ∀ x k v, f x ≠ .regs k v) (a : Nat) :
    (s.applyAll (l.map f)).reg a = s.reg a := by
  refine reg_applyAll_of_no_regs s _ (fun e he k v => ?_) a
  obtain ⟨x, -, rfl⟩ := List.mem_map.mp he
  exact h x k v

@[simp] theorem reg_did_tabsClear (s : State) (b : Nat) (keep : List Nat) (a : Nat) :
    (s.did (tabsClear b keep)).reg a = s.reg a := reg_applyAll_map s _ _ (by simp) a

@[simp] theorem reg_did_cntsClear (s : State) (b a : Nat) : (s.did (cntsClear b)).reg a = s.reg a :=
  reg_applyAll_map s _ _ (by simp) a

@[simp] theorem reg_did_timersClear (s : State) (b a : Nat) : (s.did (timersClear b)).reg a = s.reg a :=
  reg_applyAll_map s _ _ (by simp) a

/-- Of all that clearing a page does, only the clearing of its registers shows in registers. -/
theorem reg_did_pageClear (s : State) (b a : Nat) (keep tabsKept : List Nat) :
    (s.did (pageClear b keep tabsKept)).reg a = (s.did (regsClear b keep)).reg a := by
  simp only [pageClear, State.did_seqs_cons, State.did_seqs_nil, reg_did_timersClear, reg_did_cntsClear,
    reg_did_tabsClear]

/-- The pages whose soft reset evaluates no other page. -/
def resetsAlone (p : Page) : Prop := p = ⟨.cls, 0⟩ ∨ p = ⟨.qmg, 0⟩ ∨ p = ⟨.snap, 0⟩

/-- What such a page holds beside its registers shows in no register. -/
theorem reg_did_recClear {p : Page} (h : resetsAlone p) (s : State) (a : Nat) :
    (s.did (recClear p)).reg a = s.reg a := by
  rcases h with rfl | rfl | rfl
  · rfl
  · have hrec : recClear ⟨.qmg, 0⟩ = seqs [fun s => s.queues.map fun e => .queues e.1 {},
        fun s => s.scheds.map fun e => .scheds e.1 {}] := rfl
    rw [hrec, State.did_seqs_cons_pair]
    exact (reg_applyAll_map _ _ _ (by simp) a).trans (reg_applyAll_map s _ _ (by simp) a)
  · rfl

/-- The header words that a soft reset clears (R20). -/
def softZeroed : List Nat := [oINT_STAT, oINT_FIRST, oERR_CNT, oERR_LAST]

theorem mem_softZeroed (off : Nat) : off ∈ softZeroed ↔ off = 0x10 ∨ off = 0x1C ∨ off = 0x20 ∨ off = 0x24 := by
  simp [softZeroed, oINT_STAT, oINT_FIRST, oERR_CNT, oERR_LAST]

/-- A soft reset of such a page: SRST_BUSY is set, the page and what it holds are cleared, then the header words. -/
theorem did_softReset_alone {p : Page} (h : resetsAlone p) (s : State) :
    s.did (softReset p) = (((s.apply (.regs (p.base + oPAGE_STAT)
      (bitsPut (s.reg (p.base + oPAGE_STAT)) 1 1 1))).did (pageClear p.base [] [])).did (recClear p)).applyAll
        (softZeroed.map fun o => .regs (p.base + o) 0) := by
  have hclear : softClear p = seqs [skip, pageClear p.base [] [], recClear p, skip] := by
    rcases h with rfl | rfl | rfl <;> rfl
  have heval : pageEval p = skip := by rcases h with rfl | rfl | rfl <;> rfl
  simp only [softReset, hclear, heval, State.did_seqs_cons, State.did_seqs_nil, State.did_skip]
  rfl

/-- A soft reset of such a page, register by register. -/
theorem reg_did_softReset {p : Page} (h : resetsAlone p) (s : State) {off : Nat} (ho : off < 0x1000) :
    (s.did (softReset p)).reg (p.base + off) =
      if off ∈ softZeroed then 0
      else if 0x100 ≤ off then regReset (p.base + off)
      else if off = oPAGE_STAT then bitsPut (s.reg (p.base + oPAGE_STAT)) 1 1 1
      else s.reg (p.base + off) := by
  have hslot : slotOf (p.base + off) = slotOf p.base := by
    have := p.base_slot
    simp only [slotOf]
    omega
  have hzero : p.base + off ∈ softZeroed.map (p.base + ·) ↔ off ∈ softZeroed :=
    List.mem_map_of_injective (add_right_injective p.base)
  rw [did_softReset_alone h, reg_applyAll_writes _ softZeroed (p.base + ·) (fun _ => 0), reg_did_recClear h,
    reg_did_pageClear, reg_did_regsClear]
  simp only [hzero, hslot, p.base_add_mod ho, List.not_mem_nil, not_false_eq_true, and_true, true_and, State.apply_reg,
    Nat.add_left_cancel_iff]

/-- Settles O5: each offset falls in one of the cases of `reg_did_softReset`. -/
theorem softResetRestoresThePage : Obligations.SoftResetRestoresThePage := by
  intro s p off h ho
  refine ⟨fun hlo => ?_, fun hz => ?_, ?_, fun hk => ?_⟩
  · have hz : off ∉ softZeroed := by rw [mem_softZeroed]; omega
    rw [reg_did_softReset h s ho, if_neg hz, if_pos hlo]
  · have hmem : off ∈ softZeroed := by simpa [softZeroed] using hz
    rw [reg_did_softReset h s ho, if_pos hmem]
  · have hstat : (s.did (softReset p)).reg (p.base + oPAGE_STAT) = bitsPut (s.reg (p.base + oPAGE_STAT)) 1 1 1 := by
      rw [reg_did_softReset h s (by decide), if_neg (by decide), if_neg (by decide), if_pos rfl]
    have hbit : bitsGet (bitsPut (s.reg (p.base + oPAGE_STAT)) 1 1 1) 1 1 = 1 := bitsGet_put_same _ 1 1 1 (by decide)
    simp only [State.srstBusy, State.fb, State.fg, PAGE_STAT_SRST_BUSY, hstat, hbit]
    rfl
  · simp only [oPAGE_CTL, oINT_EN, oOWNER, oDEAL_CTL] at hk
    have hz : off ∉ softZeroed := by rw [mem_softZeroed]; omega
    have hlow : ¬ (0x100 ≤ off) := by omega
    have hstat : off ≠ oPAGE_STAT := by simp only [oPAGE_STAT]; omega
    rw [reg_did_softReset h s ho, if_neg hz, if_neg hlow, if_neg hstat]

/-! ## Accesses that no page takes (R14, R29, R11) -/

/-- An access counted in MGT: the count saturates, the address is named, BAD_ACCESS is set. -/
theorem did_badAcc (s : State) {a : Nat} (ha : a < 2 ^ 26) :
    s.did (badAcc false a) = s.applyAll
      ([.regs MGT.BAD_ACC_CNT (bitsPut (s.reg MGT.BAD_ACC_CNT) 0 32 (satAdd 32 (s.fg 0 MGT.BAD_ACC_CNT_COUNT) 1)),
        .regs MGT.BAD_ACC_ADDR (BitVec.ofNat 32 a), .regs oINT_STAT (s.reg oINT_STAT ||| 1)] ++
        (if s.reg oINT_STAT = 0 then [.regs oINT_FIRST 0x80000000] else [])) := by
  have hcnt : oINT_STAT ≠ MGT.BAD_ACC_CNT := by decide
  have haddr : oINT_STAT ≠ MGT.BAD_ACC_ADDR := by decide
  have hword : b2n false * 2 ^ 31 + a % 2 ^ 26 = a := by rw [Nat.mod_eq_of_lt ha]; simp [b2n]
  have hfield : s.did (fincSat 0 MGT.BAD_ACC_CNT_COUNT 1) = s.apply (.regs MGT.BAD_ACC_CNT
      (bitsPut (s.reg MGT.BAD_ACC_CNT) 0 32 (satAdd 32 (s.fg 0 MGT.BAD_ACC_CNT_COUNT) 1))) := by
    simp only [State.did, fincSat, fset, MGT.BAD_ACC_CNT_COUNT, Nat.zero_add, State.applyAll_cons, State.applyAll_nil]
  simp only [badAcc, State.did_seqs_cons, State.did_seqs_nil, hfield, did_rset, hword, did_raise, Nat.zero_add,
    apply_regs_reg_of_ne _ _ hcnt, apply_regs_reg_of_ne _ _ haddr]
  rfl

/-- A write to a slot without a page. -/
theorem did_busWrite_empty {s : State} {src a : Nat} (v : Word) (h : pageAt a = none) (hrun : s.phase = .run) :
    s.did (busWrite src a v) = s.did (badAcc false a) := by
  simp only [State.did, busWrite, hrun, h]

/-- An aligned read of 4 bytes: what the read does, and the word that its register shows. -/
theorem did_busRead_word {s : State} {src a : Nat} (ha : a < 2 ^ 26) (h4 : a % 4 = 0) :
    s.did (busRead src a 4) = (s.did (busReadFx src a)).apply (.rdata (s.busValue src a).toNat) := by
  have hcount : (a % 4 + 4 + 3) / 4 = 1 := by omega
  have haddr : (a / 4 * 4 + 4 * 0) % 2 ^ 26 = a := by omega
  have hval : (0 + (s.busValue src a).toNat * 2 ^ (32 * 0)) / 2 ^ (8 * (a % 4)) % 2 ^ (8 * 4) =
      (s.busValue src a).toNat := by
    have := (s.busValue src a).isLt
    rw [h4]
    omega
  have hone : s.did (busRead src a 4) = s.did (seqs [busReadFx src a,
      fun _ => [.rdata ((0 + (s.busValue src a).toNat * 2 ^ (32 * 0)) / 2 ^ (8 * (a % 4)) % 2 ^ (8 * 4))]]) := by
    simp only [State.did, busRead, hcount, readWords, haddr]
  rw [hone, State.did_seqs_cons_pair, hval]
  rfl

/-- Bytes written through BAR2 to a cluster that is closed, with the debug scope closed too. -/
theorem did_bar2Write_closed {s : State} {a : Nat} {x : List Byte} (hin : ¬ 0x4000000 ≤ a + x.length - 1)
    (hk : a / 0x800000 < 4 ∨ a / 0x800000 = 7) (hscope : s.scope 0 = false) :
    s.did (bar2Write a x) = s.did (badAcc true a) := by
  have hclosed : (decide (a / 0x800000 < 4) || a / 0x800000 == 7) = true := by simpa using hk
  simp only [State.did, bar2Write, if_neg hin, hclosed, hscope, Bool.not_false, true_or, and_self, if_true]

/-- Bytes written through BAR2 to memory that is open, of a cluster that is up and not loading. -/
theorem did_bar2Write_open {s : State} {a : Nat} {x : List Byte} (hin : ¬ 0x4000000 ≤ a + x.length - 1)
    (hlo : 4 ≤ a / 0x800000) (hhi : a / 0x800000 < 7) (hdata : a % 0x800000 < 0x400000 ∨ 0x8000 ≤ a % 0x10000)
    (hload : s.fb (enb (a / 0x800000)) ENG.CL_STAT_LOADING = false) (hup : s.clUp (a / 0x800000) = true) :
    s.did (bar2Write a x) = s.did (engStore (.die 0 a) x) := by
  have hopen : (decide (a / 0x800000 < 4) || a / 0x800000 == 7) = false := by
    simp only [Bool.or_eq_false_iff, decide_eq_false_iff_not, beq_eq_false_iff_ne]
    omega
  have hdata' : ¬ (0x400000 ≤ a % 0x800000 ∧ a % 0x10000 < 0x8000) := by omega
  simp only [State.did, bar2Write, if_neg hin, hopen, hdata', decide_false, hload, hup, Bool.false_eq_true, or_self,
    false_and, if_false, Bool.not_true]

/-- Settles O8: the empty slot's write and read, and BAR2 closed and open. -/
theorem badAccessIsCounted : Obligations.BadAccessIsCounted := by
  refine ⟨fun s a hp hrun => ?_, fun s a hp hrun h4 => ?_, fun s a bytes hrun hlen hne hk hscope => ?_,
    fun s a bytes hrun hlen hne hlo hhi hdata hload hup => ?_⟩
  · have hprog : exec (.emptySlotAccess a true) s = execEmptySlotAccess a true s := rfl
    rw [hprog, execEmptySlotAccess, hp, if_neg (by decide), if_pos rfl, run_eq,
      did_busWrite_empty 0 hp hrun, did_badAcc s a.isLt]
  · have hprog : exec (.emptySlotAccess a false) s = execEmptySlotAccess a false s := rfl
    have hval : s.busValue 1 a.toNat = 0 := by simp only [State.busValue, hrun, hp]
    have hfx : s.did (busReadFx 1 a.toNat) = s.did (badAcc false a.toNat) := by
      simp only [State.did, busReadFx, hrun, hp]
    rw [hprog, execEmptySlotAccess, hp, if_neg (by decide), if_neg (by decide), run_eq,
      did_busRead_word a.isLt h4, hval, hfx]
    rfl
  · have hin : ¬ 0x4000000 ≤ a.toNat + bytes.length - 1 := by
      have := List.length_pos_of_ne_nil hne
      omega
    exact (run_ev hrun _).trans (by rw [did_bar2Write_closed hin hk hscope])
  · have hin : ¬ 0x4000000 ≤ a.toNat + bytes.length - 1 := by
      have := List.length_pos_of_ne_nil hne
      omega
    exact (run_ev hrun _).trans (by rw [did_bar2Write_open hin hlo hhi hdata hload hup])

/-! ## Lock break (R25, R29) -/

/-- A register write of a page that starts and stops no chain is the register's own effect. -/
theorem did_pageWrite_of_no_chain {s : State} {p : Page} (h : p.kind = .mgt ∨ p.kind = .ddr) (src : Nat) (staged : Bool)
    (r : RegRow) (v : Word) : s.did (pageWrite p src staged r v) = s.did (regWrite p src staged r v) := by
  rw [pageWrite, State.did_seqs_cons_pair]
  rcases h with h | h <;> rw [h] <;> rfl

/-- The row of LOCK_BREAK. -/
def lockBreakRow : RegRow := ⟨0x110, 0x0, 0xFFFFFFFF, 0x0, false⟩

theorem regRow_lockBreak : regRow ⟨.mgt, 0⟩ MGT.LOCK_BREAK = some lockBreakRow := by decide

/-- A host's write of LOCK_BREAK reaches the register. -/
theorem did_lockBreakCmd {s : State} (v : Word) (h : s.serves .host ⟨.mgt, 0⟩) :
    s.did (regCmd .host 0 MGT.LOCK_BREAK v) = s.did (lockBreak v) := by
  have hlive : s.did (regCmd .host 0 MGT.LOCK_BREAK v) = s.did (pageWrite ⟨.mgt, 0⟩ 1 false lockBreakRow v) :=
    did_regCmd v h (by decide) (by decide) (by decide) regRow_lockBreak (.inr (by decide)) (by decide)
  rw [hlive, did_pageWrite_of_no_chain (.inl rfl)]
  rfl

/-- The lock of a page that LOCK_BREAK may name. -/
theorem did_lockBreak_page {s : State} {v : Word} {p : Page} (hp : pageAt p.base = some p) (hsec : p.kind ≠ .sec)
    (hv : v.toNat = p.base) :
    s.did (lockBreak v) = if s.fg p.base OWNER_ID = 0 then s
      else (s.apply (.regs (p.base + oOWNER) (bitsPut (s.reg (p.base + oOWNER)) 0 8 0))).did
        (errPage p.base oOWNER 1 cLOCK_BROKEN) := by
  have hno : ¬ (p.base ≠ p.base ∨ p.kind = .sec) := by simp [hsec]
  have hprog : s.did (lockBreak v) = s.did (if s.fg p.base OWNER_ID = 0 then skip
      else seqs [fset p.base OWNER_ID 0, errPage p.base oOWNER 1 cLOCK_BROKEN]) := by
    simp only [State.did, lockBreak, hv, hp, if_neg hno]
    split <;> rfl
  rw [hprog, State.did_ite, State.did_seqs_cons_pair]
  rfl

/-- A value that is no page's base, or SEC's. -/
theorem did_lockBreak_refused {s : State} {v : Word} (h : ∀ p ∈ pageAt v.toNat, p.base ≠ v.toNat ∨ p.kind = .sec) :
    s.did (lockBreak v) = s.did (badAcc false MGT.LOCK_BREAK) := by
  cases hp : pageAt v.toNat with
  | none => simp only [State.did, lockBreak, hp]
  | some p => simp only [State.did, lockBreak, hp, if_pos (h p hp)]

/-- Settles O7: the host's write reaches `lockBreak`; another requester's is stopped before it. -/
theorem ownerLockFreedByTheHost : Obligations.OwnerLockFreedByTheHost := by
  refine ⟨fun s p hp hsec hlt hserve hown => ?_, fun s p hp hsec hlt hserve hown => ?_, fun s v h hserve => ?_,
    fun s src v hsrc hrun => ?_⟩
  · have hcnt : p.base + oERR_CNT ≠ p.base + oOWNER := by simp only [oERR_CNT, oOWNER]; omega
    refine (run_eq _ s).trans ?_
    rw [did_lockBreakCmd _ hserve, did_lockBreak_page hp hsec (BitVec.toNat_ofNat .. |>.trans (Nat.mod_eq_of_lt hlt)),
      if_neg hown, did_errPage_after _ hcnt]
    rfl
  · refine (run_eq _ s).trans ?_
    rw [did_lockBreakCmd _ hserve, did_lockBreak_page hp hsec (BitVec.toNat_ofNat .. |>.trans (Nat.mod_eq_of_lt hlt)),
      if_pos hown]
  · refine (run_eq _ s).trans ?_
    rw [did_lockBreakCmd v hserve, did_lockBreak_refused h]
  · have hid : src.id ≠ 1 := by cases src <;> simp_all [Requester.id]; omega
    have hpage : pageAt (0 + MGT.LOCK_BREAK) = some ⟨.mgt, 0⟩ := by decide
    have hstop : (src.id = 2 ∧ (!i2cWrites ⟨.mgt, 0⟩) = true) ∨
        (src.id ≠ 1 ∧ hostOnly ⟨.mgt, 0⟩ ((0 + MGT.LOCK_BREAK) % 0x1000) = true) := .inr ⟨hid, by decide⟩
    refine (run_eq _ s).trans ?_
    simp only [State.did, regCmd, busWrite, hrun, hpage, if_pos hstop]
    rfl

/-! ## Register writes of any size (R13, R16, R20, R23) -/

/-- An aligned write of 4 bytes. -/
theorem did_busWriteN_word (s : State) (src : Nat) {a : Nat} {l : List Byte} (hl : l.length = 4) (ha : a < 2 ^ 26)
    (h4 : a % 4 = 0) : s.did (busWriteN src a l) = s.did (busWrite src a (wordAt l 0)) := by
  simp only [State.did, busWriteN, Nat.mod_eq_of_lt ha, if_pos (And.intro hl h4)]

/-- A number below 2^32 is the sum of its four bytes in their places. -/
theorem sum_of_bytes {n : Nat} (h : n < 2 ^ 32) :
    n % 256 + n / 256 % 256 * 256 + n / 65536 % 256 * 65536 + n / 16777216 % 256 * 16777216 = n := by
  omega

/-- The four bytes of a word spell it. -/
theorem wordAt_bytesLE (v : Word) : wordAt (bytesLE 4 v.toNat) 0 = v := by
  have hrange : List.range 4 = [0, 1, 2, 3] := rfl
  have hsum := sum_of_bytes v.isLt
  simp only [wordAt, bytesLE, hrange, List.map_cons, List.map_nil, List.foldl_cons, List.foldl_nil, List.getD_cons_zero,
    List.getD_cons_succ, BitVec.toNat_ofNat, Nat.zero_add, Nat.reducePow, Nat.reduceMul, Nat.div_one, Nat.mul_one, hsum]
  exact BitVec.ofNat_toNat 32 v

/-- A write by the host at 0x100 or above of a populated page passes the checks of requesters. -/
theorem did_hostWrite_block {s : State} {a : Nat} {p : Page} (v : Word) (hp : pageAt a = some p) (hrun : s.phase = .run)
    (hpres : s.present p = true) (hlo : 0x100 ≤ a % 0x1000) :
    s.did (busWrite 1 a v) = s.did (blockWrite p 1 (a % 0x1000) v) := by
  have hallow : ¬ (((1 : Nat) = 2 ∧ (!i2cWrites p) = true) ∨ ((1 : Nat) ≠ 1 ∧ hostOnly p (a % 0x1000) = true)) := by
    simp
  simp only [State.did, busWrite, hrun, hp, if_neg hallow, hpres, Bool.not_true, Bool.false_eq_true, if_false,
    if_neg (Nat.not_lt.mpr hlo)]

/-- An aligned write of 4 bytes by the host at 0x100 or above comes to the page's block. -/
theorem did_hostRegisterWrite {s : State} {a : BitVec 26} {bytes : List Byte} {p : Page} (hp : pageAt a.toNat = some p)
    (hrun : s.phase = .run) (hpres : s.present p = true) (h4 : a.toNat % 4 = 0) (hl : bytes.length = 4)
    (hlo : 0x100 ≤ a.toNat % 0x1000) :
    s.did (busWriteN Requester.host.id a.toNat bytes) =
      s.did (blockWrite p 1 (a.toNat % 0x1000) (wordAt bytes 0)) :=
  (did_busWriteN_word s 1 hl a.isLt h4).trans (did_hostWrite_block _ hp hrun hpres hlo)

theorem did_blockWrite_off {s : State} {p : Page} (src off : Nat) (v : Word) (hon : s.pageOn p = false) :
    s.did (blockWrite p src off v) = s.did (errPage p.base off src cPAGE_OFF) := by
  simp only [State.did, blockWrite, hon, Bool.not_false, if_true]

theorem did_blockWrite_busy {s : State} {p : Page} (src off : Nat) (v : Word) (hon : s.pageOn p = true)
    (hbusy : s.srstBusy p.base = true) :
    s.did (blockWrite p src off v) = s.did (errPage p.base off src cSRST_BUSY) := by
  simp only [State.did, blockWrite, hon, hbusy, Bool.not_true, Bool.false_eq_true, if_false, if_true]

/-- A host's write of a register, staging off, of a page that answers. -/
theorem did_blockWrite_live {s : State} {p : Page} {off : Nat} (v : Word) (hserve : s.serves .host p)
    (hhi : off < 0x800) :
    s.did (blockWrite p 1 off v) = s.did (liveWrite p 1 off v) := by
  obtain ⟨-, -, hon, hbusy, hstage, -⟩ := hserve
  simp only [State.did, blockWrite, hon, hbusy, hstage, if_neg (Nat.not_le.mpr hhi), Bool.not_true, Bool.false_eq_true,
    if_false, ne_eq, not_true_eq_false, and_false]

theorem liveWrite_unmapped {p : Page} {off : Nat} (src : Nat) (v : Word) (hr : regRow p off = none) :
    liveWrite p src off v = errPage p.base off src cUNMAPPED := by
  simp only [liveWrite, hr]

theorem liveWrite_readOnly {p : Page} {off : Nat} {r : RegRow} (src : Nat) (v : Word) (hr : regRow p off = some r)
    (hrw : r.rw = 0) (hw1 : r.w1 = 0) : liveWrite p src off v = errPage p.base off src cRO_WRITE := by
  simp only [liveWrite, hr, hrw, hw1, and_self, if_true]

/-- A write of 1 or 2 bytes by the host. -/
theorem did_busWriteN_short {s : State} {a : Nat} {l : List Byte} {p : Page} (hl : l.length = 1 ∨ l.length = 2)
    (ha : a < 2 ^ 26) (hp : pageAt a = some p) (hrun : s.phase = .run) (hpres : s.present p = true) :
    s.did (busWriteN 1 a l) = s.did (errPage p.base (a % 0x1000) 1 cSUBWORD) := by
  have h4 : ¬ (l.length = 4 ∧ a % 4 = 0) := by omega
  have h8 : ¬ (l.length = 8 ∧ a % 8 = 0) := by omega
  have hsrc : ¬ ((1 : Nat) = 2 ∧ (!i2cWrites p) = true) := by simp
  simp only [State.did, busWriteN, Nat.mod_eq_of_lt ha, if_neg h4, if_neg h8, hrun, hp, if_neg hsrc, hpres,
    Bool.not_true, Bool.false_eq_true, if_false]

/-- A register's row is that of its offset. -/
theorem regRow_off {p : Page} {off : Nat} {r : RegRow} (h : regRow p off = some r) : r.off = off := by
  simpa using List.find?_some h

/-- The slot of a DDRn page holds it, at every offset. -/
theorem pageAt_ddr (n : Fin 16) {off : Nat} (h : off < 0x1000) :
    pageAt (pageBase .ddr n.val + off) = some ⟨.ddr, n.val⟩ := by
  have hslot : (pageBase .ddr n.val + off) / 0x1000 = pageBase .ddr n.val / 0x1000 := by
    simp only [pageBase]
    omega
  have hall : ∀ n : Fin 16, pageAt (pageBase .ddr n.val) = some ⟨.ddr, n.val⟩ := by decide
  rw [pageAt_slot hslot, hall n]

/-- A plain register without limits takes the written value in its writable bits. -/
theorem did_plainWrite (s : State) (b : Nat) (r : RegRow) (v : Word) :
    s.did (plainWrite b r [] v) = s.apply (.regs (b + r.off) (r.merge (s.reg (b + r.off)) v)) := rfl

/-- A host's write of a writable register of a DDRn page. -/
theorem did_ddrWrite {s : State} {n : Fin 16} {off : Nat} {r : RegRow} (v : Word)
    (hserve : s.serves .host ⟨.ddr, n.val⟩) (hlo : 0x100 ≤ off) (hhi : off < 0x800)
    (hr : regRow ⟨.ddr, n.val⟩ off = some r) (hrw : r.rw ≠ 0) :
    s.did (regCmd .host (pageBase .ddr n.val) off v) = s.apply (.regs (pageBase .ddr n.val + off)
      (r.merge (s.reg (pageBase .ddr n.val + off)) v)) := by
  have hlive := did_regCmd v hserve (pageAt_ddr n (by omega)) hlo hhi hr (.inl hrw) nofun
  have hplain : s.did (regWrite ⟨.ddr, n.val⟩ 1 false r v) = s.did (plainWrite (pageBase .ddr n.val) r [] v) := rfl
  rw [← regRow_off hr] at hlive ⊢
  exact hlive.trans ((did_pageWrite_of_no_chain (.inr rfl) 1 false r v).trans (hplain.trans (did_plainWrite _ _ _ _)))

/-- Settles O9: the checks of an access in their order, then the register. -/
theorem ordinaryRegisterWrites : Obligations.OrdinaryRegisterWrites := by
  refine ⟨fun s a bytes p hp hrun hpres h4 hl hlo hon _ => ?_, fun s a bytes p hp hrun hpres h4 hl hlo hon hbusy => ?_,
    fun s a bytes p hp hserve h4 hl hlo hhi hr => ?_, fun s a bytes p r hp hserve h4 hl hlo hhi hr hrw hw1 => ?_,
    fun s a bytes p hp hrun hpres hl => ?_, fun s n off v r hserve hhi hlo h4 hr hrw => ?_⟩
  all_goals refine (run_eq _ s).trans ?_
  · rw [did_hostRegisterWrite hp hrun hpres h4 hl hlo, did_blockWrite_off _ _ _ hon]
    rfl
  · rw [did_hostRegisterWrite hp hrun hpres h4 hl hlo, did_blockWrite_busy _ _ _ hon hbusy]
    rfl
  · rw [did_hostRegisterWrite hp hserve.1 hserve.2.1 h4 hl hlo, did_blockWrite_live _ hserve hhi,
      liveWrite_unmapped _ _ hr]
    rfl
  · rw [did_hostRegisterWrite hp hserve.1 hserve.2.1 h4 hl hlo, did_blockWrite_live _ hserve hhi,
      liveWrite_readOnly _ _ hr hrw hw1]
    rfl
  · rw [Requester.id, did_busWriteN_short hl a.isLt hp hrun hpres]
    rfl
  · have hlt : pageBase .ddr n.val + off < 2 ^ 26 := by simp only [pageBase]; omega
    have haddr : (BitVec.ofNat 26 (0x2800000 + n.val * 0x1000 + off)).toNat = pageBase .ddr n.val + off :=
      (BitVec.toNat_ofNat ..).trans (Nat.mod_eq_of_lt hlt)
    have h4' : (pageBase .ddr n.val + off) % 4 = 0 := by simp only [pageBase]; omega
    have hlen : (bytesLE 4 v.toNat).length = 4 := by rw [bytesLE, List.length_map, List.length_range]
    rw [haddr, did_busWriteN_word s Requester.host.id hlen hlt h4', wordAt_bytesLE]
    exact congrArg (fun t => Host.Outcome.next t.settled) (did_ddrWrite v hserve hlo hhi hr hrw)

/-! ## The side bus (R31) -/

/-- What a write transfer does: the offset is kept, and 4 data bytes are written where they are sent. -/
theorem did_i2cTransfer (s : State) (l : List Byte) :
    s.did (i2cTransfer l) = (s.apply (.i2c (wordAt l 0).toNat)).did
      (if l.length ≠ 8 then skip
      else if 2 ^ 26 ≤ (wordAt l 0).toNat then ev (badAcc false (wordAt l 0).toNat)
      else busWriteN 2 (wordAt l 0).toNat (l.drop 4)) := by
  rw [i2cTransfer, State.did_seqs_cons_pair]
  rfl

/-- A page without effects of reads shows its register to I2C, as a plain read does. -/
theorem did_i2cRead {s : State} {p : Page} {r : RegRow} (hrun : s.phase = .run) (ha : s.i2c < 2 ^ 26)
    (h4 : s.i2c % 4 = 0) (hp : pageAt s.i2c = some p) (hread : i2cReads p (s.i2c % 0x1000) = true)
    (hk : p.kind = .opt ∨ p.kind = .pwr) (hlo : 0x100 ≤ s.i2c % 0x1000) (hhi : s.i2c % 0x1000 < 0x800)
    (hr : regRow p (s.i2c % 0x1000) = some r) :
    s.did i2cRead = s.apply (.rdata (s.regRead p (s.i2c % 0x1000)).toNat) := by
  have hin : s.did i2cRead = s.did (busRead 2 s.i2c 4) := by
    simp only [State.did, i2cRead, if_neg (Nat.not_le.mpr ha)]
  have hnofx : regReadFx p 2 (s.i2c % 0x1000) = skip := by
    rcases hk with hk | hk <;> simp only [regReadFx, hk]
  have hval : s.busValue 2 s.i2c = s.regRead p (s.i2c % 0x1000) := by
    simp only [State.busValue, hrun, hp, hread, Bool.not_true, Bool.false_eq_true, and_false, if_false, State.pageRead,
      if_neg (Nat.not_lt.mpr hlo), if_pos hhi]
  have hfx : s.did (busReadFx 2 s.i2c) = s := by
    simp only [State.did, busReadFx, hrun, hp, hread, Bool.not_true, Bool.false_eq_true, and_false, if_false,
      if_pos hhi, hr, Option.isSome_some, if_true, hnofx]
    split <;> rfl
  rw [hin, did_busRead_word ha h4, hfx, hval]

/-- Settles O12: an offset alone, an offset and data, a read. -/
theorem transfersOfTheSideBus : Obligations.TransfersOfTheSideBus := by
  refine ⟨fun s bytes hl => ?_, fun s bytes hl ha h4 => ?_, fun s p r hrun ha h4 hp hread hk hlo hhi hr => ?_⟩
  all_goals refine (run_eq _ s).trans ?_
  · have hno : bytes.length ≠ 8 := by omega
    rw [did_i2cTransfer, if_pos hno, State.did_skip]
  · have hdata : (bytes.drop 4).length = 4 := by rw [List.length_drop, hl]
    rw [did_i2cTransfer, if_neg (not_not_intro hl), if_neg (Nat.not_le.mpr ha), did_busWriteN_word _ 2 hdata ha h4]
  · rw [did_i2cRead hrun ha h4 hp hread hk hlo hhi hr]

/-! ## Suit and pair tables (R215, R217, R234, R237, R239, R241) -/

/-- A window word written after its entry is selected, with what the page's evaluation and the index do then. -/
theorem run_winCmd {s t : State} {src : Requester} {p : Page} {tbl e : Nat} {q : Nat × Nat} {v : Word} {fx : Prog}
    (h : s.windowServes src p) (hp : pageAt (p.base + oWIN_SEL) = some p) (hp' : pageAt (p.base + oWIN_DATA 0) = some p)
    (hw : pageWindow p = true) (hq : winTable p tbl = some q) (he : e < q.1) (hc : 0 < q.2) (ht : tbl < 256)
    (he' : e < 2 ^ 24) (hsel : t = s.select p tbl e) (hfx : t.did (pageTabWrite p src.id tbl e 0 v) = t.did fx) :
    run (winCmd src p.base tbl e 0 v) s = .next ((t.did fx).winDone p 0) := by
  rw [run_eq, did_winCmd v h hp hp' hw hq he hc (by decide) ht he', ← hsel, hfx]
  rfl

/-- A write of a table word of SUIT or TSH, and the evaluation of the page that follows it. -/
theorem did_pageTabWrite {s : State} {p : Page} {src t e : Nat} {v : Word} {fx : Prog}
    (hk : p.kind = .suit ∨ p.kind = .tsh) (h : s.did (tabWrite p src t e 0 v) = s.did fx) :
    s.did (pageTabWrite p src t e 0 v) = s.did (seqs [fx, pageEval p]) := by
  rw [State.did_seqs_cons_pair, ← h, ← State.did_seqs_cons_pair, pageTabWrite]
  rcases hk with hk | hk <;> simp only [hk]

/-- A word written with EN forced to 1 is stored with EN 1. -/
theorem en_of_masked (v m : Word) (hm : m.getLsbD 0 = true) : ((v ||| 1) &&& m).getLsbD 0 = true := by
  simp [hm]

theorem did_memberWrite_taken {s : State} {e : Nat} {v : Word} (src : Nat)
    (hact : ((s.suit (e / 16)).on && bitOf (s.suit (e / 16)).active (e % 16)) = false) (hover : s.tsOverlap e v = false)
    (hbad : s.memberBad v = false) :
    s.did (memberWrite src e v) = s.did (fun _ => [.tabs (tabKey sub' 1 e 0) (v &&& 0xFFFF3FCF)]) := by
  simp only [State.did, memberWrite, hact, hover, hbad, Bool.false_eq_true, if_false]

theorem did_memberWrite_active {s : State} {e : Nat} (src : Nat) (v : Word)
    (hact : ((s.suit (e / 16)).on && bitOf (s.suit (e / 16)).active (e % 16)) = true) :
    s.did (memberWrite src e v) = s.did (errPage sub' (oWIN_DATA 0) src cMEMBER_ACTIVE) := by
  simp only [State.did, memberWrite, hact, if_true]

theorem did_memberWrite_overlap {s : State} {e : Nat} {v : Word} (src : Nat)
    (hact : ((s.suit (e / 16)).on && bitOf (s.suit (e / 16)).active (e % 16)) = false)
    (hover : s.tsOverlap e v = true) :
    s.did (memberWrite src e v) = s.did (errPage sub' (oWIN_DATA 0) src cTS_OVERLAP) := by
  simp only [State.did, memberWrite, hact, hover, Bool.false_eq_true, if_false, if_true]

/-- Word 0 of a suit entry that is not enabled, written with EN 1 and defined fields. -/
theorem did_suitWrite_enable {s : State} {i : Nat} (src : Nat) (v : Word) (hen : s.suitEn i = false)
    (hbad : suitBad (v ||| 1) = false) :
    s.did (suitWrite src i 0 (v ||| 1)) = s.did (suitEnable src i ((v ||| 1) &&& 0x01FFFF3D)) := by
  have hbit := en_of_masked v 0x01FFFF3D (by decide)
  have hopen : ¬ ((v ||| 1).getLsbD 0 = true ∧ suitBad (v ||| 1) = true) :=
    fun h => Bool.false_ne_true (hbad.symm.trans h.2)
  have hw : ¬ (2 ≤ 0) := by omega
  simp only [State.did, suitWrite, if_neg hw, hen, Bool.false_eq_true, if_false, if_neg (Nat.zero_ne_one), if_neg hopen,
    hbit, if_true]

theorem did_suitWrite_disable {s : State} {i : Nat} {v : Word} (src : Nat) (hen : s.suitEn i = true)
    (hv : v.getLsbD 0 = false) :
    s.did (suitWrite src i 0 v) =
      s.applyAll [.tabs (tabKey sub' 0 i 0) (bitsPut (s.suitW i 0) 0 1 0), .suits i {}] := by
  have hw : ¬ (2 ≤ 0) := by omega
  simp only [State.did, suitWrite, if_neg hw, hen, if_true, hv, Bool.not_false, and_self]

theorem did_suitWrite_locked {s : State} {i : Nat} {v : Word} (src : Nat) (hen : s.suitEn i = true)
    (hv : v.getLsbD 0 = true) :
    s.did (suitWrite src i 0 v) = s.did (errPage sub' (oWIN_DATA 0) src cSUIT_ACTIVE) := by
  have hw : ¬ (2 ≤ 0) := by omega
  simp only [State.did, suitWrite, if_neg hw, hen, if_true, hv, Bool.not_true, Bool.false_eq_true, and_false, if_false]

theorem did_suitEnable_busy {s : State} {n : Nat} {v : Word} (src : Nat) (hbusy : s.sourceBusy n v = true) :
    s.did (suitEnable src n v) = s.did (errPage sub' (oWIN_DATA 0) src cSOURCE_BUSY) := by
  simp only [State.did, suitEnable, hbusy, if_true]

theorem did_suitEnable_full {s : State} {n p : Nat} {v : Word} (src : Nat) (hbusy : s.sourceBusy n v = false)
    (hfull : (List.range 4).find? (fun p => decide (64 < s.vlgTs p (n :: s.suitIds))) = some p) :
    s.did (suitEnable src n v) = s.did (errPage (pageBase .vlg p) (oWIN_DATA 0) src cVLG_FULL) := by
  simp only [State.did, suitEnable, hbusy, Bool.false_eq_true, if_false, hfull]

theorem did_suitEnable_start {s : State} {n : Nat} {v : Word} (src : Nat) (hbusy : s.sourceBusy n v = false)
    (hfit : (List.range 4).find? (fun p => decide (64 < s.vlgTs p (n :: s.suitIds))) = none)
    (htsh : v.getLsbD 2 = false) : s.did (suitEnable src n v) = s.did (suitStart n v) := by
  simp only [State.did, suitEnable, hbusy, Bool.false_eq_true, if_false, hfit, htsh]

/-- The check of a pair's delay line, as `pairEnable` makes it. -/
theorem did_pairEnable_taken {s : State} {p : Nat} {v : Word} (src : Nat)
    (h : s.tshCheck (s.tsOf (bitsGet v 8 8) (s.suit (bitsGet v 8 8)).active) (bitsGet (s.pairW p 1) 0 15)
      (bitsGet (s.pairW p 2) 16 16) = none) :
    s.did (pairEnable src p v) = s.did (fun _ => [.tabs (tabKey tsb 0 p 0) v, .pairs p { on := true }]) := by
  simp only [State.did, pairEnable, h]

theorem did_pairEnable_refused {s : State} {p code : Nat} {v : Word} (src : Nat)
    (h : s.tshCheck (s.tsOf (bitsGet v 8 8) (s.suit (bitsGet v 8 8)).active) (bitsGet (s.pairW p 1) 0 15)
      (bitsGet (s.pairW p 2) 16 16) = some code) :
    s.did (pairEnable src p v) = s.did (errPage tsb (oWIN_DATA 0) src code) := by
  simp only [State.did, pairEnable, h]

/-- Word 0 of a pair that is not enabled, written with EN 1 and two suits that may form a pair. -/
theorem did_tshTab_enable {s : State} {p : Nat} (src : Nat) (v : Word) (hon : (s.pairW p 0).getLsbD 0 = false)
    (hbad : s.pairBad ((v ||| 1) &&& 0x00FFFF03) = false) :
    s.did (tshTab src 0 p 0 (v ||| 1)) = s.did (pairEnable src p ((v ||| 1) &&& 0x00FFFF03)) := by
  have hbit := en_of_masked v 0x00FFFF03 (by decide)
  simp only [State.did, tshTab, if_neg (Nat.zero_ne_one), hon, Bool.false_eq_true, if_false, if_true, hbit,
    Bool.not_true, hbad]

theorem did_tshTab_locked {s : State} {p : Nat} {v : Word} (src : Nat) (hon : (s.pairW p 0).getLsbD 0 = true)
    (hv : v.getLsbD 0 = true) :
    s.did (tshTab src 0 p 0 v) = s.did (errPage tsb (oWIN_DATA 0) src cPAIR_ACTIVE) := by
  simp only [State.did, tshTab, if_neg (Nat.zero_ne_one), hon, if_true, hv, Bool.not_true, Bool.false_eq_true,
    and_false, if_false]

/-- Settles O34: a write of each table word, branch by branch. -/
theorem suitTablesAreChecked : Obligations.SuitTablesAreChecked := by
  refine ⟨fun s src e v t hserve ht hact hover hbad => ?_,
    fun s src e v hon hact => did_memberWrite_active src v (by rw [hon, hact]; rfl),
    fun s src e v hon hover => did_memberWrite_overlap src (by rw [hon]; rfl) hover,
    fun s src n v t hserve ht hen hbad => ?_,
    fun s src n v hbusy => did_suitEnable_busy src hbusy,
    fun s src n p v hbusy hfull => did_suitEnable_full src hbusy hfull,
    fun s src n v hbusy hfit htsh => did_suitEnable_start src hbusy hfit htsh,
    fun s src i v hen hv => did_suitWrite_disable src hen hv,
    fun s src i v hen hv => did_suitWrite_locked src hen hv,
    fun s src p v t hserve ht hon hbad hcheck => ?_,
    fun s src p code v hcheck => did_pairEnable_refused src hcheck,
    fun s src p v hon hv => did_tshTab_locked src hon hv⟩
  · exact run_winCmd (p := ⟨.suit, 0⟩) (tbl := 1) (q := (4096, 1)) hserve (by decide) (by decide) rfl rfl e.isLt
      (by decide) (by decide) (by omega) ht
      (did_pageTabWrite (.inl rfl) (did_memberWrite_taken src.id hact hover hbad))
  · exact run_winCmd (p := ⟨.suit, 0⟩) (tbl := 0) (q := (256, 4)) hserve (by decide) (by decide) rfl rfl n.isLt
      (by decide) (by decide) (by omega) ht
      (did_pageTabWrite (.inl rfl) (did_suitWrite_enable src.id v hen hbad))
  · exact run_winCmd (p := ⟨.tsh, 0⟩) (tbl := 0) (q := (128, 3)) hserve (by decide) (by decide) rfl rfl p.isLt
      (by decide) (by decide) (by omega) ht
      (did_pageTabWrite (.inr rfl)
        ((did_tshTab_enable src.id v hon hbad).trans (did_pairEnable_taken src.id hcheck)))

end Sys2Proof.Machine

namespace Sys2Proof.Machine

/-! ## The TIME page (R61) -/

/-- The slot of TIME holds it, at every offset. -/
theorem pageAt_time {off : Nat} (h : off < 0x1000) : pageAt (tb + off) = some ⟨.time, 0⟩ := by
  have hbase : pageAt tb = some ⟨.time, 0⟩ := by decide
  have htb : tb % 0x1000 = 0 := by decide
  rw [pageAt_slot (show (tb + off) / 0x1000 = tb / 0x1000 by omega), hbase]

/-- A requester that a page serves passes the checks of requesters, at every offset. -/
theorem serves_allows {s : State} {src : Requester} {p : Page} (h : s.serves src p) (off : Nat) :
    ¬ ((src.id = 2 ∧ (!i2cWrites p) = true) ∨ (src.id ≠ 1 ∧ hostOnly p off = true)) ∧
      ¬ ((p.kind = .boot ∨ p.kind = .sec) ∧ src.id ≠ 1) := by
  obtain ⟨-, -, -, -, -, hsrc⟩ := h
  rcases hsrc with rfl | ⟨hboot, hsec, hmgt, hi2c⟩
  · simp [Requester.id]
  · refine ⟨?_, by simp [hboot, hsec]⟩
    rintro (⟨hid, hw⟩ | ⟨-, hhost⟩)
    · rcases hi2c with hne | hwrites
      · exact hne (eq_i2c_of_id hid)
      · simp [hwrites] at hw
    · simp [hostOnly, hmgt] at hhost

/-- A write of a writable register of TIME, by a requester that the page serves. -/
theorem did_timeCmd {s : State} {src : Requester} {off : Nat} {r : RegRow} (v : Word)
    (h : s.serves src ⟨.time, 0⟩) (hlo : 0x100 ≤ off) (hhi : off < 0x800) (hr : regRow ⟨.time, 0⟩ off = some r)
    (hw : ¬ (r.rw = 0 ∧ r.w1 = 0)) : s.did (busWrite src.id (tb + off) v) = s.did (timeWrite src.id r v) := by
  obtain ⟨hreq, hhost⟩ := serves_allows h off
  obtain ⟨hrun, hpres, hon, hbusy, hstage, -⟩ := h
  have hoff : (tb + off) % 0x1000 = off := Page.base_add_mod ⟨.time, 0⟩ (by omega)
  simp only [State.did, busWrite, hoff, pageAt_time (show off < 0x1000 by omega), hrun, hpres, if_neg hreq,
    if_neg (Nat.not_lt.mpr hlo), if_neg (Nat.not_le.mpr hhi), blockWrite, hon, hbusy, hstage, if_neg hhost, liveWrite, hr,
    if_neg hw, Bool.not_true, Bool.false_eq_true, if_false, if_true]

/-- The rows of the TIME registers that act when written. -/
def dealCmdRow : RegRow := ⟨TIME.DEAL_CMD, 0, 7, 0, false⟩
def cmdCodeRow : RegRow := ⟨TIME.CMD_CODE, 0, 0xFF, 0, false⟩
def markCfgRow : RegRow := ⟨TIME.MARK_CFG, 0xFFF, 0, 0x240, false⟩
def commitLeadRow : RegRow := ⟨TIME.COMMIT_LEAD, 0xFFFFFFFF, 0, 0x186A0, false⟩

theorem regRow_dealCmd : regRow ⟨.time, 0⟩ TIME.DEAL_CMD = some dealCmdRow := by decide
theorem regRow_cmdCode : regRow ⟨.time, 0⟩ TIME.CMD_CODE = some cmdCodeRow := by decide
theorem regRow_markCfg : regRow ⟨.time, 0⟩ TIME.MARK_CFG = some markCfgRow := by decide
theorem regRow_commitLead : regRow ⟨.time, 0⟩ TIME.COMMIT_LEAD = some commitLeadRow := by decide

/-- A write of DEAL_CMD: each command acts on the ID that DEAL_SEL names. -/
theorem run_dealCmd {s : State} {src : Requester} (h : s.serves src ⟨.time, 0⟩) (v : Word) :
    run (regCmd src tb TIME.DEAL_CMD v) s = .next (s.did (timeWrite src.id dealCmdRow v)).settled := by
  rw [run_eq, regCmd, did_timeCmd v h (by decide) (by decide) regRow_dealCmd (by decide)]

theorem exec_dealOpen {s : State} {src : Requester} (h : s.serves src ⟨.time, 0⟩) :
    exec (.dealOpen src) s = .next (s.did (dealOpen src.id (s.fg tb TIME.DEAL_SEL_ID))).settled := run_dealCmd h 1

theorem exec_dealArm {s : State} {src : Requester} (h : s.serves src ⟨.time, 0⟩) :
    exec (.dealArm src) s = .next (s.did (dealArm src.id (s.fg tb TIME.DEAL_SEL_ID))).settled := run_dealCmd h 2

theorem exec_dealCancel {s : State} {src : Requester} (h : s.serves src ⟨.time, 0⟩) :
    exec (.dealCancel src) s = .next (s.did (dealCancel src.id (s.fg tb TIME.DEAL_SEL_ID))).settled := run_dealCmd h 3

theorem exec_dealRelease {s : State} {src : Requester} (h : s.serves src ⟨.time, 0⟩) :
    exec (.dealRelease src) s = .next (s.did (dealRelease src.id (s.fg tb TIME.DEAL_SEL_ID))).settled := run_dealCmd h 4

/-! ## The deal table (R40–R49) -/

theorem did_dealPut (s : State) (d : Deal) :
    s.did (dealPut d) = s.apply (.deals (s.deals.map fun e => if e.id = d.id then d else e)) := rfl

/-- A deal that executed keeps its actions. -/
theorem did_dealClose_done (s : State) (d : Deal) (reason : Nat) :
    s.did (dealClose d .done reason) = (s.apply (.deals (s.deals.map fun e => if e.id = d.id then
      { d with st := .done, reason := reason, closedAt := (s.deals.map Deal.closedAt).foldl max 0 + 1, marks := none,
               bound := none, lockN := none } else e))).did (raise tb 0) :=
  State.did_seqs_cons_pair s _ _

/-- So does a deal refused. -/
theorem did_dealClose_refused (s : State) (d : Deal) (reason : Nat) :
    s.did (dealClose d .refused reason) = (s.apply (.deals (s.deals.map fun e => if e.id = d.id then
      { d with st := .refused, reason := reason, closedAt := (s.deals.map Deal.closedAt).foldl max 0 + 1, marks := none,
               bound := none, lockN := none } else e))).did (raise tb 1) :=
  State.did_seqs_cons_pair s _ _

/-- A deal cancelled loses them. -/
theorem did_dealClose_cancelled (s : State) (d : Deal) (reason : Nat) :
    s.did (dealClose d .cancelled reason) = (s.apply (.deals (s.deals.map fun e => if e.id = d.id then
      { d with st := .cancelled, reason := reason, closedAt := (s.deals.map Deal.closedAt).foldl max 0 + 1,
               marks := none, bound := none, lockN := none, acts := [] } else e))).did (raise tb 2) :=
  State.did_seqs_cons_pair s _ _

/-- A staged action that no action of the deal is replaced by, with room for it. -/
theorem did_dealAppend_new {s : State} {src id off : Nat} {a : Action} {d : Deal} (hd : s.deal id = some d)
    (hnew : d.acts.any a.same = false) (hroom : d.acts.length < 64) :
    s.did (dealAppend src id off a) =
      s.apply (.deals (s.deals.map fun e => if e.id = d.id then { d with acts := d.acts ++ [a] } else e)) := by
  simp only [State.did, dealAppend, hd, hnew, Bool.false_eq_true, if_false, if_pos hroom]
  rfl

/-! ### Staged writes (R42, R43) -/

/-- A host's write of a register of a page that stages. -/
theorem exec_stagedWrite {s : State} {a : BitVec 26} {p : Page} (v : Word) (hp : pageAt a.toNat = some p) (hup : s.up p)
    (hbusy : s.srstBusy p.base = false) (hstage : s.fb p.base DEAL_CTL_STAGE = true) (hlo : 0x100 ≤ a.toNat % 0x1000)
    (hhi : a.toNat % 0x1000 < 0x800) :
    exec (.stagedWrite .host a v) s = .next (s.did (stagedWrite p 1 (a.toNat % 0x1000) v)).settled := by
  obtain ⟨hrun, hpres, hon⟩ := hup
  have hblock : s.did (blockWrite p 1 (a.toNat % 0x1000) v) = s.did (stagedWrite p 1 (a.toNat % 0x1000) v) := by
    simp only [State.did, blockWrite, hon, hbusy, hstage, if_neg (Nat.not_le.mpr hhi), Bool.not_true, Bool.false_eq_true,
      if_false, ne_eq, not_true_eq_false, and_false, if_true]
  exact (run_eq _ s).trans (by rw [Requester.id, did_hostWrite_block v hp hrun hpres hlo, hblock])

theorem did_stagedWrite_taken {s : State} {p : Page} {src off : Nat} {v : Word} {r : RegRow} {d : Deal}
    (hr : regRow p off = some r) (hst : r.stage = true) (hd : s.deal (s.fg p.base DEAL_CTL_DEAL_ID) = some d)
    (hstaging : d.st = .staging) :
    s.did (stagedWrite p src off v) =
      s.did (dealAppend src (s.fg p.base DEAL_CTL_DEAL_ID) off (.write (p.base + off) v)) := by
  simp only [State.did, stagedWrite, hr, hd, Option.any_some, hstaging, hst, beq_self_eq_true, Bool.not_true,
    Bool.false_eq_true, if_false]

theorem did_stagedWrite_notStaging {s : State} {p : Page} {src off : Nat} {v : Word} {r : RegRow}
    (hr : regRow p off = some r)
    (hd : (s.deal (s.fg p.base DEAL_CTL_DEAL_ID)).any (fun d => d.st == .staging) = false) :
    s.did (stagedWrite p src off v) = s.did (errPage p.base off src cNOT_STAGING) := by
  simp only [State.did, stagedWrite, hr, hd, Bool.not_false, if_true]

theorem did_stagedWrite_notStageable {s : State} {p : Page} {src off : Nat} {v : Word} {r : RegRow}
    (hr : regRow p off = some r) (hst : r.stage = false)
    (hd : (s.deal (s.fg p.base DEAL_CTL_DEAL_ID)).any (fun d => d.st == .staging) = true) :
    s.did (stagedWrite p src off v) = s.did (errPage p.base off src cNOT_STAGEABLE) := by
  simp only [State.did, stagedWrite, hr, hd, hst, Bool.not_true, Bool.not_false, Bool.false_eq_true, if_false, if_true]

/-- Settles O10: the write reaches the page's staging, which takes it or counts its refusal. -/
theorem stagedWritesWait : Obligations.StagedWritesWait := by
  refine ⟨fun s a v p r d hp hup hbusy ha hstage _ hlo hhi hr hst hd hstaging hnew hroom => ?_,
    fun s a v p r hp hup hbusy hstage _ hlo hhi hr hd => ?_,
    fun s a v p r hp hup hbusy hstage _ hlo hhi hr hd hst => ?_⟩
  all_goals rw [exec_stagedWrite v hp hup hbusy hstage hlo hhi]
  · rw [did_stagedWrite_taken hr hst hd hstaging, ← ha, did_dealAppend_new hd hnew hroom]
  · rw [did_stagedWrite_notStaging hr hd]
    rfl
  · rw [did_stagedWrite_notStageable hr hst hd]
    rfl

/-! ### Boundaries of the timelines (R39, R45, R55) -/

/-- Settles O14: both boundaries are programs that begin with the timeline's own change. -/
theorem timelineBoundaries : Obligations.TimelineBoundaries := by
  refine ⟨fun s c hrun htl => (run_ev hrun _).trans ?_, fun s c clips hrun htl => (run_ev hrun _).trans ?_⟩
  · have hprog : s.did (txMultiframe c) = s.did (seqs ((fun _ => [.tls c { s.tl c with
        mf := (s.tl c).mf + 1, start := s.nowNs, frame := 0 }]) :: [txdFrame c, txdMultiframe c, codeMultiframe c,
          fun u => if u.roundPos c = 0 then [] else hubMultiframe c [] u, suitMultiframe c,
          dealsDue (fun u => u.dueMf c ((s.tl c).mf + 1)) false, sendMark c, carrierEval c, suitsEval])) := by
      simp only [State.did, txMultiframe, htl, Bool.not_true, Bool.false_eq_true, if_false]
    rw [hprog, State.did_seqs_cons]
    rfl
  · have hprog : s.did (txFrame c clips) = s.did (seqs ((fun _ => [.tls c { s.tl c with
        frame := ((s.tl c).frame + 1) % 256 }]) :: [txdFrame c, txdClips c clips, dealsDue (fun u => u.dueFrame c) false,
          carrierEval c, suitsEval])) := by
      simp only [State.did, txFrame, htl, Bool.not_true, Bool.false_eq_true, if_false]
    rw [hprog, State.did_seqs_cons]
    rfl

/-! ### What the messages after a command keep -/

/-- What each of a list's programs keeps, all of them keep. -/
theorem did_forP_keeps {α β : Type} (f : State → β) (p : α → Prog) (h : ∀ x s, f (s.did (p x)) = f s) (l : List α)
    (s : State) : f (s.did (forP l p)) = f s := by
  induction l generalizing s with
  | nil => rfl
  | cons x l ih => exact (congrArg f (State.did_seqs_cons s (p x) (l.map p))).trans ((ih _).trans (h x s))

/-- The messages that follow a command change what was sent, what is pending and what was asserted. -/
theorem settled_keeps {β : Type} (f : State → β) (houts : ∀ s v, f (s.apply (.outs v)) = f s)
    (hpba : ∀ s v, f (s.apply (.pba v)) = f s) (hint : ∀ s v, f (s.apply (.inInt v)) = f s)
    (hwrite : ∀ s v, f (s.apply (.intWrite v)) = f s) (s : State) : f s.settled = f s := by
  have hvec : ∀ v s, f (s.did (sendVec v)) = f s := fun v s => by
    have hprog : s.did (sendVec v) = if s.msixMasked v then s.apply (.pba (s.pba ||| BitVec.ofNat 256 (2 ^ v)))
        else s.apply (.outs (s.outs ++ [s.msixOut v])) := by
      simp only [State.did, sendVec]
      split <;> rfl
    rw [hprog]
    split
    · exact hpba s _
    · exact houts s _
  have hprog : s.settled = ((s.apply (.inInt s.asserted)).apply (.intWrite false)).did
      (forP ((List.range 256).filter (bitOf (s.asserted &&& ~~~ (if s.intWrite then 0 else s.inInt)).toNat)) sendVec) :=
    State.did_seqs_cons_pair s (fun _ => [.inInt s.asserted, .intWrite false]) _
  rw [hprog, did_forP_keeps f sendVec hvec, hwrite, hint]

@[simp] theorem State.settled_deals (s : State) : s.settled.deals = s.deals :=
  settled_keeps State.deals (by simp) (by simp) (by simp) (by simp) s

@[simp] theorem State.settled_reg (s : State) (a : Nat) : s.settled.reg a = s.reg a :=
  settled_keeps (State.reg · a) (by simp) (by simp) (by simp) (by simp) s

@[simp] theorem deals_did_errPage (s : State) (b off src code : Nat) : (s.did (errPage b off src code)).deals = s.deals := by
  simp [did_errPage]

/-- A refusal counted leaves every register but ERR_CNT and ERR_LAST. -/
theorem reg_did_errPage_of_ne (s : State) {b a : Nat} (off src code : Nat) (hcnt : a ≠ b + oERR_CNT)
    (hlast : a ≠ b + oERR_LAST) : (s.did (errPage b off src code)).reg a = s.reg a := by
  simp [did_errPage, hcnt, hlast]

/-! ### OPEN, CANCEL and RELEASE (R40, R41, R47) -/

theorem requesterId_eq_dealer {src : Requester} : src.id = 3 ↔ src = .dealer := by
  cases src with
  | eng k => simp only [Requester.id, reduceCtorEq, iff_false]; omega
  | host | i2c | dealer | field => simp [Requester.id]

/-- An ID that only the dealer opens here, opened by another requester (R41). -/
theorem did_dealOpen_reserved {s : State} {src id : Nat} (hid : 0xC0 ≤ id)
    (hst : s.fg vb0 VLG.STACK_STAT_STATE = 1 ∨ s.fg vb0 VLG.STACK_STAT_STATE = 3) (hsrc : src ≠ 3) :
    s.did (dealOpen src id) = s.did (errPage tb TIME.DEAL_CMD src cID_RESERVED) := by
  simp only [State.did, dealOpen, if_pos (And.intro hid (And.intro hst hsrc))]

/-- An ID that no entry has, with an entry free. -/
theorem did_dealOpen_free {s : State} {src id : Nat} (hallow : id < 0xC0 ∨ src = 3) (hd : s.deal id = none)
    (hroom : s.deals.length < 32) :
    s.did (dealOpen src id) = s.apply (.deals (s.deals ++ [{ id := id, st := .staging, stack := src == 3 }])) := by
  have hopen : ¬ (0xC0 ≤ id ∧ (s.fg vb0 VLG.STACK_STAT_STATE = 1 ∨ s.fg vb0 VLG.STACK_STAT_STATE = 3) ∧ src ≠ 3) :=
    fun ⟨hid, _, hsrc⟩ => hallow.elim (Nat.not_lt.mpr hid) hsrc
  simp only [State.did, dealOpen, if_neg hopen, hd, if_pos hroom]
  rfl

/-- An ID whose deal is pending. -/
theorem did_dealOpen_pending {s : State} {id : Nat} {d : Deal} (src : Nat) (hid : id < 0xC0) (hd : s.deal id = some d)
    (hpend : d.pending = true) : s.did (dealOpen src id) = s.did (errPage tb TIME.DEAL_CMD src cDEAL_STATE) := by
  have hopen : ¬ (0xC0 ≤ id ∧ (s.fg vb0 VLG.STACK_STAT_STATE = 1 ∨ s.fg vb0 VLG.STACK_STAT_STATE = 3) ∧ src ≠ 3) :=
    fun h => Nat.not_lt.mpr h.1 hid
  simp only [State.did, dealOpen, if_neg hopen, hd, hpend, if_true]

/-- An ID that no entry has, with every entry pending. -/
theorem did_dealOpen_full {s : State} {id : Nat} (src : Nat) (hid : id < 0xC0) (hd : s.deal id = none)
    (hfull : 32 ≤ s.deals.length) (hpend : ∀ d ∈ s.deals, d.pending = true) :
    s.did (dealOpen src id) = s.did (errPage tb TIME.DEAL_CMD src cNO_SLOT) := by
  have hopen : ¬ (0xC0 ≤ id ∧ (s.fg vb0 VLG.STACK_STAT_STATE = 1 ∨ s.fg vb0 VLG.STACK_STAT_STATE = 3) ∧ src ≠ 3) :=
    fun h => Nat.not_lt.mpr h.1 hid
  have hclosed : (s.deals.filter fun d => !d.pending) = [] :=
    List.filter_eq_nil_iff.mpr fun d hd => by simp [hpend d hd]
  simp only [State.did, dealOpen, if_neg hopen, hd, if_neg (Nat.not_lt.mpr hfull), hclosed, List.find?_nil]

theorem did_dealCancel_pending {s : State} {id : Nat} {d : Deal} (src : Nat) (hd : s.deal id = some d)
    (hpend : d.pending = true) : s.did (dealCancel src id) = s.did (dealClose d .cancelled rHOST_CANCEL) := by
  simp only [State.did, dealCancel, hd, hpend, if_true]

theorem did_dealRelease_closed {s : State} {id : Nat} {d : Deal} (src : Nat) (hd : s.deal id = some d)
    (hpend : d.pending = false) :
    s.did (dealRelease src id) = s.apply (.deals (s.deals.filter fun e => e.id != id)) := by
  simp only [State.did, dealRelease, hd, hpend, Bool.false_eq_true, if_false]
  rfl

theorem did_dealRelease_refused {s : State} {id : Nat} (src : Nat) (h : ∀ d ∈ s.deal id, d.pending = true) :
    s.did (dealRelease src id) = s.did (errPage tb TIME.DEAL_CMD src cDEAL_STATE) := by
  cases hd : s.deal id with
  | none => simp only [State.did, dealRelease, hd]
  | some d => simp only [State.did, dealRelease, hd, h d hd, if_true]

/-- Settles O15: each command of DEAL_CMD on the state of the ID's entry. -/
theorem dealsOpenAndClose : Obligations.DealsOpenAndClose := by
  refine ⟨fun s src hs hid hd hroom => ?_, fun s src d hs hid hd hpend => ?_,
    fun s src hs hid hd hfull hpend => ?_, fun s src d hs hd hpend => ?_, fun s src d hs hd hpend => ?_,
    fun s src hs hpend => ?_⟩
  · have hstack : (src.id == 3) = decide (src = .dealer) := decide_eq_decide.mpr requesterId_eq_dealer
    rw [exec_dealOpen hs, did_dealOpen_free (hid.imp_right requesterId_eq_dealer.mpr) hd hroom, hstack]
  · rw [exec_dealOpen hs, did_dealOpen_pending src.id hid hd hpend]
    rfl
  · rw [exec_dealOpen hs, did_dealOpen_full src.id hid hd hfull hpend]
    rfl
  · rw [exec_dealCancel hs, did_dealCancel_pending src.id hd hpend, did_dealClose_cancelled]
    rfl
  · rw [exec_dealRelease hs, did_dealRelease_closed src.id hd hpend]
  · rw [exec_dealRelease hs, did_dealRelease_refused src.id hpend]
    rfl

/-- Settles O16: the check of R41 comes before the table; the dealer passes it. -/
theorem stackDealIdsAreTheDealers : Obligations.StackDealIdsAreTheDealers := by
  refine ⟨fun s src hs hid hst hsrc => ⟨?_, by simp⟩, fun s hs hid hst hd hroom => ?_⟩
  · rw [exec_dealOpen hs, did_dealOpen_reserved hid hst (mt requesterId_eq_dealer.mp hsrc)]
    rfl
  · rw [exec_dealOpen hs, did_dealOpen_free (src := Requester.dealer.id) (.inr rfl) hd hroom]
    rfl

/-! ### ARM (R38, R46, R47, R58) -/

/-- ARM of a deal in STAGING, with a number to go by, on a module that prepares no stack deals. -/
theorem did_dealArm_local {s : State} {id : Nat} {d : Deal} (src : Nat) (hd : s.deal id = some d)
    (hst : d.st = .staging) (hprep : s.prepares = []) (hstack : s.stSt ≠ kDEALER) (hnum : d.num ≠ 0) :
    s.did (dealArm src id) = s.did (armLocal d) := by
  have hnum' : (d.num == 0) = false := beq_eq_false_iff_ne.mpr hnum
  simp only [State.did, dealArm, hd, hst, hprep, List.any_nil, ne_eq, not_true_eq_false, Bool.false_eq_true, or_self,
    if_false, dealOpenNum, hnum', Bool.and_false, Bool.false_and, hstack, false_and]

theorem did_dealArm_refused {s : State} {id : Nat} (src : Nat) (h : ∀ d ∈ s.deal id, d.st ≠ .staging) :
    s.did (dealArm src id) = s.did (errPage tb TIME.DEAL_CMD src cDEAL_STATE) := by
  cases hd : s.deal id with
  | none => simp only [State.did, dealArm, hd]
  | some d => simp only [State.did, dealArm, hd, if_pos (Or.inl (h d hd))]

theorem did_armLocal_armed {s : State} {d : Deal} (h : s.armVerdict d = .armed) :
    s.did (armLocal d) =
      s.did (dealPut { d with st := .armed, lockN := if d.lineLock then some (s.lockNum d) else none }) := by
  simp only [State.did, armLocal, h]

theorem did_armLocal_late {s : State} {d : Deal} (h : s.armVerdict d = .late) :
    s.did (armLocal d) = s.did (seqs [dealPut { d with st := .late }, raise tb 3, dealsNow]) := by
  simp only [State.did, armLocal, h]

theorem did_armLocal_refused {s : State} {d : Deal} {r : Nat} (h : s.armVerdict d = .refused r) :
    s.did (armLocal d) = s.did (dealClose d .refused r) := by
  simp only [State.did, armLocal, h]
  rfl

/-- A deal for a device time, with no boundary, no line lock and no mark, is judged by that time alone. -/
theorem armVerdict_deviceTime {s : State} {d : Deal} (hlock : d.lineLock = false) (hmark : d.trigMark = false)
    (hover : d.overflow = false) (hnum : d.tgtNum = false) (halign : d.align = aNONE) :
    s.armVerdict d = if s.dealTimeUp d then (if d.execLate then .late else .refused rLATE_ARM) else .armed := by
  have hline : s.dealNoLine d = false := by simp [State.dealNoLine, Deal.needs, hlock, hnum, halign]
  have hfar : s.dealTooFar d = false := by simp [State.dealTooFar, hnum]
  have hpassed : s.dealPassed d = s.dealTimeUp d := by simp [State.dealPassed, hnum]
  simp only [State.armVerdict, hlock, hmark, hover, hline, hfar, hpassed, Bool.false_and, Bool.false_eq_true, if_false]

/-! #### Serial numbers (R37) -/

/-- The distance of two numbers in range. -/
theorem serialDist_eq {n N C : Nat} (hN : N < 2 ^ n) (hC : C < 2 ^ n) :
    serialDist n N C = if C ≤ N then N - C else N + 2 ^ n - C := by
  rw [serialDist, Nat.mod_eq_of_lt hC]
  split
  · next hle => rw [show N + 2 ^ n - C = N - C + 2 ^ n by omega, Nat.add_mod_right, Nat.mod_eq_of_lt (by omega)]
  · next hlt => rw [Nat.mod_eq_of_lt (by omega)]

/-- It is the difference modulo 2^n. -/
theorem serialDist_cast {n N C : Nat} (hN : N < 2 ^ n) (hC : C < 2 ^ n) :
    ((serialDist n N C : Nat) : Int) = ((N : Int) - C) % 2 ^ n := by
  have hcast : ((2 ^ n : Nat) : Int) = 2 ^ n := by push_cast; rfl
  rw [serialDist_eq hN hC, ← hcast]
  generalize 2 ^ n = m at hN hC
  split
  · rw [Int.emod_eq_of_lt (by omega) (by omega)]
    omega
  · rw [← Int.add_emod_right, Int.emod_eq_of_lt (by omega) (by omega)]
    omega

theorem serialAhead_iff (n N C : Nat) :
    serialAhead n N C = true ↔ 1 ≤ serialDist n N C ∧ serialDist n N C ≤ 2 ^ (n - 1) - 1 :=
  decide_eq_true_iff

/-- Ahead, by the difference modulo 2^n. -/
theorem serialAhead_iff_emod {n N C : Nat} (hN : N < 2 ^ n) (hC : C < 2 ^ n) :
    serialAhead n N C = true ↔
      1 ≤ ((N : Int) - C) % 2 ^ n ∧ ((N : Int) - C) % 2 ^ n ≤ 2 ^ (n - 1) - 1 := by
  have hhalf : 1 ≤ 2 ^ (n - 1) := Nat.one_le_two_pow
  have hcast : ((2 ^ (n - 1) : Nat) : Int) = 2 ^ (n - 1) := by push_cast; rfl
  rw [serialAhead_iff, ← serialDist_cast hN hC, ← hcast]
  omega

theorem serialDist_eq_zero {n N C : Nat} (hN : N < 2 ^ n) (hC : C < 2 ^ n) : serialDist n N C = 0 ↔ N = C := by
  rw [serialDist_eq hN hC]
  split <;> omega

/-- Neither ahead nor current: the other is ahead, or they are half the range apart. -/
theorem serialBehind_iff {n N C : Nat} (hn : 0 < n) (hN : N < 2 ^ n) (hC : C < 2 ^ n) :
    (serialAhead n N C = false ∧ N ≠ C) ↔ (serialAhead n C N = true ∨ serialDist n N C = 2 ^ (n - 1)) := by
  have hpow : 2 ^ n = 2 * 2 ^ (n - 1) := by rw [← Nat.pow_succ']; congr; omega
  rw [← Bool.not_eq_true, serialAhead_iff, serialAhead_iff, serialDist_eq hN hC, serialDist_eq hC hN]
  rw [hpow] at hN hC ⊢
  generalize 2 ^ (n - 1) = h at *
  split <;> split <;> omega

/-- Settles O17: the verdict's three ends, the refusal of the command, and the verdict and its numbers. -/
theorem armDecides : Obligations.ArmDecides := by
  refine ⟨fun s src d hs hd hst hprep hstack hnum hv => ?_, fun s src d hs hd hst hprep hstack hnum hv => ?_,
    fun s src d r hs hd hst hprep hstack hnum hv => ?_, fun s src hs hst => ?_,
    fun s d hlock hmark hover hnum halign => ?_,
    fun n N C hn hN hC => ⟨serialAhead_iff_emod hN hC, serialDist_eq_zero hN hC, serialBehind_iff hn hN hC⟩⟩
  · rw [exec_dealArm hs, did_dealArm_local src.id hd hst hprep hstack hnum, did_armLocal_armed hv, did_dealPut]
  · rw [exec_dealArm hs, did_dealArm_local src.id hd hst hprep hstack hnum, did_armLocal_late hv, State.did_seqs_cons,
      did_dealPut]
  · rw [exec_dealArm hs, did_dealArm_local src.id hd hst hprep hstack hnum, did_armLocal_refused hv,
      did_dealClose_refused]
  · rw [exec_dealArm hs, did_dealArm_refused src.id hst]
    rfl
  · rw [armVerdict_deviceTime hlock hmark hover hnum halign]
    simp only [State.dealTimeUp, decide_eq_true_eq, rLATE_ARM]

/-! ### Block commands appended (R43, R44) -/

/-- A write of CMD_CODE. -/
theorem exec_cmdCode {s : State} {src : Requester} (code : Byte) (h : s.serves src ⟨.time, 0⟩) :
    exec (.cmdCode src code) s = .next (s.did (cmdAppend src.id code.toNat)).settled := by
  have hcode : (BitVec.zeroExtend 32 code).toNat % 256 = code.toNat := by
    have := code.isLt
    simp only [BitVec.truncate_eq_setWidth, BitVec.toNat_setWidth]
    omega
  have hprog : s.did (timeWrite src.id cmdCodeRow (BitVec.zeroExtend 32 code)) =
      s.did (cmdAppend src.id ((BitVec.zeroExtend 32 code).toNat % 256)) := rfl
  refine (run_eq _ s).trans ?_
  rw [regCmd, did_timeCmd _ h (by decide) (by decide) regRow_cmdCode (by decide), hprog, hcode]

theorem did_cmdAppend_taken {s : State} {src code : Nat} {d : Deal} {p : Page}
    (hd : s.deal (s.fg tb TIME.DEAL_SEL_ID) = some d) (hst : d.st = .staging)
    (hp : pageAt (s.reg (tb + TIME.CMD_PAGE)).toNat = some p) (hbase : (s.reg (tb + TIME.CMD_PAGE)).toNat % 0x1000 = 0)
    (hpres : s.present p = true) (hcode : pageAccepts p.kind code = true)
    (harg : cmdArgOk p.kind code (s.reg (tb + TIME.CMD_ARG)) = true) :
    s.did (cmdAppend src code) = s.did (dealAppend src (s.fg tb TIME.DEAL_SEL_ID) TIME.CMD_CODE
      (.cmd (s.reg (tb + TIME.CMD_PAGE)).toNat (s.reg (tb + TIME.CMD_ARG)) code)) := by
  simp only [State.did, cmdAppend, hd, hst, hp, hbase, hpres, hcode, harg, ne_eq, not_true_eq_false, Bool.not_true,
    Bool.false_eq_true, or_self, if_false, if_true]

theorem did_cmdAppend_badCmd {s : State} {code : Nat} {d : Deal} {p : Page} (src : Nat)
    (hd : s.deal (s.fg tb TIME.DEAL_SEL_ID) = some d) (hst : d.st = .staging)
    (hp : pageAt (s.reg (tb + TIME.CMD_PAGE)).toNat = some p) (hcode : pageAccepts p.kind code = false) :
    s.did (cmdAppend src code) = s.did (errPage tb TIME.CMD_CODE src cBAD_CMD) := by
  simp only [State.did, cmdAppend, hd, hst, hp, hcode, ne_eq, not_true_eq_false, Bool.not_false, or_true, if_false,
    if_true]

theorem did_cmdAppend_notStaging {s : State} {d : Deal} (src code : Nat)
    (hd : s.deal (s.fg tb TIME.DEAL_SEL_ID) = some d) (hst : d.st ≠ .staging) :
    s.did (cmdAppend src code) = s.did (errPage tb TIME.CMD_CODE src cDEAL_STATE) := by
  simp only [State.did, cmdAppend, hd, if_pos hst]

/-- A block command is at no register, so it replaces no action of its deal. -/
theorem any_same_cmd (l : List Action) (pg : Nat) (arg : Word) (code : Nat) :
    l.any (Action.cmd pg arg code).same = false :=
  List.any_eq_false.mpr fun a _ => by cases a <;> simp [Action.same]

/-- Settles O18: CMD_CODE appends, or its refusal is counted. -/
theorem commandsAreStaged : Obligations.CommandsAreStaged := by
  refine ⟨fun s src code d p hs hd hst hroom hp hbase hpres hcode harg => ?_, fun s src code d p hs hd hst hp hcode => ?_,
    fun s src code d hs hd hst => ?_⟩
  all_goals rw [exec_cmdCode code hs]
  · rw [did_cmdAppend_taken hd hst hp hbase hpres hcode harg, did_dealAppend_new hd (any_same_cmd _ _ _ _) hroom]
  · rw [did_cmdAppend_badCmd src.id hd hst hp hcode]
    rfl
  · rw [did_cmdAppend_notStaging src.id _ hd hst]
    rfl

/-! ### MARK_CFG and COMMIT_LEAD (R552) -/

theorem did_markCfg_refused {s : State} {v : Word} (src : Nat)
    (h : wrote v TIME.MARK_CFG_LEAD < 8 ∨ wrote v TIME.MARK_CFG_MIN_MARKS = 0) :
    s.did (timeWrite src markCfgRow v) = s.did (errPage tb TIME.MARK_CFG src cTIME_CFG_RANGE) := by
  have hno : ¬ (8 ≤ wrote v TIME.MARK_CFG_LEAD ∧ 1 ≤ wrote v TIME.MARK_CFG_MIN_MARKS) := by omega
  have hprog : s.did (timeWrite src markCfgRow v) = s.did (fun s =>
      if 8 ≤ wrote v TIME.MARK_CFG_LEAD ∧ 1 ≤ wrote v TIME.MARK_CFG_MIN_MARKS then plainWrite tb markCfgRow [] v s
      else errPage tb markCfgRow.off src cTIME_CFG_RANGE s) := rfl
  rw [hprog]
  simp only [if_neg hno, markCfgRow]

theorem did_commitLead_refused {s : State} {v : Word} (src : Nat) (h : v.toNat < 10000 ∨ 10000000 < v.toNat) :
    s.did (timeWrite src commitLeadRow v) = s.did (errPage tb TIME.COMMIT_LEAD src cTIME_CFG_RANGE) := by
  have hno : ¬ (10000 ≤ v.toNat ∧ v.toNat ≤ 10000000) := by omega
  have hprog : s.did (timeWrite src commitLeadRow v) = s.did (fun s =>
      if 10000 ≤ v.toNat ∧ v.toNat ≤ 10000000 then plainWrite tb commitLeadRow [] v s
      else errPage tb commitLeadRow.off src cTIME_CFG_RANGE s) := rfl
  rw [hprog]
  simp only [if_neg hno, commitLeadRow]

/-- A 4-byte write of a writable register of TIME. -/
theorem exec_timeRegisterWrite {s : State} {src : Requester} {off : Nat} {r : RegRow} (v : Word)
    (h : s.serves src ⟨.time, 0⟩) (h4 : off % 4 = 0) (hlo : 0x100 ≤ off) (hhi : off < 0x800)
    (hr : regRow ⟨.time, 0⟩ off = some r) (hw : ¬ (r.rw = 0 ∧ r.w1 = 0)) :
    exec (.registerWrite src (BitVec.ofNat 26 (tb + off)) (bytesLE 4 v.toNat)) s =
      .next (s.did (timeWrite src.id r v)).settled := by
  have htb : tb = 0x6000 := by decide
  have haddr : (BitVec.ofNat 26 (tb + off)).toNat = tb + off :=
    (BitVec.toNat_ofNat ..).trans (Nat.mod_eq_of_lt (by omega))
  have hlen : (bytesLE 4 v.toNat).length = 4 := by rw [bytesLE, List.length_map, List.length_range]
  refine (run_eq _ s).trans ?_
  rw [haddr, did_busWriteN_word s src.id hlen (by omega) (by omega), wordAt_bytesLE, did_timeCmd v h hlo hhi hr hw]

/-- Settles O58: each register's check refuses the write, and the count is of other registers. -/
theorem markTimesOutOfRangeAreIgnored : Obligations.MarkTimesOutOfRangeAreIgnored := by
  intro s src off v hs hoff
  have hne : off ≠ oERR_CNT ∧ off ≠ oERR_LAST := by
    rcases hoff with ⟨rfl, -⟩ | ⟨rfl, -⟩ <;> decide
  refine ⟨?_, ?_⟩
  · rcases hoff with ⟨rfl, hv⟩ | ⟨rfl, hv⟩
    · rw [exec_timeRegisterWrite v hs (by decide) (by decide) (by decide) regRow_markCfg (by decide),
        did_markCfg_refused src.id hv]
    · rw [exec_timeRegisterWrite v hs (by decide) (by decide) (by decide) regRow_commitLead (by decide),
        did_commitLead_refused src.id hv]
  · rw [State.settled_reg, reg_did_errPage_of_ne s _ _ _ (by omega) (by omega)]

/-! ## Calls, vectors and the copies of device time (R33, R521, R522, R524, R550) -/

/-- The row of CALL_CMD. -/
def callCmdRow : RegRow := ⟨SNAP.CALL_CMD, 0, 1, 0, false⟩

theorem regRow_callCmd : regRow ⟨.snap, 0⟩ SNAP.CALL_CMD = some callCmdRow := by decide

/-- A write of CALL_CMD with GO 1, its other bits as they may be. -/
theorem did_callCmdGo {s : State} {src : Requester} (v : Word) (h : s.serves src ⟨.snap, 0⟩) :
    s.did (regCmd src snb SNAP.CALL_CMD (setF v SNAP.CALL_CMD_GO 1)) = s.did (wantCall cREG) := by
  have hgo : wroteB (setF v SNAP.CALL_CMD_GO 1) SNAP.CALL_CMD_GO = true := wroteB_setF_same v SNAP.CALL_CMD_GO 1 (by decide)
  have hlive : s.did (regCmd src snb SNAP.CALL_CMD (setF v SNAP.CALL_CMD_GO 1)) =
      s.did (pageWrite ⟨.snap, 0⟩ src.id false callCmdRow (setF v SNAP.CALL_CMD_GO 1)) :=
    did_regCmd _ h (by decide) (by decide) (by decide) regRow_callCmd (.inr (by decide)) (by decide)
  have hreg : s.did (pageWrite ⟨.snap, 0⟩ src.id false callCmdRow (setF v SNAP.CALL_CMD_GO 1)) =
      s.did (seqs [snapWrite callCmdRow (setF v SNAP.CALL_CMD_GO 1), skip]) := rfl
  have hsnap : snapWrite callCmdRow (setF v SNAP.CALL_CMD_GO 1) = wantCall cREG := by
    rw [snapWrite, hgo]
    rfl
  rw [hlive, hreg, hsnap, State.did_seqs_cons_pair, State.did_skip]

/-- A request of an enabled source, with no recent call to join, on a module whose calls are its own. -/
theorem did_wantCall_waits {s : State} {src : Nat} (hen : bitOf (s.fg snb SNAP.SRC_EN_SRC) src = true)
    (hup : s.callUp = false) (hrecent : s.callRecent = false) :
    s.did (wantCall src) = s.apply (.calls { s.calls with want := s.calls.want ||| 2 ^ src }) := by
  simp only [State.did, wantCall, hen, hup, hrecent, Bool.not_true, Bool.false_and, Bool.false_eq_true, if_false]
  rfl

/-- The edge of CALL_IN that is selected, held for MIN_W. -/
theorem did_callIn_accepted {s : State} {rising : Bool} {held : Nat} (t : BitVec 64) (hrun : s.phase = .run)
    (hen : s.fb snb SNAP.CALL_IN_CFG_EN = true) (hedge : s.fb snb SNAP.CALL_IN_CFG_EDGE = rising)
    (hheld : s.fg snb SNAP.CALL_IN_CFG_MIN_W * 10 ≤ held) :
    s.did (callIn rising held t) = s.did (seqs [rset (snb + SNAP.CALL_IN_T_LO) (t.extractLsb' 0 32),
      rset (snb + SNAP.CALL_IN_T_HI) (t.extractLsb' 32 32), raise snb 1, wantCall cCALLIN]) := by
  simp only [State.did, callIn, if_pos (And.intro hrun (And.intro hen (And.intro hedge hheld)))]

/-- The other edge, or one that is too short. -/
theorem did_callIn_ignored {s : State} {rising : Bool} {held : Nat} (t : BitVec 64)
    (h : s.fb snb SNAP.CALL_IN_CFG_EDGE ≠ rising ∨ held < s.fg snb SNAP.CALL_IN_CFG_MIN_W * 10) :
    s.did (callIn rising held t) = s := by
  have hno : ¬ (s.phase = .run ∧ s.fb snb SNAP.CALL_IN_CFG_EN = true ∧ s.fb snb SNAP.CALL_IN_CFG_EDGE = rising ∧
      s.fg snb SNAP.CALL_IN_CFG_MIN_W * 10 ≤ held) :=
    fun ⟨_, _, hedge, hheld⟩ => h.elim (fun hne => hne hedge) (Nat.not_lt.mpr hheld)
  simp only [State.did, callIn, if_neg hno, State.applyAll_nil]

/-- A call wanted on a module that is not a dealer is issued at once. -/
theorem did_callIssue_alone {s : State} (hahead : s.calls.ahead = []) (hwant : s.calls.want ≠ 0)
    (hstack : s.stSt ≠ kDEALER) :
    s.did callIssue = s.did (seqs [fun t => [.calls { t.calls with want := 0, lastTick := some t.ticks }],
      callLatch s.nextCall s.nowNs s.calls.want]) := by
  simp only [State.did, callIssue, hahead, if_neg hwant, if_neg hstack]

/-- The call that a dealer sends ahead. -/
def State.callToSend (s : State) : StackCall :=
  ⟨s.nextCall, s.nowNs + BitVec.ofNat 64 (s.fg vb0 VLG.STACK_CFG_CALL_LEAD * 1000), s.calls.want⟩

/-- On a dealer a call is sent ahead, to latch everywhere at T. -/
theorem did_callIssue_dealer {s : State} (hahead : s.calls.ahead = []) (hwant : s.calls.want ≠ 0)
    (hstack : s.stSt = kDEALER) :
    s.did callIssue =
      (s.apply (.calls { s.calls with want := 0, lastTick := some s.ticks, ahead := [s.callToSend] })).did
        (ctlSend s.memberPorts 11 [s.nextCall, s.callToSend.t.toNat]) := by
  have hprog : s.did callIssue = s.did callIssue.issueAhead := by
    simp only [State.did, callIssue, hahead, if_neg hwant, hstack, if_true]
  have hsteps : s.did callIssue.issueAhead =
      (s.apply (.calls { s.calls with want := 0, lastTick := some s.ticks, ahead := s.calls.ahead ++ [s.callToSend] })).did
        (ctlSend s.memberPorts 11 [s.nextCall, s.callToSend.t.toNat]) :=
    State.did_seqs_cons_pair s (fun u => [.calls { u.calls with
      want := 0, lastTick := some u.ticks, ahead := u.calls.ahead ++ [s.callToSend] }]) (ctlSend s.memberPorts 11 [s.nextCall, s.callToSend.t.toNat])
  rw [hprog, hsteps, hahead, List.nil_append]

/-- A call sent ahead whose T has come. -/
theorem did_callIssue_due {s : State} {q : StackCall} {l : List StackCall} (hahead : s.calls.ahead = q :: l)
    (ht : q.t.toNat ≤ s.nowNs.toNat) :
    s.did callIssue = s.did (seqs [fun t => [.calls { t.calls with ahead := l }], callLatch q.num q.t q.srcs]) := by
  simp only [State.did, callIssue, hahead, if_pos ht]

theorem did_pulseEnd {s : State} (hpulse : s.calls.pulse = true) (hrun : s.running tPulse = true) :
    s.did pulseEnd = s.did (seqs [clockEnd tPulse (s.fg snb SNAP.CALL_OUT_CFG_WIDTH * 1000),
      fun t => [.calls { t.calls with pulse := false }], timerStop tPulse, emit (.callOut false)]) := by
  simp only [State.did, pulseEnd, hpulse, hrun, and_self, if_true]

/-! ### The MSI-X table (R550) -/

/-- The table takes writes of its words while the module runs. -/
theorem msix_open {s : State} {off : Nat} (hrun : s.phase = .run) (hlt : off < 0x1000) (h4 : off % 4 = 0) :
    ¬ (0x1000 ≤ off ∨ off % 4 ≠ 0 ∨ s.phase = .held ∨ s.phase = .wakeOnly) := by
  rw [hrun]
  simp only [reduceCtorEq, or_false]
  omega

/-- A word of an entry other than its mask. -/
theorem did_msixWrite_word {s : State} {off : Nat} (v : Word) (hrun : s.phase = .run) (hlt : off < 0x1000)
    (hword : off % 16 = 0 ∨ off % 16 = 4 ∨ off % 16 = 8) :
    s.did (msixWrite off v) = s.apply (.msix (off / 4) (if off % 16 = 0 then v &&& 0xFFFFFFFC else v)) := by
  have hopen := msix_open hrun hlt (show off % 4 = 0 by omega)
  rcases hword with h | h | h
  · have hk : off / 4 % 4 = 0 := by omega
    simp only [State.did, msixWrite, if_neg hopen, hk, h, if_true]
    rfl
  · have hk : off / 4 % 4 = 1 := by omega
    simp only [State.did, msixWrite, if_neg hopen, hk, h]
    rfl
  · have hk : off / 4 % 4 = 2 := by omega
    simp only [State.did, msixWrite, if_neg hopen, hk, h]
    rfl

/-- A vector that is unmasked while it is pending sends its message. -/
theorem did_msixWrite_unmask {s t : State} {off : Nat} {v : Word} (hrun : s.phase = .run) (hlt : off < 0x1000)
    (hword : off % 16 = 12) (ht : t = s.apply (.msix (off / 4) (v &&& 1))) (hmask : t.msixMasked (off / 16) = false)
    (hpend : t.pba.getLsbD (off / 16) = true) :
    s.did (msixWrite off v) = t.did (seqs [fun _ => [.pba (t.pba &&& ~~~ BitVec.ofNat 256 (2 ^ (off / 16)))],
      emit (t.msixOut (off / 16))]) := by
  have hopen := msix_open hrun hlt (show off % 4 = 0 by omega)
  have hk : off / 4 % 4 = 3 := by omega
  have hvec : off / 4 / 4 = off / 16 := by omega
  have hprog : s.did (msixWrite off v) = s.did (seqs [fun _ => [.msix (off / 4) (v &&& 1)], fun t =>
      if !t.msixMasked (off / 16) ∧ t.pba.getLsbD (off / 16) then
        seqs [fun _ => [.pba (t.pba &&& ~~~ BitVec.ofNat 256 (2 ^ (off / 16)))], emit (t.msixOut (off / 16))] t
      else []]) := by
    simp only [State.did, msixWrite, if_neg hopen, hk, hvec, true_and]
  have hset : s.did (fun _ => [.msix (off / 4) (v &&& 1)]) = t := ht.symm
  rw [hprog, State.did_seqs_cons_pair, hset, State.did_eq]
  simp only [hmask, hpend, Bool.not_false, and_self, if_true]
  rfl

/-- Settles O56: calls requested, accepted, issued and latched, the pulse's end, and the table's words. -/
theorem callsLatchAndVectorsSend : Obligations.CallsLatchAndVectorsSend := by
  refine ⟨fun s src v hs => ?_, fun s src hen hup hrecent => did_wantCall_waits hen hup hrecent,
    fun s held t rising hrun hen hedge hheld => ?_, fun s held t rising h => did_callIn_ignored t h,
    fun s hrun hahead hwant hstack => ?_, fun s hahead hwant hstack => ?_,
    fun s q l hahead ht => did_callIssue_due hahead ht, fun s hrun hpulse htimer => ?_,
    fun s a v hrun hlt hword => ?_, fun s a v t hrun hlt hword ht hmask hpend => ?_, fun s ok hrun => run_ev hrun _⟩
  · exact (run_eq _ s).trans (by rw [did_callCmdGo v hs])
  · exact (run_ev hrun _).trans (by rw [did_callIn_accepted t hrun hen hedge hheld])
  · exact (run_ev hrun _).trans (by rw [did_callIssue_alone hahead hwant hstack])
  · rw [did_callIssue_dealer hahead hwant hstack, State.did_seqs_cons_pair]
    rfl
  · exact (run_ev hrun _).trans (by rw [did_pulseEnd hpulse htimer])
  · exact (run_eq _ s).trans (by rw [did_msixWrite_word v hrun hlt hword])
  · exact (run_eq _ s).trans (by rw [did_msixWrite_unmask hrun hlt hword ht hmask hpend])

/-! ## What programs do not touch

A program answers a list of changes, so what it cannot do is said of the list: none of its changes is of a kind. -/

/-- None of the changes is of the kind. -/
def Lacks (q : Eff → Bool) (l : List Eff) : Prop := ∀ e ∈ l, q e = false

section
variable (q : Eff → Bool)

@[simp] theorem lacks_nil : Lacks q [] := by simp [Lacks]

@[simp] theorem lacks_cons (e : Eff) (l : List Eff) : Lacks q (e :: l) ↔ q e = false ∧ Lacks q l := by simp [Lacks]

@[simp] theorem lacks_append (l m : List Eff) : Lacks q (l ++ m) ↔ Lacks q l ∧ Lacks q m := by
  simp [Lacks, or_imp, forall_and]

@[simp] theorem lacks_map {α : Type} (l : List α) (f : α → Eff) : Lacks q (l.map f) ↔ ∀ x ∈ l, q (f x) = false := by
  simp [Lacks]

@[simp] theorem lacks_ite (c : Prop) [Decidable c] (l m : List Eff) :
    Lacks q (if c then l else m) ↔ (c → Lacks q l) ∧ (¬ c → Lacks q m) := by split <;> simp [*]

/-- What stays of a list lacks what the list lacks. -/
@[simp] theorem lacks_filter {l : List Eff} (f : Eff → Bool) (h : Lacks q l) : Lacks q (l.filter f) :=
  fun e he => h e (List.mem_of_mem_filter he)

@[simp] theorem lacks_skip (s : State) : Lacks q (skip s) := lacks_nil q

@[simp] theorem lacks_seqs_nil (s : State) : Lacks q (seqs [] s) := lacks_nil q

@[simp] theorem lacks_seqs_cons (p : Prog) (l : List Prog) (s : State) :
    Lacks q (seqs (p :: l) s) ↔ Lacks q (p s) ∧ Lacks q (seqs l (s.did p)) := lacks_append q _ _

@[simp] theorem lacks_prog_ite (c : Prop) [Decidable c] (p p' : Prog) (s : State) :
    Lacks q ((if c then p else p') s) ↔ (c → Lacks q (p s)) ∧ (¬ c → Lacks q (p' s)) := by split <;> simp [*]

/-- A program for each element of a list lacks what each of them lacks. -/
@[simp] theorem lacks_forP {α : Type} {l : List α} {p : α → Prog} (h : ∀ x ∈ l, ∀ s, Lacks q (p x s)) (s : State) :
    Lacks q (forP l p s) := by
  induction l generalizing s with
  | nil => exact lacks_nil q
  | cons x l ih =>
    exact (lacks_seqs_cons q (p x) (l.map p) s).mpr
      ⟨h x List.mem_cons_self s, ih (fun y hy => h y (List.mem_cons_of_mem x hy)) _⟩

@[simp] theorem lacks_rset (a : Nat) (v : Word) (s : State) : Lacks q (rset a v s) ↔ q (.regs a v) = false := by
  simp [rset]

end

/-- A change of device time. -/
@[simp] def Eff.isNow : Eff → Bool
  | .now _ => true
  | _ => false

/-- A change of the deal table. -/
@[simp] def Eff.isDeals : Eff → Bool
  | .deals _ => true
  | _ => false

/-- None of the changes is of device time. -/
abbrev Still (l : List Eff) : Prop := Lacks Eff.isNow l

/-- What no change of a list touches stays. -/
theorem applyAll_keeps_of_lacks {β : Type} (f : State → β) (q : Eff → Bool)
    (hf : ∀ s e, q e = false → f (s.apply e) = f s) {l : List Eff} (h : Lacks q l) (s : State) :
    f (s.applyAll l) = f s := by
  induction l generalizing s with
  | nil => rfl
  | cons e l ih =>
    obtain ⟨he, hl⟩ := (lacks_cons q e l).mp h
    exact (ih hl _).trans (hf s e he)

theorem now_did_of_still {s : State} {p : Prog} (h : Still (p s)) : (s.did p).now = s.now :=
  applyAll_keeps_of_lacks State.now Eff.isNow (fun s e he => by cases e <;> simp_all) h s

theorem deals_did_of_lacks {s : State} {p : Prog} (h : Lacks Eff.isDeals (p s)) : (s.did p).deals = s.deals :=
  applyAll_keeps_of_lacks State.deals Eff.isDeals (fun s e he => by cases e <;> simp_all) h s

/-! ## No write of a register moves device time

Block by block, in the order of the model's files: each operation that blocks share has its lemma, and each page's
register write is then unfolded into them. -/

/-! ### Shared operations -/

@[simp] theorem still_fset (b : Nat) (f : Fld) (x : Nat) (s : State) : Still (fset b f x s) := by simp [fset]

@[simp] theorem still_fbset (b : Nat) (f : Fld) (x : Bool) (s : State) : Still (fbset b f x s) := still_fset b f _ s

@[simp] theorem still_timerStart (k : Nat) (s : State) : Still (timerStart k s) := by simp [timerStart]

@[simp] theorem still_timerStop (k : Nat) (s : State) : Still (timerStop k s) := by simp [timerStop]

@[simp] theorem still_errPage (b off src code : Nat) (s : State) : Still (errPage b off src code s) := by simp [errPage]

@[simp] theorem still_raise (b n : Nat) (s : State) : Still (raise b n s) := by simp [raise]

@[simp] theorem still_withFree (f : Word → Prog) (s : State) :
    Still (withFree f s) ↔ Still (f s.freeW (s.apply (.free (s.free + 1)))) := by simp [withFree]

@[simp] theorem still_plainWrite (b : Nat) (r : RegRow) (l : List Lim) (v : Word) (s : State) :
    Still (plainWrite b r l v s) := by simp [plainWrite]

@[simp] theorem withP_apply (f : State → Prog) (s : State) : withP f s = f s s := rfl

@[simp] theorem still_fincSat (b : Nat) (f : Fld) (n : Nat) (s : State) : Still (fincSat b f n s) := by simp [fincSat]

@[simp] theorem still_rclear (a : Nat) (s : State) : Still (rclear a s) := by simp [rclear]

@[simp] theorem still_badAcc (bar2 : Bool) (a : Nat) (s : State) : Still (badAcc bar2 a s) := by simp [badAcc]

@[simp] theorem still_emit (o : Out) (s : State) : Still (emit o s) := by simp [emit]

/-! ### Errors and calls -/

@[simp] theorem still_callJoin (srcs : Nat) (s : State) : Still (callJoin srcs s) := by
  cases h : s.calls.ahead.getLast? <;> simp [callJoin, h]

@[simp] theorem still_wantCall (src : Nat) (s : State) : Still (wantCall src s) := by simp [wantCall]

@[simp] theorem still_reportErr (e : ErrIn) (s : State) : Still (reportErr e s) := by simp [reportErr, fsetF]

@[simp] theorem still_popQueue (s : State) : Still (popQueue s) := by
  cases h : s.queueOf (s.fg eb ERR.Q_SEL_ISLAND) <;> simp [popQueue, h]

/-! ### Deals -/

@[simp] theorem still_perhaps {p : Prog} (h : ∀ s, Still (p s)) (s : State) : Still (perhaps p s) := by
  simp [perhaps, h]

@[simp] theorem still_dealClose (d : Deal) (st : DealState) (reason : Nat) (s : State) :
    Still (dealClose d st reason s) := by
  cases st <;> simp [dealClose, dealPut]

@[simp] theorem still_dealsDealerLost (s : State) : Still (dealsDealerLost s) := by simp [dealsDealerLost]

/-! ### OPT and CNV -/

@[simp] theorem still_fineSlew (c : Nat) (to' : Int) (s : State) : Still (fineSlew c to' s) := by
  simp [fineSlew, optUpd]

@[simp] theorem still_rampFromP (c : Nat) (p : Int) (s : State) : Still (rampFromP c p s) := by
  simp [rampFromP, optUpd]

@[simp] theorem still_soaEval (c : Nat) (s : State) : Still (soaEval c s) := by simp [soaEval]

@[simp] theorem still_laserTo (c st : Nat) (s : State) : Still (laserTo c st s) := by simp [laserTo]

@[simp] theorem still_optWrite (src c : Nat) (r : RegRow) (v : Word) (s : State) : Still (optWrite src c r v s) := by
  simp [optWrite, laserCtlWrite, tuneGo, optUpd, laserTune, coldStart, laserOff, tuneDrop, followSet, fineJump,
    txEnSet, laserFineWrite, txPwrWrite]

@[simp] theorem still_loadStored (src c : Nat) (s : State) : Still (loadStored src c s) := by
  cases h : (s.cnv c).stored <;> simp [loadStored, trimsPut, h]

@[simp] theorem still_cnvWrite (src c : Nat) (r : RegRow) (v : Word) (s : State) : Still (cnvWrite src c r v s) := by
  simp [cnvWrite, fgCalGo, calTo, storeGo, checkGo, capGo, cnvUpd, trimWrite]

/-! ### Bank swaps -/

@[simp] theorem still_swapDone (p : SwapPage) (bank : Nat) (s : State) : Still (swapDone p bank s) := by
  cases h : p.cnt <;> simp [swapDone, h]

@[simp] theorem still_swapRefuse (p : SwapPage) (src code : Nat) (s : State) : Still (swapRefuse p src code s) := by
  cases h : p.refCnt <;> simp [swapRefuse, h]

@[simp] theorem still_swapServe (p : SwapPage) (stopped : Bool) (src bank : Nat) (s : State) :
    Still (swapServe p stopped src bank s) := by
  simp [swapServe, swapUpd]

@[simp] theorem still_swapReq (p : SwapPage) (stopped : Bool) (src bank : Nat) (s : State) :
    Still (swapReq p stopped src bank s) := by
  cases h : p.evQueued <;> simp [swapReq, h]

@[simp] theorem still_swapBoundary (p : SwapPage) (len : Nat) (s : State) : Still (swapBoundary p len s) := by
  cases h : (s.swap p.b).wait <;> simp [swapBoundary, swapUpd, h]

@[simp] theorem still_swapFinish (p : SwapPage) (stopped : Bool) (s : State) : Still (swapFinish p stopped s) := by
  cases h : (s.swap p.b).mode <;> simp [swapFinish, swapUpd, h]

/-! ### TXD -/

@[simp] theorem still_txdEval (c : Nat) (s : State) : Still (txdEval c s) := by
  unfold txdEval
  aesop

@[simp] theorem still_txdWrite (src c : Nat) (r : RegRow) (v : Word) (s : State) : Still (txdWrite src c r v s) := by
  simp [txdWrite, shapeWrite, txdUpd, scSelWrite, txdCdWrite]

/-! ### RXF -/

@[simp] theorem still_cdSwapDone (c b : Nat) (s : State) : Still (cdSwapDone c b s) := by simp [cdSwapDone]

@[simp] theorem still_cdUnqueue (c : Nat) (s : State) : Still (cdUnqueue c s) := by simp [cdUnqueue]

@[simp] theorem still_cdSwapReq (src c b : Nat) (hard : Bool) (s : State) : Still (cdSwapReq src c b hard s) := by
  simp [cdSwapReq, rxfUpd, cdRefuse, cdQueue]

@[simp] theorem still_acqTo (c st : Nat) (s : State) : Still (acqTo c st s) := by simp [acqTo, rxfUpd]

@[simp] theorem still_rxfEval (c : Nat) (s : State) : Still (rxfEval c s) := by
  unfold rxfEval rxfUpd
  aesop

@[simp] theorem still_rxfWrite (src c : Nat) (staged : Bool) (r : RegRow) (v : Word) (s : State) :
    Still (rxfWrite src c staged r v s) := by
  simp [rxfWrite, cdBankWrite, cdLoad, cdCompute, rxfUpd, cdRefuse, scanLimWrite, cdCtlWrite, scanGo]

/-! ### RXM and the streams -/

@[simp] theorem still_carOnly (x : Strm) {p : Prog} (h : ∀ s, Still (p s)) (s : State) : Still (carOnly x p s) := by
  simp [carOnly, h]

@[simp] theorem still_strRaise (x : Strm) (rxm : Nat) (scb : Option Nat) (s : State) : Still (strRaise x rxm scb s) := by
  cases h : x.sub <;> cases scb <;> simp [strRaise, h]

@[simp] theorem still_anchorBegin (x : Strm) (s : State) : Still (anchorBegin x s) := by
  cases h : (s.swap x.b).wait <;> simp [anchorBegin, h]

@[simp] theorem still_strSwapReq (x : Strm) (src bank : Nat) (s : State) : Still (strSwapReq x src bank s) := by
  cases h : x.sub <;> simp [strSwapReq, h]

@[simp] theorem still_anchorSave (x : Strm) (src : Nat) (s : State) : Still (anchorSave x src s) := by
  simp [anchorSave, anchorRefuse]

@[simp] theorem still_strTo (x : Strm) (st : Nat) (s : State) : Still (strTo x st s) := by simp [strTo, tapsPut]

@[simp] theorem still_hpEval (c : Nat) (s : State) : Still (hpEval c s) := by simp [hpEval, hpTo]

@[simp] theorem still_rxmWrite (src c : Nat) (r : RegRow) (v : Word) (s : State) : Still (rxmWrite src c r v s) := by
  simp [rxmWrite, swapUpd, gateCfgWrite]

/-! ### FEC -/

@[simp] theorem still_frUpd (x : Strm) (f : FrRec → FrRec) (s : State) : Still (frUpd x f s) := by simp [frUpd]

@[simp] theorem still_decStop (x : Strm) (s : State) : Still (decStop x s) := by simp [decStop, rawSet]

@[simp] theorem still_fecWrite (src c : Nat) (staged : Bool) (r : RegRow) (v : Word) (s : State) :
    Still (fecWrite src c staged r v s) := by
  simp [fecWrite, fecModeWrite, modeEval, modeTake, cdModeChange, rxfUpd, cdServeWait, pmSuspect, fecShapeWrite,
    fecUpd, tvGo, fecCtlWrite]

/-! ### LFR -/

@[simp] theorem still_pmClear (x : Strm) (s : State) : Still (pmClear x s) := by simp [pmClear]

@[simp] theorem still_lfrWrite (c : Nat) (r : RegRow) (v : Word) (s : State) : Still (lfrWrite c r v s) := by
  simp [lfrWrite, pmSkip, lfrEval, frEval, frTo, strFrame, mflSet]

/-! ### MEM -/

@[simp] theorem still_memWrite (src : Nat) (r : RegRow) (v : Word) (s : State) : Still (memWrite src r v s) := by
  simp [memWrite, scrubGo, scrubAbort, scrubEnd]

/-! ### SUIT and TSH -/

@[simp] theorem still_suitUpd (i : Nat) (f : SuitRec → SuitRec) (s : State) : Still (suitUpd i f s) := by
  simp [suitUpd]

@[simp] theorem still_pairEval (p : Nat) (s : State) : Still (pairEval p s) := by simp [pairEval, pairUpd]

@[simp] theorem still_suitsEval (s : State) : Still (suitsEval s) := by simp [suitsEval]

@[simp] theorem still_suitRegWrite (r : RegRow) (v : Word) (s : State) : Still (suitRegWrite r v s) := by
  simp [suitRegWrite]

@[simp] theorem still_tshRegWrite (r : RegRow) (v : Word) (s : State) : Still (tshRegWrite r v s) := by
  simp [tshRegWrite]

/-! ### HUB -/

@[simp] theorem still_leafForget (c : Nat) (s : State) : Still (leafForget c s) := by simp [leafForget, hubUpd]

@[simp] theorem still_leafFnTo (c st : Nat) (s : State) : Still (leafFnTo c st s) := by simp [leafFnTo, hubUpd]

@[simp] theorem still_hubEval (c : Nat) (s : State) : Still (hubEval c s) := by
  simp [hubEval, hubUpd, groupsTake, leafEval]

@[simp] theorem still_hubWrite (src : Nat) (r : RegRow) (v : Word) (s : State) : Still (hubWrite src r v s) := by
  unfold hubWrite leafCmd leafTo leafUpd leafField msgDue hubUpd hubRunWrite
  aesop

/-! ### SCB -/

@[simp] theorem still_brxIdle (c sc : Nat) (s : State) : Still (brxIdle c sc s) := by simp [brxIdle, brxUpd]

@[simp] theorem still_brxEval (c : Nat) (s : State) : Still (brxEval c s) := by simp [brxEval]

@[simp] theorem still_scbWrite (src c sc : Nat) (r : RegRow) (v : Word) (s : State) :
    Still (scbWrite src c sc r v s) := by
  simp [scbWrite, scCfgWrite, rxScWrite, rxmUpd, strAnchorWrite, swapUpd, brxAnchorSave, brxCfgWrite, assocWrite]

/-! ### CIP -/

@[simp] theorem still_slotTo (c n st : Nat) (s : State) : Still (slotTo c n st s) := by simp [slotTo, slotUpd]

@[simp] theorem still_slotUse (c a : Nat) (s : State) : Still (slotUse c a s) := by
  cases h : [2 * a, 2 * a + 1].find? fun n => s.slotSt c n == tARMED && !s.slotLive c (sibling n) <;>
    simp [slotUse, slotUpd, assocUpd, h]

@[simp] theorem still_keyRefuse (c off src code : Nat) (slot : Option Nat) (s : State) :
    Still (keyRefuse c off src code slot s) := by
  cases slot <;> simp [keyRefuse]

@[simp] theorem still_keyClear (c : Nat) (s : State) : Still (keyClear c s) := by simp [keyClear, cipUpd]

@[simp] theorem still_keyArm (src c n : Nat) (s : State) : Still (keyArm src c n s) := by
  simp [keyArm, forceRoll, assocUpd, txMove, slotUpd, slotLeft]

@[simp] theorem still_keyDisarm (src c n : Nat) (s : State) : Still (keyDisarm src c n s) := by simp [keyDisarm]

@[simp] theorem still_keyErase (src c n : Nat) (s : State) : Still (keyErase src c n s) := by simp [keyErase]

@[simp] theorem still_keyCmdWrite (src c : Nat) (v : Word) (s : State) : Still (keyCmdWrite src c v s) := by
  have hfree : s.freeW.toNat % 4 < 4 := Nat.mod_lt _ (by decide)
  unfold keyCmdWrite
  interval_cases h : s.freeW.toNat % 4 <;> aesop

@[simp] theorem still_cipIslandReset (c : Nat) (s : State) : Still (cipIslandReset c s) := by
  simp [cipIslandReset, assocUpd, unitLost, unitFill, suitFill]

@[simp] theorem still_cipLost (c : Nat) (s : State) : Still (cipLost c s) := by simp [cipLost]

@[simp] theorem still_cipSoftReset (c : Nat) (s : State) : Still (cipSoftReset c s) := by simp [cipSoftReset]

@[simp] theorem still_cipWrite (src c : Nat) (r : RegRow) (v : Word) (s : State) : Still (cipWrite src c r v s) := by
  simp [cipWrite, cipLockWrite, keyDataWrite, cipUpd, keySaltWrite, keyCommit, slotUpd, katGo]

/-! ### HSL and ETH -/

@[simp] theorem still_trainEval (l : Nat) (was : Bool) (s : State) : Still (trainEval l was s) := by simp [trainEval]

@[simp] theorem still_laneWrite (src q i : Nat) (r : RegRow) (v : Word) (s : State) :
    Still (laneWrite src q i r v s) := by
  simp [laneWrite]

@[simp] theorem still_ffeWrite (src q i : Nat) (r : RegRow) (v : Word) (s : State) :
    Still (ffeWrite src q i r v s) := by
  simp [ffeWrite]

@[simp] theorem still_hslWrite (src q : Nat) (r : RegRow) (v : Word) (s : State) : Still (hslWrite src q r v s) := by
  unfold hslWrite
  aesop

@[simp] theorem still_portWrite (src p : Nat) (r : RegRow) (v : Word) (s : State) :
    Still (portWrite src p r v s) := by
  cases h : s.portBad p v <;> simp [portWrite, h]

@[simp] theorem still_ethWrite (src p : Nat) (r : RegRow) (v : Word) (s : State) : Still (ethWrite src p r v s) := by
  simp [ethWrite]

/-! ### CLS and QMG -/

@[simp] theorem still_puntPop (s : State) : Still (puntPop s) := by cases h : s.cls.punts <;> simp [puntPop, h]

@[simp] theorem still_clsWrite (r : RegRow) (v : Word) (s : State) : Still (clsWrite r v s) := by simp [clsWrite]

@[simp] theorem still_qmgWrite (r : RegRow) (v : Word) (s : State) : Still (qmgWrite r v s) := by
  simp [qmgWrite, flushSet]

/-! ### SNS -/

@[simp] theorem still_flushAll (s : State) : Still (flushAll s) := by simp [flushAll, writeRecord, samplesLost]

@[simp] theorem still_frzClose (i : Nat) (trunc : Bool) (s : State) : Still (frzClose i trunc s) := by simp [frzClose]

@[simp] theorem still_frzRequest (t pre post det : Nat) (s : State) : Still (frzRequest t pre post det s) := by
  unfold frzRequest frzOpenAt frzRefuse
  aesop

@[simp] theorem still_archStop (s : State) : Still (archStop s) := by cases h : s.openFrz <;> simp [archStop, h]

@[simp] theorem still_snsCtlWrite (src : Nat) (v : Word) (s : State) : Still (snsCtlWrite src v s) := by
  unfold snsCtlWrite swapUpd
  aesop

@[simp] theorem still_snsWrite (src : Nat) (r : RegRow) (v : Word) (s : State) : Still (snsWrite src r v s) := by
  simp [snsWrite, frzCmdWrite, frzRelease, frzManual, snsSwapReq, rdRecWrite, seekGo]

/-! ### DPL -/

@[simp] theorem still_dpllUpd (i : Nat) (f : DpllRec → DpllRec) (s : State) : Still (dpllUpd i f s) := by
  simp [dpllUpd]

@[simp] theorem still_refEval (k : Nat) (s : State) : Still (refEval k s) := by simp [refEval]

@[simp] theorem still_rsetI (a : Nat) (x : Int) (s : State) : Still (rsetI a x s) := by simp [rsetI]

@[simp] theorem still_histFreeze (i : Nat) (s : State) : Still (histFreeze i s) := by simp [histFreeze]

@[simp] theorem still_enterHoldover (i : Nat) (s : State) : Still (enterHoldover i s) := by simp [enterHoldover]

@[simp] theorem still_slewStart (k : Nat) (s : State) : Still (slewStart k s) := by
  cases h : (s.ref k).phase <;> simp [slewStart, h]

@[simp] theorem still_dSwitch (i k : Nat) (s : State) : Still (dSwitch i k s) := by simp [dSwitch]

@[simp] theorem still_dpllEval (i : Nat) (s : State) : Still (dpllEval i s) := by
  cases h : s.dTarget i <;> simp [dpllEval, h]

@[simp] theorem still_refsEval (s : State) : Still (refsEval s) := by simp [refsEval]

@[simp] theorem still_swPherr (v : Word) (s : State) : Still (swPherr v s) := by simp [swPherr, refPhase, refUpd]

@[simp] theorem still_dCtlWrite (i : Nat) (r : RegRow) (v : Word) (s : State) : Still (dCtlWrite i r v s) := by
  simp [dCtlWrite, refUpd]

@[simp] theorem still_ffoSetWrite (src i : Nat) (v : Word) (s : State) : Still (ffoSetWrite src i v s) := by
  simp [ffoSetWrite]

@[simp] theorem still_refCfgWrite (src k : Nat) (r : RegRow) (v : Word) (s : State) :
    Still (refCfgWrite src k r v s) := by
  simp [refCfgWrite]

@[simp] theorem still_outMis (k : Nat) (x : Int) (s : State) : Still (outMis k x s) := by simp [outMis]

@[simp] theorem still_outCfgWrite (k : Nat) (r : RegRow) (v : Word) (s : State) : Still (outCfgWrite k r v s) := by
  simp [outCfgWrite, realign]

@[simp] theorem still_dplWrite (src : Nat) (r : RegRow) (v : Word) (s : State) : Still (dplWrite src r v s) := by
  unfold dplWrite
  aesop

/-! ### ENG -/

@[simp] theorem still_engUpd (id : Nat) (f : EngRec → EngRec) (s : State) : Still (engUpd id f s) := by simp [engUpd]

@[simp] theorem still_haltEval (k : Nat) (s : State) : Still (haltEval k s) := by simp [haltEval]

@[simp] theorem still_engWrite (src k : Nat) (r : RegRow) (v : Word) (s : State) : Still (engWrite src k r v s) := by
  simp [engWrite, hostMbTx, clCtlWrite, loadGo, loadFail, haltRelease, legRead, snapCopy]

/-! ### VLG and the stack -/

@[simp] theorem still_locksFree (owner : Nat) (s : State) : Still (locksFree owner s) := by simp [locksFree]

@[simp] theorem still_helloSend (s : State) : Still (helloSend s) := by simp [helloSend, ctlSend]

@[simp] theorem still_memberBit (pos : Nat) (on : Bool) (s : State) : Still (memberBit pos on s) := by
  simp [memberBit]

@[simp] theorem still_linkGone (p : Nat) (s : State) : Still (linkGone p s) := by
  simp [linkGone, dealerLost, memberLost, ctlSend]

@[simp] theorem still_stackLeave (s : State) : Still (stackLeave s) := by simp [stackLeave, ctlSend]

@[simp] theorem still_stackEval (s : State) : Still (stackEval s) := by simp [stackEval]

@[simp] theorem still_vlgEval (p : Nat) (s : State) : Still (vlgEval p s) := by
  simp [vlgEval, vlgUpd, vlgTrain, vlgDown]

@[simp] theorem still_mgmtGo (src : Nat) (v : Word) (s : State) : Still (mgmtGo src v s) := by
  unfold mgmtGo
  aesop

@[simp] theorem still_vlgWrite (src p : Nat) (r : RegRow) (v : Word) (s : State) : Still (vlgWrite src p r v s) := by
  simp [vlgWrite, leaveGo, vlgCtlWrite, vlgUnlink, vlgTrain, vlgUpd, txEqWrite, stackCfgWrite]

@[simp] theorem still_vlgReset (p : Nat) (s : State) : Still (vlgReset p s) := by simp [vlgReset]

/-! ### What pages follow -/

@[simp] theorem still_carrierEval (c : Nat) (s : State) : Still (carrierEval c s) := by
  simp [carrierEval, timelineEval, rxmEval, strEval, fecEval, fecUpd, modeEval, modeTake, cdModeChange, rxfUpd,
    cdServeWait, pmSuspect, lfrEval, frEval, frTo, strFrame, mflSet, outsRestarted]

@[simp] theorem still_pageEval (p : Page) (s : State) : Still (pageEval p s) := by
  obtain ⟨k, i⟩ := p
  cases k <;> simp [pageEval]

/-! ### Resets -/

@[simp] theorem still_tabsClear (b : Nat) (keep : List Nat) (s : State) : Still (tabsClear b keep s) := by
  simp [tabsClear]

@[simp] theorem still_tapsClear (b : Nat) (s : State) : Still (tapsClear b s) := by simp [tapsClear]

@[simp] theorem still_pageClear (b : Nat) (keep tabsKept : List Nat) (s : State) :
    Still (pageClear b keep tabsKept s) := by
  simp [pageClear, regsClear, cntsClear, timersClear]

@[simp] theorem still_recClear (p : Page) (s : State) : Still (recClear p s) := by
  obtain ⟨k, i⟩ := p
  cases k <;> simp [recClear, clsSoftReset, clReset, leavesClear]

@[simp] theorem still_strapped (p : Page) (s : State) : Still (strapped p s) := by
  obtain ⟨k, i⟩ := p
  cases k <;> simp [strapped, stackStrap]

@[simp] theorem still_pageWipe (p : Page) (s : State) : Still (pageWipe p s) := by simp [pageWipe]

@[simp] theorem still_softClear (p : Page) (s : State) : Still (softClear p s) := by
  obtain ⟨k, i⟩ := p
  cases k <;> simp [softClear, snsSoftReset, engsFresh, regsClear]

@[simp] theorem still_islandWipe (p : Page) (s : State) : Still (islandWipe p s) := by
  obtain ⟨k, i⟩ := p
  cases k <;> simp [islandWipe]

@[simp] theorem still_bootWipe (s : State) : Still (bootWipe s) := by simp [bootWipe, domainsOff, errsEnd]

/-! ### PWR, but for WAKE_CMD -/

@[simp] theorem still_pdUpd (d : Nat) (f : PdRec → PdRec) (s : State) : Still (pdUpd d f s) := by simp [pdUpd]

@[simp] theorem still_biasTake (full : Bool) (d : Nat) (s : State) : Still (biasTake full d s) := by simp [biasTake]

@[simp] theorem still_biasAll (full : Bool) (s : State) : Still (biasAll full s) := by simp [biasAll]

@[simp] theorem still_avsBegin (s : State) : Still (avsBegin s) := by cases h : s.avs <;> simp [avsBegin, h]

@[simp] theorem still_pdStart (d : Nat) (s : State) : Still (pdStart d s) := by simp [pdStart]

@[simp] theorem still_pdServe (d : Nat) (a : PdAsk) (s : State) : Still (pdServe d a s) := by
  cases h : s.pdRefuser d a <;> simp [pdServe, pdRefuse, h]

@[simp] theorem still_pdGo (before : List Nat) (s : State) : Still (pdGo before s) := by
  unfold pdGo avsOp
  aesop

@[simp] theorem still_pdArrive (qs : List (Nat × PdAsk)) (s : State) : Still (pdArrive qs s) := by
  simp [pdArrive, pdBatch]

@[simp] theorem still_pdWord (v : Word) (src off : Nat) (deal : Option Nat) {k : Nat × PdAsk → Prog}
    (h : ∀ q s, Still (k q s)) (s : State) : Still (pdWord v src off deal k s) := by simp [pdWord, h]

@[simp] theorem still_pdWords (src off : Nat) (deal : Option Nat) (l : List Word) (qs : List (Nat × PdAsk)) (s : State) :
    Still (pdWords src off deal l qs s) := by
  induction l generalizing qs s with
  | nil => exact still_pdArrive qs s
  | cons v l ih => exact still_pdWord v src off deal (fun q t => ih (qs ++ [q]) t) s

@[simp] theorem still_pdReq (src : Nat) (v : Word) (s : State) : Still (pdReq src v s) := by simp [pdReq]

@[simp] theorem still_railSettle (s : State) : Still (railSettle s) := by
  cases h : s.avs <;> simp [railSettle, avsOp, h]

@[simp] theorem still_pwrCfgWrite (src : Nat) (v : Word) (s : State) : Still (pwrCfgWrite src v s) := by
  simp [pwrCfgWrite, report]

/-! ### BOOT -/

@[simp] theorem still_stepCount (k units cause : Nat) (s : State) : Still (stepCount k units cause s) := by
  simp [stepCount, failsPut, fbPut, unitPut, bootHalt, bootUpd]

@[simp] theorem still_stepsFrom (n k : Nat) (s : State) : Still (stepsFrom n k s) := by
  induction n generalizing k s with
  | zero => simp [stepsFrom]
  | succ n ih => simp [stepsFrom, bootUpd, recBegin, ih]

@[simp] theorem still_bootStart (wake : Bool) (s : State) : Still (bootStart wake s) := by
  cases h : s.boot.step <;> simp [bootStart, secUpd, recEnd, h]

@[simp] theorem still_flRun (src cmd slot addr : Nat) (s : State) : Still (flRun src cmd slot addr s) := by
  cases h : flashSlot addr <;> simp [flRun, flBegin, bootUpd, h]

@[simp] theorem still_flCmd (src : Nat) (v : Word) (s : State) : Still (flCmd src v s) := by simp [flCmd]

@[simp] theorem still_bootWrite (src : Nat) (r : RegRow) (v : Word) (s : State) : Still (bootWrite src r v s) := by
  simp [bootWrite, bootCmd, bootRestart, bootClr, failsPut, fbPut, unitPut]

/-! ### SEC -/

@[simp] theorem still_secWrite (src : Nat) (r : RegRow) (v : Word) (s : State) : Still (secWrite src r v s) := by
  simp [secWrite, attGo, secUpd, chalCmd, chalGo, rngDraw, tokenGo, secCmd]

/-! ### SNAP, MGT and ERR -/

@[simp] theorem still_snapWrite (r : RegRow) (v : Word) (s : State) : Still (snapWrite r v s) := by simp [snapWrite]

@[simp] theorem still_lockBreak (v : Word) (s : State) : Still (lockBreak v s) := by
  cases h : pageAt v.toNat <;> simp [lockBreak, h]

@[simp] theorem still_mgtWrite (src : Nat) (r : RegRow) (v : Word) (s : State) : Still (mgtWrite src r v s) := by
  simp [mgtWrite]

@[simp] theorem still_errWrite (src : Nat) (r : RegRow) (v : Word) (s : State) : Still (errWrite src r v s) := by
  simp [errWrite, islCtl, fsetF, islandReset, dealsIslandReset, carriersEval, islandLocks]

/-! ### Sleep (R475) -/

@[simp] theorem deals_did_pageClear (s : State) (b : Nat) (keep tabsKept : List Nat) :
    (s.did (pageClear b keep tabsKept)).deals = s.deals :=
  deals_did_of_lacks (by simp [pageClear, regsClear, tabsClear, cntsClear, timersClear])

/-- The wipe of TIME empties the deal table. -/
@[simp] theorem deals_did_pageWipe_time (s : State) : (s.did (pageWipe ⟨.time, 0⟩)).deals = [] := by
  have hwipe : s.did (pageWipe ⟨.time, 0⟩) =
      (s.did (pageClear tb [] [])).applyAll [.deals [], .prepares [], .stepOfs 0] := by
    rw [pageWipe, State.did_seqs_cons, State.did_seqs_cons, State.did_seqs_cons, State.did_seqs_cons]
    rfl
  rw [hwipe]
  rfl

/-- Those of DPL and SEC leave it. -/
@[simp] theorem deals_did_pageWipe_of_kind (s : State) {p : Page} (h : p.kind = .dpl ∨ p.kind = .sec) :
    (s.did (pageWipe p)).deals = s.deals := by
  have hrec : ∀ t, Lacks Eff.isDeals (recClear p t) := fun t => by
    rcases h with h | h <;> simp [recClear, h]
  have hstrap : ∀ t, Lacks Eff.isDeals (strapped p t) := fun t => by
    rcases h with h | h <;> simp [strapped, h]
  have hvlg : p.kind ≠ .vlg := by rcases h with h | h <;> simp [h]
  simp [pageWipe, hvlg, deals_did_of_lacks (hrec _), deals_did_of_lacks (hstrap _)]

/-- A module that is wiped has no deals: what follows the wipe of TIME leaves the table. -/
theorem deals_did_deviceWipe (s : State) : (s.did deviceWipe).deals = [] := by
  have hstrap : ∀ t : State, Lacks Eff.isDeals (strapped ⟨.pwr, 0⟩ t) := fun t => by simp [strapped]
  simp only [deviceWipe, State.did_seqs_cons, State.did_seqs_nil, forP, List.map_cons, List.map_nil]
  rw [deals_did_of_lacks (by simp), deals_did_of_lacks (hstrap _), deals_did_pageClear, deals_did_of_lacks (by simp),
    deals_did_of_lacks (by simp), deals_did_pageClear, deals_did_pageClear, deals_did_pageWipe_of_kind _ (.inr rfl),
    deals_did_pageWipe_of_kind _ (.inl rfl), deals_did_pageWipe_time]

/-- WAKE_CMD by a deal leaves device time, or puts the module to sleep with its deal table empty. -/
theorem did_wakeCmd (v : Word) (s : State) :
    Still (wakeCmd srcNone v s) ∨ (s.did (wakeCmd srcNone v)).deals = [] := by
  by_cases hkey : wrote v PWR.WAKE_CMD_KEY ≠ 0xA5C3
  · exact .inl (by simp [wakeCmd, hkey])
  by_cases hphase : s.phase = .wakeOnly
  · exact .inl (by simp [wakeCmd, hkey, hphase, srcNone])
  by_cases hsleep : wroteB v PWR.WAKE_CMD_SLEEP = true
  · cases hbar : s.sleepBar with
    | some reason => exact .inl (by simp [wakeCmd, hkey, hphase, hsleep, hbar])
    | none =>
      have hprog : s.did (wakeCmd srcNone v) = s.did (seqs [deviceWipe, rset MGT.I2C_ADDR (s.reg MGT.I2C_ADDR),
          fun _ => [.phase .wakeOnly]]) := by
        simp [State.did, wakeCmd, hkey, hphase, hsleep, hbar]
      refine .inr ?_
      rw [hprog, State.did_seqs_cons, State.did_seqs_cons, State.did_seqs_cons, State.did_seqs_nil,
        deals_did_of_lacks (by simp), deals_did_of_lacks (by simp), deals_did_deviceWipe]
  · exact .inl (by simp [wakeCmd, hkey, hphase, hsleep])

/-! ### Writes of registers by a deal -/

theorem still_regWrite {p : Page} (hp : p.kind ≠ .pwr) (src : Nat) (staged : Bool) (r : RegRow) (v : Word) (s : State) :
    Still (regWrite p src staged r v s) := by
  obtain ⟨k, i⟩ := p
  cases k <;> simp [regWrite] at hp ⊢

theorem still_pageWrite {p : Page} (hp : p.kind ≠ .pwr) (src : Nat) (staged : Bool) (r : RegRow) (v : Word)
    (s : State) : Still (pageWrite p src staged r v s) := by
  have hreg := still_regWrite hp src staged r v s
  obtain ⟨k, i⟩ := p
  cases k <;> simpa [pageWrite] using hreg

/-- A deal's write of a register leaves device time, or empties the deal table. -/
theorem did_pageWrite_now_or_deals (p : Page) (r : RegRow) (v : Word) (s : State) :
    (s.did (pageWrite p srcNone true r v)).now = s.now ∨ (s.did (pageWrite p srcNone true r v)).deals = [] := by
  by_cases hp : p.kind = .pwr
  · have hprog : s.did (pageWrite p srcNone true r v) = s.did (pwrWrite srcNone r v) := by
      simp [State.did, pageWrite, regWrite, hp, seqs, skip]
    rw [hprog]
    by_cases hwake : r.off = PWR.WAKE_CMD
    · have hcmd : pwrWrite srcNone r v = wakeCmd srcNone v := by
        rw [pwrWrite, hwake, if_neg (by decide), if_neg (by decide), if_pos rfl]
      rw [hcmd]
      exact (did_wakeCmd v s).imp_left now_did_of_still
    · exact .inl (now_did_of_still (by simp [pwrWrite, hwake, still_pwrCfgWrite, vtabWrite, still_railSettle]))
  · exact .inl (now_did_of_still (still_pageWrite hp srcNone true r v s))

/-! ## Deals that execute (R45–R51, R56, R58) -/

theorem nowNs_did_of_now {s : State} {p : Prog} (h : (s.did p).now = s.now) : (s.did p).nowNs = s.nowNs := by
  rw [State.nowNs, h, State.nowNs]

/-- In a table with no entries, a deal closes the same whatever its record says. -/
theorem did_dealClose_empty {s : State} (h : s.deals = []) (d e : Deal) (reason : Nat) :
    s.did (dealClose d .done reason) = s.did (dealClose e .done reason) := by
  simp [did_dealClose_done, h]

/-- A deal of one staged write: the write, its drop if its page is off, and the close. -/
theorem did_dealExec_write {s : State} {d : Deal} {a : Nat} {v : Word} (num : Word) (hd : s.deal d.id = some d)
    (hacts : d.acts = [.write a v]) :
    s.did (dealExec d.id num false false) =
      ((s.did (actDo [] (.write a v))).did (if s.actOk (.write a v) then skip else raise tb 6)).did
        (dealClose { d with execTime := s.nowNs, execNum := num, dropped := !s.actOk (.write a v), flywheel := false,
                            stepped := false } .done 0) := by
  have hargs : ∀ k, d.args k = [] := fun k => by simp [Deal.args, hacts]
  have horder : d.order = [.write a v] := by simp [Deal.order, hacts]
  have hprog : s.did (dealExec d.id num false false) = s.did (seqs [forP [.write a v] (actDo []), skip,
      if s.actOk (.write a v) then skip else raise tb 6,
      dealClose { d with execTime := s.nowNs, execNum := num, dropped := !s.actOk (.write a v), flywheel := false,
                         stepped := false } .done 0]) := by
    cases hok : s.actOk (.write a v) <;> simp [State.did, dealExec, hd, hargs, horder, hacts, hok]
  rw [hprog]
  simp only [State.did_seqs_cons, State.did_seqs_nil, State.did_skip, forP, List.map_cons, List.map_nil]

theorem actOk_write {s : State} {a : Nat} {p : Page} (v : Word) (hp : pageAt (a / 0x1000 * 0x1000) = some p) :
    s.actOk (.write a v) = (s.present p && s.pageOn p) := by
  simp [State.actOk, Action.page, hp]

theorem did_actDo_write {s : State} {a : Nat} {v : Word} {p : Page} {r : RegRow}
    (hp : pageAt (a / 0x1000 * 0x1000) = some p) (hok : s.actOk (.write a v) = true) (hbusy : s.srstBusy p.base = false)
    (hr : regRow p (a % 0x1000) = some r) :
    s.did (actDo [] (.write a v)) = s.did (pageWrite p srcNone true r v) := by
  simp [State.did, actDo, Action.page, hp, hok, hbusy, hr]

theorem did_actDo_write_off {s : State} {a : Nat} {v : Word} {p : Page}
    (hp : pageAt (a / 0x1000 * 0x1000) = some p) (hok : s.actOk (.write a v) = false) :
    s.did (actDo [] (.write a v)) = s.did (errPage p.base (a % 0x1000) srcNone cPAGE_OFF) := by
  simp [State.did, actDo, Action.page, hp, hok]

/-- The one deal of the table is due: it executes. -/
theorem did_dealExecute_single {s : State} {d : Deal} {n : Word} {fly : Bool} (hdeals : s.deals = [d])
    (hdue : s.dueNow d = some (.exec n fly)) : s.did dealExecute = s.did (dealExec d.id n fly false) := by
  have hnow : s.did dealsNow = s.did (dealExec d.id n fly false) := by
    simp [State.did, dealsNow, dealsDue, hdeals, hdue, dealInsert, forP, seqs, skip]
  have hprog : s.did dealExecute = s.did (seqs [skip, dealsNow]) := by
    simp [State.did, dealExecute, hdeals, hdue]
  rw [hprog, State.did_seqs_cons_pair, State.did_skip, hnow]

/-- The clock is not brought to a device time that it has reached. -/
theorem did_deviceTo_reached {s : State} {ns : Nat} (h : ns ≤ s.nowNs.toNat) : s.did (deviceTo ns) = s := by
  have hnear : s.did (fun s => clockTo (s.ticks + (ns - (s.now.extractLsb' 16 64).toNat)) s) = s := by
    have hsub : ns - (s.now.extractLsb' 16 64).toNat = 0 := Nat.sub_eq_zero_of_le h
    simp only [State.did, clockTo, hsub, Nat.add_zero, le_refl, if_true, State.applyAll_nil]
  simp only [deviceTo, State.did_seqs_cons, State.did_seqs_nil, hnear]

theorem did_noMark {s : State} {id : Nat} {d : Deal} (hd : s.deal id = some d) (htrig : d.trigMark = true)
    (hst : d.st = .armed) (hbound : d.bound = none) (htime : d.time.toNat ≤ s.nowNs.toNat) :
    s.did (noMark id) = s.did (dealClose d .refused rNO_MARK) := by
  have hprog : s.did (noMark id) = s.did (seqs [deviceTo d.time.toNat, dealRefuse d rNO_MARK]) := by
    simp [State.did, noMark, hd, htrig, hst, hbound]
  rw [hprog, State.did_seqs_cons_pair, did_deviceTo_reached htime, dealRefuse]

/-! ### Marks received (R56, R58) -/

/-- An armed deal of the carrier that waits for marks of the tag. -/
def Deal.awaits (c tag : Nat) (d : Deal) : Bool := d.st == .armed && d.trigMark && d.carrier == c && d.tag == tag

theorem did_markRx_unlocked {s : State} {c : Nat} (tag : Nat) (n : Word) (left : Nat) (h : s.rxLocked c = false) :
    s.did (markRx c tag n left) = s := by
  simp [State.did, markRx, h]

theorem did_markRx_stray {s : State} {c tag : Nat} (n : Word) (left : Nat) (h : s.rxLocked c = true)
    (hrx : (s.tl c).rxAt ≠ 0) (hnone : s.deals.filter (Deal.awaits c tag) = []) :
    s.did (markRx c tag n left) = s.did (raise tb 4) := by
  have hprog : s.did (markRx c tag n left) = s.did (seqs [skip, raise tb 4]) := by
    unfold Deal.awaits at hnone
    simp only [State.did, markRx, h, hrx, hnone, Bool.not_true, Bool.false_eq_true, if_false, List.isEmpty_nil, if_true]
  rw [hprog, State.did_seqs_cons_pair, State.did_skip]

/-- The first mark of a deal that expects it counts, and binds it when one is enough. -/
theorem did_markRx_first {s : State} {c tag : Nat} {n : Word} {d : Deal} (left : Nat) (h : s.rxLocked c = true)
    (hrx : (s.tl c).rxAt ≠ 0) (hone : s.deals.filter (Deal.awaits c tag) = [d]) (hbound : d.bound = none)
    (hnum : d.num = 0 ∨ d.num = n) (hmarks : d.marks = none) :
    s.did (markRx c tag n left) = s.did (dealPut { d with
      marks := some (n, 1), bound := if s.fg tb TIME.MARK_CFG_MIN_MARKS ≤ 1 then some n else none }) := by
  have hfits : ¬ (¬ d.num = 0#32 ∧ ¬ d.num = n) := fun ⟨h0, hn⟩ => hnum.elim h0 hn
  have hprog : s.did (markRx c tag n left) = s.did (seqs [skip, dealPut { d with
      marks := some (n, 1), bound := if s.fg tb TIME.MARK_CFG_MIN_MARKS ≤ 1 then some n else none }]) := by
    unfold Deal.awaits at hone
    simp [State.did, markRx, h, hrx, hone, forP, seqs, skip, hbound, hfits, hmarks]
  rw [hprog, State.did_seqs_cons_pair, State.did_skip]

/-! ### The obligation -/

/-- The write of a deal of one staged write, on a page that answers. Only going to sleep (R475) touches device time, and
that leaves no entry to close. -/
theorem did_dealExec_written {s : State} {d : Deal} {a : Nat} {v : Word} {p : Page} {r : RegRow} (num : Word)
    (hd : s.deal d.id = some d) (hacts : d.acts = [.write a v]) (hp : pageAt (a / 0x1000 * 0x1000) = some p)
    (hpres : s.present p = true) (hon : s.pageOn p = true) (hbusy : s.srstBusy p.base = false)
    (hr : regRow p (a % 0x1000) = some r) :
    s.did (dealExec d.id num false false) = (s.did (pageWrite p srcNone true r v)).did
      (dealClose { d with execTime := (s.did (pageWrite p srcNone true r v)).nowNs, execNum := num, dropped := false,
                          flywheel := false, stepped := false } .done 0) := by
  have hok : s.actOk (.write a v) = true := by rw [actOk_write v hp, hpres, hon, Bool.and_self]
  rw [did_dealExec_write num hd hacts, did_actDo_write hp hok hbusy hr, hok, if_pos rfl, State.did_skip, Bool.not_true]
  rcases did_pageWrite_now_or_deals p r v s with hnow | hempty
  · rw [nowNs_did_of_now hnow]
  · exact did_dealClose_empty hempty _ _ 0

theorem did_dealExec_dropped {s : State} {d : Deal} {a : Nat} {v : Word} {p : Page} (num : Word)
    (hd : s.deal d.id = some d) (hacts : d.acts = [.write a v]) (hp : pageAt (a / 0x1000 * 0x1000) = some p)
    (hoff : s.pageOn p = false) :
    s.did (dealExec d.id num false false) = ((s.did (errPage p.base (a % 0x1000) srcNone cPAGE_OFF)).did (raise tb 6)).did
      (dealClose { d with execTime := s.nowNs, execNum := num, dropped := true, flywheel := false, stepped := false }
        .done 0) := by
  have hok : s.actOk (.write a v) = false := by rw [actOk_write v hp, hoff, Bool.and_false]
  rw [did_dealExec_write num hd hacts, did_actDo_write_off hp hok, hok, if_neg (by decide), Bool.not_false]

/-- Settles O19: a staged write meets the write of its page, and a mark the deals that await its tag. -/
theorem dealsExecute : Obligations.DealsExecute := by
  refine ⟨fun s d n fly hrun hdeals hdue => (run_ev hrun _).trans ?_,
    fun s d a v num p r hd hacts hp hpres hon hbusy hr => did_dealExec_written num hd hacts hp hpres hon hbusy hr,
    fun s d a v num p hd hacts hp hoff => did_dealExec_dropped num hd hacts hp hoff,
    fun s d => did_dealClose_done s d 0,
    fun s id d hrun hd htrig hst hbound htime => (run_ev hrun _).trans ?_,
    fun s c tag n left hrun hlock => (run_ev hrun _).trans ?_,
    fun s c tag n left hrun hlock hrx hnone => (run_ev hrun _).trans ?_,
    fun s c tag n left d hrun hlock hrx hone hbound hnum hmarks => (run_ev hrun _).trans ?_⟩
  · rw [did_dealExecute_single hdeals hdue]
  · rw [did_noMark hd htrig hst hbound htime]
    rfl
  · rw [did_markRx_unlocked _ _ _ hlock]
  · rw [did_markRx_stray n left hlock hrx hnone]
  · rw [did_markRx_first left hlock hrx hone hbound hnum hmarks, did_dealPut]

end Sys2Proof.Machine

namespace Sys2Proof.Machine

/-! ## Programs in a row -/

theorem did_seqs_single (s : State) (p : Prog) : s.did (seqs [p]) = s.did p := State.did_seqs_cons s p []

/-- The last of the programs runs on what the others leave. -/
theorem did_seqs_snoc (s : State) (l : List Prog) (p : Prog) :
    s.did (seqs (l ++ [p])) = (s.did (seqs l)).did p := by
  induction l generalizing s with
  | nil => exact did_seqs_single s p
  | cons q l ih => rw [List.cons_append, State.did_seqs_cons, ih, State.did_seqs_cons]

/-- Programs in a row that end in a row of programs. -/
theorem did_seqs_flatten (s : State) (l m : List Prog) : s.did (seqs (l ++ [seqs m])) = s.did (seqs (l ++ m)) := by
  induction l generalizing s with
  | nil => exact did_seqs_single s (seqs m)
  | cons q l ih => rw [List.cons_append, State.did_seqs_cons, ih, List.cons_append, State.did_seqs_cons]

/-- A program that does nothing may be left out of a row. -/
theorem did_seqs_skip (s : State) (l m : List Prog) : s.did (seqs (l ++ skip :: m)) = s.did (seqs (l ++ m)) := by
  induction l generalizing s with
  | nil => exact State.did_seqs_cons s skip m
  | cons q l ih => rw [List.cons_append, State.did_seqs_cons, ih, List.cons_append, State.did_seqs_cons]

/-! ## Fields and time limits after elementary programs -/

/-- Two fields of a page share no bit. -/
abbrev Fld.Apart (f g : Fld) : Prop := f.off ≠ g.off ∨ g.lo + g.w ≤ f.lo ∨ f.lo + f.w ≤ g.lo

theorem fg_did_fset_same (s : State) (b : Nat) {f : Fld} (x : Nat) (h : f.lo + f.w ≤ 32) :
    (s.did (fset b f x)).fg b f = x % 2 ^ f.w := by
  have hreg : (s.did (fset b f x)).reg (b + f.off) = bitsPut (s.reg (b + f.off)) f.lo f.w x :=
    (State.apply_reg s _ _).trans (if_pos rfl)
  rw [State.fg, hreg, bitsGet_put_same _ _ _ _ h]

theorem fg_did_fset_apart (s : State) (b : Nat) {f g : Fld} (x : Nat) (h : f.Apart g) :
    (s.did (fset b f x)).fg b g = s.fg b g := by
  have hreg : (s.did (fset b f x)).reg (b + g.off) =
      if b + g.off = b + f.off then bitsPut (s.reg (b + f.off)) f.lo f.w x else s.reg (b + g.off) := State.apply_reg s _ _
  rw [State.fg, State.fg, hreg]
  by_cases hoff : f.off = g.off
  · rw [if_pos (by rw [hoff]), hoff, bitsGet_put_other _ _ _ _ _ _ (h.resolve_left (not_not_intro hoff))]
  · rw [if_neg (by omega)]

theorem fg_did_fbset_same (s : State) (b : Nat) {f : Fld} (x : Bool) (h : f.lo + f.w ≤ 32) :
    (s.did (fbset b f x)).fg b f = b2n x % 2 ^ f.w := fg_did_fset_same s b (b2n x) h

theorem fg_did_fbset_apart (s : State) (b : Nat) {f g : Fld} (x : Bool) (h : f.Apart g) :
    (s.did (fbset b f x)).fg b g = s.fg b g := fg_did_fset_apart s b (b2n x) h

/-- A one-bit field reads as it was set. -/
theorem fb_did_fbset_same (s : State) (b : Nat) {f : Fld} (x : Bool) (hw : f.w = 1) (hlo : f.lo + f.w ≤ 32) :
    (s.did (fbset b f x)).fb b f = x := by
  rw [State.fb, fg_did_fbset_same s b x hlo, hw]
  cases x <;> rfl

theorem fb_did_fset_apart (s : State) (b : Nat) {f g : Fld} (x : Nat) (h : f.Apart g) :
    (s.did (fset b f x)).fb b g = s.fb b g := by
  rw [State.fb, fg_did_fset_apart s b x h, State.fb]

theorem fb_did_fbset_apart (s : State) (b : Nat) {f g : Fld} (x : Bool) (h : f.Apart g) :
    (s.did (fbset b f x)).fb b g = s.fb b g := fb_did_fset_apart s b (b2n x) h

/-- A change that is of no register leaves every field. -/
theorem fg_did_of_reg {s : State} {p : Prog} (h : ∀ a, (s.did p).reg a = s.reg a) (b : Nat) (f : Fld) :
    (s.did p).fg b f = s.fg b f := by
  rw [State.fg, State.fg, h]

@[simp] theorem fg_did_timerStart (s : State) (k b : Nat) (f : Fld) : (s.did (timerStart k)).fg b f = s.fg b f :=
  fg_did_of_reg (fun _ => rfl) b f
@[simp] theorem fg_did_timerStop (s : State) (k b : Nat) (f : Fld) : (s.did (timerStop k)).fg b f = s.fg b f :=
  fg_did_of_reg (fun _ => rfl) b f
@[simp] theorem fg_did_optUpd (s : State) (c : Nat) (g : OptRec → OptRec) (b : Nat) (f : Fld) :
    (s.did (optUpd c g)).fg b f = s.fg b f := fg_did_of_reg (fun _ => rfl) b f

@[simp] theorem fg_did_ite (s : State) (d : Prop) [Decidable d] (p q : Prog) (b : Nat) (f : Fld) :
    (s.did (if d then p else q)).fg b f = if d then (s.did p).fg b f else (s.did q).fg b f := by split <;> rfl

@[simp] theorem timer_did_fset (s : State) (b : Nat) (f : Fld) (x k : Nat) :
    (s.did (fset b f x)).timer k = s.timer k := State.apply_timer s _ k
@[simp] theorem timer_did_fbset (s : State) (b : Nat) (f : Fld) (x : Bool) (k : Nat) :
    (s.did (fbset b f x)).timer k = s.timer k := State.apply_timer s _ k
@[simp] theorem timer_did_optUpd (s : State) (c : Nat) (g : OptRec → OptRec) (k : Nat) :
    (s.did (optUpd c g)).timer k = s.timer k := State.apply_timer s _ k

theorem timer_did_timerStart (s : State) (j k : Nat) :
    (s.did (timerStart j)).timer k = if k = j then s.ticks + 1 else s.timer k := State.apply_timer s _ k
theorem timer_did_timerStop (s : State) (j k : Nat) :
    (s.did (timerStop j)).timer k = if k = j then 0 else s.timer k := State.apply_timer s _ k

@[simp] theorem timer_did_ite (s : State) (d : Prop) [Decidable d] (p q : Prog) (k : Nat) :
    (s.did (if d then p else q)).timer k = if d then (s.did p).timer k else (s.did q).timer k := by split <;> rfl

/-- A limit started or stopped as a condition has it runs as the condition has it. -/
theorem running_did_startIf (s : State) (d : Prop) [Decidable d] (k : Nat) :
    (s.did (if d then timerStart k else timerStop k)).running k = decide d := by
  by_cases h : d <;> simp [State.running, timer_did_timerStart, timer_did_timerStop, h]

/-- It leaves the other limits. -/
theorem timer_did_startIf_of_ne (s : State) (d : Prop) [Decidable d] {j k : Nat} (h : k ≠ j) :
    (s.did (if d then timerStart j else timerStop j)).timer k = s.timer k := by
  simp [timer_did_timerStart, timer_did_timerStop, h]

/-! ## The SOA (R73, R74) -/

/-- The SOA stays shut unless the laser is LOCKED (R74). -/
theorem soaMay_of_not_locked {s : State} {c : Nat} (h : s.laser c ≠ lLOCKED) : s.soaMay c = false := by
  simp [State.soaMay, h]

@[simp] theorem fg_did_rampFromP (s : State) (c : Nat) (p : Int) (b : Nat) (f : Fld) :
    (s.did (rampFromP c p)).fg b f = s.fg b f := by
  simp only [rampFromP, State.did_seqs_pair, did_seqs_single, fg_did_timerStart, fg_did_optUpd]

theorem did_soaEval (s : State) (c : Nat) :
    s.did (soaEval c) =
      if s.soaMay c then
        if s.soaOpen c then s
        else s.did (seqs [fbset (ob c) OPT.TX_PWR_MON_SOA_OPEN true, fbset (ob c) OPT.TX_PWR_MON_AT_TARGET false,
          rampFromP c (min (-800) (s.pwrSet c))])
      else if s.soaOpen c then
        s.did (seqs [fbset (ob c) OPT.TX_PWR_MON_SOA_OPEN false, fbset (ob c) OPT.TX_PWR_MON_AT_TARGET false,
          fset (ob c) OPT.TX_PWR_MON_DBM 0x8000, timerStop (tRamp c)])
      else s := by
  simp only [State.did, soaEval]
  split <;> split <;> rfl

/-- Evaluated, the SOA is open exactly where nothing keeps it shut. -/
theorem soaOpen_did_soaEval (s : State) (c : Nat) : (s.did (soaEval c)).soaOpen c = s.soaMay c := by
  have hset : ∀ x, (s.did (fbset (ob c) OPT.TX_PWR_MON_SOA_OPEN x)).soaOpen c = x :=
    fun x => fb_did_fbset_same s (ob c) x rfl (by decide)
  have hkeeps : ∀ t : State, (t.did (fbset (ob c) OPT.TX_PWR_MON_AT_TARGET false)).soaOpen c = t.soaOpen c :=
    fun t => fb_did_fbset_apart t (ob c) false (by decide)
  rw [did_soaEval]
  cases hmay : s.soaMay c <;> cases hopen : s.soaOpen c
  · exact hopen
  · have hdbm : ∀ t : State, (t.did (fset (ob c) OPT.TX_PWR_MON_DBM 0x8000)).soaOpen c = t.soaOpen c :=
      fun t => fb_did_fset_apart t (ob c) _ (by decide)
    have hstop : ∀ t : State, (t.did (timerStop (tRamp c))).soaOpen c = t.soaOpen c :=
      fun t => congrArg (· != 0) (fg_did_timerStop t _ _ _)
    simp only [Bool.false_eq_true, if_false, if_true, State.did_seqs_pair, did_seqs_single, hstop, hdbm, hkeeps, hset]
  · have hramp : ∀ (t : State) (p : Int), (t.did (rampFromP c p)).soaOpen c = t.soaOpen c :=
      fun t p => congrArg (· != 0) (fg_did_rampFromP t c p _ _)
    simp only [Bool.false_eq_true, if_false, if_true, State.did_seqs_pair, did_seqs_single, hramp, hkeeps, hset]
  · exact hopen

/-- The evaluation of the SOA shows in no register of the page but TX_PWR_MON. -/
theorem fg_did_soaEval (s : State) (c : Nat) {f : Fld} (h : OPT.TX_PWR_MON ≠ f.off) :
    (s.did (soaEval c)).fg (ob c) f = s.fg (ob c) f := by
  have hopen : OPT.TX_PWR_MON_SOA_OPEN.Apart f := .inl h
  have htarget : OPT.TX_PWR_MON_AT_TARGET.Apart f := .inl h
  have hdbm : OPT.TX_PWR_MON_DBM.Apart f := .inl h
  rw [did_soaEval]
  split <;> split
  all_goals simp only [State.did_seqs_pair, did_seqs_single, fg_did_rampFromP, fg_did_timerStop,
    fg_did_fbset_apart _ _ _ hopen, fg_did_fbset_apart _ _ _ htarget, fg_did_fset_apart _ _ _ hdbm]

/-- Of the time limits, it starts and stops the ramp's alone. -/
theorem timer_did_soaEval (s : State) {c k : Nat} (h : k ≠ tRamp c) : (s.did (soaEval c)).timer k = s.timer k := by
  rw [did_soaEval]
  split <;> split
  all_goals simp only [State.did_seqs_pair, did_seqs_single, rampFromP, timer_did_fset, timer_did_fbset, timer_did_optUpd,
    timer_did_timerStart, timer_did_timerStop, if_neg h]

/-! ## Changes of the laser state (R68, R71, R74) -/

/-- The registers that a change of the laser state sets. -/
def laserRegs (c st : Nat) : Prog :=
  seqs [fset (ob c) OPT.LASER_STAT_STATE st,
    fbset (ob c) OPT.LASER_STAT_TUNE_FAULT (st == lFAULT),
    if st = lLOCKING ∨ st = lLOCKED ∨ st = lHOLD then skip else fset (ob c) OPT.LASER_STAT_FREQ_ERR 0,
    if st = lLOCKED then skip else fset (ob c) OPT.MZM_STAT_LOCKED 0]

/-- The time limits that it starts and stops. -/
def laserLimits (c st : Nat) : Prog :=
  seqs [if st = lLOCKING then timerStart (tLock c) else timerStop (tLock c),
    if st = lHOLD then timerStart (tHold c) else timerStop (tHold c)]

/-- A change of the laser state: its registers, its limits, then the SOA. -/
theorem did_laserTo (s : State) (c st : Nat) :
    s.did (laserTo c st) = ((s.did (laserRegs c st)).did (laserLimits c st)).did (soaEval c) := by
  have hprog : s.did (laserTo c st) = s.did (seqs [_, _, _, _, _, _, _]) := rfl
  rw [hprog]
  simp only [laserRegs, laserLimits, State.did_seqs_cons, State.did_seqs_nil]

@[simp] theorem fg_did_laserLimits (s : State) (c st b : Nat) (f : Fld) :
    (s.did (laserLimits c st)).fg b f = s.fg b f := by
  simp [laserLimits]

/-- The registers of the page but TX_PWR_MON read as the change set them. -/
theorem fg_did_laserTo (s : State) (c st : Nat) {f : Fld} (h : OPT.TX_PWR_MON ≠ f.off) :
    (s.did (laserTo c st)).fg (ob c) f = (s.did (laserRegs c st)).fg (ob c) f := by
  rw [did_laserTo, fg_did_soaEval _ _ h, fg_did_laserLimits]

theorem laser_did_regs_limits (s : State) {c st : Nat} (h : st < 8) :
    ((s.did (laserRegs c st)).did (laserLimits c st)).laser c = st := by
  have hset : (s.did (fset (ob c) OPT.LASER_STAT_STATE st)).fg (ob c) OPT.LASER_STAT_STATE = st % 8 :=
    fg_did_fset_same s (ob c) st (by decide)
  simp (disch := decide) only [State.laser, fg_did_laserLimits, laserRegs, State.did_seqs_cons, State.did_seqs_nil,
    State.did_skip, fg_did_ite, fg_did_fset_apart, fg_did_fbset_apart, ite_self, hset, Nat.mod_eq_of_lt h]

theorem laser_did_laserTo (s : State) {c st : Nat} (h : st < 8) : (s.did (laserTo c st)).laser c = st := by
  rw [did_laserTo, State.laser, fg_did_soaEval _ _ (by decide)]
  exact laser_did_regs_limits s h

theorem tuneFault_did_laserTo (s : State) (c st : Nat) :
    (s.did (laserTo c st)).fb (ob c) OPT.LASER_STAT_TUNE_FAULT = decide (st = lFAULT) := by
  rw [State.fb, fg_did_laserTo _ _ _ (by decide)]
  simp (disch := decide) only [laserRegs, State.did_seqs_cons, State.did_seqs_nil, State.did_skip, fg_did_ite,
    fg_did_fset_apart, ite_self]
  exact fb_did_fbset_same _ (ob c) _ rfl (by decide)

theorem freqErr_did_laserTo (s : State) (c : Nat) {st : Nat} (h : ¬ (st = lLOCKING ∨ st = lLOCKED ∨ st = lHOLD)) :
    (s.did (laserTo c st)).fg (ob c) OPT.LASER_STAT_FREQ_ERR = 0 := by
  rw [fg_did_laserTo _ _ _ (by decide)]
  simp (disch := decide) only [laserRegs, if_neg h, State.did_seqs_cons, State.did_seqs_nil, State.did_skip, fg_did_ite,
    fg_did_fset_apart, fg_did_fset_same, ite_self, Nat.zero_mod]

theorem biasLocks_did_laserTo (s : State) (c : Nat) {st : Nat} (h : st ≠ lLOCKED) :
    (s.did (laserTo c st)).fg (ob c) OPT.MZM_STAT_LOCKED = 0 := by
  rw [fg_did_laserTo _ _ _ (by decide)]
  simp (disch := decide) only [laserRegs, if_neg h, State.did_seqs_cons, State.did_seqs_nil, fg_did_fset_same,
    Nat.zero_mod]

theorem lockLimit_did_laserTo (s : State) (c st : Nat) :
    (s.did (laserTo c st)).running (tLock c) = decide (st = lLOCKING) := by
  have hramp : tLock c ≠ tRamp c := by simp only [tLock, tRamp]; omega
  have hhold : tLock c ≠ tHold c := by simp only [tLock, tHold]; omega
  rw [did_laserTo, State.running, timer_did_soaEval _ hramp, laserLimits, State.did_seqs_cons_pair,
    timer_did_startIf_of_ne _ _ hhold]
  exact running_did_startIf _ _ _

theorem holdLimit_did_laserTo (s : State) (c st : Nat) :
    (s.did (laserTo c st)).running (tHold c) = decide (st = lHOLD) := by
  have hramp : tHold c ≠ tRamp c := by simp only [tHold, tRamp]; omega
  rw [did_laserTo, State.running, timer_did_soaEval _ hramp, laserLimits, State.did_seqs_cons_pair]
  exact running_did_startIf _ _ _

theorem soaOpen_did_laserTo (s : State) (c : Nat) {st : Nat} (hlt : st < 8) (h : st ≠ lLOCKED) :
    (s.did (laserTo c st)).soaOpen c = false := by
  rw [did_laserTo, soaOpen_did_soaEval]
  exact soaMay_of_not_locked ((laser_did_regs_limits s hlt).trans_ne h)

/-- Settles O23: the registers, the limits and the SOA, each from its part of the change. -/
theorem laserStateChanges : Obligations.LaserStateChanges := by
  intro s c st hlt
  exact ⟨laser_did_laserTo s hlt, tuneFault_did_laserTo s c st,
    fun hlocking hlocked hhold => freqErr_did_laserTo s c (by simp [lLOCKING, lLOCKED, lHOLD, hlocking, hlocked, hhold]),
    fun hlocked => biasLocks_did_laserTo s c hlocked, lockLimit_did_laserTo s c st, holdLimit_did_laserTo s c st,
    fun hlocked => soaOpen_did_laserTo s c hlt hlocked⟩

/-! ## Events of the optical engine (R66, R68–R71, R73, R76, R77) -/

theorem did_tecSettled_warmup {s : State} {c : Nat} (temp : Int) (cur : Nat) (hon : s.pageOn ⟨.opt, c⟩ = true)
    (hst : s.laser c = lWARMUP) :
    s.did (tecSettled c temp cur) = s.did (seqs [fset (ob c) OPT.LASER_MON_TEC_TEMP (tc 16 temp),
      fset (ob c) OPT.LASER_MON_LD_CUR cur, laserTo c lTUNING]) := by
  simp only [State.did, tecSettled, hon, or_true, if_true, hst]

theorem did_tuningDone {s : State} {c : Nat} (err : Int) (hst : s.laser c = lTUNING) :
    s.did (tuningDone c err) = s.did (seqs [laserTo c lLOCKING, fset (ob c) OPT.LASER_CUR_CH_N (s.opt c).target,
      fset (ob c) OPT.LASER_STAT_FREQ_ERR (tc 16 err)]) := by
  simp only [State.did, tuningDone, if_pos hst]

/-- Lock in LOCKING, within the attempt's limit, with no tune queued. -/
theorem did_laserLocked_enters {s : State} {c : Nat} {err : Int} (herr : err.natAbs ≤ 150) (hst : s.laser c = lLOCKING)
    (htime : s.elapsed (tLock c) ≤ 20000000) (hqueued : s.fb (ob c) OPT.LASER_STAT_QUEUED = false)
    (hfollow : s.fb (ob c) OPT.LASER_CTL_FOLLOW = false) :
    s.did (laserLocked c err) = s.did (seqs [fineJump c (s.fineSet c), fset (ob c) OPT.LASER_STAT_FREQ_ERR (tc 16 err),
      laserTo c lLOCKED, raise (ob c) 0]) := by
  simp only [State.did, laserLocked, if_pos (And.intro herr (Or.inl (And.intro hst htime))), hqueued, hfollow,
    Bool.false_eq_true, if_false]

/-- Lock in LOCKING with a tune queued: the tune follows at once (R69). -/
theorem did_laserLocked_queued {s : State} {c : Nat} {err : Int} (herr : err.natAbs ≤ 150) (hst : s.laser c = lLOCKING)
    (htime : s.elapsed (tLock c) ≤ 20000000) (hqueued : s.fb (ob c) OPT.LASER_STAT_QUEUED = true) :
    s.did (laserLocked c err) = s.did (seqs [raise (ob c) 0, fbset (ob c) OPT.LASER_STAT_QUEUED false,
      optUpd c fun r => { r with target := (s.opt c).queued, attempt := 1 }, laserTo c lTUNING]) := by
  have hprog : s.did (laserLocked c err) =
      s.did (seqs [raise (ob c) 0, tuneDrop c, laserTune c (s.opt c).queued]) := by
    simp only [State.did, laserLocked, if_pos (And.intro herr (Or.inl (And.intro hst htime))), if_pos hqueued]
  exact hprog.trans (did_seqs_flatten s [raise (ob c) 0, tuneDrop c]
    [optUpd c fun r => { r with target := (s.opt c).queued, attempt := 1 }, laserTo c lTUNING])

theorem did_lockTimeout_first {s : State} {c : Nat} (hst : s.laser c = lLOCKING) (hrun : s.running (tLock c) = true)
    (hatt : (s.opt c).attempt = 1) :
    s.did (lockTimeout c) = s.did (seqs [clockEnd (tLock c) 20000000, laserTo c lTUNING,
      optUpd c fun r => { r with attempt := 2 }]) := by
  simp only [State.did, lockTimeout, if_pos (And.intro hst hrun), if_pos hatt]

theorem did_lockTimeout_second {s : State} {c : Nat} (hst : s.laser c = lLOCKING) (hrun : s.running (tLock c) = true)
    (hatt : (s.opt c).attempt ≠ 1) :
    s.did (lockTimeout c) = s.did (seqs [clockEnd (tLock c) 20000000, laserFault c]) := by
  simp only [State.did, lockTimeout, if_pos (And.intro hst hrun), if_neg hatt]

theorem did_laserUnlock {s : State} {c : Nat} {err : Int} (hst : s.laser c = lLOCKED)
    (herr : s.fg (ob c) OPT.LASER_GUARD_OFF_GRID < err.natAbs) :
    s.did (laserUnlock c err) = s.did (seqs [fset (ob c) OPT.LASER_STAT_FREQ_ERR (tc 16 err), laserTo c lHOLD,
      raise (ob c) 1]) := by
  simp only [State.did, laserUnlock, if_pos (And.intro hst herr)]

theorem did_holdTimeout {s : State} {c : Nat} (hst : s.laser c = lHOLD) (hrun : s.running (tHold c) = true) :
    s.did (holdTimeout c) = s.did (seqs [clockEnd (tHold c) 100000000, laserFault c]) := by
  simp only [State.did, holdTimeout, if_pos (And.intro hst hrun)]

/-- A limit's end that leads to FAULT, step by step. -/
theorem did_seqs_laserFault (s : State) (p : Prog) (c : Nat) :
    s.did (seqs [p, laserFault c]) =
      s.did (seqs [p, fbset (ob c) OPT.LASER_STAT_QUEUED false, laserTo c lFAULT, raise (ob c) 2]) :=
  did_seqs_flatten s [p] [tuneDrop c, laserTo c lFAULT, raise (ob c) 2]

theorem did_txAtTarget {s : State} {c : Nat} {dbm : Int} (hopen : s.soaOpen c = true)
    (htarget : s.fb (ob c) OPT.TX_PWR_MON_AT_TARGET = false) (hdbm : (dbm - s.pwrSet c).natAbs ≤ 20) :
    s.did (txAtTarget c dbm) = s.did (seqs [fbset (ob c) OPT.TX_PWR_MON_AT_TARGET true,
      fset (ob c) OPT.TX_PWR_MON_DBM (tc 16 dbm), raise (ob c) 3]) := by
  simp only [State.did, txAtTarget, hopen, htarget, hdbm, Bool.not_false, and_self, if_true]

theorem did_biasLocked {s : State} {c : Nat} (loop : Nat) (hst : s.laser c = lLOCKED)
    (hen : s.fb (ob c) OPT.MZM_CTL_BIAS_EN = true) (hhold : s.fb (ob c) OPT.MZM_CTL_BIAS_HOLD = false) :
    s.did (biasLocked c loop) =
      s.did (fset (ob c) OPT.MZM_STAT_LOCKED (setBit (s.fg (ob c) OPT.MZM_STAT_LOCKED) loop true)) := by
  simp only [State.did, biasLocked, hst, hen, hhold, Bool.not_false, and_self, if_true, fsetF]

theorem did_mzmUnlock {s : State} {c loop : Nat} (hlock : bitOf (s.fg (ob c) OPT.MZM_STAT_LOCKED) loop = true)
    (hhold : s.fb (ob c) OPT.MZM_CTL_BIAS_HOLD = false) :
    s.did (mzmUnlock c loop) = s.did (seqs [fset (ob c) OPT.MZM_STAT_LOCKED
      (setBit (s.fg (ob c) OPT.MZM_STAT_LOCKED) loop false), raise (ob c) 6]) := by
  have hset : s.did (fsetF (ob c) OPT.MZM_STAT_LOCKED fun t => setBit (t.fg (ob c) OPT.MZM_STAT_LOCKED) loop false) =
      s.did (fset (ob c) OPT.MZM_STAT_LOCKED (setBit (s.fg (ob c) OPT.MZM_STAT_LOCKED) loop false)) := rfl
  have hprog : s.did (mzmUnlock c loop) = s.did (seqs [fsetF (ob c) OPT.MZM_STAT_LOCKED fun t =>
      setBit (t.fg (ob c) OPT.MZM_STAT_LOCKED) loop false, raise (ob c) 6]) := by
    simp only [State.did, mzmUnlock, hlock, hhold, Bool.not_false, and_self, if_true]
  rw [hprog, State.did_seqs_cons_pair, hset, State.did_seqs_cons_pair]

theorem did_followOk {s : State} {c : Nat} (fine : Int) (hfollow : s.fb (ob c) OPT.LASER_CTL_FOLLOW = true)
    (hst : s.laser c = lLOCKED) :
    s.did (followOk c fine) = s.did (seqs [fineJump c fine, fbset (ob c) OPT.LASER_STAT_FOLLOW_OK true, soaEval c]) := by
  simp only [State.did, followOk, if_pos (And.intro hfollow hst)]

theorem did_followLost {s : State} {c : Nat} (fine : Int) (hfollow : s.fb (ob c) OPT.LASER_CTL_FOLLOW = true)
    (hok : s.fb (ob c) OPT.LASER_STAT_FOLLOW_OK = true) :
    s.did (followLost c fine) = s.did (seqs [fineJump c fine, fbset (ob c) OPT.LASER_STAT_FOLLOW_OK false,
      raise (ob c) 8, soaEval c]) := by
  simp only [State.did, followLost, if_pos (And.intro hfollow hok)]

/-- Power at or above the threshold, with no loss of signal before, and the gain of the AGC (R76, R77). -/
theorem did_rxPower_signal {s : State} {c : Nat} (x y : Int) {tot : Int} (gain : Nat)
    (hpres : s.present ⟨.opt, c⟩ = true) (hon : s.pageOn ⟨.opt, c⟩ = true)
    (hlos : s.fb (ob c) OPT.RX_STAT_LOS_RAW = false) (hthr : sx 12 (s.fg (ob c) OPT.LOS_CFG_THR) * 10 ≤ tot)
    (hmax : tot ≤ 550)
    (hagc : s.fb (ob c) OPT.TIA_CTL_AGC_EN = true) (hfreeze : s.fb (ob c) OPT.TIA_CTL_AGC_FREEZE = false)
    (hburst : (s.opt c).burstFreeze = false) :
    s.did (rxPower c x y tot gain) = s.did (seqs [fset (ob c) OPT.RX_PWR_X_DBM (pwrCode x),
      fset (ob c) OPT.RX_PWR_Y_DBM (pwrCode y), fset (ob c) OPT.RX_PWR_TOT_DBM (pwrCode tot),
      fbset (ob c) OPT.RX_STAT_LOS_RAW false, fbset (ob c) OPT.RX_STAT_OVERLOAD false,
      fset (ob c) OPT.RX_STAT_GAIN gain]) := by
  have hprog : s.did (rxPower c x y tot gain) = s.did (seqs [fset (ob c) OPT.RX_PWR_X_DBM (pwrCode x),
      fset (ob c) OPT.RX_PWR_Y_DBM (pwrCode y), fset (ob c) OPT.RX_PWR_TOT_DBM (pwrCode tot),
      fbset (ob c) OPT.RX_STAT_LOS_RAW false, skip, skip, fbset (ob c) OPT.RX_STAT_OVERLOAD false,
      fset (ob c) OPT.RX_STAT_GAIN gain]) := by
    simp only [State.did, rxPower, hpres, hon, hlos, hagc, hfreeze, hburst, decide_eq_false (Int.not_lt.mpr hthr),
      decide_eq_false (Int.not_lt.mpr hmax), Bool.not_true, Bool.or_false, Bool.false_and, Bool.false_eq_true, if_false]
  exact (hprog.trans (did_seqs_skip s [_, _, _, _] _)).trans (did_seqs_skip s [_, _, _, _] _)

/-- Power below the threshold, with no loss of signal before, and the manual gain. -/
theorem did_rxPower_lost {s : State} {c : Nat} (x y : Int) {tot : Int} (gain : Nat)
    (hpres : s.present ⟨.opt, c⟩ = true) (hon : s.pageOn ⟨.opt, c⟩ = true)
    (hlos : s.fb (ob c) OPT.RX_STAT_LOS_RAW = false) (hthr : tot < sx 12 (s.fg (ob c) OPT.LOS_CFG_THR) * 10)
    (hmax : tot ≤ 550)
    (hagc : s.fb (ob c) OPT.TIA_CTL_AGC_EN = false) :
    s.did (rxPower c x y tot gain) = s.did (seqs [fset (ob c) OPT.RX_PWR_X_DBM (pwrCode x),
      fset (ob c) OPT.RX_PWR_Y_DBM (pwrCode y), fset (ob c) OPT.RX_PWR_TOT_DBM (pwrCode tot),
      fbset (ob c) OPT.RX_STAT_LOS_RAW true, raise (ob c) 4, fbset (ob c) OPT.RX_STAT_OVERLOAD false,
      fset (ob c) OPT.RX_STAT_GAIN (s.fg (ob c) OPT.TIA_CTL_MAN_GAIN)]) := by
  have hprog : s.did (rxPower c x y tot gain) = s.did (seqs [fset (ob c) OPT.RX_PWR_X_DBM (pwrCode x),
      fset (ob c) OPT.RX_PWR_Y_DBM (pwrCode y), fset (ob c) OPT.RX_PWR_TOT_DBM (pwrCode tot),
      fbset (ob c) OPT.RX_STAT_LOS_RAW true, raise (ob c) 4, skip, fbset (ob c) OPT.RX_STAT_OVERLOAD false,
      fset (ob c) OPT.RX_STAT_GAIN (s.fg (ob c) OPT.TIA_CTL_MAN_GAIN)]) := by
    simp only [State.did, rxPower, hpres, hon, hlos, hagc, decide_eq_true hthr, decide_eq_false (Int.not_lt.mpr hmax),
      Bool.not_true, Bool.not_false, Bool.or_false, Bool.and_self, Bool.false_and, Bool.false_eq_true, if_false, if_true]
  exact hprog.trans (did_seqs_skip s [_, _, _, _, _] _)

/-- Settles O24: each event is its program, and what the carrier's state implies follows. -/
theorem laserEventsAnswer : Obligations.LaserEventsAnswer := by
  refine ⟨fun s c temp cur hup hst => (run_carEv hup.1 _ _).trans ?_,
    fun s c err hrun hst => (run_carEv hrun _ _).trans ?_,
    fun s c err hrun herr hst htime hqueued hfollow => (run_carEv hrun _ _).trans ?_,
    fun s c err hrun herr hst htime hqueued => (run_carEv hrun _ _).trans ?_,
    fun s c hrun hst hlimit hatt => (run_carEv hrun _ _).trans ?_,
    fun s c hrun hst hlimit hatt => (run_carEv hrun _ _).trans ?_,
    fun s c err hrun hst herr => (run_carEv hrun _ _).trans ?_,
    fun s c hrun hst hlimit => (run_carEv hrun _ _).trans ?_,
    fun s c dbm hrun hopen htarget hdbm => (run_carEv hrun _ _).trans ?_,
    fun s c loop hrun hst hen hhold => (run_carEv hrun _ _).trans ?_,
    fun s c loop hrun hlock hhold => (run_carEv hrun _ _).trans ?_,
    fun s c fine hrun hfollow hst => (run_carEv hrun _ _).trans ?_,
    fun s c fine hrun hfollow hok => (run_carEv hrun _ _).trans ?_,
    fun s c x y total gain hup hlos hthr hmax hagc hfreeze hburst => (run_carEv hup.1 _ _).trans ?_,
    fun s c x y total gain hup hlos hthr hmax hagc => (run_carEv hup.1 _ _).trans ?_⟩
  · rw [did_tecSettled_warmup temp cur hup.2.2 hst]
  · have hev : s.did (fun s => seqs [tuningDone c err, cdGridChange c (s.fg (ob c) OPT.LASER_CUR_CH_N)] s) =
        (s.did (tuningDone c err)).did (cdGridChange c (s.fg (ob c) OPT.LASER_CUR_CH_N)) :=
      State.did_seqs_cons_pair s _ _
    rw [hev, did_tuningDone err hst, ← did_seqs_snoc]
    rfl
  · rw [did_laserLocked_enters herr hst htime hqueued hfollow]
  · rw [did_laserLocked_queued herr hst htime hqueued]
  · rw [did_lockTimeout_first hst hlimit hatt]
  · rw [did_lockTimeout_second hst hlimit hatt, did_seqs_laserFault]
  · rw [did_laserUnlock hst herr]
  · rw [did_holdTimeout hst hlimit, did_seqs_laserFault]
  · rw [did_txAtTarget hopen htarget hdbm]
  · rw [did_biasLocked loop hst hen hhold]
  · rw [did_mzmUnlock hlock hhold]
  · rw [did_followOk fine hfollow hst]
  · rw [did_followLost fine hfollow hok]
  · rw [State.did_seqs_cons_pair, did_rxPower_signal x y gain hup.2.1 hup.2.2 hlos hthr hmax hagc hfreeze hburst,
      ← did_seqs_snoc]
    rfl
  · rw [State.did_seqs_cons_pair, did_rxPower_lost x y gain hup.2.1 hup.2.2 hlos hthr hmax hagc, ← did_seqs_snoc]
    rfl

end Sys2Proof.Machine

namespace Sys2Proof.Machine

/-! ## Changes of the acquisition state (R128, R129, R132) -/

@[simp] theorem fg_did_rxfUpd (s : State) (c : Nat) (g : RxfRec → RxfRec) (b : Nat) (f : Fld) :
    (s.did (rxfUpd c g)).fg b f = s.fg b f := fg_did_of_reg (fun _ => rfl) b f
@[simp] theorem timer_did_rxfUpd (s : State) (c : Nat) (g : RxfRec → RxfRec) (k : Nat) :
    (s.did (rxfUpd c g)).timer k = s.timer k := State.apply_timer s _ k

/-- Outside RUN the timing lock and the monitored dispersion no longer hold, and no deviation is timed. -/
def acqRunLost (c st : Nat) : Prog :=
  if st = qRUN then skip else seqs [fbset (rb c) RXF.TR_STAT_LOCK false, fbset (rb c) RXF.CD_MON_VALID false,
    timerStop (tTrack c)]

/-- A scan begins in SCAN; in IDLE, WAIT and the trials none is shown. A user scan goes on in TIMING and RUN. -/
def acqScanShown (c st : Nat) : Prog :=
  if st = qSCAN then seqs [fset (rb c) RXF.SCAN_STAT_STATE 1, fbset (rb c) RXF.SCAN_STAT_DONE false, timerStart (tScan c)]
  else if st = qIDLE ∨ st = qWAIT ∨ st = qTRY_ACTIVE ∨ st = qTRY_ALT then
    seqs [fset (rb c) RXF.SCAN_STAT_STATE 0, timerStop (tScan c)]
  else skip

/-- The registers and time limits that a change of the acquisition state sets. -/
def acqShown (c st : Nat) : Prog :=
  seqs [fset (rb c) RXF.ACQ_STAT_STATE st, acqRunLost c st,
    if st = qTIMING then timerStart (tTiming c) else timerStop (tTiming c), acqScanShown c st]

/-- A change of the acquisition state: its registers and limits, then the waits of the trials are dropped. -/
theorem did_acqTo (s : State) (c st : Nat) :
    s.did (acqTo c st) = (s.did (acqShown c st)).did
      (if st = qTRY_ACTIVE ∨ st = qTRY_ALT ∨ st = qSCAN then skip
      else rxfUpd c fun r => { r with acqWait := none, rewrite := none }) := by
  have hprog : s.did (acqTo c st) = s.did (seqs [_, _, _, _, _]) := rfl
  rw [hprog]
  simp only [acqShown, acqRunLost, acqScanShown, State.did_seqs_cons, State.did_seqs_nil]

theorem fg_did_acqTo (s : State) (c st b : Nat) (f : Fld) :
    (s.did (acqTo c st)).fg b f = (s.did (acqShown c st)).fg b f := by
  rw [did_acqTo, fg_did_ite, State.did_skip, fg_did_rxfUpd, ite_self]

theorem running_did_acqTo (s : State) (c st k : Nat) :
    (s.did (acqTo c st)).running k = (s.did (acqShown c st)).running k := by
  rw [State.running, did_acqTo, timer_did_ite, State.did_skip, timer_did_rxfUpd, ite_self, State.running]

/-- What is not of SCAN_STAT reads as it did before the scan was shown. -/
theorem fg_did_acqScanShown (s : State) (c st : Nat) {f : Fld} (h : RXF.SCAN_STAT ≠ f.off) :
    (s.did (acqScanShown c st)).fg (rb c) f = s.fg (rb c) f := by
  have hstate : RXF.SCAN_STAT_STATE.Apart f := .inl h
  have hdone : RXF.SCAN_STAT_DONE.Apart f := .inl h
  simp only [acqScanShown, fg_did_ite, State.did_seqs_cons, State.did_seqs_nil, State.did_skip, fg_did_timerStart,
    fg_did_timerStop, fg_did_fset_apart _ _ _ hstate, fg_did_fbset_apart _ _ _ hdone, ite_self]

theorem timer_did_acqScanShown_of_ne (s : State) {c k : Nat} (st : Nat) (h : k ≠ tScan c) :
    (s.did (acqScanShown c st)).timer k = s.timer k := by
  simp only [acqScanShown, timer_did_ite, State.did_seqs_cons, State.did_seqs_nil, State.did_skip, timer_did_fset,
    timer_did_fbset, timer_did_timerStart, timer_did_timerStop, if_neg h, ite_self]

theorem acq_did_acqTo (s : State) (c : Nat) {st : Nat} (h : st < 8) : (s.did (acqTo c st)).acq c = st := by
  have hset : (s.did (fset (rb c) RXF.ACQ_STAT_STATE st)).fg (rb c) RXF.ACQ_STAT_STATE = st % 8 :=
    fg_did_fset_same s (rb c) st (by decide)
  rw [State.acq, fg_did_acqTo]
  simp (disch := decide) only [acqShown, acqRunLost, State.did_seqs_cons, State.did_seqs_nil, State.did_skip,
    fg_did_acqScanShown, fg_did_ite, fg_did_timerStart, fg_did_timerStop, fg_did_fbset_apart, ite_self, hset,
    Nat.mod_eq_of_lt h]

/-- Outside RUN the timing is not locked. -/
theorem lock_did_acqTo (s : State) (c : Nat) {st : Nat} (h : st ≠ qRUN) :
    (s.did (acqTo c st)).fb (rb c) RXF.TR_STAT_LOCK = false := by
  rw [State.fb, fg_did_acqTo]
  simp (disch := decide) only [acqShown, acqRunLost, if_neg h, State.did_seqs_cons, State.did_seqs_nil,
    fg_did_acqScanShown, fg_did_ite, fg_did_timerStart, fg_did_timerStop, fg_did_fbset_apart, ite_self]
  exact fb_did_fbset_same _ (rb c) false rfl (by decide)

/-- Nor is the dispersion monitored. -/
theorem cdMonValid_did_acqTo (s : State) (c : Nat) {st : Nat} (h : st ≠ qRUN) :
    (s.did (acqTo c st)).fb (rb c) RXF.CD_MON_VALID = false := by
  rw [State.fb, fg_did_acqTo]
  simp (disch := decide) only [acqShown, acqRunLost, if_neg h, State.did_seqs_cons, State.did_seqs_nil,
    fg_did_acqScanShown, fg_did_ite, fg_did_timerStart, fg_did_timerStop, ite_self]
  exact fb_did_fbset_same _ (rb c) false rfl (by decide)

theorem timingLimit_did_acqTo (s : State) (c st : Nat) :
    (s.did (acqTo c st)).running (tTiming c) = decide (st = qTIMING) := by
  have hscan : tTiming c ≠ tScan c := by simp only [tTiming, tScan]; omega
  rw [running_did_acqTo, acqShown, State.did_seqs_cons, State.did_seqs_cons, State.did_seqs_cons_pair, State.running,
    timer_did_acqScanShown_of_ne _ _ hscan]
  exact running_did_startIf _ _ _

/-- What SCAN_STAT and the scan's clock show is what the change makes of them last. -/
theorem did_acqShown (s : State) (c st : Nat) :
    ∃ t : State, s.did (acqShown c st) = t.did (acqScanShown c st) :=
  ⟨_, by rw [acqShown, State.did_seqs_cons, State.did_seqs_cons, State.did_seqs_cons_pair]⟩

/-- In SCAN a scan runs. -/
theorem scan_did_acqTo_scan (s : State) (c : Nat) {st : Nat} (h : st = qSCAN) :
    (s.did (acqTo c st)).fg (rb c) RXF.SCAN_STAT_STATE = 1 ∧ (s.did (acqTo c st)).running (tScan c) = true := by
  obtain ⟨t, ht⟩ := did_acqShown s c st
  rw [fg_did_acqTo, running_did_acqTo, ht, acqScanShown, if_pos h]
  simp only [State.did_seqs_cons, State.did_seqs_nil]
  constructor
  · rw [fg_did_timerStart, fg_did_fbset_apart _ _ _ (by decide)]
    exact fg_did_fset_same t (rb c) 1 (by decide)
  · simp [State.running, timer_did_timerStart]

/-- In IDLE, WAIT and the trials no scan is shown: a user scan does not outlast TIMING and RUN (log 35, DEDUCED). -/
theorem scan_did_acqTo_before (s : State) (c : Nat) {st : Nat} (h : st < qSCAN) :
    (s.did (acqTo c st)).fg (rb c) RXF.SCAN_STAT_STATE = 0 ∧ (s.did (acqTo c st)).running (tScan c) = false := by
  have hbefore : st = qIDLE ∨ st = qWAIT ∨ st = qTRY_ACTIVE ∨ st = qTRY_ALT := by
    simp only [qSCAN, qIDLE, qWAIT, qTRY_ACTIVE, qTRY_ALT] at h ⊢
    omega
  obtain ⟨t, ht⟩ := did_acqShown s c st
  rw [fg_did_acqTo, running_did_acqTo, ht, acqScanShown, if_neg h.ne, if_pos hbefore, State.did_seqs_cons_pair]
  constructor
  · rw [fg_did_timerStop]
    exact fg_did_fset_same t (rb c) 0 (by decide)
  · simp [State.running, timer_did_timerStop]

/-- Settles O28: the state, what RUN alone shows, the limit of TIMING and the scan, each from its part of the change. -/
theorem acquisitionStateChanges : Obligations.AcquisitionStateChanges := by
  intro s c st hlt
  exact ⟨acq_did_acqTo s c (hlt.trans (by decide)),
    fun hrun => ⟨lock_did_acqTo s c hrun, cdMonValid_did_acqTo s c hrun⟩, timingLimit_did_acqTo s c st,
    fun hscan => scan_did_acqTo_scan s c hscan, fun hbefore => scan_did_acqTo_before s c hbefore⟩

end Sys2Proof.Machine

namespace Sys2Proof.Machine

/-! ## Writes and reads of RXMc (R13, R158) -/

/-- An event of a carrier whose program comes to another one. -/
theorem run_carEv_of {s : State} {p q : Prog} (h : s.phase = .run) (c : Nat) (hp : s.did p = s.did q) :
    run (carEv c p) s = .next ((s.did q).carDone c) := by
  rw [run_carEv h, hp]

/-- The slot of an RXMc page holds it, at every offset. -/
theorem pageAt_rxm (c : Fin 4) {off : Nat} (h : off < 0x1000) : pageAt (mb c + off) = some ⟨.rxm, c.val⟩ := by
  have hslot : (mb c.val + off) / 0x1000 = mb c.val / 0x1000 := by
    simp only [mb, pageBase]
    omega
  have hall : ∀ c : Fin 4, pageAt (mb c.val) = some ⟨.rxm, c.val⟩ := by decide
  rw [pageAt_slot hslot, hall c]

/-- A register of RXMc may be written where each row of its offset says so. -/
theorem writable_of_rxmRows {c off : Nat} {r : RegRow} (hr : regRow ⟨.rxm, c⟩ off = some r)
    (hrows : ∀ q ∈ RXM.rows, q.off = off → q.rw ≠ 0 ∨ q.w1 ≠ 0) : r.rw ≠ 0 ∨ r.w1 ≠ 0 :=
  hrows r (List.mem_of_find?_eq_some hr) (regRow_off hr)

/-- A write of an RXMc register reaches it, and what depends on the page is evaluated anew. -/
theorem run_rxmCmd {s : State} {src : Requester} {c : Fin 4} {off : Nat} {r : RegRow} {v : Word} {fx : Prog}
    (h : s.serves src ⟨.rxm, c.val⟩) (hlo : 0x100 ≤ off) (hhi : off < 0x800) (hr : regRow ⟨.rxm, c.val⟩ off = some r)
    (hrows : ∀ q ∈ RXM.rows, q.off = off → q.rw ≠ 0 ∨ q.w1 ≠ 0)
    (hfx : s.did (rxmWrite src.id c r v) = s.did fx) :
    run (regCmd src (mb c) off v) s = .next ((s.did fx).pageDone ⟨.rxm, c.val⟩) := by
  have hpage : s.did (regCmd src (mb c) off v) = s.did (pageWrite ⟨.rxm, c.val⟩ src.id false r v) :=
    did_regCmd v h (pageAt_rxm c (by omega)) hlo hhi hr (writable_of_rxmRows hr hrows) nofun
  have hchain : s.did (pageWrite ⟨.rxm, c.val⟩ src.id false r v) =
      (s.did (rxmWrite src.id c r v)).did (pageEval ⟨.rxm, c.val⟩) := State.did_seqs_cons_pair s _ _
  rw [run_eq, hpage, hchain, hfx, State.pageDone]

/-- A plain write within the limits of the register's fields. -/
theorem did_plainWrite_within {s : State} {r : RegRow} {lims : List Lim} {v : Word} (b : Nat)
    (h : (lims.any fun l => l.f.off == r.off && l.bad v) = false) :
    s.did (plainWrite b r lims v) = s.did (rset (b + r.off) (r.merge (s.reg (b + r.off)) v)) := by
  have hnone : (lims.filter fun l => l.f.off == r.off && l.bad v) = [] := by
    rw [List.filter_eq_nil_iff]
    exact List.any_eq_false.mp h
  simp only [State.did, plainWrite, hnone, List.isEmpty_nil, if_true]

/-- RXM_CTL and HP_CFG are plain registers; the predictor is evaluated after them (R147, R151). -/
theorem did_rxmWrite_plain {s : State} {c off : Nat} {r : RegRow} {v : Word} (src : Nat) (hr : r.off = off)
    (hoff : off = RXM.RXM_CTL ∨ off = RXM.HP_CFG) (hlim : (rxmLims.any fun l => l.f.off == off && l.bad v) = false) :
    s.did (rxmWrite src c r v) = s.did (seqs [rset (mb c + off) (r.merge (s.reg (mb c + off)) v), hpEval c]) := by
  subst hr
  have hprog : s.did (rxmWrite src c r v) = s.did (seqs [plainWrite (mb c) r rxmLims v, hpEval c]) := by
    rcases hoff with hoff | hoff <;> simp only [State.did, rxmWrite, hoff] <;> rfl
  rw [hprog, State.did_seqs_cons_pair, did_plainWrite_within _ hlim, State.did_seqs_cons_pair]

/-- A host's read of an RXMc register that is not computed: the register takes what the read leaves in it, and the value
before is answered. -/
theorem run_rxmRead {s : State} {c : Fin 4} {off : Nat} {r : RegRow} {v : Word} (h : s.up ⟨.rxm, c.val⟩)
    (hlo : 0x100 ≤ off) (hhi : off < 0x800) (h4 : off % 4 = 0) (hr : regRow ⟨.rxm, c.val⟩ off = some r)
    (hview : rxmView c s off = none) (hleft : s.did (rxmReadFx c off) = s.apply (.regs (mb c + off) v)) :
    run (regRd .host (mb c + off)) s =
      .next (s.applyAll [.regs (mb c + off) v, .rdata (s.reg (mb c + off)).toNat]).settled := by
  obtain ⟨hrun, hpres, hon⟩ := h
  have hpage := pageAt_rxm c (show off < 0x1000 by omega)
  have hoff : (mb c + off) % 0x1000 = off := Page.base_add_mod ⟨.rxm, c.val⟩ (by omega)
  have haddr : mb c + off < 2 ^ 26 := by simp only [mb, pageBase]; omega
  have halign : (mb c + off) % 4 = 0 := by simp only [mb, pageBase]; omega
  have hdark : s.pageDark ⟨.rxm, c.val⟩ = false := by simp only [State.pageDark, hpres, hon]; rfl
  have hlow : ¬ off < 0x100 := Nat.not_lt.mpr hlo
  have hreg : s.blockReg ⟨.rxm, c.val⟩ off = s.reg (mb c + off) := by
    simp only [State.blockReg, hr, pageView, hview, Option.getD_none]
    rfl
  have hval : s.busValue 1 (mb c + off) = s.reg (mb c + off) := by
    simp only [State.busValue, hrun, hpage, hoff, OfNat.one_ne_ofNat, false_and, if_false, State.pageRead, if_neg hlow,
      if_pos hhi, State.regRead, hdark, Bool.false_eq_true, hreg]
  have hfx : s.did (busReadFx 1 (mb c + off)) = s.did (rxmReadFx c off) := by
    simp only [State.did, busReadFx, hrun, hpage, hoff, OfNat.one_ne_ofNat, false_and, if_false, hlow, hdark,
      Bool.false_eq_true, or_self, if_pos hhi, hr, Option.isSome_some, if_true, regReadFx]
  have hread : s.did (regRd .host (mb c + off)) =
      (s.did (busReadFx 1 (mb c + off))).apply (.rdata (s.busValue 1 (mb c + off)).toNat) := did_busRead_word haddr halign
  rw [run_eq, hread, hval, hfx, hleft]
  rfl

/-! ## Receivers of streams (R140–R142, R149–R152, R154) -/

/-- The coarse estimate of a stream in START (R149, R151). -/
theorem did_coarseDone {s : State} {x : Strm} (mhz : Int) (hst : s.strSt x = zSTART) :
    s.did (coarseDone x mhz) = s.did (seqs [carOnly x (fset x.b RXM.FO_EST_MHZ (tc 16 mhz)),
      tapsPut x fun t i => t.anchorTap x i, strTo x zBLIND]) := by
  simp only [State.did, coarseDone, if_pos hst]

theorem did_blindConverged {s : State} {x : Strm} (hst : s.strSt x = zBLIND) (htime : s.elapsed (tBlind x) ≤ 200000) :
    s.did (blindConverged x) = s.did (strTo x zCONVERGE) := by
  simp only [State.did, blindConverged, if_pos (And.intro hst htime)]

theorem did_mimoFail {s : State} {x : Strm} (hst : s.strSt x = zBLIND ∨ s.strSt x = zRECOVER)
    (hrun : s.running (tBlind x) = true) :
    s.did (mimoFail x) = s.did (seqs [clockEnd (tBlind x) 200000, strTo x zSTART, strRaise x 9 none,
      carOnly x (fincSat x.b RXM.RXM_STAT_FAILS 1)]) := by
  simp only [State.did, mimoFail, if_pos (And.intro hst hrun)]

theorem did_snrLoss {s : State} {x : Strm} {snr : Int} (hst : s.strSt x = zTRACK) (hsnr : snr < s.lostSnr x) :
    s.did (snrLoss x snr) = s.did (seqs [strTo x zRECOVER, strRaise x 1 (some 10)]) := by
  simp only [State.did, snrLoss, if_pos (And.intro hst hsnr)]

theorem did_recoverDone {s : State} {x : Strm} {snr : Int} (hst : s.strSt x = zRECOVER) (hsnr : s.gateSnr x ≤ snr) :
    s.did (recoverDone x snr) = s.did (seqs [strTo x zTRACK, strRaise x 0 none]) := by
  simp only [State.did, recoverDone, if_pos (And.intro hst hsnr)]

/-- A frozen receiver continues, or starts anew after FREEZE_MAX. -/
theorem did_freezeExit {s : State} {x : Strm} (hst : s.strSt x = zFREEZE) (hacq : s.acq x.c = qRUN) :
    s.did (freezeExit x) = s.did (strTo x
      (if s.elapsed (tFreeze x) ≤ s.fg (mb x.c) RXM.ANCHOR_CFG_FREEZE_MAX * 1000000 then zCONVERGE else zSTART)) := by
  simp only [State.did, freezeExit, if_pos (And.intro hst hacq)]
  split <;> rfl

/-- A block in TRACK, gate and leaking being what the block makes of them (R140–R142). -/
theorem did_adaptBlock_track {s : State} {x : Strm} {snr : Int} {slip gate leak : Bool} (adapted : List Word)
    (hst : s.strSt x = zTRACK) (hgate : (decide (s.gateSnr x ≤ snr) && !slip) = gate)
    (hleak : (s.fb x.b x.fLeak && !gate) = leak) :
    s.did (adaptBlock x snr slip adapted) = s.did (seqs [fbset x.b x.fGate gate,
      if gate then seqs [timerStop (tGate x), fbset x.b x.fLeak false]
      else seqs [carOnly x (fincSat x.b RXM.GATE_CNT_COUNT 1), if s.running (tGate x) then skip else timerStart (tGate x)],
      tapsPut x fun t i =>
        if leak then blendTap (adapted.getD i (t.tap (x.liveKey i))) (t.anchorTap x i) 1
          (2 ^ s.fg (mb x.c) RXM.ANCHOR_CFG_LEAK)
        else adapted.getD i (t.tap (x.liveKey i))]) := by
  have hadapts : ¬ (s.strSt x ≠ zBLIND ∧ s.strSt x ≠ zCONVERGE ∧ s.strSt x ≠ zTRACK) := fun h => h.2.2 hst
  subst hgate hleak
  simp only [State.did, adaptBlock, if_neg hadapts]

/-- A block at the gate threshold or above, without a slip: the gate opens, and the taps take the step. -/
theorem did_adaptBlock_open {s : State} {x : Strm} {snr : Int} (adapted : List Word) (hst : s.strSt x = zTRACK)
    (hsnr : s.gateSnr x ≤ snr) :
    s.did (adaptBlock x snr false adapted) = s.did (seqs [fbset x.b x.fGate true, timerStop (tGate x),
      fbset x.b x.fLeak false, tapsPut x fun t i => adapted.getD i (t.tap (x.liveKey i))]) := by
  rw [did_adaptBlock_track (gate := true) (leak := false) adapted hst (by simp [hsnr]) (by simp)]
  simp only [Bool.false_eq_true, if_false, if_true, State.did_seqs_cons, State.did_seqs_nil]

/-- A block with a slip, of a stream that leaks: the gate closes, and the taps move towards the anchor. -/
theorem did_adaptBlock_leaking {s : State} {x : Strm} (snr : Int) (adapted : List Word) (hst : s.strSt x = zTRACK)
    (hleak : s.fb x.b x.fLeak = true) (hrun : s.running (tGate x) = true) :
    s.did (adaptBlock x snr true adapted) = s.did (seqs [fbset x.b x.fGate false,
      carOnly x (fincSat x.b RXM.GATE_CNT_COUNT 1),
      tapsPut x fun t i => blendTap (adapted.getD i (t.tap (x.liveKey i))) (t.anchorTap x i) 1
        (2 ^ s.fg (mb x.c) RXM.ANCHOR_CFG_LEAK)]) := by
  rw [did_adaptBlock_track (gate := false) (leak := true) adapted hst (by simp) (by simp [hleak])]
  simp only [Bool.false_eq_true, if_false, if_true, hrun, State.did_seqs_cons, State.did_seqs_nil, State.did_skip]

theorem did_leakStart {s : State} {x : Strm} (hrun : s.running (tGate x) = true) (hleak : s.fb x.b x.fLeak = false) :
    s.did (leakStart x) = s.did (seqs [clockEnd (tGate x) (s.fg (mb x.c) RXM.ANCHOR_CFG_IDLE * 1000000 + 1),
      fbset x.b x.fLeak true, strRaise x 8 none]) := by
  simp only [State.did, leakStart, hrun, hleak, Bool.not_false, and_self, if_true]

theorem did_cprSlip_carrier {s : State} {c : Nat} (hst : s.strSt ⟨c, none⟩ = zTRACK) :
    s.did (cprSlip ⟨c, none⟩) = s.did (seqs [fincSat (mb c) RXM.CPR_SLIP_CNT_COUNT 1, raise (mb c) 10]) := by
  rw [State.did_eq, cprSlip, if_pos hst]
  rfl

/-! ## Anchor banks of a carrier (R152, R154) -/

/-- A filter that keeps every change may be left out of a row. -/
theorem did_seqs_filter_all (s : State) (p q : Prog) (l : List Prog) {f : Eff → Bool} (h : ∀ e, f e = true) :
    s.did (seqs (p :: (fun t => (q t).filter f) :: l)) = s.did (seqs (p :: q :: l)) := by
  have hkept : ∀ t : State, (q t).filter f = q t := fun t => List.filter_eq_self.mpr fun e _ => h e
  simp only [hkept]

/-- The fade of a carrier's banks ends, and a queued request may begin another. -/
theorem did_anchorFadeEnd_carrier {s : State} {c : Nat} (hfade : s.fb (mb c) RXM.ANCHOR_STAT_FADING = true)
    (hrun : s.running (mb c + 3) = true) :
    s.did (anchorFadeEnd ⟨c, none⟩) = s.did (seqs [clockEnd (mb c + 3) (s.fadeNs ⟨c, none⟩),
      swapFinish (Strm.swap ⟨c, none⟩) (s.strStopped ⟨c, none⟩), anchorBegin ⟨c, none⟩]) := by
  have hprog : s.did (anchorFadeEnd ⟨c, none⟩) = s.did (seqs [clockEnd (mb c + 3) (s.fadeNs ⟨c, none⟩),
      fun t => (swapFinish (Strm.swap ⟨c, none⟩) (s.strStopped ⟨c, none⟩) t).filter _, anchorBegin ⟨c, none⟩]) :=
    congrArg s.applyAll (if_pos ⟨hfade, hrun⟩)
  exact hprog.trans (did_seqs_filter_all s _ _ _ fun e => by cases e <;> rfl)

/-- The row of SWAP_REQ. -/
def swapReqRow : RegRow := ⟨RXM.SWAP_REQ, 0, 1, 0, false⟩

theorem regRow_swapReq (c : Nat) : regRow ⟨.rxm, c⟩ RXM.SWAP_REQ = some swapReqRow := rfl

/-- A write of SWAP_REQ requests a bank, and a fade that may begin begins (R152; log 9). -/
theorem did_rxmWrite_swapReq (s : State) (src c : Nat) (v : Word) :
    s.did (rxmWrite src c swapReqRow v) = s.did (seqs [
      swapReq (Strm.swap ⟨c, none⟩) (s.strStopped ⟨c, none⟩) src (wrote v RXM.SWAP_REQ_BANK), anchorBegin ⟨c, none⟩]) := rfl

/-- ANCHOR_CTL written with SAVE, outside a fade: its plain bits, then the copy or its refusal. -/
theorem did_rxmWrite_save {s : State} {c : Nat} {r : RegRow} (src : Nat) (v : Word) (hr : r.off = RXM.ANCHOR_CTL)
    (hfade : s.fb (mb c) RXM.ANCHOR_STAT_FADING = false) :
    s.did (rxmWrite src c r (setF v RXM.ANCHOR_CTL_SAVE 1)) = s.did (seqs [
      rset (mb c + RXM.ANCHOR_CTL) (r.merge (s.reg (mb c + RXM.ANCHOR_CTL)) (setF v RXM.ANCHOR_CTL_SAVE 1)),
      anchorSave ⟨c, none⟩ src]) := by
  have hsave : wroteB (setF v RXM.ANCHOR_CTL_SAVE 1) RXM.ANCHOR_CTL_SAVE = true := wroteB_setF_same v _ 1 (by decide)
  have hprog : s.did (rxmWrite src c r (setF v RXM.ANCHOR_CTL_SAVE 1)) = s.did (seqs [
      if s.fb (mb c) RXM.ANCHOR_STAT_FADING then
        swapUpd (mb c) fun q => { q with mode := some (wrote (setF v RXM.ANCHOR_CTL_SAVE 1) RXM.ANCHOR_CTL_LOAD_MODE) }
      else plainWrite (mb c) r [] (setF v RXM.ANCHOR_CTL_SAVE 1),
      if wroteB (setF v RXM.ANCHOR_CTL_SAVE 1) RXM.ANCHOR_CTL_SAVE then anchorSave ⟨c, none⟩ src else skip]) := by
    simp only [State.did, rxmWrite, hr]
    rfl
  rw [hprog, hfade, hsave, if_neg Bool.false_ne_true, if_pos rfl, State.did_seqs_cons_pair, did_plainWrite, hr,
    State.did_seqs_cons_pair, did_rset]

/-- A plain write of another register leaves a field. -/
theorem fg_did_rset_of_ne (s : State) (b : Nat) {off : Nat} {f : Fld} (v : Word) (h : f.off ≠ off) :
    (s.did (rset (b + off) v)).fg b f = s.fg b f := by
  rw [State.fg, State.fg, did_rset, apply_regs_reg_of_ne s v (by omega)]

theorem strSt_did_rset_of_ne (s : State) (c : Nat) {off : Nat} (v : Word) (h : RXM.RXM_STAT ≠ off) :
    (s.did (rset (mb c + off) v)).strSt ⟨c, none⟩ = s.strSt ⟨c, none⟩ :=
  fg_did_rset_of_ne s (mb c) (f := RXM.RXM_STAT_STATE) v h

theorem did_anchorSave_refused {s : State} {c : Nat} (src : Nat) (hst : s.strSt ⟨c, none⟩ ≠ zTRACK) :
    s.did (anchorSave ⟨c, none⟩ src) = s.did (errPage (mb c) RXM.ANCHOR_CTL src 0x83) :=
  congrArg s.applyAll (if_pos hst)

/-- SAVE in TRACK, outside a fade: the inactive bank takes the live taps. -/
theorem did_anchorSave_track {s : State} {c : Nat} (src : Nat) (hst : s.strSt ⟨c, none⟩ = zTRACK)
    (hfade : s.fb (mb c) RXM.ANCHOR_STAT_FADING = false) :
    s.did (anchorSave ⟨c, none⟩ src) = s.did (fun t => (List.range 1024).map fun i =>
      .tabs (Strm.anchorKey ⟨c, none⟩ (1 - t.fg (mb c) RXM.ANCHOR_STAT_ACTIVE) i) (t.tap (Strm.liveKey ⟨c, none⟩ i))) := by
  have hopen : ¬ s.fb (mb c) RXM.ANCHOR_STAT_FADING = true := by rw [hfade]; exact Bool.false_ne_true
  exact congrArg s.applyAll ((if_neg (not_not_intro hst)).trans (if_neg hopen))

/-- Settles O29: each event is its program, each write its register's effect. A limit that ends brings the clock to its end
(log 5), and a fade begins with its request (log 9). -/
theorem receiversAdapt : Obligations.ReceiversAdapt := by
  refine ⟨fun s src c v r hserve hr => run_rxmCmd hserve (by decide) (by decide) hr (by decide)
      (did_rxmWrite_plain src.id (regRow_off hr) (.inl rfl) rfl),
    fun s c sc mhz hrun hst => run_carEv_of hrun c (did_coarseDone mhz hst),
    fun s c sc hrun hst htime => run_carEv_of hrun c (did_blindConverged hst htime),
    fun s c sc hrun hst hlimit => run_carEv_of hrun c (did_mimoFail hst hlimit),
    fun s c sc snr hrun hst hsnr => run_carEv_of hrun c (did_snrLoss hst hsnr),
    fun s c sc snr hrun hst hsnr => run_carEv_of hrun c (did_recoverDone hst hsnr),
    fun s c sc hrun hst hacq => run_carEv_of hrun c (did_freezeExit hst hacq),
    fun s c sc snr adapted hrun hst hsnr => run_carEv_of hrun c (did_adaptBlock_open adapted hst hsnr),
    fun s c sc snr adapted hrun hst hleak hlimit =>
      run_carEv_of hrun c (did_adaptBlock_leaking snr adapted hst hleak hlimit),
    fun s c sc hrun hlimit hleak => run_carEv_of hrun c (did_leakStart hlimit hleak),
    fun s c hrun hst => run_carEv_of hrun c (did_cprSlip_carrier hst),
    fun s src c v hserve => run_rxmCmd hserve (by decide) (by decide) (regRow_swapReq c) (by decide)
      (did_rxmWrite_swapReq s src.id c v),
    fun s c hrun hfade hlimit => run_carEv_of hrun c (did_anchorFadeEnd_carrier hfade hlimit),
    fun s src c r hserve hr hst hfade => run_rxmCmd hserve (by decide) (by decide) hr (by decide) ?_,
    fun s src c r hserve hr hst hfade => run_rxmCmd hserve (by decide) (by decide) hr (by decide) ?_⟩
  · rw [did_rxmWrite_save src.id 0 (regRow_off hr) hfade, State.did_seqs_cons_pair, did_anchorSave_refused,
      ← State.did_seqs_cons_pair]
    rwa [strSt_did_rset_of_ne _ _ _ (by decide)]
  · rw [did_rxmWrite_save src.id 0 (regRow_off hr) hfade, State.did_seqs_cons_pair, did_anchorSave_track,
      ← State.did_seqs_cons_pair]
    · rwa [strSt_did_rset_of_ne _ _ _ (by decide)]
    · rwa [State.fb, fg_did_rset_of_ne _ _ _ (by decide)]

/-! ## The rotation tracker, the predictor and the quality figures (R143–R148, R156, R157) -/

theorem reg_did_fset_of_ne (s : State) {b off : Nat} {f : Fld} (x : Nat) (h : off ≠ f.off) :
    (s.did (fset b f x)).reg (b + off) = s.reg (b + off) :=
  apply_regs_reg_of_ne s _ (by omega)

theorem reg_did_rset_of_ne (s : State) {b off off' : Nat} (v : Word) (h : off ≠ off') :
    (s.did (rset (b + off') v)).reg (b + off) = s.reg (b + off) :=
  apply_regs_reg_of_ne s v (by omega)

theorem reg_did_rset_same (s : State) (a : Nat) (v : Word) : (s.did (rset a v)).reg a = v :=
  (State.apply_reg s _ a).trans (if_pos rfl)

@[simp] theorem reg_did_rxmUpd (s : State) (b : Nat) (g : RxmRec → RxmRec) (a : Nat) :
    (s.did (rxmUpd b g)).reg a = s.reg a := State.apply_reg s _ a

/-- What the predictor itself takes of a rotation report: suppression and coefficients, in LOCKED and not frozen
(R146, R148). -/
def hpTakes (c supp : Nat) (harm : List Word) : Prog := fun t =>
  if t.hp c = hLOCKED ∧ !t.hpFrozen c then
    .regs (mb c + RXM.HP_PHASE) (bitsPut (t.reg (mb c + RXM.HP_PHASE)) 16 16 supp) ::
      ((List.range 120).zip harm).map fun p => .tabs (tabKey (mb c) 1 p.1 0) p.2
  else []

theorem did_hpTakes_unlocked {s : State} {c : Nat} (supp : Nat) (harm : List Word) (h : s.hp c ≠ hLOCKED) :
    s.did (hpTakes c supp harm) = s := by
  have hnone : hpTakes c supp harm s = [] := if_neg fun hlocked => h hlocked.1
  rw [State.did_eq, hnone, State.applyAll_nil]

/-- A rate below the threshold, with the predictor OFF and no limit of the rate in force (R143, R145). -/
theorem did_rotUpdate_slow {s : State} {c rate : Nat} (phase supp : Nat) (harm : List Word)
    (hlive : s.live ⟨.rxm, c⟩ = true) (hrate : rate < s.fg (mb c) RXM.ROT_THR_RATE)
    (hfree : (s.rxm (mb c)).rotFrozen = false) (hoff : s.hp c = hOFF) :
    s.did (rotUpdate c rate phase supp harm) = s.did (seqs [fset (mb c) RXM.ROT_STAT_RATE rate,
      fset (mb c) RXM.ROT_STAT_PEAK (max (s.fg (mb c) RXM.ROT_STAT_PEAK) rate)]) := by
  have hslow : ¬ s.fg (mb c) RXM.ROT_THR_RATE ≤ rate := Nat.not_le.mpr hrate
  have hidle : (hOFF == hLOCKED || hOFF == hHOLD) = false := rfl
  have hprog : s.did (rotUpdate c rate phase supp harm) = s.did (seqs [fset (mb c) RXM.ROT_STAT_RATE rate,
      fset (mb c) RXM.ROT_STAT_PEAK (max (s.fg (mb c) RXM.ROT_STAT_PEAK) rate), skip, skip, skip,
      hpTakes c supp harm]) := by
    unfold hpTakes
    simp only [State.did, rotUpdate, hlive, Bool.not_true, Bool.false_eq_true, if_false, hslow, and_false, hfree,
      false_and, hoff, hidle]
  have hunlocked : ∀ x y : Nat, ((s.did (fset (mb c) RXM.ROT_STAT_RATE x)).did (fset (mb c) RXM.ROT_STAT_PEAK y)).hp c
      ≠ hLOCKED := by
    intro x y
    rw [State.hp, fg_did_fset_apart _ _ _ (by decide), fg_did_fset_apart _ _ _ (by decide)]
    exact hoff.trans_ne (by decide)
  have htakes := did_hpTakes_unlocked supp harm (hunlocked rate (max (s.fg (mb c) RXM.ROT_STAT_PEAK) rate))
  rw [hprog]
  simp only [State.did_seqs_cons, State.did_seqs_nil, State.did_skip, htakes]

theorem did_rxmReadFx_rotStat (s : State) (c : Nat) :
    s.did (rxmReadFx c RXM.ROT_STAT) = s.apply (.regs (mb c + RXM.ROT_STAT) (bitsPut (s.reg (mb c + RXM.ROT_STAT))
      RXM.ROT_STAT_PEAK.lo RXM.ROT_STAT_PEAK.w (s.fg (mb c) RXM.ROT_STAT_RATE))) := rfl

theorem did_rxmReadFx_snr (s : State) (c : Nat) :
    s.did (rxmReadFx c RXM.Q_SNR) = s.apply (.regs (mb c + RXM.Q_SNR)
      (bitsPut (s.reg (mb c + RXM.Q_SNR)) 16 16 (s.rxm (mb c)).snr1)) := rfl

theorem did_rxmReadFx_ber (s : State) (c : Nat) :
    s.did (rxmReadFx c RXM.Q_BER) = s.apply (.regs (mb c + RXM.Q_BER)
      (bitsPut (s.reg (mb c + RXM.Q_BER)) 16 16 (s.rxm (mb c)).ber1)) := rfl

/-- A line found in 45–65 Hz, strong enough. -/
theorem did_hpSearchDone_found {s : State} {c freq amp : Nat} (hst : s.hp c = hSEARCH) (hlo : 45000 ≤ freq)
    (hhi : freq ≤ 65000) (hamp : s.fg (mb c) RXM.HP_CFG_MIN_AMP ≤ amp) :
    s.did (hpSearchDone c freq amp) =
      s.did (seqs [fset (mb c) RXM.HP_STAT_FREQ freq, hpTo c hLOCKING false]) := by
  simp only [State.did, hpSearchDone, hst, hlo, hhi, hamp, and_self, if_true]

theorem did_hpLock_locking {s : State} {c : Nat} (freq amp : Nat) (hst : s.hp c = hLOCKING)
    (htime : s.elapsed (tHpLocking c) ≤ 10000000000) :
    s.did (hpLock c freq amp) =
      s.did (seqs [fset (mb c) RXM.HP_STAT_FREQ freq, hpTo c hLOCKED false, raise (mb c) 3]) := by
  simp only [State.did, hpLock, if_pos (Or.inl (And.intro hst htime))]

theorem did_hpLockingTimeout {s : State} {c : Nat} (hst : s.hp c = hLOCKING) (hrun : s.running (tHpLocking c) = true) :
    s.did (hpLockingTimeout c) = s.did (seqs [clockEnd (tHpLocking c) 10000000000, hpTo c hSEARCH false]) := by
  simp only [State.did, hpLockingTimeout, if_pos (And.intro hst hrun)]

theorem did_hpUnlock_weak {s : State} {c amp : Nat} (hst : s.hp c = hLOCKED)
    (hamp : 2 * amp < s.fg (mb c) RXM.HP_CFG_MIN_AMP) :
    s.did (hpUnlock c amp) = s.did (seqs [hpTo c hHOLD false, raise (mb c) 4]) := by
  simp only [State.did, hpUnlock, if_pos (And.intro hst hamp)]

theorem did_hpHoldTimeout {s : State} {c : Nat} (hst : s.hp c = hHOLD) (hrun : s.running (tHpHold c) = true) :
    s.did (hpHoldTimeout c) = s.did (seqs [
      clockEnd (tHpHold c) (s.fg (mb c) RXM.HP_CFG2_HOLD_MAX * 1000000000), hpTo c hSEARCH true]) := by
  simp only [State.did, hpHoldTimeout, if_pos (And.intro hst hrun)]

theorem did_hpResume {s : State} {c : Nat} (hrun : s.running (tHpRate c) = true) :
    s.did (hpResume c) = s.did (seqs [clockEnd (tHpRate c) 10000000,
      rxmUpd (mb c) fun r => { r with rotFrozen := false }, timerStop (tHpRate c)]) := by
  simp only [State.did, hpResume, if_pos hrun]

/-- The worst value of a figure since it was last read, with the current one (R157). -/
def State.worstOf (s : State) (c off cur : Nat) : Nat :=
  if (s.rxm (mb c)).has then min (bitsGet (s.reg (mb c + off)) 16 16) cur else cur

/-- The registers that the figures of a carrier's stream are shown in (R156, R157). -/
def figuresPut (c : Nat) (q : Quality) (snrLow berWorst : Nat) : Prog :=
  seqs [rset (mb c + RXM.Q_SNR) (BitVec.ofNat 32 (snrLow * 65536 + q.snr % 65536)),
    rset (mb c + RXM.Q_BER) (BitVec.ofNat 32 (berWorst * 65536 + q.ber % 65536)),
    rset (mb c + RXM.Q_GMI) (BitVec.ofNat 32 (q.gmi % 65536)),
    rset (mb c + RXM.Q_MARGIN) (BitVec.ofNat 32 (tc 16 (clampS 16 q.margin))),
    rxmUpd (mb c) fun r => { r with has := true, snr1 := q.snr1 % 65536, ber1 := q.ber1 % 65536 },
    seqs [fset (mb c) RXM.Q_EVM_EVM q.evm, fset (mb c) RXM.DGD_PDL_DGD q.dgd, fset (mb c) RXM.DGD_PDL_PDL q.pdl,
      fset (mb c) RXM.FO_EST_MHZ (tc 16 q.fo), fset (mb c) RXM.FO_EST_RATE (tc 16 q.foRate)]]

/-- In TRACK a millisecond's figures are shown, after the live taps. -/
theorem did_qualityUpdate_track {s : State} {c : Nat} (q : Quality) (hst : s.strSt ⟨c, none⟩ = zTRACK) :
    ∃ t : State, s.did (qualityUpdate ⟨c, none⟩ q) =
      t.did (figuresPut c q (s.worstOf c RXM.Q_SNR q.snr1) (s.worstOf c RXM.Q_BER q.ber1)) := by
  have hprog : s.did (qualityUpdate ⟨c, none⟩ q) = s.did (seqs [_, if s.strSt ⟨c, none⟩ ≠ zTRACK then skip else
      figuresPut c q (s.worstOf c RXM.Q_SNR q.snr1) (s.worstOf c RXM.Q_BER q.ber1)]) := rfl
  rw [if_neg (not_not_intro hst), State.did_seqs_cons_pair] at hprog
  exact ⟨_, hprog⟩

/-- GMI, margin and SNR as they are shown. -/
theorem reg_did_figuresPut (s : State) (c : Nat) (q : Quality) (snrLow berWorst : Nat) :
    (s.did (figuresPut c q snrLow berWorst)).reg (mb c + RXM.Q_GMI) = BitVec.ofNat 32 (q.gmi % 65536) ∧
      (s.did (figuresPut c q snrLow berWorst)).reg (mb c + RXM.Q_MARGIN) =
        BitVec.ofNat 32 (tc 16 (clampS 16 q.margin)) ∧
      (s.did (figuresPut c q snrLow berWorst)).reg (mb c + RXM.Q_SNR) =
        BitVec.ofNat 32 (snrLow * 65536 + q.snr % 65536) := by
  refine ⟨?_, ?_, ?_⟩
  all_goals simp (disch := decide) only [figuresPut, State.did_seqs_cons, State.did_seqs_nil, reg_did_fset_of_ne,
    reg_did_rxmUpd, reg_did_rset_of_ne, reg_did_rset_same]

/-- The low half of a word that holds two figures. -/
theorem bitsGet_low_half (hi lo : Nat) : bitsGet (BitVec.ofNat 32 (hi * 65536 + lo % 65536)) 0 16 = lo % 65536 := by
  simp only [bitsGet, BitVec.toNat_ofNat]
  omega

/-- Settles O30: each event is its program, each read its register's value and effect. A limit that ends brings the clock to
its end (log 5). -/
theorem rotationAndQuality : Obligations.RotationAndQuality := by
  refine ⟨fun s c rate phase supp harm hrun hlive hrate hfree hoff =>
      run_carEv_of hrun c (did_rotUpdate_slow phase supp harm hlive hrate hfree hoff),
    fun s c hup => run_rxmRead hup (by decide) (by decide) (by decide) rfl rfl (did_rxmReadFx_rotStat s c),
    fun s c q hrun => run_carEv hrun c _,
    fun s c q hst => ?_,
    fun s c hup => run_rxmRead (off := RXM.Q_SNR) hup (by decide) (by decide) (by decide) rfl rfl (did_rxmReadFx_snr s c),
    fun s c hup => run_rxmRead (off := RXM.Q_BER) hup (by decide) (by decide) (by decide) rfl rfl (did_rxmReadFx_ber s c),
    fun s src c v r hserve hr hlim => run_rxmCmd hserve (by decide) (by decide) hr (by decide)
      (did_rxmWrite_plain src.id (regRow_off hr) (.inr rfl) hlim),
    fun s c freq amp hrun hst hlo hhi hamp => run_carEv_of hrun c (did_hpSearchDone_found hst hlo hhi hamp),
    fun s c freq amp hrun hst htime => run_carEv_of hrun c (did_hpLock_locking freq amp hst htime),
    fun s c hrun hst hlimit => run_carEv_of hrun c (did_hpLockingTimeout hst hlimit),
    fun s c amp hrun hst hamp => run_carEv_of hrun c (did_hpUnlock_weak hst hamp),
    fun s c hrun hst hlimit => run_carEv_of hrun c (did_hpHoldTimeout hst hlimit),
    fun s c hrun hlimit => run_carEv_of hrun c (did_hpResume hlimit)⟩
  obtain ⟨t, ht⟩ := did_qualityUpdate_track q hst
  obtain ⟨hgmi, hmargin, hsnr⟩ := reg_did_figuresPut t c q (s.worstOf c RXM.Q_SNR q.snr1) (s.worstOf c RXM.Q_BER q.ber1)
  rw [ht, hgmi, hmargin, hsnr]
  exact ⟨rfl, rfl, bitsGet_low_half _ _⟩

end Sys2Proof.Machine

namespace Sys2Proof.Machine

/-! ## Registers of a page, written and read (R13, R16, R20) -/

/-- An address at an offset of a page's slot is of that page. -/
theorem pageAt_base_add {p : Page} {off : Nat} (hp : pageAt p.base = some p) (h : off < 0x1000) :
    pageAt (p.base + off) = some p := by
  have hbase := p.base_slot
  rw [pageAt_slot (show (p.base + off) / 0x1000 = p.base / 0x1000 by omega), hp]

/-- A write of a register of a page with run controls reaches it, and what depends on the page is evaluated anew. -/
theorem run_regCmd_page {s : State} {src : Requester} {p : Page} {off : Nat} {r : RegRow} {v : Word} {fx : Prog}
    (h : s.serves src p) (hp : pageAt p.base = some p) (hlo : 0x100 ≤ off) (hhi : off < 0x800)
    (hr : regRow p off = some r) (hw : r.rw ≠ 0 ∨ r.w1 ≠ 0) (hk : p.kind ≠ .time)
    (hfx : s.did (pageWrite p src.id false r v) = (s.did fx).did (pageEval p)) :
    run (regCmd src p.base off v) s = .next ((s.did fx).pageDone p) := by
  rw [run_eq, did_regCmd v h (pageAt_base_add hp (by omega)) hlo hhi hr hw hk, hfx, State.pageDone]

/-- A host's read of a register of a page that is up: what the read does, and the value that the register showed. -/
theorem did_regRd_page {s : State} {p : Page} {off : Nat} {r : RegRow} (h : s.up p) (hp : pageAt p.base = some p)
    (haddr : p.base + off < 2 ^ 26) (hlo : 0x100 ≤ off) (hhi : off < 0x800) (h4 : off % 4 = 0)
    (hr : regRow p off = some r) :
    s.did (regRd .host (p.base + off)) = (s.did (regReadFx p 1 off)).apply
      (.rdata ((pageView p s off).getD (s.reg (p.base + off))).toNat) := by
  obtain ⟨hrun, hpres, hon⟩ := h
  have hbase := p.base_slot
  have hpage := pageAt_base_add hp (show off < 0x1000 by omega)
  have hoff : (p.base + off) % 0x1000 = off := p.base_add_mod (by omega)
  have hdark : s.pageDark p = false := by simp only [State.pageDark, hpres, hon]; rfl
  have hlow : ¬ off < 0x100 := Nat.not_lt.mpr hlo
  have hval : s.busValue 1 (p.base + off) = (pageView p s off).getD (s.reg (p.base + off)) := by
    simp only [State.busValue, hrun, hpage, hoff, OfNat.one_ne_ofNat, false_and, if_false, State.pageRead, if_neg hlow,
      if_pos hhi, State.regRead, hdark, Bool.false_eq_true, State.blockReg, hr]
  have hfx : s.did (busReadFx 1 (p.base + off)) = s.did (regReadFx p 1 off) := by
    simp only [State.did, busReadFx, hrun, hpage, hoff, OfNat.one_ne_ofNat, false_and, if_false, hlow, hdark,
      Bool.false_eq_true, or_self, if_pos hhi, hr, Option.isSome_some, if_true]
  have hread : s.did (regRd .host (p.base + off)) = (s.did (busReadFx 1 (p.base + off))).apply
      (.rdata (s.busValue 1 (p.base + off)).toNat) := did_busRead_word haddr (by omega)
  rw [hread, hfx, hval]

/-! ## Writes of FECc (R167, R168, R185, R188) -/

theorem pageAt_feb (c : Fin 4) : pageAt (feb c) = some ⟨.fec, c.val⟩ := by
  revert c
  decide

/-- A write of a FECc register reaches it, and what depends on the page is evaluated anew. -/
theorem run_fecCmd {s : State} {src : Requester} {c : Fin 4} {off : Nat} {r : RegRow} {v : Word} {fx : Prog}
    (h : s.serves src ⟨.fec, c.val⟩) (hlo : 0x100 ≤ off) (hhi : off < 0x800)
    (hr : regRow ⟨.fec, c.val⟩ off = some r) (hw : r.rw ≠ 0 ∨ r.w1 ≠ 0)
    (hfx : s.did (fecWrite src.id c false r v) = s.did fx) :
    run (regCmd src (feb c) off v) s = .next ((s.did fx).pageDone ⟨.fec, c.val⟩) := by
  have hchain : s.did (pageWrite ⟨.fec, c.val⟩ src.id false r v) =
      (s.did (fecWrite src.id c false r v)).did (pageEval ⟨.fec, c.val⟩) := State.did_seqs_cons_pair s _ _
  rw [hfx] at hchain
  exact run_regCmd_page (p := ⟨.fec, c.val⟩) h (pageAt_feb c) hlo hhi hr hw nofun hchain

/-- The row of FEC_MODE: its high half is of the mode that runs, which no write reaches. -/
def fecModeRow : RegRow := ⟨FEC.FEC_MODE, 0x3FFF, 0, 0xBB00BB, true⟩

theorem regRow_fecMode (c : Nat) : regRow ⟨.fec, c⟩ FEC.FEC_MODE = some fecModeRow := rfl

/-- The row of TV_CTL, of which TV_GO alone is written. -/
def tvCtlRow : RegRow := ⟨FEC.TV_CTL, 0, 1, 0, false⟩

theorem regRow_tvCtl (c : Nat) : regRow ⟨.fec, c⟩ FEC.TV_CTL = some tvCtlRow := rfl

/-- A write of FEC_MODE without an open encoding stands as written (R188). -/
theorem did_fecWrite_mode {s : State} {c : Nat} {v : Word} (src : Nat) (hbad : fecModeBad s c v = false) :
    s.did (fecWrite src c false fecModeRow v) = s.did (fecModeWrite src c false v) := by
  simp only [State.did, fecWrite, fecModeRow, if_true, hbad, Bool.false_eq_true, if_false]

/-- A write of TV_CTL with TV_GO is the test run's start. -/
theorem did_fecWrite_tvGo (s : State) (src c : Nat) (v : Word) :
    s.did (fecWrite src c false tvCtlRow (setF v FEC.TV_CTL_TV_GO 1)) = s.did (tvGo src c) := by
  have hgo : wroteB (setF v FEC.TV_CTL_TV_GO 1) FEC.TV_CTL_TV_GO = true := wroteB_setF_same v _ 1 (by decide)
  exact congrArg (fun p : Prog => s.applyAll (p s)) (if_pos hgo)

/-! ### FEC_MODE (R167, R168) -/

/-- Modes of the live set in place of modes of the live set, in each direction. -/
theorem did_fecModeWrite_live {s : State} {c : Nat} {v : Word} (src : Nat)
    (hm : liveSet (wrote v FEC.FEC_MODE_MODE) = true) (hr : liveSet (wrote v FEC.FEC_MODE_RX_MODE) = true)
    (hm0 : liveSet (s.fg (feb c) FEC.FEC_MODE_MODE) = true) (hr0 : liveSet (s.fg (feb c) FEC.FEC_MODE_RX_MODE) = true) :
    s.did (fecModeWrite src c false v) = s.did (seqs [
      fset (feb c) FEC.FEC_MODE_PARTNER (wrote v FEC.FEC_MODE_PARTNER),
      fset (feb c) FEC.FEC_MODE_REGEN_AS (wrote v FEC.FEC_MODE_REGEN_AS),
      fset (feb c) FEC.FEC_MODE_MODE (wrote v FEC.FEC_MODE_MODE),
      fset (feb c) FEC.FEC_MODE_RX_MODE (wrote v FEC.FEC_MODE_RX_MODE),
      fbset (feb c) FEC.FEC_MODE_TX_PEND (wrote v FEC.FEC_MODE_MODE != s.modeNow c),
      fbset (feb c) FEC.FEC_MODE_RX_PEND (wrote v FEC.FEC_MODE_RX_MODE != s.fg (feb c) FEC.FEC_MODE_RX_MODE_NOW),
      modeEval c]) := by
  simp only [State.did, fecModeWrite, hm, hr, hm0, hr0, Bool.and_self, Bool.not_true, Bool.and_false,
    Bool.false_eq_true, and_false, or_self, if_false, if_true]

/-- Directions that differ, one of them outside the live set. -/
theorem did_fecModeWrite_mismatch {s : State} {c : Nat} {v : Word} (src : Nat)
    (hm : liveSet (wrote v FEC.FEC_MODE_MODE) = true) (hr : liveSet (wrote v FEC.FEC_MODE_RX_MODE) = false) :
    s.did (fecModeWrite src c false v) = s.did (errPage (feb c) FEC.FEC_MODE src cMODE_MISMATCH) := by
  have hne : wrote v FEC.FEC_MODE_MODE ≠ wrote v FEC.FEC_MODE_RX_MODE := fun heq => by simp [← heq, hm] at hr
  simp only [State.did, fecModeWrite, hm, hr, if_true, ne_eq, hne, Bool.and_false, Bool.not_false, not_false_eq_true,
    and_self]

/-- A mode outside the live set, another than the one selected, while the transmitter runs. -/
theorem did_fecModeWrite_running {s : State} {c : Nat} {v : Word} (src : Nat)
    (hm : liveSet (wrote v FEC.FEC_MODE_MODE) = false)
    (hne : wrote v FEC.FEC_MODE_MODE ≠ s.fg (feb c) FEC.FEC_MODE_MODE) (hrun : s.fb (xb c) TXD.TXD_CTL_TX_RUN = true) :
    s.did (fecModeWrite src c false v) = s.did (errPage (feb c) FEC.FEC_MODE src cMODE_LIVE) := by
  have hprog : s.did (fecModeWrite src c false v) =
      s.did (seqs [errPage (feb c) FEC.FEC_MODE src cMODE_LIVE, skip]) := by
    simp only [State.did, fecModeWrite, hm, hrun, bne_iff_ne.mpr hne, ne_eq, not_true_eq_false, Bool.false_eq_true,
      Bool.true_or, Bool.false_and, Bool.not_false, Bool.and_self, true_or, and_self, false_and, if_false, if_true]
  rw [hprog, State.did_seqs_cons_pair, State.did_skip]

/-- A pending transmit mode at the start of a code period, or where none runs. -/
theorem did_modeAtPeriod_tx {s : State} {c : Nat} (hpend : s.fb (feb c) FEC.FEC_MODE_TX_PEND = true)
    (hstart : s.noTxPeriod c = true ∨ (s.fec c).codePos = 0) :
    s.did (modeAtPeriod c false) = s.did (seqs [
      fset (feb c) FEC.FEC_MODE_MODE_NOW (s.fg (feb c) FEC.FEC_MODE_MODE),
      fbset (feb c) FEC.FEC_MODE_TX_PEND false, raise (feb c) 0, pmSuspect c]) := by
  simp only [State.did, modeAtPeriod, modeTake, Bool.false_eq_true, if_false, hpend, hstart, and_self, if_true]

/-! ### Codewords (R175, R179, R181) -/

/-- A codeword of a native mode before PHASE_LOCK is discarded. -/
theorem did_codewordDecode_unlocked {s : State} {x : Strm} {m : Nat} (lam : List Int) (hmode : s.decMode x.c = some m)
    (hnative : m ≠ mZ400) (hlock : (s.fr x.b).plock = false) : s.did (codewordDecode x lam) = s := by
  simp only [State.did, codewordDecode, hmode, hlock, ne_eq, hnative, not_false_eq_true, Bool.not_false, and_self,
    or_true, if_true, State.applyAll_nil]

/-- A codeword after PHASE_LOCK, outside the interruption of a receive-mode change, is decoded and counted. -/
theorem did_codewordDecode_locked {s : State} {x : Strm} {m : Nat} (lam : List Int) (hmode : s.decMode x.c = some m)
    (hdec : s.decRun x.c = true) (hlock : (s.fr x.b).plock = true) (hint : s.running (tRxInt x.c) = false) :
    s.did (codewordDecode x lam) = s.did (codewordCount x (s.decodeOut x.c m lam)) := by
  simp only [State.did, codewordDecode, hmode, hdec, hlock, hint, Bool.not_true, Bool.false_eq_true, and_false,
    false_and, or_self, if_false]

theorem cnt_did_cntWrap_same (s : State) (k n : Nat) : (s.did (cntWrap k n)).cnt k = (s.cnt k + n) % 2 ^ 48 :=
  (State.apply_cnt s _ k).trans (if_pos rfl)

theorem cnt_did_cntWrap_of_ne (s : State) (b n : Nat) {off off' : Nat} (h : off ≠ off') :
    (s.did (cntWrap (b + off') n)).cnt (b + off) = s.cnt (b + off) :=
  (State.apply_cnt s _ _).trans (if_neg (by omega))

@[simp] theorem cnt_did_frUpd (s : State) (x : Strm) (f : FrRec → FrRec) (a : Nat) :
    (s.did (frUpd x f)).cnt a = s.cnt a := State.apply_cnt s _ a

@[simp] theorem cnt_did_fincSat (s : State) (b : Nat) (f : Fld) (n a : Nat) :
    (s.did (fincSat b f n)).cnt a = s.cnt a := State.apply_cnt s _ a

/-- A carrier's codeword enters each counter of its FECc page once. -/
theorem cnt_did_codewordCount_carrier (s : State) (c : Nat) (d : Decoded) :
    (s.did (codewordCount ⟨c, none⟩ d)).cnt (feb c + FEC.CW_LO) = (s.cnt (feb c + FEC.CW_LO) + 1) % 2 ^ 48 ∧
      (s.did (codewordCount ⟨c, none⟩ d)).cnt (feb c + FEC.COR_LO) = (s.cnt (feb c + FEC.COR_LO) + d.cor) % 2 ^ 48 ∧
      (s.did (codewordCount ⟨c, none⟩ d)).cnt (feb c + FEC.UNC_LO) =
        (s.cnt (feb c + FEC.UNC_LO) + b2n d.unc) % 2 ^ 48 := by
  refine ⟨?_, ?_, ?_⟩
  all_goals simp (disch := decide) only [codewordCount, State.did_seqs_cons, State.did_seqs_nil, State.did_skip,
    cnt_did_frUpd, cnt_did_fincSat, cnt_did_cntWrap_same, cnt_did_cntWrap_of_ne]

/-- A read of a counter's LO register answers bits 31:0 and latches the rest (R186). -/
theorem run_counterRead {s : State} {c : Fin 4} {off : Nat} (h : s.up ⟨.fec, c.val⟩) (hoff : off ∈ fecCounters) :
    run (regRd .host (feb c + off)) s = .next (s.applyAll [
      .regs (feb c + off + 4) (BitVec.ofNat 32 (s.cnt (feb c + off) / 2 ^ 32)),
      .rdata (s.cnt (feb c + off) % 2 ^ 32)]).settled := by
  have hplace : ∀ off ∈ fecCounters, 0x100 ≤ off ∧ off < 0x800 ∧ off % 4 = 0 ∧
      (FEC.rows.find? fun r => r.off == off).isSome := by decide
  obtain ⟨hlo, hhi, h4, hrow⟩ := hplace off hoff
  obtain ⟨r, hr⟩ := Option.isSome_iff_exists.mp hrow
  have hcounter : fecCounters.contains off = true := List.contains_iff_mem.mpr hoff
  have haddr : feb c + off < 2 ^ 26 := by simp only [feb, pageBase]; omega
  have hview : pageView ⟨.fec, c.val⟩ s off = some (BitVec.ofNat 32 (s.cnt (feb c + off))) := if_pos hcounter
  have hlatch : s.did (regReadFx ⟨.fec, c.val⟩ 1 off) = s.did (cntLatch (feb c + off)) :=
    congrArg (fun p : Prog => s.applyAll (p s)) (if_pos hcounter)
  have hread : s.did (regRd .host (feb c + off)) = _ := did_regRd_page h (pageAt_feb c) haddr hlo hhi h4 hr
  rw [hview, hlatch, Option.getD_some, BitVec.toNat_ofNat] at hread
  rw [run_eq, hread]
  rfl

/-! ### Test vectors (R185) -/

theorem did_tvGo_starts {s : State} {c : Nat} (src : Nat) (hdec : s.fb (feb c) FEC.FEC_CTL_DEC_EN = true)
    (hidle : (s.fec c).tvBusy = false) :
    s.did (tvGo src c) = s.did (seqs [fun _ => [.fecs c { s.fec c with tvBusy := true }],
      fbset (feb c) FEC.TV_CTL_TV_DONE false]) := by
  have hfree : ¬ ((!s.fb (feb c) FEC.FEC_CTL_DEC_EN) = true ∨ (s.fec c).tvBusy = true) := by simp [hdec, hidle]
  exact congrArg s.applyAll (if_neg hfree)

theorem did_tvGo_refused {s : State} {c : Nat} (src : Nat)
    (hbusy : s.fb (feb c) FEC.FEC_CTL_DEC_EN = false ∨ (s.fec c).tvBusy = true) :
    s.did (tvGo src c) = s.did (errPage (feb c) FEC.TV_CTL src cTV_BUSY) :=
  congrArg s.applyAll (if_pos (hbusy.imp_left fun hdec => by simp [hdec]))

theorem did_tvDone {s : State} {c errs : Nat} (hbusy : (s.fec c).tvBusy = true) (herrs : errs ≤ 64) :
    s.did (tvDone c errs) = s.did (seqs [fun _ => [.fecs c { s.fec c with tvBusy := false }],
      fset (feb c) FEC.TV_CTL_TV_ERRS errs, fbset (feb c) FEC.TV_CTL_TV_FAIL (errs != 0),
      fbset (feb c) FEC.TV_CTL_TV_DONE true, raise (feb c) 7]) :=
  congrArg s.applyAll (if_pos ⟨hbusy, herrs⟩)

/-- Settles O31: each write reaches its register's effect, each event is its program, and each codeword is counted. -/
theorem modesAndDecoding : Obligations.ModesAndDecoding := by
  refine ⟨fun s src c v hserve hbad => run_fecCmd hserve (by decide) (by decide) (regRow_fecMode c) (by decide)
      (did_fecWrite_mode src.id hbad),
    fun s src c v hm hr hm0 hr0 => did_fecModeWrite_live src hm hr hm0 hr0,
    fun s src c v hm hr => did_fecModeWrite_mismatch src hm hr,
    fun s src c v hm hne hrun => did_fecModeWrite_running src hm hne hrun,
    fun s c hrun hpend hstart => run_carEv_of hrun c (did_modeAtPeriod_tx hpend hstart),
    fun s c lam m hrun hmode hnative hlock =>
      run_carEv_of (q := skip) hrun c (did_codewordDecode_unlocked (x := ⟨c, none⟩) lam hmode hnative hlock),
    fun s c lam m hrun hmode hdec hlock hint =>
      run_carEv_of hrun c (did_codewordDecode_locked (x := ⟨c, none⟩) lam hmode hdec hlock hint),
    fun s c d => cnt_did_codewordCount_carrier s c d,
    fun s src c v hserve hdec hidle => run_fecCmd hserve (by decide) (by decide) (regRow_tvCtl c) (by decide)
      ((did_fecWrite_tvGo s src.id c v).trans (did_tvGo_starts src.id hdec hidle)),
    fun s src c v hserve hbusy => run_fecCmd hserve (by decide) (by decide) (regRow_tvCtl c) (by decide)
      ((did_fecWrite_tvGo s src.id c v).trans (did_tvGo_refused src.id hbusy)),
    fun s c errs hrun hbusy herrs => run_carEv_of hrun c (did_tvDone hbusy herrs),
    fun s c a hup ha => ?_⟩
  have hcounter : ∃ off ∈ fecCounters, a.toNat = feb c + off := by simpa [fecCounters] using ha
  obtain ⟨off, hoff, hat⟩ := hcounter
  have hexec : exec (.counterLoRead .host a) s = run (regRd .host a.toNat) s := rfl
  rw [hexec, hat, run_counterRead hup hoff]

end Sys2Proof.Machine

namespace Sys2Proof.Machine

/-! ## Framers (R198–R201) -/

/-- What only a carrier's page has does nothing on a subcarrier. -/
theorem carOnly_sub {x : Strm} (h : x.sub.isNone = false) (p : Prog) : carOnly x p = skip :=
  if_neg (ne_true_of_eq_false h)

/-- A framer that is not allowed to run, without an accepted code phase (R175, R199). -/
theorem did_lineFrame_held {s : State} {x : Strm} (f : FrameRx) (hmay : s.frMay x = false) (hst : s.frSt x ≠ fSEARCH)
    (hphase : (s.fr x.b).plock = false) : s.did (lineFrame x f) = s.did (frTo x fSEARCH) := by
  have hprog : s.did (lineFrame x f) = s.did (seqs [frEval x, skip]) := by
    simp only [State.did, lineFrame, hmay, hphase, Bool.not_false, Bool.false_eq_true, if_true, if_false]
  have heval : s.did (frEval x) = s.did (frTo x fSEARCH) := congrArg s.applyAll (if_pos ⟨by rw [hmay]; rfl, hst⟩)
  rw [hprog, State.did_seqs_cons_pair, heval, State.did_skip]

/-- SEARCH of a subcarrier: a word within tolerance begins PRESYNC, on the count of the frame. -/
theorem did_lineFrame_search_sub {s : State} {x : Strm} {f : FrameRx} (hmay : s.frMay x = true)
    (hmode : s.rxMode x.c ≠ mZ400) (hst : (s.did (frCount x)).frSt x = fSEARCH) (hsub : x.sub ≠ none)
    (hhit : (s.did (frCount x)).fawHit x false f.word = true) :
    s.did (lineFrame x f) = (s.did (frCount x)).did (seqs [fset x.lb x.fFr fPRESYNC,
      frUpd x fun r => { r with off := f.off, hyp := f.hyp, hits := 1, fields := [none], smSeen := false }]) := by
  have hisSub : x.sub.isNone = false := Bool.eq_false_iff.mpr fun hnone => hsub (Option.isNone_iff_eq_none.mp hnone)
  have hprog : s.did (lineFrame x f) = (s.did (frCount x)).did (seqs [fset x.lb x.fFr fPRESYNC,
      frUpd x fun r => { r with off := f.off, hyp := f.hyp, hits := 1, fields := [none], smSeen := false }, skip]) := by
    rw [State.did_eq, lineFrame, hmay, if_neg (by decide), if_neg hmode, ← State.did_eq, State.did_seqs_cons_pair,
      State.did_eq _ (fun _ => _), if_pos hst, if_pos hhit, carOnly_sub hisSub, hisSub]
    rfl
  exact hprog.trans (did_seqs_skip _ [_, _] [])

/-- PRESYNC: a miss leads back to SEARCH. -/
theorem did_lineFrame_presync_miss {s : State} {x : Strm} {f : FrameRx} (hmay : s.frMay x = true)
    (hmode : s.rxMode x.c ≠ mZ400) (hst : (s.did (frCount x)).frSt x = fPRESYNC)
    (hmiss : (s.did (frCount x)).fawHit x true f.word = false) :
    s.did (lineFrame x f) = (s.did (frCount x)).did (frTo x fSEARCH) := by
  have hnot : ¬ (s.did (frCount x)).frSt x = fSEARCH := by rw [hst]; decide
  rw [State.did_eq, lineFrame, hmay, if_neg (by decide), if_neg hmode, ← State.did_eq, State.did_seqs_cons_pair,
    State.did_eq _ (fun _ => _), if_neg hnot, if_pos hst, hmiss, if_pos (by decide)]
  rfl

/-! ### The held word (R201) -/

theorem did_inFrameWord_hit {s : State} {x : Strm} {f : FrameRx} (hword : s.fawHit x true f.word = true) :
    s.did (inFrameWord x f) = s.did (frUpd x fun r => { r with miss := 0 }) :=
  congrArg s.applyAll (if_pos hword)

/-- A carrier's alignment moves to the offset given. -/
def carrierMoved (c off : Nat) : Prog := seqs [frUpd ⟨c, none⟩ fun r => { r with off := off, miss := 0 },
  fset (lb c) LFR.FR_STAT_OFFSET off, fincSat (lb c) LFR.ADJ_CNT_COUNT 1, raise (lb c) 10]

/-- The move's programs in two rows, as the framer makes them. -/
theorem did_carrierMoved (s : State) (c off : Nat) :
    s.did (seqs [frUpd ⟨c, none⟩ fun r => { r with off := off, miss := 0 },
      carOnly ⟨c, none⟩ (seqs [fset (lb c) LFR.FR_STAT_OFFSET off, fincSat (lb c) LFR.ADJ_CNT_COUNT 1,
        raise (lb c) 10])]) = s.did (carrierMoved c off) :=
  did_seqs_flatten s [_] _

/-- A carrier's word that matches a symbol before the held offset. -/
theorem did_inFrameWord_before {s : State} {c : Nat} {f : FrameRx} (hword : s.fawHit ⟨c, none⟩ true f.word = false)
    (hbefore : s.fawHit ⟨c, none⟩ true f.before = true) :
    s.did (inFrameWord ⟨c, none⟩ f) = s.did (carrierMoved c (((s.fr (mb c)).off + 16384 - 1) % 16384)) := by
  rw [← did_carrierMoved]
  exact congrArg s.applyAll ((if_neg (ne_true_of_eq_false hword)).trans (if_pos hbefore))

/-- A carrier's word that matches a symbol after the held offset. -/
theorem did_inFrameWord_after {s : State} {c : Nat} {f : FrameRx} (hword : s.fawHit ⟨c, none⟩ true f.word = false)
    (hbefore : s.fawHit ⟨c, none⟩ true f.before = false) (hafter : s.fawHit ⟨c, none⟩ true f.after = true) :
    s.did (inFrameWord ⟨c, none⟩ f) = s.did (carrierMoved c (((s.fr (mb c)).off + 1) % 16384)) := by
  rw [← did_carrierMoved]
  exact congrArg s.applyAll ((if_neg (ne_true_of_eq_false hword)).trans
    ((if_neg (ne_true_of_eq_false hbefore)).trans (if_pos hafter)))

/-- The fifth miss in a row. -/
theorem did_inFrameWord_lost {s : State} {x : Strm} {f : FrameRx} (hword : s.fawHit x true f.word = false)
    (hbefore : s.fawHit x true f.before = false) (hafter : s.fawHit x true f.after = false)
    (hmiss : 4 ≤ (s.fr x.b).miss) :
    s.did (inFrameWord x f) = s.did (seqs [frTo x fSEARCH,
      fincSat x.lb (x.fld LFR.OOF_CNT_COUNT SCB.OOF_CNT_COUNT) 1, strRaise9 x]) := by
  simp only [State.did, inFrameWord, hword, hbefore, hafter, Bool.false_eq_true, if_false, if_neg (Nat.not_lt.mpr hmiss)]

/-- Out of IF, MF_LOCK clears and the receiver is told (R151, R199, R200). -/
theorem did_frTo_search_from_if {s : State} {x : Strm} (hst : s.frSt x = fIF) :
    s.did (frTo x fSEARCH) = s.did (seqs [fset x.lb x.fFr fSEARCH,
      frUpd x fun r => { r with miss := 0, hits := 0, fields := [] }, mflSet x false, strFrame x false]) := by
  have hprog : s.did (frTo x fSEARCH) = s.did (seqs [fset x.lb x.fFr fSEARCH,
      frUpd x fun r => { r with miss := 0, hits := 0, fields := [] }, seqs [mflSet x false, strFrame x false]]) := by
    rw [State.did_eq, frTo, if_pos ⟨hst, by decide⟩, ← State.did_eq]
  exact hprog.trans (did_seqs_flatten s [_, _] _)

/-! ### The count (R200) -/

theorem did_countCheck_agrees {s : State} {x : Strm} {v : Nat} (hlock : (s.fr x.b).mfLock = true)
    (hv : v = (s.fr x.b).num) : s.did (countCheck x v) = s.did (frUpd x fun r => { r with dis := 0 }) :=
  congrArg s.applyAll ((if_pos hlock).trans (if_pos hv))

/-- The fifth disagreement in a row. -/
theorem did_countCheck_lost {s : State} {x : Strm} {v : Nat} (hlock : (s.fr x.b).mfLock = true)
    (hv : v ≠ (s.fr x.b).num) (hdis : 4 ≤ (s.fr x.b).dis) :
    s.did (countCheck x v) = s.did (seqs [mflSet x false, frUpd x fun r => { r with cand := some v },
      carOnly x (raise x.lb 3)]) :=
  congrArg s.applyAll ((if_pos hlock).trans ((if_neg hv).trans (if_neg (Nat.not_lt.mpr hdis))))

/-- The second of two consistent fields. -/
theorem did_countCheck_regained {s : State} {x : Strm} {v : Nat} (hlock : (s.fr x.b).mfLock = false)
    (hcand : (s.fr x.b).cand = some v) :
    s.did (countCheck x v) = s.did (seqs [mflSet x true, frUpd x fun r => { r with num := v },
      carOnly x (raise x.lb 2)]) :=
  congrArg s.applyAll ((if_neg (ne_true_of_eq_false hlock)).trans (if_pos hcand))

/-! ### Registers of LFRc (R200, R209) -/

theorem pageAt_lb (c : Fin 4) : pageAt (lb c) = some ⟨.lfr, c.val⟩ := by
  revert c
  decide

/-- A host's read of RX_MFN answers the count's multiframe number, and RX_FN latches its frame number. -/
theorem run_rxMfnRead {s : State} {c : Fin 4} (h : s.up ⟨.lfr, c.val⟩) :
    run (regRd .host (lb c + LFR.RX_MFN)) s = .next (s.applyAll [
      .regs (lb c + LFR.RX_FN) (bitsPut (s.reg (lb c + LFR.RX_FN)) LFR.RX_FN_FN.lo LFR.RX_FN_FN.w
        ((s.fr (mb c)).num % 256)),
      .rdata (BitVec.ofNat 32 ((s.fr (mb c)).num / 256)).toNat]).settled := by
  have haddr : lb c + LFR.RX_MFN < 2 ^ 26 := by simp only [lb, pageBase, LFR.RX_MFN]; omega
  have hread := did_regRd_page (p := ⟨.lfr, c.val⟩) h (pageAt_lb c) haddr (by decide) (by decide) (by decide) rfl
  rw [run_eq]
  exact congrArg (fun t : State => Host.Outcome.next t.settled) hread

/-- The row of PM_CMD. -/
def pmCmdRow : RegRow := ⟨LFR.PM_CMD, 0, 1, 0, false⟩

theorem regRow_pmCmd (c : Nat) : regRow ⟨.lfr, c⟩ LFR.PM_CMD = some pmCmdRow := rfl

/-- PM_CMD written with CLR clears both current bins of each stream that has them. -/
theorem did_lfrWrite_clr (s : State) (c : Nat) (v : Word) :
    s.did (lfrWrite c pmCmdRow (setF v LFR.PM_CMD_CLR 1)) = s.did (forP (s.pmStreams c) pmClear) := by
  have hclr : wroteB (setF v LFR.PM_CMD_CLR 1) LFR.PM_CMD_CLR = true := wroteB_setF_same v _ 1 (by decide)
  have hprog : s.did (lfrWrite c pmCmdRow (setF v LFR.PM_CMD_CLR 1)) =
      s.did (if wroteB (setF v LFR.PM_CMD_CLR 1) LFR.PM_CMD_CLR then forP (s.pmStreams c) pmClear else skip) := rfl
  rw [hprog, hclr, if_pos rfl]

theorem run_pmCmdClr {s : State} {src : Requester} {c : Fin 4} (v : Word) (h : s.serves src ⟨.lfr, c.val⟩) :
    run (regCmd src (lb c) LFR.PM_CMD (setF v LFR.PM_CMD_CLR 1)) s =
      .next ((s.did (forP (s.pmStreams c) pmClear)).pageDone ⟨.lfr, c.val⟩) := by
  have hchain : s.did (pageWrite ⟨.lfr, c.val⟩ src.id false pmCmdRow (setF v LFR.PM_CMD_CLR 1)) =
      (s.did (lfrWrite c pmCmdRow (setF v LFR.PM_CMD_CLR 1))).did (pageEval ⟨.lfr, c.val⟩) :=
    State.did_seqs_cons_pair s _ _
  rw [did_lfrWrite_clr] at hchain
  exact run_regCmd_page (p := ⟨.lfr, c.val⟩) h (pageAt_lb c) (by decide) (by decide) (regRow_pmCmd c) (by decide) nofun
    hchain

/-- Settles O32: each frame moves the framer by the branch of its state. A framer that is held out of IF raises and counts
nothing, and invalid fields are as if not received (log 39). -/
theorem framersFindAndHold : Obligations.FramersFindAndHold := by
  refine ⟨fun s c f hrun => run_carEv hrun c _,
    fun s c sc f hrun => run_carEv_of hrun c ((did_seqs_skip s [_] []).trans (did_seqs_single s _)),
    fun s x f hmay hst hphase => did_lineFrame_held f hmay hst hphase,
    fun s x f t ht hmay hmode hst hsub hhit => ?_,
    fun s x f t ht hmay hmode hst hmiss => ?_,
    fun s x f hword => did_inFrameWord_hit hword,
    fun s c f hword hbefore => did_inFrameWord_before hword hbefore,
    fun s c f hword hbefore hafter => did_inFrameWord_after hword hbefore hafter,
    fun s x f hword hbefore hafter hmiss => did_inFrameWord_lost hword hbefore hafter hmiss,
    fun s x hst => did_frTo_search_from_if hst,
    fun s x v hlock hv => did_countCheck_agrees hlock hv,
    fun s x v hlock hv hdis => did_countCheck_lost hlock hv hdis,
    fun s x v hlock hcand => did_countCheck_regained hlock hcand,
    fun s c hup => run_rxMfnRead hup⟩
  · subst ht
    exact did_lineFrame_search_sub hmay hmode hst hsub hhit
  · subst ht
    exact did_lineFrame_presync_miss hmay hmode hst hmiss

/-! ## Defects (R202) -/

/-- A SET or CLR time of unit 0 is a number of samples. -/
theorem defSamples_unit {n : Nat} (h : n < 2 ^ 14) : defSamples n = n := by
  simp only [defSamples, Nat.div_eq_of_lt h, Nat.mod_eq_of_lt h]

theorem integrate_same (act : Bool) (run times : Nat) : integrate act act run times = (act, 0) := if_pos rfl

/-- The SET time, in bits 31:16, for a condition that comes. -/
theorem integrate_rising (run times : Nat) :
    integrate false true run times = if defSamples (times / 2 ^ 16) ≤ run then (true, 0) else (false, run + 1) := rfl

/-- The CLR time, in bits 15:0, for a condition that goes. -/
theorem integrate_falling (run times : Nat) :
    integrate true false run times = if defSamples (times % 2 ^ 16) ≤ run then (false, 0) else (true, run + 1) := rfl

/-- A condition that has stood for its SET time sets the defect, and one sample less only counts. -/
theorem integrate_sets {run n : Nat} (hn : n < 2 ^ 14) (hrun : n ≤ run) :
    integrate false true run (n * 2 ^ 16) = (true, 0) ∧
      (0 < n → integrate false true (n - 1) (n * 2 ^ 16) = (false, n)) := by
  have htime : defSamples (n * 2 ^ 16 / 2 ^ 16) = n := by rw [Nat.mul_div_cancel n (by decide), defSamples_unit hn]
  rw [integrate_rising, integrate_rising, htime]
  refine ⟨if_pos hrun, fun hpos => ?_⟩
  rw [if_neg (by omega), Nat.sub_add_cancel hpos]

/-- A condition that has been away for its CLR time clears the defect, and one sample less only counts. -/
theorem integrate_clears {run n : Nat} (k : Nat) (hn : n < 2 ^ 14) (hrun : n ≤ run) :
    integrate true false run (k * 2 ^ 16 + n) = (false, 0) ∧
      (0 < n → integrate true false (n - 1) (k * 2 ^ 16 + n) = (true, n)) := by
  have hlow : (k * 2 ^ 16 + n) % 2 ^ 16 = n := by omega
  have htime : defSamples ((k * 2 ^ 16 + n) % 2 ^ 16) = n := by rw [hlow, defSamples_unit hn]
  rw [integrate_falling, integrate_falling, htime]
  refine ⟨if_pos hrun, fun hpos => ?_⟩
  rw [if_neg (by omega), Nat.sub_add_cancel hpos]

/-! ### Samples of pages (R202, R230, R286, R385) -/

/-- A sample of a carrier's page: the carrier and the suits follow. -/
theorem did_defectSample_lfr (s : State) (c : Fin 4) :
    s.did (defectSample (.lfr c)) = (s.did (defSampleCar c)).did (seqs [carrierEval c, suitsEval]) :=
  (did_seqs_skip s [defSampleCar c, carrierEval c, suitsEval] []).trans (State.did_seqs_cons s _ _)

/-- A sample of a subcarrier's page, but for that of subcarrier 0, with which the leaves' loss of bursts is sampled. -/
theorem did_defectSample_scb (s : State) (c : Fin 4) {sc : Fin 64} (h : sc.val ≠ 0) :
    s.did (defectSample (.scb c sc)) = (s.did (defSampleSub c sc)).did (seqs [carrierEval c, suitsEval]) := by
  have hprog : s.did (defectSample (.scb c sc)) = s.did (seqs [seqs [defSampleSub c sc,
      if sc.val = 0 then lossSample c.val else skip], carrierEval c, suitsEval, skip]) := rfl
  rw [hprog, if_neg h]
  simp only [State.did_seqs_cons, State.did_seqs_nil, State.did_skip]

/-- A sample after which the suits alone are evaluated. -/
theorem did_sample_suits (s : State) (p : Prog) : s.did (seqs [p, skip, suitsEval, skip]) = (s.did p).did suitsEval := by
  simp only [State.did_seqs_cons, State.did_seqs_nil, State.did_skip]

/-- A sample after which the suits and the references are evaluated. -/
theorem did_sample_refs (s : State) (p : Prog) :
    s.did (seqs [p, skip, suitsEval, refsEval]) = (s.did p).did (seqs [suitsEval, refsEval]) :=
  (did_seqs_skip s [p] [suitsEval, refsEval]).trans (State.did_seqs_cons s _ _)

/-- An event while the module runs, told by what its program leaves. -/
theorem run_ev_of {s t : State} {p : Prog} (h : s.phase = .run) (hp : s.did p = t) : run (ev p) s = .next t.settled := by
  rw [run_ev h, hp]

/-! ## Performance (R206–R209) -/

/-- A suspect second, unavailable at the near end and errored at the far end, in both bins (R208). -/
theorem did_pmFinal_unavailable {s : State} {x : Strm} {q : PmSec} (hsuspect : q.suspect = true) (hvoid : q.void = false)
    (hneU : q.neU = true) (hfeU : q.feU = false) (hfeEs : q.feEs = true) (hfeSes : q.feSes = false) :
    s.did (pmFinal x q) = s.did (seqs [pmMark x 0, pmAdd x 0 2, pmAdd x 0 3, pmMark x 1, pmAdd x 1 2, pmAdd x 1 3]) := by
  simp only [pmFinal, hsuspect, hvoid, hneU, hfeU, hfeEs, hfeSes, Bool.false_eq_true, if_true, if_false,
    State.did_seqs_cons, State.did_seqs_nil, State.did_skip]

/-- A void second is only marked. -/
theorem did_pmFinal_void {s : State} {x : Strm} {q : PmSec} (hsuspect : q.suspect = true) (hvoid : q.void = true) :
    s.did (pmFinal x q) = s.did (seqs [pmMark x 0, pmMark x 1]) := by
  simp only [pmFinal, hsuspect, hvoid, if_true, State.did_seqs_cons, State.did_seqs_nil, State.did_skip]

/-- The second at which a current bin began. -/
def State.pmBegan (s : State) (x : Strm) (e : Nat) : Nat :=
  (s.tab (x.pmKey e 1)).toNat + (s.tab (x.pmKey e 2)).toNat * 2 ^ 32

/-- Before ten seconds after its end a bin stays open (R209). -/
theorem did_pmClose_early {s : State} {x : Strm} {day : Bool}
    (h : s.nowNs.toNat / 1000000000 < s.pmBegan x (if day then 1 else 0) + pmLen (if day then 1 else 0) + 10) :
    s.did (pmClose x day) = s :=
  congrArg s.applyAll (if_pos (Or.inr h))

/-- A valid bin is due ten seconds after its end. -/
theorem pmClose_due {s : State} {x : Strm} {e : Nat} (hvalid : bitOf (s.tab (x.pmKey e 0)).toNat 31 = true)
    (hend : s.pmBegan x e + pmLen e + 10 ≤ s.nowNs.toNat / 1000000000) :
    ¬ ((!bitOf (s.tab (x.pmKey e 0)).toNat 31) = true ∨
      s.nowNs.toNat / 1000000000 < s.pmBegan x e + pmLen e + 10) := by
  rintro (hinvalid | hearly)
  · simp [hvalid] at hinvalid
  · omega

/-- The quarter of an hour closes: history moves by one, newest first, and the next one begins (R209). -/
theorem did_pmClose_quarter {s : State} {x : Strm} (hvalid : bitOf (s.tab (x.pmKey 0 0)).toNat 31 = true)
    (hend : s.pmBegan x 0 + pmLen 0 + 10 ≤ s.nowNs.toNat / 1000000000) :
    s.did (pmClose x false) = s.did (seqs [
      fun _ => (List.range 31).flatMap fun i => (List.range 15).map fun w =>
        .tabs (x.pmKey (2 + 32 - 1 - i) w) (s.tab (x.pmKey (2 + 32 - 2 - i) w)),
      fun _ => (List.range 15).map fun w => .tabs (x.pmKey 2 w) (s.tab (x.pmKey 0 w)),
      pmOpen x 0 (pmStart (s.fg (lb x.c) LFR.PM_CFG_DAY_OFS) (pmLen 0) (s.nowNs.toNat / 1000000000 - 10)),
      carOnly x (seqs [fset (lb x.c) LFR.PM_STAT_N15 (min 32 (s.fg (lb x.c) LFR.PM_STAT_N15 + 1)),
        raise (lb x.c) 6])]) :=
  congrArg s.applyAll (if_neg (pmClose_due hvalid hend))

/-- The day closes. -/
theorem did_pmClose_day {s : State} {x : Strm} (hvalid : bitOf (s.tab (x.pmKey 1 0)).toNat 31 = true)
    (hend : s.pmBegan x 1 + pmLen 1 + 10 ≤ s.nowNs.toNat / 1000000000) :
    s.did (pmClose x true) = s.did (seqs [
      fun _ => (List.range 1).flatMap fun i => (List.range 15).map fun w =>
        .tabs (x.pmKey (34 + 2 - 1 - i) w) (s.tab (x.pmKey (34 + 2 - 2 - i) w)),
      fun _ => (List.range 15).map fun w => .tabs (x.pmKey 34 w) (s.tab (x.pmKey 1 w)),
      pmOpen x 1 (pmStart (s.fg (lb x.c) LFR.PM_CFG_DAY_OFS) (pmLen 1) (s.nowNs.toNat / 1000000000 - 10)),
      carOnly x (seqs [fset (lb x.c) LFR.PM_STAT_N24 (min 2 (s.fg (lb x.c) LFR.PM_STAT_N24 + 1)),
        raise (lb x.c) 7])]) :=
  congrArg s.applyAll (if_neg (pmClose_due hvalid hend))

/-- Settles O33: each sample is its page's, with what hangs on it; each second and each bin is its program. One
command is one sample of 10 µs (log 44), and a second that enters the bins is ten seconds old (log 45). -/
theorem defectsAndSeconds : Obligations.DefectsAndSeconds := by
  refine ⟨fun s c hrun => run_ev_of hrun (did_defectSample_lfr s c),
    fun s hrun => run_ev_of hrun (did_sample_refs s dplSample),
    fun s hrun => run_ev_of hrun (did_sample_suits s suitSample),
    fun s c hrun => run_ev_of hrun (did_sample_suits s (cipSample c)),
    fun s p clk lanes idle hrun => run_ev_of hrun (did_sample_refs s (vlgSample p clk lanes.toNat idle)),
    fun s c sc hrun hsc => run_ev_of hrun (did_defectSample_scb s c hsc),
    fun run n hn hle => ?_,
    fun run n k hn _ hle => integrate_clears k hn hle,
    fun s c sc hrun => run_ev hrun _,
    fun s x q hsuspect hvoid hneU hfeU hfeEs hfeSes => did_pmFinal_unavailable hsuspect hvoid hneU hfeU hfeEs hfeSes,
    fun s x q hsuspect hvoid => did_pmFinal_void hsuspect hvoid,
    fun s c sc day hrun hearly => run_ev_of hrun (did_pmClose_early hearly),
    fun s c sc hrun hvalid hend => run_ev_of hrun (did_pmClose_quarter hvalid hend),
    fun s c sc hrun hvalid hend => run_ev_of hrun (did_pmClose_day hvalid hend),
    fun s src c sc v hserve => run_pmCmdClr v hserve⟩
  obtain ⟨hset, hcount⟩ := integrate_sets hn hle
  exact ⟨hset, hcount, integrate_same false run _, integrate_same true run _⟩

end Sys2Proof.Machine

namespace Sys2Proof.Machine

/-! ## Resizes of suits (R220, R225, R227) -/

/-- An event of the suits whose program comes to another one. -/
theorem run_suitEv_of {s : State} {p q : Prog} (h : s.phase = .run) (hp : s.did p = s.did q) :
    run (suitEv p) s = .next (s.did q).suitDone := by
  rw [run_suitEv h, hp]

/-- A suit in ANNOUNCE at S − 8 aborts with NO_READY. -/
theorem did_noReady {s : State} {i : Nat} (hon : (s.suit i).on = true) (hst : (s.suit i).rstate = 1)
    (hlate : (s.suit i).toGo ≤ 8 ∨ (s.suit i).reached = true) :
    s.did (noReady i) = s.did (suitUpd i fun r => { r with rstate := 3, result := 3 }) :=
  congrArg s.applyAll (if_pos ⟨hon, hst, hlate⟩)

/-- A suit in COMMIT at S takes the announced map, its version and its REQ_TS. -/
theorem did_resizeDone {s : State} {i : Nat} (hon : (s.suit i).on = true) (hst : (s.suit i).rstate = 2)
    (hreached : (s.suit i).reached = true) :
    s.did (resizeDone i) = s.did (seqs [
      suitUpd i fun r => { r with active := r.next, mapVer := r.nextVer, result := 1, resizes := satAdd 32 r.resizes 1 },
      fun t => [.tabs (tabKey sub' 0 i 0) (bitsPut (t.suitW i 0) 16 9 (s.suit i).reqNew)], raise sub' 2, suitIdle i]) :=
  congrArg s.applyAll (if_pos ⟨hon, hst, hreached⟩)

/-- A suit in ABORTING past S keeps its map. -/
theorem did_abortEnd {s : State} {i : Nat} (hon : (s.suit i).on = true) (hst : (s.suit i).rstate = 3)
    (hreached : (s.suit i).reached = true) (hpast : (s.suit i).ssn ≠ (s.suit i).switchAt) :
    s.did (abortEnd i) = s.did (seqs [raise sub' 3, suitIdle i]) :=
  congrArg s.applyAll (if_pos ⟨hon, hst, hreached, hpast⟩)

/-! ### Records from the far end (R220, R453) -/

/-- The record of an enabled suit is not passed over. -/
theorem suitRecord_taken {s : State} {r : SuitRecord} (hvalid : slotBits r.a 63 1 = 1)
    (hon : (s.suit (slotBits r.a 55 8)).on = true) :
    ¬ (slotBits r.a 63 1 = 0 ∨ (!(s.suit (slotBits r.a 55 8)).on) = true) := by
  simp [hvalid, hon]

/-- READY before S − 8 commits the announced map. -/
theorem did_suitMessage_ready {s : State} {r : SuitRecord} (hvalid : slotBits r.a 63 1 = 1)
    (hmsg : slotBits r.a 52 3 = 2) (hon : (s.suit (slotBits r.a 55 8)).on = true)
    (hst : (s.suit (slotBits r.a 55 8)).rstate = 1) (hearly : 8 ≤ (s.suit (slotBits r.a 55 8)).toGo)
    (hbefore : (s.suit (slotBits r.a 55 8)).reached = false) :
    s.did (suitMessage r) = s.did (suitUpd (slotBits r.a 55 8) fun q => { q with rstate := 2 }) := by
  have hopen : (!(s.suit (slotBits r.a 55 8)).reached) = true := by rw [hbefore]; rfl
  have hnotAnnounce : ¬ slotBits r.a 52 3 = 1 := by omega
  exact congrArg s.applyAll ((if_neg (suitRecord_taken hvalid hon)).trans
    ((if_neg hnotAnnounce).trans ((if_pos hmsg).trans (if_pos ⟨hst, hearly, hopen⟩))))

/-- NOT_READY aborts the resize. -/
theorem did_suitMessage_notReady {s : State} {r : SuitRecord} (hvalid : slotBits r.a 63 1 = 1)
    (hmsg : slotBits r.a 52 3 = 3) (hon : (s.suit (slotBits r.a 55 8)).on = true)
    (hst : (s.suit (slotBits r.a 55 8)).rstate = 1) :
    s.did (suitMessage r) =
      s.did (suitUpd (slotBits r.a 55 8) fun q => { q with rstate := 3, result := 4 }) := by
  have hnotAnnounce : ¬ slotBits r.a 52 3 = 1 := by omega
  have hnotReady : ¬ slotBits r.a 52 3 = 2 := by omega
  exact congrArg s.applyAll ((if_neg (suitRecord_taken hvalid hon)).trans
    ((if_neg hnotAnnounce).trans ((if_neg hnotReady).trans ((if_pos hmsg).trans (if_pos hst)))))

/-- A port has a transit entry of a carrier for a record's suit and member. -/
def State.forwards (s : State) (c : Nat) (r : SuitRecord) (p : Nat) : Bool :=
  match s.transitFor p (slotBits r.a 55 8) (slotBits r.a 40 4) with
  | some e => bitsGet (s.transit p e 0) 2 2 == c && !(s.transit p e 0).getLsbD 1
  | none => false

/-- A record goes to the first port that has such an entry, and is taken here where none has one. -/
theorem suitRecordRx_eq (s : State) (c : Nat) (r : SuitRecord) :
    suitRecordRx c r s = match (List.range 4).find? (s.forwards c r) with
      | some p => emit (.ctl p 16 [r.a.toNat, r.b.toNat, r.c.toNat]) s
      | none => suitMessage r s := rfl

theorem did_suitRecordRx_own {s : State} {c : Nat} {r : SuitRecord}
    (hnone : (List.range 4).find? (s.forwards c r) = none) :
    s.did (suitRecordRx c r) = s.did (suitMessage r) := by
  rw [State.did_eq, suitRecordRx_eq, hnone, ← State.did_eq]

/-! ## Drops of failed members (R229) -/

/-- The active map of a suit without the members that have failed. -/
def State.keptMap (s : State) (i : Nat) : Nat := mapWhere (s.suit i).active fun k => !bitOf (s.txLost i) k

/-- What becomes of the failed members of a suit that is not in DROP. -/
theorem did_dropTry {s : State} {i : Nat} (hon : (s.suit i).on = true) (hlost : s.txLost i ≠ 0)
    (hst : (s.suit i).rstate ≠ 4) :
    s.did (dropTry i) = s.did (
      if (s.suit i).rstate ≠ 0 then suitUpd i fun r => { r with dropWait := true }
      else if s.reqTs i ≤ s.tsOf i (s.keptMap i) ∧ s.keptMap i ≠ 0 then
        suitUpd i fun r => { r with
          rstate := 4, next := s.keptMap i, nextVer := (r.mapVer + 1) % 16, switchAt := (r.ssn + 16) % 2 ^ 32,
          dropWait := false }
      else suitUpd i fun r => { r with result := 7, dropWait := false }) := by
  have hdue : ¬ ((!(s.suit i).on) = true ∨ s.txLost i = 0 ∨ (s.suit i).rstate = 4) := by simp [hon, hlost, hst]
  rw [State.did_ite, State.did_ite]
  refine (congrArg s.applyAll (if_neg hdue)).trans ?_
  rw [apply_ite s.applyAll, apply_ite s.applyAll]
  rfl

/-- A drop waits for the resize in progress. -/
theorem did_dropTry_waits {s : State} {i : Nat} (hon : (s.suit i).on = true) (hlost : s.txLost i ≠ 0)
    (hdrop : (s.suit i).rstate ≠ 4) (hbusy : (s.suit i).rstate ≠ 0) :
    s.did (dropTry i) = s.did (suitUpd i fun r => { r with dropWait := true }) := by
  rw [did_dropTry hon hlost hdrop, if_pos hbusy]

/-- An idle suit whose remaining members suffice drops the failed ones 16 multiframes on. -/
theorem did_dropTry_starts {s : State} {i : Nat} (hon : (s.suit i).on = true) (hlost : s.txLost i ≠ 0)
    (hidle : (s.suit i).rstate = 0) (hkeep : s.keptMap i ≠ 0) (hreq : s.reqTs i ≤ s.tsOf i (s.keptMap i)) :
    s.did (dropTry i) = s.did (suitUpd i fun r => { r with
      rstate := 4, next := s.keptMap i, nextVer := (r.mapVer + 1) % 16, switchAt := (r.ssn + 16) % 2 ^ 32,
      dropWait := false }) := by
  rw [did_dropTry hon hlost (by omega), if_neg (not_not_intro hidle), if_pos ⟨hreq, hkeep⟩]

/-- Without enough TS left the drop is impossible. -/
theorem did_dropTry_impossible {s : State} {i : Nat} (hon : (s.suit i).on = true) (hlost : s.txLost i ≠ 0)
    (hidle : (s.suit i).rstate = 0) (hshort : s.tsOf i (s.keptMap i) < s.reqTs i) :
    s.did (dropTry i) = s.did (suitUpd i fun r => { r with result := 7, dropWait := false }) := by
  have hlacks : ¬ (s.reqTs i ≤ s.tsOf i (s.keptMap i) ∧ s.keptMap i ≠ 0) := fun ⟨hreq, _⟩ => Nat.not_le.mpr hshort hreq
  rw [did_dropTry hon hlost (by omega), if_neg (not_not_intro hidle), if_neg hlacks]

/-- A suit in DROP at the drop's S takes the drop map. -/
theorem did_dropDone {s : State} {i : Nat} (hon : (s.suit i).on = true) (hst : (s.suit i).rstate = 4)
    (hreached : (s.suit i).reached = true) :
    s.did (dropDone i) = s.did (seqs [
      suitUpd i fun r => { r with active := r.next, mapVer := r.nextVer, result := 6, resizes := satAdd 32 r.resizes 1 },
      raise sub' 5, suitIdle i]) :=
  congrArg s.applyAll (if_pos ⟨hon, hst, hreached⟩)

/-! ## TMFs and frames received (R221, R222) -/

/-- The first TMF of an SSN enters the deskew store; its member is the earliest, against which skew is measured (R221). -/
theorem did_tmfReceived_first {s : State} {i k ssn : Nat} (hon : (s.suit i).on = true)
    (hen : mEn (s.member i k) = true) (hgood : s.rxFailed i k = false) (hcommit : (s.suit i).rxCommit = false)
    (hfirst : (s.suit i).arrivals.find? (fun a => a.ssn == ssn) = none) :
    s.did (tmfReceived i k ssn) = s.did (suitUpd i fun r => { r with
      arrivals := (⟨ssn, s.ticks, s.ticks, 2 ^ k⟩ :: r.arrivals.filter fun b => b.ssn != ssn).take 2048,
      skews := (k, 0) :: r.skews.filter fun q => q.1 != k }) := by
  have htaken : ¬ ((!(s.suit i).on) = true ∨ (!mEn (s.member i k)) = true ∨ s.rxFailed i k = true) := by
    simp [hon, hen, hgood]
  simp only [State.did, tmfReceived, if_neg htaken, hfirst, hcommit, Bool.false_and, Bool.false_eq_true, if_false,
    Nat.sub_self]

/-- A frame of a suit that leads no pair and is protected by none is counted and delivered. -/
theorem did_frameReadout_single {s : State} {i : Nat} {fa : FrameCopy} (fb : FrameCopy) (hon : (s.suit i).on = true)
    (hpair : s.pairIds.find? (fun p => s.pairA p == i) = none) (hprotect : s.suitProtect i = false) :
    s.did (frameReadout i fa fb) = s.did (seqs [hdrCount i fa, fun t => deliver i fa (t.frameBad i fa) t]) := by
  simp only [State.did, frameReadout, hon, hpair, hprotect, Bool.not_true, Bool.false_eq_true, if_false]

/-- Settles O35: each event of a suit is the branch of its resize state, and each record the branch of its message. Skew
is counted from the earliest arrival of an SSN (log 46), so the first member to bring one has none; the event at the
drop's S is DROP_DONE of R225. -/
theorem suitsResizeAndDrop : Obligations.SuitsResizeAndDrop := by
  refine ⟨fun s n hrun hon hst hlate => run_suitEv_of hrun (did_noReady hon hst hlate),
    fun s n hrun hon hst hreached => run_suitEv_of hrun (did_resizeDone hon hst hreached),
    fun s n hrun hon hst hreached hpast => run_suitEv_of hrun (did_abortEnd hon hst hreached hpast),
    fun s n keep hrun hon hlost hidle hmap hkeep hreq => ?_,
    fun s i hon hlost hdrop hbusy => did_dropTry_waits hon hlost hdrop hbusy,
    fun s i hon hlost hidle hshort => did_dropTry_impossible hon hlost hidle hshort,
    fun s n hrun hon hst hreached => run_suitEv_of hrun (did_dropDone hon hst hreached),
    fun s c r hrun hnone => run_suitEv_of hrun (did_suitRecordRx_own hnone),
    fun s r hvalid hmsg hon hst hearly hbefore => did_suitMessage_ready hvalid hmsg hon hst hearly hbefore,
    fun s r hvalid hmsg hon hst => did_suitMessage_notReady hvalid hmsg hon hst,
    fun s n k ssn hrun hon hen hgood hcommit hfirst =>
      run_suitEv_of hrun (did_tmfReceived_first hon hen hgood hcommit hfirst),
    fun s n fa fb hrun hon hpair hprotect => run_suitEv_of hrun (did_frameReadout_single fb hon hpair hprotect)⟩
  subst hmap
  exact run_suitEv_of hrun (did_dropTry_starts hon hlost hidle hkeep hreq)

end Sys2Proof.Machine

namespace Sys2Proof.Machine

/-! ## Bits of numbers -/

theorem b2n_lt (b : Bool) : b2n b < 2 := by cases b <;> decide

theorem b2n_beq_one (b : Bool) : (b2n b == 1) = b := by cases b <;> rfl

theorem b2n_bitOf (x i : Nat) : b2n (bitOf x i) = x / 2 ^ i % 2 := by
  rcases Nat.mod_two_eq_zero_or_one (x / 2 ^ i) with h | h <;> simp [b2n, bitOf, h]

@[simp] theorem bitsOf_length (n x : Nat) : (bitsOf n x).length = n := by simp [bitsOf]

theorem bitsOf_succ (n x : Nat) : bitsOf (n + 1) x = bitOf x n :: bitsOf n x := by
  simp [bitsOf, List.range_succ_eq_map, Function.comp_def, Nat.sub_sub, Nat.add_comm]

/-- Bits that follow shift a number to the left by as many places. -/
theorem bitsNum_append (l m : List Bool) : bitsNum (l ++ m) = bitsNum l * 2 ^ m.length + bitsNum m := by
  induction m using List.reverseRecOn with
  | nil => simp [bitsNum]
  | append_singleton m b ih =>
    have hsnoc (k : List Bool) : bitsNum (k ++ [b]) = 2 * bitsNum k + b2n b := by simp [bitsNum]
    rw [← List.append_assoc, hsnoc, hsnoc, ih, List.length_append, List.length_singleton, Nat.pow_succ]
    ring

theorem bitsNum_cons (b : Bool) (l : List Bool) : bitsNum (b :: l) = b2n b * 2 ^ l.length + bitsNum l :=
  (bitsNum_append [b] l).trans (by simp [bitsNum])

theorem bitsNum_lt (l : List Bool) : bitsNum l < 2 ^ l.length := by
  induction l with
  | nil => decide
  | cons b l ih =>
    have hb : b2n b * 2 ^ l.length ≤ 1 * 2 ^ l.length := Nat.mul_le_mul_right _ (Nat.le_of_lt_succ (b2n_lt b))
    rw [bitsNum_cons, List.length_cons, Nat.pow_succ]
    omega

theorem bitsNum_bitsOf (n x : Nat) : bitsNum (bitsOf n x) = x % 2 ^ n := by
  induction n with
  | zero => simp [bitsOf, bitsNum, Nat.mod_one]
  | succ n ih =>
    rw [bitsOf_succ, bitsNum_cons, bitsOf_length, b2n_bitOf, ih, Nat.mod_pow_succ]
    ring

/-- The bits in the middle of a list of 115 read back as the number that they spell. -/
theorem at115_middle {pre mid post : List Bool} (hlen : (pre ++ mid ++ post).length = 115) :
    at115 (BitVec.ofNat 115 (bitsNum (pre ++ mid ++ post))) pre.length mid.length = bitsNum mid := by
  have hfit := bitsNum_lt (pre ++ mid ++ post)
  have hplace : 115 - pre.length - mid.length = post.length := by
    simp only [List.length_append] at hlen
    omega
  rw [hlen] at hfit
  rw [at115, BitVec.toNat_ofNat, Nat.mod_eq_of_lt hfit, hplace, bitsNum_append, bitsNum_append, Nat.mul_comm,
    Nat.mul_add_div (Nat.two_pow_pos _), Nat.div_eq_of_lt (bitsNum_lt post), Nat.add_zero, Nat.mul_comm,
    Nat.mul_add_mod, Nat.mod_eq_of_lt (bitsNum_lt mid)]

/-! ## Fields of hub messages (R249) -/

/-- Each field, a width and a value, holds its value. -/
def Fits : List (Nat × Nat) → Prop
  | [] => True
  | (w, x) :: fs => x < 2 ^ w ∧ Fits fs

/-- A content reads, from a bit on, as the fields of a list one after the other. -/
def Spells (m : BitVec 115) : Nat → List (Nat × Nat) → Prop
  | _, [] => True
  | lo, (w, x) :: fs => at115 m lo w = x ∧ Spells m (lo + w) fs

/-- The bits of fields, as `msgBits` lists them. -/
def fieldBits (fs : List (Nat × Nat)) : List Bool := fs.flatMap fun f => bitsOf f.1 f.2

theorem fieldBits_cons (w x : Nat) (fs : List (Nat × Nat)) :
    fieldBits ((w, x) :: fs) = bitsOf w x ++ fieldBits fs := rfl

/-- The number of bits of fields. -/
def fieldsWidth (fs : List (Nat × Nat)) : Nat := (fs.map Prod.fst).sum

theorem fieldBits_length (fs : List (Nat × Nat)) : (fieldBits fs).length = fieldsWidth fs := by
  simp [fieldBits, fieldsWidth, List.length_flatMap]

theorem fits_append {fs gs : List (Nat × Nat)} (hfs : Fits fs) (hgs : Fits gs) : Fits (fs ++ gs) := by
  induction fs with
  | nil => exact hgs
  | cons f fs ih => exact ⟨hfs.1, ih hfs.2⟩

theorem spells_append {m : BitVec 115} {lo : Nat} {fs gs : List (Nat × Nat)} (h : Spells m lo (fs ++ gs)) :
    Spells m lo fs ∧ Spells m (lo + fieldsWidth fs) gs := by
  induction fs generalizing lo with
  | nil => exact ⟨trivial, h⟩
  | cons f fs ih =>
    obtain ⟨hf, hrest⟩ := h
    obtain ⟨hfs, hgs⟩ := ih hrest
    rw [Nat.add_assoc] at hgs
    exact ⟨⟨hf, hfs⟩, by simpa [fieldsWidth] using hgs⟩

/-- Fields within 115 bits read back from the place where they stand. -/
theorem spells_fieldBits {pre post : List Bool} {fs : List (Nat × Nat)} (hfits : Fits fs)
    (hlen : (pre ++ fieldBits fs ++ post).length = 115) :
    Spells (BitVec.ofNat 115 (bitsNum (pre ++ fieldBits fs ++ post))) pre.length fs := by
  induction fs generalizing pre with
  | nil => trivial
  | cons f fs ih =>
    obtain ⟨w, x⟩ := f
    obtain ⟨hx, hfs⟩ := hfits
    have hfirst : pre ++ fieldBits ((w, x) :: fs) ++ post = pre ++ bitsOf w x ++ (fieldBits fs ++ post) := by
      simp [fieldBits_cons]
    have hnext : pre ++ fieldBits ((w, x) :: fs) ++ post = (pre ++ bitsOf w x) ++ fieldBits fs ++ post := by
      simp [fieldBits_cons]
    constructor
    · rw [hfirst] at hlen ⊢
      have hread := at115_middle hlen
      rwa [bitsOf_length, bitsNum_bitsOf, Nat.mod_eq_of_lt hx] at hread
    · rw [hnext] at hlen ⊢
      simpa using ih hfs hlen

theorem msgBits_eq (type : Nat) (fs : List (Nat × Nat)) :
    msgBits type fs = fieldBits ((4, type) :: fs) ++ List.replicate (115 - (fieldBits ((4, type) :: fs)).length) false :=
  rfl

/-- A message whose fields leave room for its type has 115 bits. -/
theorem msgBits_length {type : Nat} {fs : List (Nat × Nat)} (hroom : fieldsWidth fs ≤ 111) :
    (msgBits type fs).length = 115 := by
  rw [msgBits_eq, fieldBits_cons]
  simp only [List.length_append, List.length_replicate, bitsOf_length, fieldBits_length]
  omega

/-- A message reads back as its type and fields. -/
theorem HubMsg.word_spells {m : HubMsg} {type : Nat} {fs : List (Nat × Nat)} (hbits : m.bits = msgBits type fs)
    (hroom : fieldsWidth fs ≤ 111) (htype : type < 2 ^ 4) (hfits : Fits fs) :
    Spells m.word 0 ((4, type) :: fs) := by
  have hlen := msgBits_length (type := type) hroom
  rw [msgBits_eq] at hlen
  have hall : Fits ((4, type) :: fs) := ⟨htype, hfits⟩
  rw [HubMsg.word, hbits, msgBits_eq]
  exact spells_fieldBits (pre := []) hall hlen

/-! ### ROUND, DISCOVER, ASSIGN, RANGE, DEREG, REPORT and HELLO -/

theorem round_spells {rnd rlen teq : Nat} (hrnd : rnd < 2 ^ 32) (hrlen : rlen < 2 ^ 3) (hteq : teq < 2 ^ 24) :
    Spells (HubMsg.round rnd rlen teq).word 0 [(4, 1), (32, rnd), (3, rlen), (24, teq)] :=
  HubMsg.word_spells rfl (by simp [fieldsWidth]) (by decide) ⟨hrnd, hrlen, hteq, trivial⟩

theorem discover_spells (rnd : Nat) {n rtt rand sc : Nat} (hn : n < 64) (hrtt : rtt < 2 ^ 24) (hrand : rand < 2 ^ 10)
    (hsc : sc < 64) : Spells (HubMsg.discover rnd n rtt rand sc).word 0
      [(4, 4), (8, rnd % 256), (6, n), (24, rtt), (10, rand), (6, sc)] :=
  HubMsg.word_spells rfl (by simp [fieldsWidth]) (by decide)
    ⟨Nat.mod_lt rnd (by decide), hn, hrtt, hrand, hsc, trivial⟩

theorem assign_spells {serial leaf home eqd : Nat} (hserial : serial < 2 ^ 48) (hleaf : leaf < 2 ^ 11)
    (hhome : home < 64) (heqd : eqd < 2 ^ 24) : Spells (HubMsg.assign serial leaf home eqd).word 0
      [(4, 5), (48, serial), (11, leaf), (6, home), (24, eqd)] :=
  HubMsg.word_spells rfl (by simp [fieldsWidth]) (by decide) ⟨hserial, hleaf, hhome, heqd, trivial⟩

theorem range_spells {leaf eqd : Nat} (final : Bool) (hleaf : leaf < 2 ^ 11) (heqd : eqd < 2 ^ 24) :
    Spells (HubMsg.range leaf eqd final).word 0 [(4, 6), (11, leaf), (24, eqd), (1, b2n final)] :=
  HubMsg.word_spells rfl (by simp [fieldsWidth]) (by decide) ⟨hleaf, heqd, b2n_lt final, trivial⟩

theorem dereg_spells {leaf reason : Nat} (hleaf : leaf < 2 ^ 11) (hreason : reason < 16) :
    Spells (HubMsg.dereg leaf reason).word 0 [(4, 7), (11, leaf), (4, reason)] :=
  HubMsg.word_spells rfl (by simp [fieldsWidth]) (by decide) ⟨hleaf, hreason, trivial⟩

theorem report_spells {leaf backlog : Nat} (hleaf : leaf < 2 ^ 11) (hbacklog : backlog < 2 ^ 24) :
    Spells (HubMsg.report leaf backlog).word 0 [(4, 10), (11, leaf), (24, backlog)] :=
  HubMsg.word_spells rfl (by simp [fieldsWidth]) (by decide) ⟨hleaf, hbacklog, trivial⟩

theorem hello_spells {serial r bond fmt : Nat} (hserial : serial < 2 ^ 48) (hr : r < 2 ^ 10) (hbond : bond < 4)
    (hfmt : fmt < 4) : Spells (HubMsg.hello serial r bond fmt).word 0
      [(4, 11), (48, serial), (10, r), (2, bond), (2, fmt)] :=
  HubMsg.word_spells rfl (by simp [fieldsWidth]) (by decide) ⟨hserial, hr, hbond, hfmt, trivial⟩

/-! ### GRANT and DMAP: two entries of one width -/

/-- A message of the round's low 8 bits and two entries reads back as these. -/
theorem HubMsg.entries_spell {m : HubMsg} {type rnd : Nat} {a b : List (Nat × Nat)}
    (hbits : m.bits = msgBits type ([(8, rnd % 256)] ++ a ++ b)) (hroom : fieldsWidth a + fieldsWidth b ≤ 103)
    (htype : type < 2 ^ 4) (ha : Fits a) (hb : Fits b) :
    at115 m.word 0 4 = type ∧ at115 m.word 4 8 = rnd % 256 ∧ Spells m.word 12 a ∧
      Spells m.word (12 + fieldsWidth a) b := by
  have hwidth : fieldsWidth ([(8, rnd % 256)] ++ a ++ b) ≤ 111 := by
    simp only [fieldsWidth, List.map_append, List.sum_append, List.map_singleton, List.sum_singleton] at hroom ⊢
    omega
  have hfits : Fits ([(8, rnd % 256)] ++ a ++ b) :=
    fits_append (fits_append ⟨Nat.mod_lt rnd (by decide), trivial⟩ ha) hb
  obtain ⟨htype, hrnd, hentries⟩ := HubMsg.word_spells hbits hwidth htype hfits
  exact ⟨htype, hrnd, spells_append hentries⟩

/-- The values of a grant fit their fields, and its leaf is not the mark of an empty one. -/
def Grant.Sendable (g : Grant) : Prop :=
  g.leaf < 0x7FF ∧ g.sc < 64 ∧ g.bond < 4 ∧ g.format < 4 ∧ g.start < 2 ^ 14 ∧ g.len < 2 ^ 14

theorem Grant.Sendable.fits {g : Grant} (h : g.Sendable) : Fits g.bits := by
  obtain ⟨hleaf, hsc, hbond, hformat, hstart, hlen⟩ := h
  exact ⟨hleaf.trans (by decide), hsc, hbond, hformat, hstart, hlen, b2n_lt g.rng, b2n_lt g.rpt, trivial⟩

/-- A content that spells a grant's fields gives back the grant. -/
theorem grantAt_of_spells {m : BitVec 115} {lo : Nat} {g : Grant} (hleaf : g.leaf < 0x7FF) (h : Spells m lo g.bits) :
    grantAt m lo = some { g with rnd := 0 } := by
  obtain ⟨hl, hsc, hbond, hformat, hstart, hlen, hrng, hrpt, -⟩ := h
  rw [grantAt, hl, if_neg hleaf.ne]
  simp only [Nat.add_assoc, Nat.reduceAdd] at hsc hbond hformat hstart hlen hrng hrpt
  rw [hsc, hbond, hformat, hstart, hlen, hrng, hrpt, b2n_beq_one, b2n_beq_one]

theorem grantAt_of_spells_empty {m : BitVec 115} {lo : Nat} (h : Spells m lo emptyGrant) : grantAt m lo = none :=
  if_pos h.1

theorem grant_two_spells (rnd : Nat) {g h : Grant} (hg : g.Sendable) (hh : h.Sendable) :
    at115 (HubMsg.grant rnd [g, h]).word 0 4 = 2 ∧ at115 (HubMsg.grant rnd [g, h]).word 4 8 = rnd % 256 ∧
      Spells (HubMsg.grant rnd [g, h]).word 12 g.bits ∧ Spells (HubMsg.grant rnd [g, h]).word 63 h.bits :=
  HubMsg.entries_spell rfl (by simp [fieldsWidth, Grant.bits]) (by decide) hg.fits hh.fits

theorem grant_one_spells (rnd : Nat) {g : Grant} (hg : g.Sendable) :
    at115 (HubMsg.grant rnd [g]).word 0 4 = 2 ∧ at115 (HubMsg.grant rnd [g]).word 4 8 = rnd % 256 ∧
      Spells (HubMsg.grant rnd [g]).word 12 g.bits ∧ Spells (HubMsg.grant rnd [g]).word 63 emptyGrant :=
  HubMsg.entries_spell rfl (by simp [fieldsWidth, Grant.bits, emptyGrant]) (by decide) hg.fits
    ⟨by decide, by decide, trivial⟩

/-- The values of a downstream entry fit their fields, and its leaf is not the mark of an empty one. -/
def Dmap.Sendable (d : Dmap) : Prop := d.leaf < 0x7FF ∧ d.first < 2 ^ 16 ∧ d.count < 2 ^ 17

theorem Dmap.Sendable.fits {d : Dmap} (h : d.Sendable) : Fits d.bits := by
  obtain ⟨hleaf, hfirst, hcount⟩ := h
  exact ⟨hleaf.trans (by decide), hfirst, hcount, trivial⟩

theorem dmap_two_spells (rnd : Nat) {d e : Dmap} (hd : d.Sendable) (he : e.Sendable) :
    at115 (HubMsg.dmap rnd [d, e]).word 0 4 = 3 ∧ at115 (HubMsg.dmap rnd [d, e]).word 4 8 = rnd % 256 ∧
      Spells (HubMsg.dmap rnd [d, e]).word 12 d.bits ∧ Spells (HubMsg.dmap rnd [d, e]).word 56 e.bits :=
  HubMsg.entries_spell rfl (by simp [fieldsWidth, Dmap.bits]) (by decide) hd.fits he.fits

theorem dmap_one_spells (rnd : Nat) {d : Dmap} (hd : d.Sendable) :
    at115 (HubMsg.dmap rnd [d]).word 0 4 = 3 ∧ at115 (HubMsg.dmap rnd [d]).word 4 8 = rnd % 256 ∧
      Spells (HubMsg.dmap rnd [d]).word 12 d.bits ∧ Spells (HubMsg.dmap rnd [d]).word 56 emptyDmap :=
  HubMsg.entries_spell rfl (by simp [fieldsWidth, Dmap.bits, emptyDmap]) (by decide) hd.fits
    ⟨by decide, by decide, trivial⟩

/-! ### The obligation -/

/-- Settles O38: a message's content spells its type and fields in order, whatever they are, and a field that fits its
width reads back from where it stands. -/
theorem hubMessagesSpellTheirFields : Obligations.HubMessagesSpellTheirFields := by
  refine ⟨fun rnd rlen teq hrnd hrlen hteq => ?round,
    fun rnd g h hgleaf hgsc hgbond hgformat hgstart hglen hleaf hsc hbond hformat hstart hlen => ?grant,
    fun rnd d e hdleaf hdfirst hdcount heleaf hefirst hecount => ?dmap,
    fun serial leaf home eqd reason backlog r bond fmt rnd n rtt rand sc final hserial hleaf hhome heqd hreason
      hbacklog hr hbond hfmt hn hrtt hrand hsc => ?others⟩
  case round =>
    obtain ⟨htype, hrnd, hrlen, hteq, -⟩ := round_spells hrnd hrlen hteq
    exact ⟨htype, hrnd, hrlen, hteq⟩
  case grant =>
    have hg : g.Sendable := ⟨hgleaf, hgsc, hgbond, hgformat, hgstart, hglen⟩
    have hh : h.Sendable := ⟨hleaf, hsc, hbond, hformat, hstart, hlen⟩
    obtain ⟨htype, hrnd, hfirst, hsecond⟩ := grant_two_spells rnd hg hh
    obtain ⟨-, -, honly, hempty⟩ := grant_one_spells rnd hg
    exact ⟨htype, hrnd, grantAt_of_spells hgleaf hfirst, grantAt_of_spells hleaf hsecond,
      grantAt_of_spells hgleaf honly, grantAt_of_spells_empty hempty⟩
  case dmap =>
    have hd : d.Sendable := ⟨hdleaf, hdfirst, hdcount⟩
    have he : e.Sendable := ⟨heleaf, hefirst, hecount⟩
    obtain ⟨htype, hrnd, ⟨dleaf, dfirst, dcount, -⟩, eleaf, efirst, ecount, -⟩ := dmap_two_spells rnd hd he
    obtain ⟨-, -, -, hempty, -⟩ := dmap_one_spells rnd hd
    exact ⟨htype, hrnd, dleaf, dfirst, dcount, eleaf, efirst, ecount, hempty⟩
  case others =>
    obtain ⟨dType, dRnd, dNrounds, dRtt, dRand, dSc, -⟩ := discover_spells rnd hn hrtt hrand hsc
    obtain ⟨aType, aSerial, aLeaf, aHome, aEqd, -⟩ := assign_spells hserial hleaf hhome heqd
    obtain ⟨rType, rLeaf, rEqd, rFinal, -⟩ := range_spells final hleaf heqd
    obtain ⟨xType, xLeaf, xReason, -⟩ := dereg_spells hleaf hreason
    obtain ⟨pType, pLeaf, pBacklog, -⟩ := report_spells hleaf hbacklog
    obtain ⟨hType, hSerial, hR, hBond, hFmt, -⟩ := hello_spells hserial hr hbond hfmt
    exact ⟨dType, dRnd, dNrounds, dRtt, dRand, dSc, aType, aSerial, aLeaf, aHome, aEqd, rType, rLeaf, rEqd, rFinal,
      xType, xLeaf, xReason, pType, pLeaf, pBacklog, hType, hSerial, hR, hBond, hFmt⟩

end Sys2Proof.Machine

namespace Sys2Proof.Machine

/-! ## Unit headers (R303) -/

/-- A CRC fits its width where its polynomial and its first register do. -/
theorem crcBits_lt {w poly init : Nat} (hpoly : poly < 2 ^ w) (hinit : init < 2 ^ w) (l : List Bool) :
    crcBits w poly init l < 2 ^ w := by
  induction l generalizing init with
  | nil => exact hinit
  | cons b l ih =>
    have hshift : init * 2 % 2 ^ w < 2 ^ w := Nat.mod_lt _ (Nat.two_pow_pos w)
    refine ih (init := if bitOf init (w - 1) != b then init * 2 % 2 ^ w ^^^ poly else init * 2 % 2 ^ w) ?_
    split
    · exact Nat.xor_lt_two_pow hshift hpoly
    · exact hshift

theorem crc16_lt (l : List Bool) : crc16 l < 2 ^ 16 := crcBits_lt (by decide) (by decide) l

/-- The 112 bits of a header before its check. -/
def headerBody (ver ki dir a uctr : Nat) : Nat :=
  uMARK * 2 ^ 80 + (ver * 16 + ki * 8 + dir * 4) * 2 ^ 72 + a * 2 ^ 64 + uctr % 2 ^ 64

/-- Fields that fit their places leave the body within its 112 bits. -/
theorem headerBody_lt {ver ki dir a : Nat} (uctr : Nat) (hver : ver < 16) (hki : ki < 2) (hdir : dir < 2)
    (ha : a < 256) : headerBody ver ki dir a uctr < 2 ^ 112 := by
  simp only [headerBody, uMARK]
  omega

/-- A header is its body, with the check of the body in its low 16 bits. -/
theorem unitHeader_parts {ver ki dir a : Nat} (uctr : Nat) (hver : ver < 16) (hki : ki < 2) (hdir : dir < 2)
    (ha : a < 256) : (unitHeader ver ki dir a uctr).toNat / 2 ^ 16 = headerBody ver ki dir a uctr ∧
      (unitHeader ver ki dir a uctr).toNat % 2 ^ 16 = crc16 (bitsOf 112 (headerBody ver ki dir a uctr)) := by
  have hbody := headerBody_lt uctr hver hki hdir ha
  have hcrc := crc16_lt (bitsOf 112 (headerBody ver ki dir a uctr))
  have hheader : unitHeader ver ki dir a uctr = BitVec.ofNat 128
    (headerBody ver ki dir a uctr * 2 ^ 16 + crc16 (bitsOf 112 (headerBody ver ki dir a uctr))) := rfl
  rw [hheader, BitVec.toNat_ofNat]
  omega

/-- A number whose bits from 16 on are a header's body reads as the mark and the fields. -/
theorem fields_of_headerBody {n ver ki dir a uctr : Nat} (hn : n / 2 ^ 16 = headerBody ver ki dir a uctr)
    (hver : ver < 16) (hki : ki < 2) (hdir : dir < 2) (ha : a < 256) (huctr : uctr < 2 ^ 64) :
    n / 2 ^ 96 = uMARK ∧ n / 2 ^ 92 % 16 = ver ∧ n / 2 ^ 91 % 2 = ki ∧ n / 2 ^ 90 % 2 = dir ∧
      n / 2 ^ 80 % 256 = a ∧ n / 2 ^ 16 % 2 ^ 64 = uctr := by
  simp only [headerBody, uMARK] at hn ⊢
  refine ⟨?_, ?_, ?_, ?_, ?_, ?_⟩ <;> omega

/-- Settles O42: the fields stand apart from one another above the check, which is of the 112 bits above it. -/
theorem unitHeadersReadBack : Obligations.UnitHeadersReadBack := by
  intro ver ki dir a uctr hver hki hdir ha huctr
  have hver16 : ver < 16 := by omega
  obtain ⟨hbody, hcheck⟩ := unitHeader_parts uctr hver16 hki hdir ha
  obtain ⟨hmark, hv, hfields⟩ := fields_of_headerBody hbody hver16 hki hdir ha huctr
  have hread : hdrVer (unitHeader ver ki dir a uctr) = ver := hv
  have hknown : (ver == 1 || ver == 15) = true := by simpa using hver
  refine ⟨?_, hread, hfields⟩
  rw [hdrFits, hmark, hread, hknown, hbody, hcheck]
  simp only [beq_self_eq_true, Bool.and_self]

end Sys2Proof.Machine

namespace Sys2Proof.Machine

/-! ## Writes of CIPc (R13, R316) -/

/-- The slot of a CIPc page holds it. -/
theorem pageAt_cb (c : Fin 4) : pageAt (cb c) = some ⟨.cip, c.val⟩ := by
  revert c
  decide

/-- A write of a writable CIPc register reaches it, and what depends on the page is evaluated anew. -/
theorem run_cipCmd {s : State} {src : Requester} {c : Fin 4} {off : Nat} {v : Word} {fx : Prog}
    (h : s.serves src ⟨.cip, c.val⟩) (hlo : 0x100 ≤ off) (hhi : off < 0x800)
    (hw : ((CIP.rows.find? fun r => r.off == off).any fun r => r.rw != 0 || r.w1 != 0) = true)
    (hfx : ∀ r : RegRow, r.off = off → s.did (cipWrite src.id c r v) = s.did fx) :
    run (regCmd src (cb c) off v) s = .next ((s.did fx).pageDone ⟨.cip, c.val⟩) := by
  obtain ⟨r, hr, hrw⟩ := Option.any_eq_true _ _ |>.mp hw
  have hrow : regRow ⟨.cip, c.val⟩ off = some r := hr
  have hchain : s.did (pageWrite ⟨.cip, c.val⟩ src.id false r v) =
      (s.did (cipWrite src.id c r v)).did (pageEval ⟨.cip, c.val⟩) := State.did_seqs_cons_pair s _ _
  rw [hfx r (regRow_off hrow)] at hchain
  exact run_regCmd_page (p := ⟨.cip, c.val⟩) h (pageAt_cb c) hlo hhi hrow (by simpa using hrw) nofun hchain

section
variable {r : RegRow} (src c : Nat) (v : Word)

theorem cipWrite_lock (hr : r.off = CIP.CIP_LOCK) : cipWrite src c r v = cipLockWrite src c v := by
  rw [cipWrite, hr]; rfl

theorem cipWrite_data (hr : r.off = CIP.KEY_DATA) : cipWrite src c r v = keyDataWrite src c v := by
  rw [cipWrite, hr]; rfl

theorem cipWrite_salt (hr : r.off = CIP.KEY_SALT) : cipWrite src c r v = keySaltWrite src c v := by
  rw [cipWrite, hr]; rfl

theorem cipWrite_commit (hr : r.off = CIP.KEY_COMMIT) : cipWrite src c r v = keyCommit src c v := by
  rw [cipWrite, hr]; rfl

theorem cipWrite_cmd (hr : r.off = CIP.KEY_CMD) : cipWrite src c r v = keyCmdWrite src c v := by
  rw [cipWrite, hr]; rfl

/-- CIP_CTL written with KAT_GO: ENG_EN as written, and the known-answer test starts. -/
theorem cipWrite_katGo (hr : r.off = CIP.CIP_CTL) : cipWrite src c r (setF v CIP.CIP_CTL_KAT_GO 1) =
    seqs [fset (cb c) CIP.CIP_CTL_ENG_EN (wrote v CIP.CIP_CTL_ENG_EN), fbset (cb c) CIP.CIP_STAT_KAT_RUN true] := by
  have hgo : wroteB (setF v CIP.CIP_CTL_KAT_GO 1) CIP.CIP_CTL_KAT_GO = true := wroteB_setF_same v _ 1 (by decide)
  have hen : wrote (setF v CIP.CIP_CTL_KAT_GO 1) CIP.CIP_CTL_ENG_EN = wrote v CIP.CIP_CTL_ENG_EN :=
    wrote_setF_other v _ _ 1 (by decide)
  have hctl : cipWrite src c r (setF v CIP.CIP_CTL_KAT_GO 1) =
      seqs [fset (cb c) CIP.CIP_CTL_ENG_EN (wrote (setF v CIP.CIP_CTL_KAT_GO 1) CIP.CIP_CTL_ENG_EN),
        if wroteB (setF v CIP.CIP_CTL_KAT_GO 1) CIP.CIP_CTL_KAT_GO then katGo c else skip] := by
    rw [cipWrite, hr]; rfl
  rw [hctl, hgo, hen, if_pos rfl, katGo]

end

/-! ## The lock (R299) -/

theorem did_cipLockWrite_taken {s : State} {src c : Nat} {v : Word} (hfree : s.fg (cb c) CIP.CIP_LOCK_ID = 0)
    (hid : wrote v CIP.CIP_LOCK_ID = src) (hmay : src = 1 ∨ src = 3 ∨ src = 4 ∨ src = 0x17) :
    s.did (cipLockWrite src c v) = s.did (seqs [fset (cb c) CIP.CIP_LOCK_ID src, keyClear c]) := by
  have hmay' : (src == 1 || src == 3 || src == 4 || src == 0x17) = true := by simpa [or_assoc] using hmay
  simp only [State.did, cipLockWrite, hfree, hid, hmay', and_self, true_or, if_true]

theorem did_cipLockWrite_freed {s : State} {src c : Nat} {v : Word} (hheld : s.fg (cb c) CIP.CIP_LOCK_ID = src)
    (hsrc : src ≠ 0) (hid : wrote v CIP.CIP_LOCK_ID = 0) :
    s.did (cipLockWrite src c v) = s.did (seqs [fset (cb c) CIP.CIP_LOCK_ID 0, keyClear c]) := by
  simp only [State.did, cipLockWrite, hheld, hid, hsrc, ne_eq, not_false_eq_true, and_self, or_true, if_true]

/-- The lock that another requester holds is neither taken nor freed. -/
theorem did_cipLockWrite_refused {s : State} {src c : Nat} (v : Word) (hheld : s.fg (cb c) CIP.CIP_LOCK_ID ≠ 0)
    (hother : s.fg (cb c) CIP.CIP_LOCK_ID ≠ src) :
    s.did (cipLockWrite src c v) = s.did (keyRefuse c CIP.CIP_LOCK src cKEY_NOT_OWNER none) := by
  simp only [State.did, cipLockWrite, hheld, hother, false_and, or_self, if_false]

/-! ## Key words and salt (R299) -/

theorem did_keyDataWrite_taken {s : State} {src c : Nat} (v : Word) (hkey : s.keyHolder c src = true)
    (hroom : (s.cip c).words.length < 8) :
    s.did (keyDataWrite src c v) = s.did (cipUpd c fun r => { r with words := r.words ++ [v] }) := by
  simp only [State.did, keyDataWrite, hkey, Bool.not_true, Bool.false_eq_true, if_false, if_neg (Nat.not_le.mpr hroom)]

theorem did_keyDataWrite_long {s : State} {src c : Nat} (v : Word) (hkey : s.keyHolder c src = true)
    (hfull : 8 ≤ (s.cip c).words.length) :
    s.did (keyDataWrite src c v) = s.did (keyRefuse c CIP.KEY_DATA src cKEY_LONG none) := by
  simp only [State.did, keyDataWrite, hkey, Bool.not_true, Bool.false_eq_true, if_false, if_pos hfull]

theorem did_keySaltWrite_taken {s : State} {src c : Nat} (v : Word) (hkey : s.keyHolder c src = true) :
    s.did (keySaltWrite src c v) = s.did (cipUpd c fun r => { r with salt := v }) := by
  simp only [State.did, keySaltWrite, hkey, Bool.not_true, Bool.false_eq_true, if_false]

/-- Who does not hold the lock is refused, the slot named where the register names one. -/
theorem did_keyWrite_notHolder {s : State} {src c : Nat} (v : Word) (hkey : s.keyHolder c src = false) :
    s.did (keyDataWrite src c v) = s.did (keyRefuse c CIP.KEY_DATA src cKEY_NOT_OWNER none) ∧
      s.did (keySaltWrite src c v) = s.did (keyRefuse c CIP.KEY_SALT src cKEY_NOT_OWNER none) ∧
      s.did (keyCommit src c v) =
        s.did (keyRefuse c CIP.KEY_COMMIT src cKEY_NOT_OWNER (some (wrote v CIP.KEY_COMMIT_SLOT))) ∧
      s.did (keyCmdWrite src c v) =
        s.did (keyRefuse c CIP.KEY_CMD src cKEY_NOT_OWNER (some (wrote v CIP.KEY_CMD_SLOT))) := by
  have hno : (!s.keyHolder c src) = true := by rw [hkey]; rfl
  exact ⟨congrArg s.applyAll (if_pos hno), congrArg s.applyAll (if_pos hno), congrArg s.applyAll (if_pos hno),
    congrArg s.applyAll (if_pos hno)⟩

/-! ## KEY_COMMIT (R297, R299; the order of its refusals is log 50) -/

/-- A slot that a commit may load is neither busy nor spent. -/
theorem loadable_not_refused {st : Nat} (h : st = tFREE ∨ st = tLOADED) :
    ¬ (st = tARMED ∨ st = tACTIVE ∨ st = tDRAINING) ∧ st ≠ tSPENT := by
  rcases h with rfl | rfl <;> decide

/-- A busy slot is not a spent one. -/
theorem spent_not_busy {st : Nat} (h : st = tSPENT) : ¬ (st = tARMED ∨ st = tACTIVE ∨ st = tDRAINING) := by
  subst h
  decide

section
variable {s : State} {src c : Nat} {v : Word}

/-- The holder's commit clears the buffer, then the slot's state and the words buffered decide. -/
theorem did_keyCommit_holder (hkey : s.keyHolder c src = true) :
    s.did (keyCommit src c v) = s.did (seqs [keyClear c,
      if s.slotSt c (wrote v CIP.KEY_COMMIT_SLOT) = tARMED ∨ s.slotSt c (wrote v CIP.KEY_COMMIT_SLOT) = tACTIVE ∨
          s.slotSt c (wrote v CIP.KEY_COMMIT_SLOT) = tDRAINING then
        seqs [keyRefuse c CIP.KEY_COMMIT src cSLOT_BUSY (some (wrote v CIP.KEY_COMMIT_SLOT)), raise (cb c) 11]
      else if s.slotSt c (wrote v CIP.KEY_COMMIT_SLOT) = tSPENT then
        keyRefuse c CIP.KEY_COMMIT src cBAD_STATE (some (wrote v CIP.KEY_COMMIT_SLOT))
      else if (s.cip c).words.length < 8 then
        keyRefuse c CIP.KEY_COMMIT src cKEY_SHORT (some (wrote v CIP.KEY_COMMIT_SLOT))
      else slotUpd c (wrote v CIP.KEY_COMMIT_SLOT) fun q => { q with
        st := tLOADED, key := keyOf (s.cip c).words, salt := (s.cip c).salt, owner := src, seen := none, uctr := 0,
        left := none }]) :=
  congrArg s.applyAll (if_neg (by rw [hkey]; decide))

theorem did_keyCommit_loaded (hkey : s.keyHolder c src = true)
    (hst : s.slotSt c (wrote v CIP.KEY_COMMIT_SLOT) = tFREE ∨ s.slotSt c (wrote v CIP.KEY_COMMIT_SLOT) = tLOADED)
    (hlen : 8 ≤ (s.cip c).words.length) :
    s.did (keyCommit src c v) = s.did (seqs [keyClear c, slotUpd c (wrote v CIP.KEY_COMMIT_SLOT) fun q => { q with
      st := tLOADED, key := keyOf (s.cip c).words, salt := (s.cip c).salt, owner := src, seen := none, uctr := 0,
      left := none }]) := by
  obtain ⟨hbusy, hspent⟩ := loadable_not_refused hst
  rw [did_keyCommit_holder hkey, if_neg hbusy, if_neg hspent, if_neg (Nat.not_lt.mpr hlen)]

theorem did_keyCommit_busy (hkey : s.keyHolder c src = true)
    (hst : s.slotSt c (wrote v CIP.KEY_COMMIT_SLOT) = tARMED ∨ s.slotSt c (wrote v CIP.KEY_COMMIT_SLOT) = tACTIVE ∨
      s.slotSt c (wrote v CIP.KEY_COMMIT_SLOT) = tDRAINING) :
    s.did (keyCommit src c v) = s.did (seqs [keyClear c,
      keyRefuse c CIP.KEY_COMMIT src cSLOT_BUSY (some (wrote v CIP.KEY_COMMIT_SLOT)), raise (cb c) 11]) := by
  rw [did_keyCommit_holder hkey, if_pos hst, State.did_seqs_cons_pair, State.did_seqs_cons s (keyClear c)]

theorem did_keyCommit_short (hkey : s.keyHolder c src = true)
    (hst : s.slotSt c (wrote v CIP.KEY_COMMIT_SLOT) = tFREE ∨ s.slotSt c (wrote v CIP.KEY_COMMIT_SLOT) = tLOADED)
    (hlen : (s.cip c).words.length < 8) :
    s.did (keyCommit src c v) = s.did (seqs [keyClear c,
      keyRefuse c CIP.KEY_COMMIT src cKEY_SHORT (some (wrote v CIP.KEY_COMMIT_SLOT))]) := by
  obtain ⟨hbusy, hspent⟩ := loadable_not_refused hst
  rw [did_keyCommit_holder hkey, if_neg hbusy, if_neg hspent, if_pos hlen]

theorem did_keyCommit_spent (hkey : s.keyHolder c src = true)
    (hst : s.slotSt c (wrote v CIP.KEY_COMMIT_SLOT) = tSPENT) :
    s.did (keyCommit src c v) = s.did (seqs [keyClear c,
      keyRefuse c CIP.KEY_COMMIT src cBAD_STATE (some (wrote v CIP.KEY_COMMIT_SLOT))]) := by
  rw [did_keyCommit_holder hkey, if_neg (spent_not_busy hst), if_pos hst]

end

/-! ## KEY_CMD (R297) -/

/-- The commands of KEY_CMD on a slot. -/
def keyCmd (src c n : Nat) : Fin 4 → Prog
  | 0 => skip
  | 1 => keyArm src c n
  | 2 => keyDisarm src c n
  | 3 => keyErase src c n

/-- The holder's write of KEY_CMD with one of its commands: it acts on the slot that the write names. -/
theorem did_keyCmdWrite_holder {s : State} {src c : Nat} (v : Word) (hkey : s.keyHolder c src = true) {x : Fin 4}
    (hx : x ≠ 0) : s.did (keyCmdWrite src c (setF v CIP.KEY_CMD_CMD x)) =
      s.did (keyCmd src c (wrote v CIP.KEY_CMD_SLOT) x) := by
  have hcmd : wrote (setF v CIP.KEY_CMD_CMD x) CIP.KEY_CMD_CMD = x :=
    (wrote_setF_same v _ x (by decide)).trans (Nat.mod_eq_of_lt x.isLt)
  have hslot : wrote (setF v CIP.KEY_CMD_CMD x) CIP.KEY_CMD_SLOT = wrote v CIP.KEY_CMD_SLOT :=
    wrote_setF_other v _ _ x (by decide)
  simp only [State.did, keyCmdWrite, hkey, hcmd, hslot, Bool.not_true, Bool.false_eq_true, if_false]
  fin_cases x
  · exact absurd rfl hx
  · rfl
  · rfl
  · rfl

/-- A command of KEY_CMD by the lock's holder. -/
theorem run_keyCmd {s : State} {src : Requester} {c : Fin 4} (v : Word) (h : s.serves src ⟨.cip, c.val⟩)
    (hkey : s.keyHolder c src.id = true) {x : Fin 4} (hx : x ≠ 0) :
    run (regCmd src (cb c) CIP.KEY_CMD (setF v CIP.KEY_CMD_CMD x)) s =
      .next ((s.did (keyCmd src.id c (wrote v CIP.KEY_CMD_SLOT) x)).pageDone ⟨.cip, c.val⟩) :=
  run_cipCmd h (by decide) (by decide) rfl fun _ hr => by
    rw [cipWrite_cmd _ _ _ hr, did_keyCmdWrite_holder v hkey hx]

/-! ## Associations and the grace of a slot (R293, R297) -/

/-- A change of EN that nothing forbids, of an association that is not of a pair's suit B. -/
theorem did_cipTab_changed {s : State} {c e : Nat} {v : Word} (src : Nat) (hen : s.assocEn c e ≠ v.getLsbD 0)
    (hbad : s.assocBad c e (v.getLsbD 0) = none) (hpair : (s.pairIds.any fun p => s.pairB p == e) = false) :
    s.did (cipTab src c 0 e v) = s.did (assocSet c e v (v.getLsbD 0)) := by
  simp only [State.did, cipTab, ne_eq, not_true_eq_false, if_false, hen.symm, hbad, hpair, Bool.and_false,
    Bool.false_eq_true]

theorem did_cipTab_refused {s : State} {c e code : Nat} {v : Word} (src : Nat) (hen : v.getLsbD 0 ≠ s.assocEn c e)
    (hbad : s.assocBad c e (v.getLsbD 0) = some code) :
    s.did (cipTab src c 0 e v) = s.did (errPage (cb c) (oWIN_DATA 0) src code) := by
  simp only [State.did, cipTab, ne_eq, not_true_eq_false, if_false, hen, hbad]

/-- Nothing is evaluated after a word of a CIPc table. -/
theorem did_pageTabWrite_cip (s : State) (src c e : Nat) (v : Word) :
    s.did (pageTabWrite ⟨.cip, c⟩ src 0 e 0 v) = s.did (cipTab src c 0 e v) :=
  State.did_seqs_cons_pair s _ skip

theorem did_slotGrace_draining {s : State} {c n t : Nat} (hleft : (s.slotAt c n).left = some t)
    (hst : s.slotSt c n = tDRAINING) :
    s.did (slotGrace c n) = s.did (seqs [clockTo (t + s.fg (cb c) CIP.RX_GRACE_MS * 1000000),
      slotUpd c n fun r => { r with st := tSPENT }]) := by
  simp only [State.did, slotGrace, hleft, hst, if_true]
  rfl

/-! ## The known-answer test and parity faults (R312, R313) -/

theorem did_katDone_none {s : State} {c : Nat} (pass : Bool) (hrun : s.fb (cb c) CIP.CIP_STAT_KAT_RUN = true)
    (hwait : s.waitingTest 3 (fun e => e.page == cb c) = none) :
    s.did (katDone c pass) = s.did (seqs [fbset (cb c) CIP.CIP_STAT_KAT_RUN false,
      fbset (cb c) CIP.CIP_STAT_KAT_PASS pass, fbset (cb c) CIP.CIP_STAT_KAT_FAIL !pass,
      fbset (cb c) CIP.CIP_STAT_ENG_HALT !pass, raise (cb c) 10]) := by
  have hprog : s.did (katDone c pass) = s.did (seqs [fbset (cb c) CIP.CIP_STAT_KAT_RUN false,
      fbset (cb c) CIP.CIP_STAT_KAT_PASS pass, fbset (cb c) CIP.CIP_STAT_KAT_FAIL !pass,
      fbset (cb c) CIP.CIP_STAT_ENG_HALT !pass, raise (cb c) 10, skip]) := by
    simp only [State.did, katDone, hrun, hwait, Bool.not_true, Bool.false_eq_true, if_false]
  rw [hprog]
  exact did_seqs_skip s [_, _, _, _, _] []

/-- A parity fault voids the unit that is sent, and loses the one that is received. -/
theorem did_cipParity {s : State} {c a : Nat} (tx : Bool) (hrun : s.unitsRun c a = true) :
    s.did (cipParity c a tx) = s.did (seqs [
      if tx then voidUnit c a else seqs [assocUpd c a fun r => { r with kitty := none }, unitLost c a],
      fincSat (cb c) CIP.PAR_CNT_COUNT 1, raise (cb c) 9, report eCIP_PARITY (pageIsland ⟨.cip, c⟩) (cb c),
      fbset (cb c) CIP.CIP_STAT_KAT_RUN true]) :=
  congrArg s.applyAll (if_neg (by rw [hrun]; decide))

/-- The unit that is received leaves the kitty, then is lost. -/
theorem did_cipParity_rx {s : State} {c a : Nat} (hrun : s.unitsRun c a = true) :
    s.did (cipParity c a false) = s.did (seqs [assocUpd c a fun r => { r with kitty := none }, unitLost c a,
      fincSat (cb c) CIP.PAR_CNT_COUNT 1, raise (cb c) 9, report eCIP_PARITY (pageIsland ⟨.cip, c⟩) (cb c),
      fbset (cb c) CIP.CIP_STAT_KAT_RUN true]) := by
  rw [did_cipParity false hrun]
  simp only [Bool.false_eq_true, if_false, State.did_seqs_cons, State.did_seqs_nil]

/-- Settles O40: each write reaches its register's effect, each event is its program. The refusals of a commit are in
the order owner, slot state, length (log 50), and the end of a slot's grace brings the clock there (log 5). -/
theorem keysAreLoadedByTheirOwner : Obligations.KeysAreLoadedByTheirOwner := by
  refine ⟨fun s src c v hserve hfree hid hmay => run_cipCmd hserve (by decide) (by decide) rfl fun _ hr => by
      rw [cipWrite_lock _ _ _ hr, did_cipLockWrite_taken hfree hid hmay],
    fun s src c v hheld hsrc hid => did_cipLockWrite_freed hheld hsrc hid,
    fun s src c v hheld hother => did_cipLockWrite_refused v hheld hother,
    fun s src c v hserve hkey hroom => run_cipCmd hserve (by decide) (by decide) rfl fun _ hr => by
      rw [cipWrite_data _ _ _ hr, did_keyDataWrite_taken v hkey hroom],
    fun s src c v hkey hfull => did_keyDataWrite_long v hkey hfull,
    fun s src c v hkey => did_keyWrite_notHolder v hkey,
    fun s src c v hserve hkey => run_cipCmd hserve (by decide) (by decide) rfl fun _ hr => by
      rw [cipWrite_salt _ _ _ hr, did_keySaltWrite_taken v hkey],
    fun s src c v hserve hkey hst hlen => run_cipCmd hserve (by decide) (by decide) rfl fun _ hr => by
      rw [cipWrite_commit _ _ _ hr, did_keyCommit_loaded hkey hst hlen],
    fun s src c v hkey hst => did_keyCommit_busy hkey hst,
    fun s src c v hkey hst hlen => did_keyCommit_short hkey hst hlen,
    fun s src c v hkey hst => did_keyCommit_spent hkey hst,
    fun s src c v hserve hkey => run_keyCmd (x := 1) v hserve hkey (by decide),
    fun s src c v hserve hkey => run_keyCmd (x := 2) v hserve hkey (by decide),
    fun s src c v hserve hkey => run_keyCmd (x := 3) v hserve hkey (by decide),
    fun s src c a v t hserve ht hen hbad hpair => ?_,
    fun s src c e code v hen hbad => did_cipTab_refused src hen hbad,
    fun s c n t hrun hleft hst => run_carEv_of hrun c (did_slotGrace_draining hleft hst),
    fun s src c v hserve => run_cipCmd hserve (by decide) (by decide) rfl fun _ hr => by
      rw [cipWrite_katGo _ _ _ hr],
    fun s c pass hrun hkat hwait => run_carEv_of hrun c (did_katDone_none pass hkat hwait),
    fun s c a hrun hunits => run_carEv_of hrun c (did_cipParity true hunits),
    fun s c a hrun hunits => run_carEv_of hrun c (did_cipParity_rx hunits)⟩
  have hsel := pageAt_base_add (p := ⟨.cip, c.val⟩) (off := oWIN_SEL) (pageAt_cb c) (by decide)
  have hdata := pageAt_base_add (p := ⟨.cip, c.val⟩) (off := oWIN_DATA 0) (pageAt_cb c) (by decide)
  exact run_winCmd (p := ⟨.cip, c.val⟩) (tbl := 0) (q := (256, 1)) hserve hsel hdata rfl rfl a.isLt (by decide)
    (by decide) (by omega) ht ((did_pageTabWrite_cip t src.id c a v).trans (did_cipTab_changed src.id hen hbad hpair))

end Sys2Proof.Machine

namespace Sys2Proof.Machine

/-! ## Pages of host lanes and ports (R13, R26, R334, R335) -/

/-- The slot of an HSLq page holds it. -/
theorem pageAt_hsb {q : Nat} (h : q < 12) : pageAt (hsb q) = some ⟨.hsl, q⟩ := by
  have hall : ∀ q : Fin 12, pageAt (hsb q) = some ⟨.hsl, q.val⟩ := by decide
  exact hall ⟨q, h⟩

/-- The slot of an ETHp page holds it. -/
theorem pageAt_etb (p : Fin 48) : pageAt (etb p) = some ⟨.eth, p.val⟩ := by
  revert p
  decide

/-- An event that the references follow, whose program comes to another one. -/
theorem run_refEv_of {s : State} {p q : Prog} (h : s.phase = .run) (hp : s.did p = s.did q) :
    run (refEv p) s = .next (s.did q).refDone := by
  rw [run_refEv h, hp]

/-- What is evaluated after a word of an ETH0 table. -/
theorem did_pageTabWrite_eth {s : State} {src t e : Nat} {v : Word} {fx : Prog}
    (h : s.did (ethTab src t e 0 v) = s.did fx) :
    s.did (pageTabWrite ⟨.eth, 0⟩ src t e 0 v) = s.did (seqs [fx, pageEval ⟨.eth, 0⟩]) := by
  have hchain : s.did (pageTabWrite ⟨.eth, 0⟩ src t e 0 v) =
      (s.did (ethTab src t e 0 v)).did (pageEval ⟨.eth, 0⟩) := State.did_seqs_cons_pair s _ _
  rw [hchain, h, State.did_seqs_cons_pair]

/-- A word 0 of an ETH0 table written after its entry is selected. -/
theorem run_ethWinCmd {s t : State} {src : Requester} {tbl e : Nat} {q : Nat × Nat} {v : Word} {fx : Prog}
    (h : s.windowServes src ⟨.eth, 0⟩) (hq : winTable ⟨.eth, 0⟩ tbl = some q) (he : e < q.1) (hc : 0 < q.2)
    (ht : tbl < 256) (he' : e < 2 ^ 24) (hsel : t = s.select ⟨.eth, 0⟩ tbl e)
    (hfx : t.did (ethTab src.id tbl e 0 v) = t.did fx) :
    run (winCmd src (etb 0) tbl e 0 v) s = .next ((t.did (seqs [fx, pageEval ⟨.eth, 0⟩])).winDone ⟨.eth, 0⟩ 0) :=
  run_winCmd (p := ⟨.eth, 0⟩) h (pageAt_base_add (pageAt_etb 0) (by decide)) (pageAt_base_add (pageAt_etb 0) (by decide))
    rfl hq he hc ht he' hsel (did_pageTabWrite_eth hfx)

/-! ## Enables of lanes (R319, R324, R334) -/

/-- The offset of a lane's LANE_CTL finds its lane. -/
theorem find_laneCtl {i : Nat} (hi : i < 4) : (List.range 4).find? (fun j =>
    HSL.LANE_CTL i == HSL.LANE_CTL j || HSL.LANE_CTL i == HSL.TX_FFE j) = some i := by
  have hall : ∀ i : Fin 4, (List.range 4).find? (fun j =>
      HSL.LANE_CTL i == HSL.LANE_CTL j || HSL.LANE_CTL i == HSL.TX_FFE j) = some i.val := by decide
  exact hall ⟨i, hi⟩

/-- A write of LANE_CTL of a lane is the write of that lane. -/
theorem did_hslWrite_lane {i : Nat} {r : RegRow} (s : State) (src q : Nat) (v : Word) (hi : i < 4)
    (hr : r.off = HSL.LANE_CTL i) : s.did (hslWrite src q r v) = s.did (laneWrite src q i r v) := by
  simp only [State.did, hslWrite, hr, find_laneCtl hi, if_true]

/-- Every row of LANE_CTL can be written. -/
theorem laneCtl_writable {q i : Nat} {r : RegRow} (hi : i < 4) (hr : regRow ⟨.hsl, q⟩ (HSL.LANE_CTL i) = some r) :
    r.rw ≠ 0 ∨ r.w1 ≠ 0 := by
  have hall : ∀ i : Fin 4, ∀ x ∈ HSL.rows, x.off = HSL.LANE_CTL i → x.rw ≠ 0 ∨ x.w1 ≠ 0 := by decide
  exact hall ⟨i, hi⟩ r (List.mem_of_find?_eq_some hr) (regRow_off hr)

/-- A write of a lane's LANE_CTL reaches the lane, and what depends on the page is evaluated anew. -/
theorem run_laneCmd {s : State} {src : Requester} {q i : Nat} {r : RegRow} (v : Word) (hq : q < 12) (hi : i < 4)
    (h : s.serves src ⟨.hsl, q⟩) (hr : regRow ⟨.hsl, q⟩ (HSL.LANE_CTL i) = some r) :
    run (regCmd src (hsb q) (HSL.LANE_CTL i) v) s =
      .next ((s.did (laneWrite src.id q i r v)).pageDone ⟨.hsl, q⟩) := by
  have hlo : 0x100 ≤ HSL.LANE_CTL i := Nat.le_add_right _ _
  have hhi : HSL.LANE_CTL i < 0x800 := by simp only [HSL.LANE_CTL]; omega
  have hchain : s.did (pageWrite ⟨.hsl, q⟩ src.id false r v) =
      (s.did (hslWrite src.id q r v)).did (pageEval ⟨.hsl, q⟩) := State.did_seqs_cons_pair s _ _
  rw [did_hslWrite_lane s src.id q v hi (regRow_off hr)] at hchain
  exact run_regCmd_page (p := ⟨.hsl, q⟩) h (pageAt_hsb hq) hlo hhi hr (laneCtl_writable hi hr) nofun hchain

/-- A lane that no port holds is refused where another lane of its quad runs at another rate. -/
theorem did_laneWrite_rateMix {s : State} {q i : Nat} {v : Word} (src : Nat) (r : RegRow)
    (hfree : s.laneOwner (4 * q + i) = none) (hen : wroteB v (HSL.LANE_CTL_EN i) = true)
    (hmix : ((List.range 4).any fun j => j != i && s.laneEn (4 * q + j) &&
      s.laneRate (4 * q + j) != wrote v (HSL.LANE_CTL_RATE i)) = true) :
    s.did (laneWrite src q i r v) = s.did (errPage (hsb q) r.off src cRATE_MIX) := by
  simp only [State.did, laneWrite, hfree, hen, hmix, Option.isSome_none, Bool.false_eq_true, false_and, if_false,
    and_self, if_true]

/-- A lane of a port keeps its enable. -/
theorem did_laneWrite_inPort {s : State} {q i p : Nat} {v : Word} (src : Nat) (r : RegRow)
    (hheld : s.laneOwner (4 * q + i) = some p) (hen : wroteB v (HSL.LANE_CTL_EN i) ≠ s.laneEn (4 * q + i)) :
    s.did (laneWrite src q i r v) = s.did (errPage (hsb q) r.off src cLANE_IN_PORT) :=
  congrArg s.applyAll (if_pos ⟨Option.isSome_of_eq_some hheld, .inl hen⟩)

/-! ## Training and lock of lanes (R322, R334) -/

theorem did_trainDone {s : State} {l : Nat} (ffe : Word) (hrun : s.running (tTrain l) = true) :
    s.did (trainDone l ffe) = s.did (seqs [timerStop (tTrain l),
      fun t => [.regs (hsb (l / 4) + HSL.TX_FFE (l % 4))
        ((t.reg (hsb (l / 4) + HSL.TX_FFE (l % 4)) &&& 0xFFC0C0C0) ||| (ffe &&& 0x003F3F3F))],
      fbset (hsb (l / 4)) (HSL.LANE_STAT_TRAIN_DONE (l % 4)) true, raise (hsb (l / 4)) (4 + l % 4)]) :=
  congrArg s.applyAll (if_neg (by rw [hrun]; decide))

theorem did_trainFail {s : State} {l : Nat} (ffe : Word) (hrun : s.running (tTrain l) = true) :
    s.did (trainFail l ffe) = s.did (seqs [clockEnd (tTrain l) 500000000, timerStop (tTrain l),
      fun t => [.regs (hsb (l / 4) + HSL.TX_FFE (l % 4))
        ((t.reg (hsb (l / 4) + HSL.TX_FFE (l % 4)) &&& 0xFFC0C0C0) ||| (ffe &&& 0x003F3F3F))],
      fbset (hsb (l / 4)) (HSL.LANE_STAT_TRAIN_FAIL (l % 4)) true, raise (hsb (l / 4)) (8 + l % 4)]) :=
  congrArg s.applyAll (if_neg (by rw [hrun]; decide))

/-- An event of a lane or port whose page is live, and which is enabled, is not passed over. -/
theorem event_heard {live en : Bool} (hlive : live = true) (hen : en = true) : ¬ ((!live) = true ∨ (!en) = true) := by
  simp [hlive, hen]

theorem did_cdrLock {s : State} {l : Nat} (lock sig adapted : Bool) (snr : Nat) (hlive : s.live ⟨.hsl, l / 4⟩ = true)
    (hen : s.laneEn l = true) :
    s.did (cdrLock l lock sig adapted snr) = s.did (seqs [
      if (s.fb (hsb (l / 4)) (HSL.LANE_STAT_CDR_LOCK (l % 4)) && !lock) = true then
        seqs [fincSat (hsb (l / 4)) (HSL.LOL_CNT_COUNT (l % 4)) 1, raise (hsb (l / 4)) (l % 4)] else skip,
      fbset (hsb (l / 4)) (HSL.LANE_STAT_CDR_LOCK (l % 4)) lock, fbset (hsb (l / 4)) (HSL.LANE_STAT_SIG_DET (l % 4)) sig,
      fbset (hsb (l / 4)) (HSL.LANE_STAT_ADAPTED (l % 4)) adapted,
      fset (hsb (l / 4)) (HSL.LANE_STAT_SNR (l % 4)) snr]) :=
  congrArg s.applyAll (if_neg (event_heard hlive hen))

theorem did_pllLock {s : State} {q : Nat} (lock : Bool) (hlive : s.live ⟨.hsl, q⟩ = true) :
    s.did (pllLock q lock) = s.did (seqs [
      if (s.fb (hsb q) HSL.QUAD_STAT_PLL_LOCK && !lock) = true then raise (hsb q) 12 else skip,
      fbset (hsb q) HSL.QUAD_STAT_PLL_LOCK lock]) :=
  congrArg s.applyAll (if_neg (by rw [hlive]; decide))

/-! ## Enables of ports (R324) -/

/-- The row of PORT_CFG. -/
def portCfgRow : RegRow := ⟨ETH.PORT_CFG, 0x70073, 0, 0, false⟩

theorem regRow_portCfg (p : Nat) : regRow ⟨.eth, p⟩ ETH.PORT_CFG = some portCfgRow := rfl

/-- A port that is off is enabled by a word that nothing refuses. -/
theorem did_portWrite_taken {s : State} {p : Nat} {v : Word} (src : Nat) (r : RegRow) (hoff : s.portEn p = false)
    (hen : wroteB v ETH.PORT_CFG_EN = true) (htype : wrote v ETH.PORT_CFG_TYPE ≠ 7) (hbad : s.portBad p v = none) :
    s.did (portWrite src p r v) = s.did (plainWrite (etb p) r [] v) := by
  simp only [State.did, portWrite, hoff, hen, htype, hbad, Bool.false_eq_true, Bool.not_true, if_false]

theorem did_portWrite_refused {s : State} {p code : Nat} {v : Word} (src : Nat) (r : RegRow) (hoff : s.portEn p = false)
    (hen : wroteB v ETH.PORT_CFG_EN = true) (htype : wrote v ETH.PORT_CFG_TYPE ≠ 7) (hbad : s.portBad p v = some code) :
    s.did (portWrite src p r v) = s.did (errPage (etb p) r.off src code) := by
  simp only [State.did, portWrite, hoff, hen, htype, hbad, Bool.false_eq_true, Bool.not_true, if_false]

/-- PORT_CFG written with EN by a requester that the page serves, where nothing refuses the port. -/
theorem run_portEnable {s : State} {src : Requester} {p : Fin 48} {v : Word} (h : s.serves src ⟨.eth, p.val⟩)
    (hoff : s.portEn p = false) (htype : wrote v ETH.PORT_CFG_TYPE ≠ 7)
    (hbad : s.portBad p (setF v ETH.PORT_CFG_EN 1) = none) :
    run (regCmd src (etb p) ETH.PORT_CFG (setF v ETH.PORT_CFG_EN 1)) s = .next ((s.did (
      plainWrite (etb p) portCfgRow [] (setF v ETH.PORT_CFG_EN 1))).pageDone ⟨.eth, p.val⟩) := by
  have hen : wroteB (setF v ETH.PORT_CFG_EN 1) ETH.PORT_CFG_EN = true := wroteB_setF_same v _ 1 (by decide)
  have htype' : wrote (setF v ETH.PORT_CFG_EN 1) ETH.PORT_CFG_TYPE ≠ 7 := by
    rwa [wrote_setF_other v _ _ 1 (by decide)]
  have hchain : s.did (pageWrite ⟨.eth, p.val⟩ src.id false portCfgRow (setF v ETH.PORT_CFG_EN 1)) =
      (s.did (portWrite src.id p portCfgRow (setF v ETH.PORT_CFG_EN 1))).did (pageEval ⟨.eth, p.val⟩) :=
    State.did_seqs_cons_pair s _ _
  rw [did_portWrite_taken src.id portCfgRow hoff hen htype' hbad] at hchain
  exact run_regCmd_page (p := ⟨.eth, p.val⟩) h (pageAt_etb p) (by decide) (by decide) (regRow_portCfg p)
    (.inl (by decide)) nofun hchain

/-! ## Alignment, FEC windows and faults of ports (R325, R327, R328, R335) -/

section
variable {s : State} {p : Nat} (hlive : s.live ⟨.eth, p⟩ = true) (hen : s.portEn p = true)
include hlive hen

theorem did_alignChange (block am deskew : Bool) :
    s.did (alignChange p block am deskew) = s.did (seqs [
      fbset (etb p) ETH.PORT_STAT_BLOCK_LOCK block, fbset (etb p) ETH.PORT_STAT_AM_LOCK am,
      fbset (etb p) ETH.PORT_STAT_DESKEW_OK deskew, fbset (etb p) ETH.PORT_STAT_LINK_UP (block && am && deskew),
      if ((block && am && deskew) && !s.fb (etb p) ETH.PORT_STAT_LINK_UP) = true then raise (etb p) 0
      else if (s.fb (etb p) ETH.PORT_STAT_LINK_UP && !(block && am && deskew)) = true then raise (etb p) 1
      else skip]) :=
  congrArg s.applyAll (if_neg (event_heard hlive hen))

/-- A window with more symbol errors than HI_SER allows, where it was 0, and no more corrected symbols than the degrade
threshold allows. -/
theorem did_fecWindow_hiSer {sym corSym : Nat} (cor unc : Nat) (hsym : 5560 < sym)
    (hcor : corSym ≤ s.fg (etb p) ETH.FEC_DEG_CFG_THR) (hwas : s.fb (etb p) ETH.PORT_STAT_HI_SER = false) :
    s.did (fecWindow p sym corSym cor unc) = s.did (seqs [cntAdd (etb p + ETH.COR_LO) cor,
      cntAdd (etb p + ETH.UNC_LO) unc, cntAdd (etb p + ETH.SYM_LO) sym, raise (etb p) 4,
      fbset (etb p) ETH.PORT_STAT_HI_SER true, fbset (etb p) ETH.PORT_STAT_FEC_DEGRADED false]) := by
  have hhi : decide (5560 < sym) = true := decide_eq_true hsym
  have hdeg : decide (s.fg (etb p) ETH.FEC_DEG_CFG_THR < corSym) = false := decide_eq_false (Nat.not_lt.mpr hcor)
  have hprog : s.did (fecWindow p sym corSym cor unc) = s.did (seqs ([cntAdd (etb p + ETH.COR_LO) cor,
      cntAdd (etb p + ETH.UNC_LO) unc, cntAdd (etb p + ETH.SYM_LO) sym, raise (etb p) 4,
      fbset (etb p) ETH.PORT_STAT_HI_SER true] ++ skip :: [fbset (etb p) ETH.PORT_STAT_FEC_DEGRADED false])) := by
    simp only [State.did, fecWindow, if_neg (event_heard hlive hen), hhi, hdeg, hwas, Bool.not_false, Bool.and_true,
      Bool.false_and, Bool.false_eq_true, if_true, if_false, List.cons_append, List.nil_append]
  rw [hprog, did_seqs_skip]
  rfl

theorem did_faultReceived (remote on : Bool) :
    s.did (faultReceived p remote on) = s.did (seqs [
      if (on && !s.fb (etb p) (if remote then ETH.PORT_STAT_RX_RF else ETH.PORT_STAT_RX_LF)) = true then
        raise (etb p) (if remote then 3 else 2) else skip,
      fbset (etb p) (if remote then ETH.PORT_STAT_RX_RF else ETH.PORT_STAT_RX_LF) on]) :=
  congrArg s.applyAll (if_neg (event_heard hlive hen))

end

/-! ## FlexE and FlexO groups (R329, R330) -/

/-- A group that is enabled, with its switch started, goes to the other calendar. -/
theorem did_calSwitch {s : State} {g : Nat}
    (hgo : ((s.tab (flexKey 0 g 0)).getLsbD 0 && (s.tab (flexKey 0 g 0)).getLsbD 2) = true) :
    s.did (calSwitch g) = s.did (seqs [
      fun _ => [.tabs (flexKey 0 g 0) (bitsPut (s.tab (flexKey 0 g 0)) 1 2 (1 - s.flexCal g))],
      forP (s.flexPorts g) fun p => raise (etb p) 8]) :=
  congrArg s.applyAll (if_neg (by rw [hgo]; decide))

/-- Word 0 of a FLEXE_GRP entry: the calendar in use and the mark of a switch that has begun stand. -/
theorem did_ethTab_flexGrp (t : State) (src g : Nat) (v : Word) :
    t.did (ethTab src 0 g 0 v) =
      t.did (fun _ => [.tabs (flexKey 0 g 0) ((v &&& 0x000FFF05) ||| (t.tab (flexKey 0 g 0) &&& 0x6))]) := rfl

/-- A word of table 3 is of a FLEXO_GRP entry. -/
theorem did_ethTab_flexo (t : State) (src e : Nat) (v : Word) :
    t.did (ethTab src 3 e 0 v) = t.did (flexoTab src e v) := rfl

/-- An entry whose n does not fit its k is not enabled. -/
theorem did_flexoTab_size {s : State} {e : Nat} {v : Word} (src : Nat) (hen : v.getLsbD 0 = true)
    (hsize : bitsGet v 16 6 < 4 * (bitsGet v 1 3 + 1) - 3 ∨ 4 * (bitsGet v 1 3 + 1) < bitsGet v 16 6 ∨
      30 < bitsGet v 16 6) :
    s.did (flexoTab src e v) = s.did (errPage (etb 0) (oWIN_DATA 0) src cFLEXO_SIZE) := by
  have hon : ¬ (!v.getLsbD 0) = true := by rw [hen]; decide
  exact congrArg s.applyAll ((if_neg hon).trans (if_pos hsize))

/-! ## Timestamps (R333) -/

/-- A host's read of TS_POP answers the head stamp, which leaves the FIFO. -/
theorem run_tsPop {s : State} {p : Fin 48} {e : Stamp} {l : List Stamp} (h : s.up ⟨.eth, p.val⟩)
    (hhead : s.stamp p = e :: l) :
    run (regRd .host (etb p + ETH.TS_POP)) s = .next ((s.did (stampPop p)).apply
      (.rdata (BitVec.ofNat 32 (2 ^ 31 + e.msg * 2 ^ 24 + e.seq)).toNat)).settled := by
  have haddr : etb p + ETH.TS_POP < 2 ^ 26 := by simp only [etb, pageBase, ETH.TS_POP]; omega
  have hview : pageView ⟨.eth, p.val⟩ s ETH.TS_POP = some (BitVec.ofNat 32 (2 ^ 31 + e.msg * 2 ^ 24 + e.seq)) := by
    have hmatch : pageView ⟨.eth, p.val⟩ s ETH.TS_POP = some (match s.stamp p with
      | [] => 0
      | e :: _ => BitVec.ofNat 32 (2 ^ 31 + e.msg * 2 ^ 24 + e.seq)) := rfl
    rw [hmatch, hhead]
  have hread : s.did (regRd .host (etb p + ETH.TS_POP)) = (s.did (stampPop p)).apply
      (.rdata ((pageView ⟨.eth, p.val⟩ s ETH.TS_POP).getD (s.reg (etb p + ETH.TS_POP))).toNat) :=
    did_regRd_page (p := ⟨.eth, p.val⟩) h (pageAt_etb p) haddr (by decide) (by decide) (by decide) rfl
  rw [run_eq, hread, hview, Option.getD_some]

/-- Settles O43: each write reaches its register's effect or its table word, each event is its program. The end of the
500 ms of training brings the clock there (log 5). -/
theorem hostLanesAndPortsAnswer : Obligations.HostLanesAndPortsAnswer :=
  ⟨fun s src l v r hserve hr => run_laneCmd _ (by omega) (by omega) hserve hr,
    fun s src q i r v hfree hen hmix => did_laneWrite_rateMix src r hfree hen hmix,
    fun s src q i p r v hheld hen => did_laneWrite_inPort src r hheld hen,
    fun s l ffe hrun htrain => run_refEv_of hrun (did_trainDone ffe htrain),
    fun s l ffe hrun htrain => run_refEv_of hrun (did_trainFail ffe htrain),
    fun s l lock sig adapted snr hrun hlive hen => run_refEv_of hrun (did_cdrLock lock sig adapted snr hlive hen),
    fun s q lock hrun hlive => run_refEv_of hrun (did_pllLock lock hlive),
    fun s src p v hserve hoff htype hbad => ⟨portCfgRow, regRow_portCfg p, run_portEnable hserve hoff htype hbad⟩,
    fun s src p code r v hoff hen htype hbad => did_portWrite_refused src r hoff hen htype hbad,
    fun s p block am deskew hrun hlive hen => run_refEv_of hrun (did_alignChange hlive hen block am deskew),
    fun s p sym corSym cor unc hrun hlive hen hsym hcor hwas =>
      run_ev_of hrun (did_fecWindow_hiSer hlive hen cor unc hsym hcor hwas),
    fun s p remote on hrun hlive hen => run_ev_of hrun (did_faultReceived hlive hen remote on),
    fun s g hrun hgo => run_ev_of hrun (did_calSwitch hgo),
    fun s src g v t hserve hsel => run_ethWinCmd hserve rfl g.isLt (by decide) (by decide) (by omega) hsel
      (did_ethTab_flexGrp t src.id g v),
    fun s src e v t hserve hsel => run_ethWinCmd hserve rfl e.isLt (by decide) (by decide) (by omega) hsel
      (did_ethTab_flexo t src.id e (v ||| 1)),
    fun s src e v hen hsize => did_flexoTab_size src hen hsize,
    fun s p e l hup hhead => run_tsPop hup hhead⟩

end Sys2Proof.Machine
